-- ==== Sys2Proof/Word.lean ====
section
/-!
DEFINITION. The word types of the machine (00_scope.md R15, R25).
-/

namespace Sys2Proof

/-- Eight bits. -/
abbrev Byte := BitVec 8

/-- A 16-bit word: a selector, a port. -/
abbrev Half := BitVec 16

/-- A 32-bit word: a general register, an address. -/
abbrev Word := BitVec 32

/-- An 80-bit x87 register. -/
abbrev Ext := BitVec 80

/-- Widen with zeros to 32 bits. -/
abbrev zext {n : Nat} (v : BitVec n) : Word := v.setWidth 32

/-- Widen with the sign bit to 32 bits. -/
abbrev sext {n : Nat} (v : BitVec n) : Word := v.signExtend 32

end Sys2Proof
end

