-- ==== Sys2Proof/Syntax.lean ====
section
/-!
DEFINITION. The instructions of the 80386/80387: one constructor of `Instr` per row of spec/opcode_table.json, and the
operand types of 30_encoding.md. A row that the table prints for 16 and 32 bits is one constructor; the operand-size
attribute chooses the width when it is decoded and when it is executed (R170).
-/

namespace Sys2Proof

/-- An operand-size or address-size attribute (R170, R171). -/
inductive Size
  | s16 | s32
  deriving DecidableEq, Repr

/-- The other size: what a 66H or 67H prefix selects (R170, R171). -/
def Size.flip : Size → Size
  | .s16 => .s32
  | .s32 => .s16

/-- The size a descriptor's D/B bit selects. -/
def Size.ofBit : Bool → Size
  | false => .s16
  | true => .s32

/-- A general register, in the numbering of R184. A 16-bit name is the low half of the same register (R40). -/
inductive Reg
  | eax | ecx | edx | ebx | esp | ebp | esi | edi
  deriving DecidableEq, Repr

/-- A byte register, in the numbering of R184. -/
inductive Reg8
  | al | cl | dl | bl | ah | ch | dh | bh
  deriving DecidableEq, Repr

/-- A segment register, in the numbering of R186. -/
inductive SReg
  | es | cs | ss | ds | fs | gs
  deriving DecidableEq, Repr

/-- The control registers that exist (R64 to R68). -/
inductive CReg
  | cr0 | cr2 | cr3
  deriving DecidableEq, Repr

/-- The scale of a SIB byte's index (R165). -/
inductive Scale
  | x1 | x2 | x4 | x8
  deriving DecidableEq, Repr

/-- The base part of a 16-bit addressing form (R180); `none` is the direct form. -/
inductive Base16
  | bxsi | bxdi | bpsi | bpdi | si | di | bp | bx | none
  deriving DecidableEq, Repr

/-- A memory operand as the ModRM (and SIB) bytes spell it: a 16-bit form (R180) or a 32-bit form (R181). -/
inductive MemOp
  | a16 (base : Base16) (disp : BitVec 16)
  | a32 (base : Option Reg) (index : Option (Reg × Scale)) (disp : BitVec 32)
  deriving DecidableEq, Repr

/-- An `r/m8` operand (R220). -/
inductive RM8
  | reg (r : Reg8)
  | mem (m : MemOp)
  deriving DecidableEq, Repr

/-- An `r/m16` or `r/m32` operand (R220). -/
inductive RM
  | reg (r : Reg)
  | mem (m : MemOp)
  deriving DecidableEq, Repr

/-- Every row of the opcode table. An `i : BitVec 32` that the table gives as imm16/32, rel16/32 or moffs holds the
zero-extended 16-bit value where the encoding carries 16 bits (`Instr.wf` says so). -/
inductive Instr
  /-- ADD r/m8,r8: `00 /r` (R230). -/
  | addRm8R8 (d : RM8) (r : Reg8)
  /-- ADD r/m16/32,r16/32: `01 /r` (R230). -/
  | addRmR (d : RM) (r : Reg)
  /-- ADD r8,r/m8: `02 /r` (R230). -/
  | addR8Rm8 (r : Reg8) (m : RM8)
  /-- ADD r16/32,r/m16/32: `03 /r` (R230). -/
  | addRRm (r : Reg) (m : RM)
  /-- ADD AL,imm8: `04 ib` (R230). -/
  | addAlImm8 (i : BitVec 8)
  /-- ADD eAX,imm16/32: `05 iw/id` (R230). -/
  | addEaxImm (i : BitVec 32)
  /-- ADD r/m8,imm8: `80 /0 ib` (R230). -/
  | addRm8Imm8 (d : RM8) (i : BitVec 8)
  /-- ADD r/m16/32,imm16/32: `81 /0 iw/id` (R230). -/
  | addRmImm (d : RM) (i : BitVec 32)
  /-- ADD r/m16/32,imm8: `83 /0 ib` (R230). -/
  | addRmImm8 (d : RM) (i : BitVec 8)
  /-- OR r/m8,r8: `08 /r` (R291). -/
  | orRm8R8 (d : RM8) (r : Reg8)
  /-- OR r/m16/32,r16/32: `09 /r` (R291). -/
  | orRmR (d : RM) (r : Reg)
  /-- OR r8,r/m8: `0A /r` (R291). -/
  | orR8Rm8 (r : Reg8) (m : RM8)
  /-- OR r16/32,r/m16/32: `0B /r` (R291). -/
  | orRRm (r : Reg) (m : RM)
  /-- OR AL,imm8: `0C ib` (R291). -/
  | orAlImm8 (i : BitVec 8)
  /-- OR eAX,imm16/32: `0D iw/id` (R291). -/
  | orEaxImm (i : BitVec 32)
  /-- OR r/m8,imm8: `80 /1 ib` (R291). -/
  | orRm8Imm8 (d : RM8) (i : BitVec 8)
  /-- OR r/m16/32,imm16/32: `81 /1 iw/id` (R291). -/
  | orRmImm (d : RM) (i : BitVec 32)
  /-- OR r/m16/32,imm8: `83 /1 ib` (R291). -/
  | orRmImm8 (d : RM) (i : BitVec 8)
  /-- ADC r/m8,r8: `10 /r` (R231). -/
  | adcRm8R8 (d : RM8) (r : Reg8)
  /-- ADC r/m16/32,r16/32: `11 /r` (R231). -/
  | adcRmR (d : RM) (r : Reg)
  /-- ADC r8,r/m8: `12 /r` (R231). -/
  | adcR8Rm8 (r : Reg8) (m : RM8)
  /-- ADC r16/32,r/m16/32: `13 /r` (R231). -/
  | adcRRm (r : Reg) (m : RM)
  /-- ADC AL,imm8: `14 ib` (R231). -/
  | adcAlImm8 (i : BitVec 8)
  /-- ADC eAX,imm16/32: `15 iw/id` (R231). -/
  | adcEaxImm (i : BitVec 32)
  /-- ADC r/m8,imm8: `80 /2 ib` (R231). -/
  | adcRm8Imm8 (d : RM8) (i : BitVec 8)
  /-- ADC r/m16/32,imm16/32: `81 /2 iw/id` (R231). -/
  | adcRmImm (d : RM) (i : BitVec 32)
  /-- ADC r/m16/32,imm8: `83 /2 ib` (R231). -/
  | adcRmImm8 (d : RM) (i : BitVec 8)
  /-- SBB r/m8,r8: `18 /r` (R233). -/
  | sbbRm8R8 (d : RM8) (r : Reg8)
  /-- SBB r/m16/32,r16/32: `19 /r` (R233). -/
  | sbbRmR (d : RM) (r : Reg)
  /-- SBB r8,r/m8: `1A /r` (R233). -/
  | sbbR8Rm8 (r : Reg8) (m : RM8)
  /-- SBB r16/32,r/m16/32: `1B /r` (R233). -/
  | sbbRRm (r : Reg) (m : RM)
  /-- SBB AL,imm8: `1C ib` (R233). -/
  | sbbAlImm8 (i : BitVec 8)
  /-- SBB eAX,imm16/32: `1D iw/id` (R233). -/
  | sbbEaxImm (i : BitVec 32)
  /-- SBB r/m8,imm8: `80 /3 ib` (R233). -/
  | sbbRm8Imm8 (d : RM8) (i : BitVec 8)
  /-- SBB r/m16/32,imm16/32: `81 /3 iw/id` (R233). -/
  | sbbRmImm (d : RM) (i : BitVec 32)
  /-- SBB r/m16/32,imm8: `83 /3 ib` (R233). -/
  | sbbRmImm8 (d : RM) (i : BitVec 8)
  /-- AND r/m8,r8: `20 /r` (R290). -/
  | andRm8R8 (d : RM8) (r : Reg8)
  /-- AND r/m16/32,r16/32: `21 /r` (R290). -/
  | andRmR (d : RM) (r : Reg)
  /-- AND r8,r/m8: `22 /r` (R290). -/
  | andR8Rm8 (r : Reg8) (m : RM8)
  /-- AND r16/32,r/m16/32: `23 /r` (R290). -/
  | andRRm (r : Reg) (m : RM)
  /-- AND AL,imm8: `24 ib` (R290). -/
  | andAlImm8 (i : BitVec 8)
  /-- AND eAX,imm16/32: `25 iw/id` (R290). -/
  | andEaxImm (i : BitVec 32)
  /-- AND r/m8,imm8: `80 /4 ib` (R290). -/
  | andRm8Imm8 (d : RM8) (i : BitVec 8)
  /-- AND r/m16/32,imm16/32: `81 /4 iw/id` (R290). -/
  | andRmImm (d : RM) (i : BitVec 32)
  /-- AND r/m16/32,imm8: `83 /4 ib` (R290). -/
  | andRmImm8 (d : RM) (i : BitVec 8)
  /-- SUB r/m8,r8: `28 /r` (R232). -/
  | subRm8R8 (d : RM8) (r : Reg8)
  /-- SUB r/m16/32,r16/32: `29 /r` (R232). -/
  | subRmR (d : RM) (r : Reg)
  /-- SUB r8,r/m8: `2A /r` (R232). -/
  | subR8Rm8 (r : Reg8) (m : RM8)
  /-- SUB r16/32,r/m16/32: `2B /r` (R232). -/
  | subRRm (r : Reg) (m : RM)
  /-- SUB AL,imm8: `2C ib` (R232). -/
  | subAlImm8 (i : BitVec 8)
  /-- SUB eAX,imm16/32: `2D iw/id` (R232). -/
  | subEaxImm (i : BitVec 32)
  /-- SUB r/m8,imm8: `80 /5 ib` (R232). -/
  | subRm8Imm8 (d : RM8) (i : BitVec 8)
  /-- SUB r/m16/32,imm16/32: `81 /5 iw/id` (R232). -/
  | subRmImm (d : RM) (i : BitVec 32)
  /-- SUB r/m16/32,imm8: `83 /5 ib` (R232). -/
  | subRmImm8 (d : RM) (i : BitVec 8)
  /-- XOR r/m8,r8: `30 /r` (R292). -/
  | xorRm8R8 (d : RM8) (r : Reg8)
  /-- XOR r/m16/32,r16/32: `31 /r` (R292). -/
  | xorRmR (d : RM) (r : Reg)
  /-- XOR r8,r/m8: `32 /r` (R292). -/
  | xorR8Rm8 (r : Reg8) (m : RM8)
  /-- XOR r16/32,r/m16/32: `33 /r` (R292). -/
  | xorRRm (r : Reg) (m : RM)
  /-- XOR AL,imm8: `34 ib` (R292). -/
  | xorAlImm8 (i : BitVec 8)
  /-- XOR eAX,imm16/32: `35 iw/id` (R292). -/
  | xorEaxImm (i : BitVec 32)
  /-- XOR r/m8,imm8: `80 /6 ib` (R292). -/
  | xorRm8Imm8 (d : RM8) (i : BitVec 8)
  /-- XOR r/m16/32,imm16/32: `81 /6 iw/id` (R292). -/
  | xorRmImm (d : RM) (i : BitVec 32)
  /-- XOR r/m16/32,imm8: `83 /6 ib` (R292). -/
  | xorRmImm8 (d : RM) (i : BitVec 8)
  /-- CMP r/m8,r8: `38 /r` (R234). -/
  | cmpRm8R8 (d : RM8) (r : Reg8)
  /-- CMP r/m16/32,r16/32: `39 /r` (R234). -/
  | cmpRmR (d : RM) (r : Reg)
  /-- CMP r8,r/m8: `3A /r` (R234). -/
  | cmpR8Rm8 (r : Reg8) (m : RM8)
  /-- CMP r16/32,r/m16/32: `3B /r` (R234). -/
  | cmpRRm (r : Reg) (m : RM)
  /-- CMP AL,imm8: `3C ib` (R234). -/
  | cmpAlImm8 (i : BitVec 8)
  /-- CMP eAX,imm16/32: `3D iw/id` (R234). -/
  | cmpEaxImm (i : BitVec 32)
  /-- CMP r/m8,imm8: `80 /7 ib` (R234). -/
  | cmpRm8Imm8 (d : RM8) (i : BitVec 8)
  /-- CMP r/m16/32,imm16/32: `81 /7 iw/id` (R234). -/
  | cmpRmImm (d : RM) (i : BitVec 32)
  /-- CMP r/m16/32,imm8: `83 /7 ib` (R234). -/
  | cmpRmImm8 (d : RM) (i : BitVec 8)
  /-- INC r/m8: `FE /0` (R235). -/
  | incRm8 (d : RM8)
  /-- INC r/m16/32: `FF /0` (R235). -/
  | incRm (d : RM)
  /-- INC r16/32: `40+rw/rd` (R235). -/
  | incR (r : Reg)
  /-- DEC r/m8: `FE /1` (R236). -/
  | decRm8 (d : RM8)
  /-- DEC r/m16/32: `FF /1` (R236). -/
  | decRm (d : RM)
  /-- DEC r16/32: `48+rw/rd` (R236). -/
  | decR (r : Reg)
  /-- NOT r/m8: `F6 /2` (R293). -/
  | notRm8 (d : RM8)
  /-- NOT r/m16/32: `F7 /2` (R293). -/
  | notRm (d : RM)
  /-- NEG r/m8: `F6 /3` (R237). -/
  | negRm8 (d : RM8)
  /-- NEG r/m16/32: `F7 /3` (R237). -/
  | negRm (d : RM)
  /-- MUL r/m8: `F6 /4` (R238). -/
  | mulRm8 (d : RM8)
  /-- MUL r/m16/32: `F7 /4` (R238). -/
  | mulRm (d : RM)
  /-- IMUL r/m8: `F6 /5` (R239). -/
  | imulRm8 (d : RM8)
  /-- IMUL r/m16/32: `F7 /5` (R239). -/
  | imulRm (d : RM)
  /-- DIV r/m8: `F6 /6` (R242). -/
  | divRm8 (d : RM8)
  /-- DIV r/m16/32: `F7 /6` (R242). -/
  | divRm (d : RM)
  /-- IDIV r/m8: `F6 /7` (R243). -/
  | idivRm8 (d : RM8)
  /-- IDIV r/m16/32: `F7 /7` (R243). -/
  | idivRm (d : RM)
  /-- IMUL r16/32,r/m16/32: `0F AF /r` (R240). -/
  | imulRRm (r : Reg) (m : RM)
  /-- IMUL r16/32,r/m16/32,imm8: `6B /r ib` (R241). -/
  | imulRRmImm8 (r : Reg) (m : RM) (i : BitVec 8)
  /-- IMUL r16/32,r/m16/32,imm16/32: `69 /r iw/id` (R241). -/
  | imulRRmImm (r : Reg) (m : RM) (i : BitVec 32)
  /-- CBW_CWDE : `98` (R244). -/
  | cbwCwde
  /-- CWD_CDQ : `99` (R245). -/
  | cwdCdq
  /-- AAA : `37` (R246). -/
  | aaa
  /-- AAS : `3F` (R247). -/
  | aas
  /-- AAM imm8: `D4 ib` (R248). -/
  | aamImm8 (i : BitVec 8)
  /-- AAD imm8: `D5 ib` (R249). -/
  | aadImm8 (i : BitVec 8)
  /-- DAA : `27` (R250). -/
  | daa
  /-- DAS : `2F` (R251). -/
  | das
  /-- TEST AL,imm8: `A8 ib` (R294). -/
  | testAlImm8 (i : BitVec 8)
  /-- TEST eAX,imm16/32: `A9 iw/id` (R294). -/
  | testEaxImm (i : BitVec 32)
  /-- TEST r/m8,imm8: `F6 /0 ib` (R294). -/
  | testRm8Imm8 (d : RM8) (i : BitVec 8)
  /-- TEST r/m16/32,imm16/32: `F7 /0 iw/id` (R294). -/
  | testRmImm (d : RM) (i : BitVec 32)
  /-- TEST r/m8,r8: `84 /r` (R294). -/
  | testRm8R8 (d : RM8) (r : Reg8)
  /-- TEST r/m16/32,r16/32: `85 /r` (R294). -/
  | testRmR (d : RM) (r : Reg)
  /-- ROL r/m8,1: `D0 /0` (R300). -/
  | rolRm8One (d : RM8)
  /-- ROL r/m8,CL: `D2 /0` (R300). -/
  | rolRm8Cl (d : RM8)
  /-- ROL r/m8,imm8: `C0 /0 ib` (R300). -/
  | rolRm8Imm8 (d : RM8) (i : BitVec 8)
  /-- ROL r/m16/32,1: `D1 /0` (R300). -/
  | rolRmOne (d : RM)
  /-- ROL r/m16/32,CL: `D3 /0` (R300). -/
  | rolRmCl (d : RM)
  /-- ROL r/m16/32,imm8: `C1 /0 ib` (R300). -/
  | rolRmImm8 (d : RM) (i : BitVec 8)
  /-- ROR r/m8,1: `D0 /1` (R301). -/
  | rorRm8One (d : RM8)
  /-- ROR r/m8,CL: `D2 /1` (R301). -/
  | rorRm8Cl (d : RM8)
  /-- ROR r/m8,imm8: `C0 /1 ib` (R301). -/
  | rorRm8Imm8 (d : RM8) (i : BitVec 8)
  /-- ROR r/m16/32,1: `D1 /1` (R301). -/
  | rorRmOne (d : RM)
  /-- ROR r/m16/32,CL: `D3 /1` (R301). -/
  | rorRmCl (d : RM)
  /-- ROR r/m16/32,imm8: `C1 /1 ib` (R301). -/
  | rorRmImm8 (d : RM) (i : BitVec 8)
  /-- RCL r/m8,1: `D0 /2` (R302). -/
  | rclRm8One (d : RM8)
  /-- RCL r/m8,CL: `D2 /2` (R302). -/
  | rclRm8Cl (d : RM8)
  /-- RCL r/m8,imm8: `C0 /2 ib` (R302). -/
  | rclRm8Imm8 (d : RM8) (i : BitVec 8)
  /-- RCL r/m16/32,1: `D1 /2` (R302). -/
  | rclRmOne (d : RM)
  /-- RCL r/m16/32,CL: `D3 /2` (R302). -/
  | rclRmCl (d : RM)
  /-- RCL r/m16/32,imm8: `C1 /2 ib` (R302). -/
  | rclRmImm8 (d : RM) (i : BitVec 8)
  /-- RCR r/m8,1: `D0 /3` (R303). -/
  | rcrRm8One (d : RM8)
  /-- RCR r/m8,CL: `D2 /3` (R303). -/
  | rcrRm8Cl (d : RM8)
  /-- RCR r/m8,imm8: `C0 /3 ib` (R303). -/
  | rcrRm8Imm8 (d : RM8) (i : BitVec 8)
  /-- RCR r/m16/32,1: `D1 /3` (R303). -/
  | rcrRmOne (d : RM)
  /-- RCR r/m16/32,CL: `D3 /3` (R303). -/
  | rcrRmCl (d : RM)
  /-- RCR r/m16/32,imm8: `C1 /3 ib` (R303). -/
  | rcrRmImm8 (d : RM) (i : BitVec 8)
  /-- SAL_SHL r/m8,1: `D0 /4` (R296). -/
  | salRm8One (d : RM8)
  /-- SAL_SHL r/m8,CL: `D2 /4` (R296). -/
  | salRm8Cl (d : RM8)
  /-- SAL_SHL r/m8,imm8: `C0 /4 ib` (R296). -/
  | salRm8Imm8 (d : RM8) (i : BitVec 8)
  /-- SAL_SHL r/m16/32,1: `D1 /4` (R296). -/
  | salRmOne (d : RM)
  /-- SAL_SHL r/m16/32,CL: `D3 /4` (R296). -/
  | salRmCl (d : RM)
  /-- SAL_SHL r/m16/32,imm8: `C1 /4 ib` (R296). -/
  | salRmImm8 (d : RM) (i : BitVec 8)
  /-- SHR r/m8,1: `D0 /5` (R297). -/
  | shrRm8One (d : RM8)
  /-- SHR r/m8,CL: `D2 /5` (R297). -/
  | shrRm8Cl (d : RM8)
  /-- SHR r/m8,imm8: `C0 /5 ib` (R297). -/
  | shrRm8Imm8 (d : RM8) (i : BitVec 8)
  /-- SHR r/m16/32,1: `D1 /5` (R297). -/
  | shrRmOne (d : RM)
  /-- SHR r/m16/32,CL: `D3 /5` (R297). -/
  | shrRmCl (d : RM)
  /-- SHR r/m16/32,imm8: `C1 /5 ib` (R297). -/
  | shrRmImm8 (d : RM) (i : BitVec 8)
  /-- SAR r/m8,1: `D0 /7` (R298). -/
  | sarRm8One (d : RM8)
  /-- SAR r/m8,CL: `D2 /7` (R298). -/
  | sarRm8Cl (d : RM8)
  /-- SAR r/m8,imm8: `C0 /7 ib` (R298). -/
  | sarRm8Imm8 (d : RM8) (i : BitVec 8)
  /-- SAR r/m16/32,1: `D1 /7` (R298). -/
  | sarRmOne (d : RM)
  /-- SAR r/m16/32,CL: `D3 /7` (R298). -/
  | sarRmCl (d : RM)
  /-- SAR r/m16/32,imm8: `C1 /7 ib` (R298). -/
  | sarRmImm8 (d : RM) (i : BitVec 8)
  /-- SHLD r/m16/32,r16/32,imm8: `0F A4 /r ib` (R304). -/
  | shldRmRImm8 (d : RM) (r : Reg) (i : BitVec 8)
  /-- SHLD r/m16/32,r16/32,CL: `0F A5 /r` (R304). -/
  | shldRmRCl (d : RM) (r : Reg)
  /-- SHRD r/m16/32,r16/32,imm8: `0F AC /r ib` (R305). -/
  | shrdRmRImm8 (d : RM) (r : Reg) (i : BitVec 8)
  /-- SHRD r/m16/32,r16/32,CL: `0F AD /r` (R305). -/
  | shrdRmRCl (d : RM) (r : Reg)
  /-- BT r/m16/32,r16/32: `0F A3 /r` (R307). -/
  | btRmR (d : RM) (r : Reg)
  /-- BT r/m16/32,imm8: `0F BA /4 ib` (R307). -/
  | btRmImm8 (d : RM) (i : BitVec 8)
  /-- BTS r/m16/32,r16/32: `0F AB /r` (R308). -/
  | btsRmR (d : RM) (r : Reg)
  /-- BTS r/m16/32,imm8: `0F BA /5 ib` (R308). -/
  | btsRmImm8 (d : RM) (i : BitVec 8)
  /-- BTR r/m16/32,r16/32: `0F B3 /r` (R309). -/
  | btrRmR (d : RM) (r : Reg)
  /-- BTR r/m16/32,imm8: `0F BA /6 ib` (R309). -/
  | btrRmImm8 (d : RM) (i : BitVec 8)
  /-- BTC r/m16/32,r16/32: `0F BB /r` (R310). -/
  | btcRmR (d : RM) (r : Reg)
  /-- BTC r/m16/32,imm8: `0F BA /7 ib` (R310). -/
  | btcRmImm8 (d : RM) (i : BitVec 8)
  /-- BSF r16/32,r/m16/32: `0F BC /r` (R311). -/
  | bsfRRm (r : Reg) (m : RM)
  /-- BSR r16/32,r/m16/32: `0F BD /r` (R312). -/
  | bsrRRm (r : Reg) (m : RM)
  /-- SETO r/m8: `0F 90 /r` (R313). -/
  | setoRm8 (d : RM8)
  /-- SETNO r/m8: `0F 91 /r` (R313). -/
  | setnoRm8 (d : RM8)
  /-- SETB_SETC_SETNAE r/m8: `0F 92 /r` (R313). -/
  | setbRm8 (d : RM8)
  /-- SETAE_SETNB_SETNC r/m8: `0F 93 /r` (R313). -/
  | setaeRm8 (d : RM8)
  /-- SETE_SETZ r/m8: `0F 94 /r` (R313). -/
  | seteRm8 (d : RM8)
  /-- SETNE_SETNZ r/m8: `0F 95 /r` (R313). -/
  | setneRm8 (d : RM8)
  /-- SETBE_SETNA r/m8: `0F 96 /r` (R313). -/
  | setbeRm8 (d : RM8)
  /-- SETA_SETNBE r/m8: `0F 97 /r` (R313). -/
  | setaRm8 (d : RM8)
  /-- SETS r/m8: `0F 98 /r` (R313). -/
  | setsRm8 (d : RM8)
  /-- SETNS r/m8: `0F 99 /r` (R313). -/
  | setnsRm8 (d : RM8)
  /-- SETP_SETPE r/m8: `0F 9A /r` (R313). -/
  | setpRm8 (d : RM8)
  /-- SETNP_SETPO r/m8: `0F 9B /r` (R313). -/
  | setnpRm8 (d : RM8)
  /-- SETL_SETNGE r/m8: `0F 9C /r` (R313). -/
  | setlRm8 (d : RM8)
  /-- SETGE_SETNL r/m8: `0F 9D /r` (R313). -/
  | setgeRm8 (d : RM8)
  /-- SETLE_SETNG r/m8: `0F 9E /r` (R313). -/
  | setleRm8 (d : RM8)
  /-- SETG_SETNLE r/m8: `0F 9F /r` (R313). -/
  | setgRm8 (d : RM8)
  /-- MOV r/m8,r8: `88 /r` (R350). -/
  | movRm8R8 (d : RM8) (r : Reg8)
  /-- MOV r/m16/32,r16/32: `89 /r` (R350). -/
  | movRmR (d : RM) (r : Reg)
  /-- MOV r8,r/m8: `8A /r` (R350). -/
  | movR8Rm8 (r : Reg8) (m : RM8)
  /-- MOV r16/32,r/m16/32: `8B /r` (R350). -/
  | movRRm (r : Reg) (m : RM)
  /-- MOV r8,imm8: `B0+rb ib` (R350). -/
  | movR8Imm8 (r : Reg8) (i : BitVec 8)
  /-- MOV r16/32,imm16/32: `B8+rw/rd iw/id` (R350). -/
  | movRImm (r : Reg) (i : BitVec 32)
  /-- MOV r/m8,imm8: `C6 /0 ib` (R350). -/
  | movRm8Imm8 (d : RM8) (i : BitVec 8)
  /-- MOV r/m16/32,imm16/32: `C7 /0 iw/id` (R350). -/
  | movRmImm (d : RM) (i : BitVec 32)
  /-- MOV AL,moffs8: `A0 moffs` (R351). -/
  | movAlMoffs (off : BitVec 32)
  /-- MOV eAX,moffs16/32: `A1 moffs` (R351). -/
  | movEaxMoffs (off : BitVec 32)
  /-- MOV moffs8,AL: `A2 moffs` (R351). -/
  | movMoffsAl (off : BitVec 32)
  /-- MOV moffs16/32,eAX: `A3 moffs` (R351). -/
  | movMoffsEax (off : BitVec 32)
  /-- MOV r/m16,Sreg: `8C /r` (R352). -/
  | movRmSreg (d : RM) (sr : SReg)
  /-- MOV Sreg,r/m16: `8E /r` (R353). -/
  | movSregRm (sr : SReg) (m : RM)
  /-- MOVSX r16/32,r/m8: `0F BE /r` (R356). -/
  | movsxRRm8 (r : Reg) (m : RM8)
  /-- MOVSX r16/32,r/m16: `0F BF /r` (R356). -/
  | movsxRRm16 (r : Reg) (m : RM)
  /-- MOVZX r16/32,r/m8: `0F B6 /r` (R357). -/
  | movzxRRm8 (r : Reg) (m : RM8)
  /-- MOVZX r16/32,r/m16: `0F B7 /r` (R357). -/
  | movzxRRm16 (r : Reg) (m : RM)
  /-- XCHG eAX,r16/32: `90+rw/rd` (R358). -/
  | xchgEaxR (r : Reg)
  /-- XCHG r/m8,r8: `86 /r` (R358). -/
  | xchgRm8R8 (d : RM8) (r : Reg8)
  /-- XCHG r/m16/32,r16/32: `87 /r` (R358). -/
  | xchgRmR (d : RM) (r : Reg)
  /-- LEA r16/32,m: `8D /r` (R360). -/
  | leaRM (r : Reg) (m : MemOp)
  /-- XLAT_XLATB : `D7` (R361). -/
  | xlat
  /-- PUSH r/m16/32: `FF /6` (R362). -/
  | pushRm (d : RM)
  /-- PUSH r16/32: `50+rw/rd` (R362). -/
  | pushR (r : Reg)
  /-- PUSH imm8: `6A ib` (R362). -/
  | pushImm8 (i : BitVec 8)
  /-- PUSH imm16/32: `68 iw/id` (R362). -/
  | pushImm (i : BitVec 32)
  /-- PUSH ES: `06` (R363). -/
  | pushEs
  /-- PUSH CS: `0E` (R363). -/
  | pushCs
  /-- PUSH SS: `16` (R363). -/
  | pushSs
  /-- PUSH DS: `1E` (R363). -/
  | pushDs
  /-- PUSH FS: `0F A0` (R363). -/
  | pushFs
  /-- PUSH GS: `0F A8` (R363). -/
  | pushGs
  /-- POP r/m16/32: `8F /0` (R364). -/
  | popRm (d : RM)
  /-- POP r16/32: `58+rw/rd` (R364). -/
  | popR (r : Reg)
  /-- POP ES: `07` (R365). -/
  | popEs
  /-- POP SS: `17` (R365). -/
  | popSs
  /-- POP DS: `1F` (R365). -/
  | popDs
  /-- POP FS: `0F A1` (R365). -/
  | popFs
  /-- POP GS: `0F A9` (R365). -/
  | popGs
  /-- PUSHA_PUSHAD : `60` (R366). -/
  | pusha
  /-- POPA_POPAD : `61` (R367). -/
  | popa
  /-- PUSHF_PUSHFD : `9C` (R368). -/
  | pushf
  /-- POPF_POPFD : `9D` (R369). -/
  | popf
  /-- LAHF : `9F` (R370). -/
  | lahf
  /-- SAHF : `9E` (R371). -/
  | sahf
  /-- LDS r16/32,m16:16/32: `C5 /r` (R372). -/
  | ldsRM (r : Reg) (m : MemOp)
  /-- LES r16/32,m16:16/32: `C4 /r` (R373). -/
  | lesRM (r : Reg) (m : MemOp)
  /-- LFS r16/32,m16:16/32: `0F B4 /r` (R374). -/
  | lfsRM (r : Reg) (m : MemOp)
  /-- LGS r16/32,m16:16/32: `0F B5 /r` (R375). -/
  | lgsRM (r : Reg) (m : MemOp)
  /-- LSS r16/32,m16:16/32: `0F B2 /r` (R376). -/
  | lssRM (r : Reg) (m : MemOp)
  /-- CLC : `F8` (R377). -/
  | clc
  /-- CLD : `FC` (R378). -/
  | cld
  /-- CMC : `F5` (R379). -/
  | cmc
  /-- STC : `F9` (R380). -/
  | stc
  /-- STD : `FD` (R381). -/
  | std
  /-- MOVSB : `A4` (R421). -/
  | movsb
  /-- MOVSW_MOVSD : `A5` (R421). -/
  | movswMovsd
  /-- CMPSB : `A6` (R422). -/
  | cmpsb
  /-- CMPSW_CMPSD : `A7` (R422). -/
  | cmpswCmpsd
  /-- STOSB : `AA` (R425). -/
  | stosb
  /-- STOSW_STOSD : `AB` (R425). -/
  | stoswStosd
  /-- LODSB : `AC` (R424). -/
  | lodsb
  /-- LODSW_LODSD : `AD` (R424). -/
  | lodswLodsd
  /-- SCASB : `AE` (R423). -/
  | scasb
  /-- SCASW_SCASD : `AF` (R423). -/
  | scaswScasd
  /-- INSB : `6C` (R429). -/
  | insb
  /-- INSW_INSD : `6D` (R429). -/
  | inswInsd
  /-- OUTSB : `6E` (R430). -/
  | outsb
  /-- OUTSW_OUTSD : `6F` (R430). -/
  | outswOutsd
  /-- IN AL,imm8: `E4 ib` (R427). -/
  | inAlImm8 (i : BitVec 8)
  /-- IN eAX,imm8: `E5 ib` (R427). -/
  | inEaxImm8 (i : BitVec 8)
  /-- IN AL,DX: `EC` (R427). -/
  | inAlDx
  /-- IN eAX,DX: `ED` (R427). -/
  | inEaxDx
  /-- OUT imm8,AL: `E6 ib` (R428). -/
  | outImm8Al (i : BitVec 8)
  /-- OUT imm8,eAX: `E7 ib` (R428). -/
  | outImm8Eax (i : BitVec 8)
  /-- OUT DX,AL: `EE` (R428). -/
  | outDxAl
  /-- OUT DX,eAX: `EF` (R428). -/
  | outDxEax
  /-- REP_REPE_REPZ prefix: `F3` (R431). -/
  | rep
  /-- REPNE_REPNZ prefix: `F2` (R433). -/
  | repne
  /-- JMP rel8: `EB cb` (R471). -/
  | jmpRel8 (i : BitVec 8)
  /-- JMP rel16/32: `E9 cw/cd` (R471). -/
  | jmpRel (i : BitVec 32)
  /-- JMP r/m16/32: `FF /4` (R471). -/
  | jmpRm (d : RM)
  /-- JMP ptr16:16/32: `EA cd/cp` (R482). -/
  | jmpPtr (sel : BitVec 16) (off : BitVec 32)
  /-- JMP m16:16/32: `FF /5` (R482). -/
  | jmpMFar (m : MemOp)
  /-- JO rel8: `70 cb` (R472). -/
  | joRel8 (i : BitVec 8)
  /-- JO rel16/32: `0F 80 cw/cd` (R472). -/
  | joRel (i : BitVec 32)
  /-- JNO rel8: `71 cb` (R472). -/
  | jnoRel8 (i : BitVec 8)
  /-- JNO rel16/32: `0F 81 cw/cd` (R472). -/
  | jnoRel (i : BitVec 32)
  /-- JB_JC_JNAE rel8: `72 cb` (R472). -/
  | jbRel8 (i : BitVec 8)
  /-- JB_JC_JNAE rel16/32: `0F 82 cw/cd` (R472). -/
  | jbRel (i : BitVec 32)
  /-- JAE_JNB_JNC rel8: `73 cb` (R472). -/
  | jaeRel8 (i : BitVec 8)
  /-- JAE_JNB_JNC rel16/32: `0F 83 cw/cd` (R472). -/
  | jaeRel (i : BitVec 32)
  /-- JE_JZ rel8: `74 cb` (R472). -/
  | jeRel8 (i : BitVec 8)
  /-- JE_JZ rel16/32: `0F 84 cw/cd` (R472). -/
  | jeRel (i : BitVec 32)
  /-- JNE_JNZ rel8: `75 cb` (R472). -/
  | jneRel8 (i : BitVec 8)
  /-- JNE_JNZ rel16/32: `0F 85 cw/cd` (R472). -/
  | jneRel (i : BitVec 32)
  /-- JBE_JNA rel8: `76 cb` (R472). -/
  | jbeRel8 (i : BitVec 8)
  /-- JBE_JNA rel16/32: `0F 86 cw/cd` (R472). -/
  | jbeRel (i : BitVec 32)
  /-- JA_JNBE rel8: `77 cb` (R472). -/
  | jaRel8 (i : BitVec 8)
  /-- JA_JNBE rel16/32: `0F 87 cw/cd` (R472). -/
  | jaRel (i : BitVec 32)
  /-- JS rel8: `78 cb` (R472). -/
  | jsRel8 (i : BitVec 8)
  /-- JS rel16/32: `0F 88 cw/cd` (R472). -/
  | jsRel (i : BitVec 32)
  /-- JNS rel8: `79 cb` (R472). -/
  | jnsRel8 (i : BitVec 8)
  /-- JNS rel16/32: `0F 89 cw/cd` (R472). -/
  | jnsRel (i : BitVec 32)
  /-- JP_JPE rel8: `7A cb` (R472). -/
  | jpRel8 (i : BitVec 8)
  /-- JP_JPE rel16/32: `0F 8A cw/cd` (R472). -/
  | jpRel (i : BitVec 32)
  /-- JNP_JPO rel8: `7B cb` (R472). -/
  | jnpRel8 (i : BitVec 8)
  /-- JNP_JPO rel16/32: `0F 8B cw/cd` (R472). -/
  | jnpRel (i : BitVec 32)
  /-- JL_JNGE rel8: `7C cb` (R472). -/
  | jlRel8 (i : BitVec 8)
  /-- JL_JNGE rel16/32: `0F 8C cw/cd` (R472). -/
  | jlRel (i : BitVec 32)
  /-- JGE_JNL rel8: `7D cb` (R472). -/
  | jgeRel8 (i : BitVec 8)
  /-- JGE_JNL rel16/32: `0F 8D cw/cd` (R472). -/
  | jgeRel (i : BitVec 32)
  /-- JLE_JNG rel8: `7E cb` (R472). -/
  | jleRel8 (i : BitVec 8)
  /-- JLE_JNG rel16/32: `0F 8E cw/cd` (R472). -/
  | jleRel (i : BitVec 32)
  /-- JG_JNLE rel8: `7F cb` (R472). -/
  | jgRel8 (i : BitVec 8)
  /-- JG_JNLE rel16/32: `0F 8F cw/cd` (R472). -/
  | jgRel (i : BitVec 32)
  /-- JCXZ_JECXZ rel8: `E3 cb` (R473). -/
  | jcxzRel8 (i : BitVec 8)
  /-- LOOP rel8: `E2 cb` (R475). -/
  | loopRel8 (i : BitVec 8)
  /-- LOOPE_LOOPZ rel8: `E1 cb` (R476). -/
  | loopeRel8 (i : BitVec 8)
  /-- LOOPNE_LOOPNZ rel8: `E0 cb` (R477). -/
  | loopneRel8 (i : BitVec 8)
  /-- CALL rel16/32: `E8 cw/cd` (R478). -/
  | callRel (i : BitVec 32)
  /-- CALL r/m16/32: `FF /2` (R478). -/
  | callRm (d : RM)
  /-- CALL ptr16:16/32: `9A cd/cp` (R487). -/
  | callPtr (sel : BitVec 16) (off : BitVec 32)
  /-- CALL m16:16/32: `FF /3` (R487). -/
  | callMFar (m : MemOp)
  /-- RET (near): `C3` (R479). -/
  | retNear
  /-- RET imm16 (near): `C2 iw` (R479). -/
  | retNearImm16 (i : BitVec 16)
  /-- RET (far): `CB` (R493). -/
  | retFar
  /-- RET imm16 (far): `CA iw` (R493). -/
  | retFarImm16 (i : BitVec 16)
  /-- INT imm8: `CD ib` (R500). -/
  | intImm8 (i : BitVec 8)
  /-- INT3 : `CC` (R501). -/
  | int3
  /-- INTO : `CE` (R502). -/
  | into
  /-- INT1 : `F1` (R503). -/
  | int1
  /-- IRET_IRETD : `CF` (R505). -/
  | iret
  /-- ENTER imm16,imm8: `C8 iw ib` (R512). -/
  | enter (size : BitVec 16) (level : BitVec 8)
  /-- LEAVE : `C9` (R513). -/
  | leave
  /-- BOUND r16/32,m16&16/m32&32: `62 /r` (R514). -/
  | boundRM (r : Reg) (m : MemOp)
  /-- HLT : `F4` (R515). -/
  | hlt
  /-- LOCK prefix: `F0` (R516). -/
  | lock
  /-- WAIT_FWAIT : `9B` (R517). -/
  | wait
  /-- NOP : `90` (R520). -/
  | nop
  /-- SLDT r/m16: `0F 00 /0` (R546). -/
  | sldtRm16 (d : RM)
  /-- STR r/m16: `0F 00 /1` (R548). -/
  | strRm16 (d : RM)
  /-- LLDT r/m16: `0F 00 /2` (R545). -/
  | lldtRm16 (d : RM)
  /-- LTR r/m16: `0F 00 /3` (R547). -/
  | ltrRm16 (d : RM)
  /-- VERR r/m16: `0F 00 /4` (R567). -/
  | verrRm16 (d : RM)
  /-- VERW r/m16: `0F 00 /5` (R568). -/
  | verwRm16 (d : RM)
  /-- SGDT m: `0F 01 /0` (R543). -/
  | sgdtM (m : MemOp)
  /-- SIDT m: `0F 01 /1` (R544). -/
  | sidtM (m : MemOp)
  /-- LGDT m16&32: `0F 01 /2` (R541). -/
  | lgdtM (m : MemOp)
  /-- LIDT m16&32: `0F 01 /3` (R542). -/
  | lidtM (m : MemOp)
  /-- SMSW r/m16: `0F 01 /4` (R550). -/
  | smswRm16 (d : RM)
  /-- LMSW r/m16: `0F 01 /6` (R549). -/
  | lmswRm16 (d : RM)
  /-- LAR r16/32,r/m16: `0F 02 /r` (R565). -/
  | larRRm16 (r : Reg) (m : RM)
  /-- LSL r16/32,r/m16: `0F 03 /r` (R566). -/
  | lslRRm16 (r : Reg) (m : RM)
  /-- CLTS : `0F 06` (R551). -/
  | clts
  /-- MOV r32,CRn: `0F 20 /r` (R556). -/
  | movRCr (r : Reg) (c : CReg)
  /-- MOV CRn,r32: `0F 22 /r` (R557). -/
  | movCrR (c : CReg) (r : Reg)
  /-- MOV r32,DRn: `0F 21 /r` (R558). -/
  | movRDr (r : Reg) (n : BitVec 3)
  /-- MOV DRn,r32: `0F 23 /r` (R559). -/
  | movDrR (n : BitVec 3) (r : Reg)
  /-- ARPL r/m16,r16: `63 /r` (R572). -/
  | arplRm16R16 (d : RM) (r : Reg)
  /-- CLI : `FA` (R576). -/
  | cli
  /-- STI : `FB` (R577). -/
  | sti
  /-- FLD m32fp: `D9 /0` (R620). -/
  | fldM32 (m : MemOp)
  /-- FLD m64fp: `DD /0` (R620). -/
  | fldM64 (m : MemOp)
  /-- FLD m80fp: `DB /5` (R620). -/
  | fldM80 (m : MemOp)
  /-- FLD ST(i): `D9 C0+i` (R620). -/
  | fldSt (i : BitVec 3)
  /-- FLD1 : `D9 E8` (R621). -/
  | fld1
  /-- FLDL2T : `D9 E9` (R622). -/
  | fldl2t
  /-- FLDL2E : `D9 EA` (R623). -/
  | fldl2e
  /-- FLDPI : `D9 EB` (R624). -/
  | fldpi
  /-- FLDLG2 : `D9 EC` (R625). -/
  | fldlg2
  /-- FLDLN2 : `D9 ED` (R626). -/
  | fldln2
  /-- FLDZ : `D9 EE` (R627). -/
  | fldz
  /-- FST m32fp: `D9 /2` (R628). -/
  | fstM32 (m : MemOp)
  /-- FST m64fp: `DD /2` (R628). -/
  | fstM64 (m : MemOp)
  /-- FST ST(i): `DD D0+i` (R628). -/
  | fstSt (i : BitVec 3)
  /-- FSTP m32fp: `D9 /3` (R629). -/
  | fstpM32 (m : MemOp)
  /-- FSTP m64fp: `DD /3` (R629). -/
  | fstpM64 (m : MemOp)
  /-- FSTP m80fp: `DB /7` (R629). -/
  | fstpM80 (m : MemOp)
  /-- FSTP ST(i): `DD D8+i` (R629). -/
  | fstpSt (i : BitVec 3)
  /-- FILD m16int: `DF /0` (R630). -/
  | fildM16 (m : MemOp)
  /-- FILD m32int: `DB /0` (R630). -/
  | fildM32 (m : MemOp)
  /-- FILD m64int: `DF /5` (R630). -/
  | fildM64 (m : MemOp)
  /-- FIST m16int: `DF /2` (R631). -/
  | fistM16 (m : MemOp)
  /-- FIST m32int: `DB /2` (R631). -/
  | fistM32 (m : MemOp)
  /-- FISTP m16int: `DF /3` (R632). -/
  | fistpM16 (m : MemOp)
  /-- FISTP m32int: `DB /3` (R632). -/
  | fistpM32 (m : MemOp)
  /-- FISTP m64int: `DF /7` (R632). -/
  | fistpM64 (m : MemOp)
  /-- FBLD m80bcd: `DF /4` (R633). -/
  | fbldM80 (m : MemOp)
  /-- FBSTP m80bcd: `DF /6` (R634). -/
  | fbstpM80 (m : MemOp)
  /-- FXCH ST(i): `D9 C8+i` (R635). -/
  | fxchSt (i : BitVec 3)
  /-- FADD m32fp: `D8 /0` (R636). -/
  | faddM32 (m : MemOp)
  /-- FADD m64fp: `DC /0` (R636). -/
  | faddM64 (m : MemOp)
  /-- FADD ST(0),ST(i): `D8 C0+i` (R636). -/
  | faddSt0Sti (i : BitVec 3)
  /-- FADD ST(i),ST(0): `DC C0+i` (R636). -/
  | faddStiSt0 (i : BitVec 3)
  /-- FADDP ST(i),ST(0): `DE C0+i` (R637). -/
  | faddpStiSt0 (i : BitVec 3)
  /-- FIADD m32int: `DA /0` (R638). -/
  | fiaddM32 (m : MemOp)
  /-- FIADD m16int: `DE /0` (R638). -/
  | fiaddM16 (m : MemOp)
  /-- FMUL m32fp: `D8 /1` (R645). -/
  | fmulM32 (m : MemOp)
  /-- FMUL m64fp: `DC /1` (R645). -/
  | fmulM64 (m : MemOp)
  /-- FMUL ST(0),ST(i): `D8 C8+i` (R645). -/
  | fmulSt0Sti (i : BitVec 3)
  /-- FMUL ST(i),ST(0): `DC C8+i` (R645). -/
  | fmulStiSt0 (i : BitVec 3)
  /-- FMULP ST(i),ST(0): `DE C8+i` (R646). -/
  | fmulpStiSt0 (i : BitVec 3)
  /-- FIMUL m32int: `DA /1` (R647). -/
  | fimulM32 (m : MemOp)
  /-- FIMUL m16int: `DE /1` (R647). -/
  | fimulM16 (m : MemOp)
  /-- FSUB m32fp: `D8 /4` (R639). -/
  | fsubM32 (m : MemOp)
  /-- FSUB m64fp: `DC /4` (R639). -/
  | fsubM64 (m : MemOp)
  /-- FSUB ST(0),ST(i): `D8 E0+i` (R639). -/
  | fsubSt0Sti (i : BitVec 3)
  /-- FSUB ST(i),ST(0): `DC E8+i` (R639). -/
  | fsubStiSt0 (i : BitVec 3)
  /-- FSUBP ST(i),ST(0): `DE E8+i` (R640). -/
  | fsubpStiSt0 (i : BitVec 3)
  /-- FISUB m32int: `DA /4` (R641). -/
  | fisubM32 (m : MemOp)
  /-- FISUB m16int: `DE /4` (R641). -/
  | fisubM16 (m : MemOp)
  /-- FSUBR m32fp: `D8 /5` (R642). -/
  | fsubrM32 (m : MemOp)
  /-- FSUBR m64fp: `DC /5` (R642). -/
  | fsubrM64 (m : MemOp)
  /-- FSUBR ST(0),ST(i): `D8 E8+i` (R642). -/
  | fsubrSt0Sti (i : BitVec 3)
  /-- FSUBR ST(i),ST(0): `DC E0+i` (R642). -/
  | fsubrStiSt0 (i : BitVec 3)
  /-- FSUBRP ST(i),ST(0): `DE E0+i` (R643). -/
  | fsubrpStiSt0 (i : BitVec 3)
  /-- FISUBR m32int: `DA /5` (R644). -/
  | fisubrM32 (m : MemOp)
  /-- FISUBR m16int: `DE /5` (R644). -/
  | fisubrM16 (m : MemOp)
  /-- FDIV m32fp: `D8 /6` (R648). -/
  | fdivM32 (m : MemOp)
  /-- FDIV m64fp: `DC /6` (R648). -/
  | fdivM64 (m : MemOp)
  /-- FDIV ST(0),ST(i): `D8 F0+i` (R648). -/
  | fdivSt0Sti (i : BitVec 3)
  /-- FDIV ST(i),ST(0): `DC F8+i` (R648). -/
  | fdivStiSt0 (i : BitVec 3)
  /-- FDIVP ST(i),ST(0): `DE F8+i` (R649). -/
  | fdivpStiSt0 (i : BitVec 3)
  /-- FIDIV m32int: `DA /6` (R650). -/
  | fidivM32 (m : MemOp)
  /-- FIDIV m16int: `DE /6` (R650). -/
  | fidivM16 (m : MemOp)
  /-- FDIVR m32fp: `D8 /7` (R651). -/
  | fdivrM32 (m : MemOp)
  /-- FDIVR m64fp: `DC /7` (R651). -/
  | fdivrM64 (m : MemOp)
  /-- FDIVR ST(0),ST(i): `D8 F8+i` (R651). -/
  | fdivrSt0Sti (i : BitVec 3)
  /-- FDIVR ST(i),ST(0): `DC F0+i` (R651). -/
  | fdivrStiSt0 (i : BitVec 3)
  /-- FDIVRP ST(i),ST(0): `DE F0+i` (R652). -/
  | fdivrpStiSt0 (i : BitVec 3)
  /-- FIDIVR m32int: `DA /7` (R653). -/
  | fidivrM32 (m : MemOp)
  /-- FIDIVR m16int: `DE /7` (R653). -/
  | fidivrM16 (m : MemOp)
  /-- FSQRT : `D9 FA` (R654). -/
  | fsqrt
  /-- FSCALE : `D9 FD` (R655). -/
  | fscale
  /-- FPREM : `D9 F8` (R656). -/
  | fprem
  /-- FPREM1 : `D9 F5` (R657). -/
  | fprem1
  /-- FRNDINT : `D9 FC` (R658). -/
  | frndint
  /-- FXTRACT : `D9 F4` (R659). -/
  | fxtract
  /-- FABS : `D9 E1` (R660). -/
  | fabs
  /-- FCHS : `D9 E0` (R661). -/
  | fchs
  /-- FCOM m32fp: `D8 /2` (R662). -/
  | fcomM32 (m : MemOp)
  /-- FCOM m64fp: `DC /2` (R662). -/
  | fcomM64 (m : MemOp)
  /-- FCOM ST(i): `D8 D0+i` (R662). -/
  | fcomSt (i : BitVec 3)
  /-- FCOMP m32fp: `D8 /3` (R663). -/
  | fcompM32 (m : MemOp)
  /-- FCOMP m64fp: `DC /3` (R663). -/
  | fcompM64 (m : MemOp)
  /-- FCOMP ST(i): `D8 D8+i` (R663). -/
  | fcompSt (i : BitVec 3)
  /-- FCOMPP : `DE D9` (R664). -/
  | fcompp
  /-- FICOM m16int: `DE /2` (R665). -/
  | ficomM16 (m : MemOp)
  /-- FICOM m32int: `DA /2` (R665). -/
  | ficomM32 (m : MemOp)
  /-- FICOMP m16int: `DE /3` (R666). -/
  | ficompM16 (m : MemOp)
  /-- FICOMP m32int: `DA /3` (R666). -/
  | ficompM32 (m : MemOp)
  /-- FTST : `D9 E4` (R667). -/
  | ftst
  /-- FUCOM ST(i): `DD E0+i` (R668). -/
  | fucomSt (i : BitVec 3)
  /-- FUCOMP ST(i): `DD E8+i` (R669). -/
  | fucompSt (i : BitVec 3)
  /-- FUCOMPP : `DA E9` (R670). -/
  | fucompp
  /-- FXAM : `D9 E5` (R671). -/
  | fxam
  /-- F2XM1 : `D9 F0` (R673). -/
  | f2xm1
  /-- FYL2X : `D9 F1` (R674). -/
  | fyl2x
  /-- FYL2XP1 : `D9 F9` (R675). -/
  | fyl2xp1
  /-- FPTAN : `D9 F2` (R676). -/
  | fptan
  /-- FPATAN : `D9 F3` (R677). -/
  | fpatan
  /-- FSIN : `D9 FE` (R678). -/
  | fsin
  /-- FCOS : `D9 FF` (R679). -/
  | fcos
  /-- FSINCOS : `D9 FB` (R680). -/
  | fsincos
  /-- FNINIT : `DB E3` (R681). -/
  | fninit
  /-- FNCLEX : `DB E2` (R682). -/
  | fnclex
  /-- FLDCW m2byte: `D9 /5` (R683). -/
  | fldcwM16 (m : MemOp)
  /-- FNSTCW m2byte: `D9 /7` (R684). -/
  | fnstcwM16 (m : MemOp)
  /-- FNSTSW m2byte: `DD /7` (R686). -/
  | fnstswM16 (m : MemOp)
  /-- FNSTSW AX: `DF E0` (R686). -/
  | fnstswAx
  /-- FLDENV m14/28byte: `D9 /4` (R687). -/
  | fldenvEnv (m : MemOp)
  /-- FNSTENV m14/28byte: `D9 /6` (R688). -/
  | fnstenvEnv (m : MemOp)
  /-- FNSAVE m94/108byte: `DD /6` (R689). -/
  | fnsaveFull (m : MemOp)
  /-- FRSTOR m94/108byte: `DD /4` (R690). -/
  | frstorFull (m : MemOp)
  /-- FINCSTP : `D9 F7` (R691). -/
  | fincstp
  /-- FDECSTP : `D9 F6` (R692). -/
  | fdecstp
  /-- FFREE ST(i): `DD C0+i` (R693). -/
  | ffreeSt (i : BitVec 3)
  /-- FNOP : `D9 D0` (R695). -/
  | fnop
  /-- FENI__ignored : `DB E0` (R694). -/
  | feni
  /-- FDISI__ignored : `DB E1` (R694). -/
  | fdisi
  /-- FSETPM__ignored : `DB E4` (R694). -/
  | fsetpm
  /-- REPE_REPZ prefix: `F3` (R432). -/
  | repe
  /-- ES: prefix: `26` (R172). -/
  | segEs
  /-- CS: prefix: `2E` (R172). -/
  | segCs
  /-- SS: prefix: `36` (R172). -/
  | segSs
  /-- DS: prefix: `3E` (R172). -/
  | segDs
  /-- FS: prefix: `64` (R172). -/
  | segFs
  /-- GS: prefix: `65` (R172). -/
  | segGs
  /-- OPSIZE prefix: `66` (R170). -/
  | opsize
  /-- ADSIZE prefix: `67` (R171). -/
  | adsize
  deriving DecidableEq, Repr

end Sys2Proof
end

