-- ==== Sys2Proof/Config.lean ====
section
/-!
DEFINITION. What the spec leaves to the implementation or the platform: the named parameters of 00_scope.md R16, R17
(plain data, held in the state and never changed by a step), and the free values (opaque constants without a body; X87_FN,
`Config.x87`, stands in Machine/FpuExact.lean beside the numbers its statements need).
-/

namespace Sys2Proof

/-- The boolean parameters of 00_scope.md R16 and R17 (assumption log 4). -/
structure Config where
  /-- HAS_X87: a coprocessor is attached. -/
  hasX87 : Bool
  /-- HAS_INT1: F1 is INT1 (D13). -/
  hasInt1 : Bool
  /-- HAS_DEBUG_REGS: breakpoints function (D29). -/
  hasDebugRegs : Bool
  /-- X87_ERROR_VIA_MF: x87 errors are #MF (D4). -/
  x87ErrorViaMf : Bool
  /-- PUSH_SREG_32_ZEROEXT: a 32-bit PUSH of a selector writes the upper word too (D10). -/
  pushSreg32ZeroExt : Bool
  /-- RETF16_ESP_UPPER: a 16-bit far return to an outer level keeps the upper half of ESP (U20). -/
  retf16EspUpper : Bool
  /-- STI_SHADOW_BLOCKS_NMI: the shadow of STI and that of a load of SS hold off NMI (U24). -/
  stiShadowBlocksNmi : Bool
  /-- The model's: the shadow of a load of SS holds off NMI whatever STI_SHADOW_BLOCKS_NMI is. DESIGN CHOICE (log 4): R17 and
  U24 read as false, 60_exceptions.md R735 (c) as true. -/
  ssShadowBlocksNmi : Bool
  deriving DecidableEq, Repr

/-- The spec's defaults (R16, R17), and R735 (c) for the shadow of a load of SS. -/
def Config.default : Config :=
  { hasX87 := true, hasInt1 := true, hasDebugRegs := true, x87ErrorViaMf := true,
    pushSreg32ZeroExt := false, retf16EspUpper := false, stiShadowBlocksNmi := false,
    ssShadowBlocksNmi := true }

/-- The approximations of the coprocessor (00_scope.md R17 X87_FN, 47_x87_b.md R672): which function is meant. -/
inductive X87Fn
  | f2xm1 | fyl2x | fyl2xp1 | ftan | fatan | fsin | fcos
  deriving DecidableEq, Repr

/-- The `n`-th free word: the value of a draw (00_scope.md R22, R30; assumption log 9). -/
opaque Config.freeWord : Nat → BitVec 32

/-- The `n`-th free bit. -/
opaque Config.freeBit : Nat → Bool

/-- The `n`-th free x87 register value. -/
opaque Config.freeExt : Nat → BitVec 80

/-- What the `n`-th read of the given ports gives (20_memory.md R150; assumption log 10). -/
opaque Config.portRead : Nat → List (BitVec 16) → BitVec 32

/-- The vector the platform answers at the `n`-th acknowledge (60_exceptions.md R738; assumption log 11). -/
opaque Config.intAck : Nat → BitVec 8

/-- Whether the `n`-th use of a cached translation finds it still cached (20_memory.md R133; assumption log 12). -/
opaque Config.tlbKeeps : Nat → Bool

/-- X87_FPREM_N: the number N for an exponent difference, before it is held in 32..63 (46_x87_a.md R656; log 21). -/
opaque Config.fpremN : Nat → Nat

end Sys2Proof
end

