-- ==== Sys2Proof/WellFormed.lean ====
section
/-!
DEFINITION. Which instruction terms an encoding can spell at operand size `o` and address size `a`: the checks of
30_encoding.md that the types of Syntax.lean do not carry.
-/

namespace Sys2Proof

/-- A value an iw/id field of size `o` can carry (R167). -/
def immWf (o : Size) (i : BitVec 32) : Bool :=
  match o with
  | .s16 => decide (i.toNat < 65536)
  | .s32 => true

/-- A memory operand's form is the one the address size selects, and ESP is no index (R164, R165, R181). -/
def MemOp.wf (a : Size) : MemOp → Bool
  | .a16 _ _ => decide (a = .s16)
  | .a32 _ index _ => decide (a = .s32) && (match index with
    | some (.esp, _) => false
    | _ => true)

/-- The memory form of an r/m8 operand is well formed. -/
def RM8.wf (a : Size) : RM8 → Bool
  | .reg _ => true
  | .mem m => m.wf a

/-- The memory form of an r/m16 or r/m32 operand is well formed. -/
def RM.wf (a : Size) : RM → Bool
  | .reg _ => true
  | .mem m => m.wf a

/-- The instruction can be encoded at operand size `o` and address size `a`. 90H is NOP, so XCHG eAX,eAX has no
opcode of its own (44_control.md R520); MOV to CS does not exist (R205 item 5). -/
def Instr.wf (o a : Size) : Instr → Bool
  | .addRm8R8 d _ => d.wf a
  | .addRmR d _ => d.wf a
  | .addR8Rm8 _ m => m.wf a
  | .addRRm _ m => m.wf a
  | .addAlImm8 _ => true
  | .addEaxImm i => immWf o i
  | .addRm8Imm8 d _ => d.wf a
  | .addRmImm d i => d.wf a && immWf o i
  | .addRmImm8 d _ => d.wf a
  | .orRm8R8 d _ => d.wf a
  | .orRmR d _ => d.wf a
  | .orR8Rm8 _ m => m.wf a
  | .orRRm _ m => m.wf a
  | .orAlImm8 _ => true
  | .orEaxImm i => immWf o i
  | .orRm8Imm8 d _ => d.wf a
  | .orRmImm d i => d.wf a && immWf o i
  | .orRmImm8 d _ => d.wf a
  | .adcRm8R8 d _ => d.wf a
  | .adcRmR d _ => d.wf a
  | .adcR8Rm8 _ m => m.wf a
  | .adcRRm _ m => m.wf a
  | .adcAlImm8 _ => true
  | .adcEaxImm i => immWf o i
  | .adcRm8Imm8 d _ => d.wf a
  | .adcRmImm d i => d.wf a && immWf o i
  | .adcRmImm8 d _ => d.wf a
  | .sbbRm8R8 d _ => d.wf a
  | .sbbRmR d _ => d.wf a
  | .sbbR8Rm8 _ m => m.wf a
  | .sbbRRm _ m => m.wf a
  | .sbbAlImm8 _ => true
  | .sbbEaxImm i => immWf o i
  | .sbbRm8Imm8 d _ => d.wf a
  | .sbbRmImm d i => d.wf a && immWf o i
  | .sbbRmImm8 d _ => d.wf a
  | .andRm8R8 d _ => d.wf a
  | .andRmR d _ => d.wf a
  | .andR8Rm8 _ m => m.wf a
  | .andRRm _ m => m.wf a
  | .andAlImm8 _ => true
  | .andEaxImm i => immWf o i
  | .andRm8Imm8 d _ => d.wf a
  | .andRmImm d i => d.wf a && immWf o i
  | .andRmImm8 d _ => d.wf a
  | .subRm8R8 d _ => d.wf a
  | .subRmR d _ => d.wf a
  | .subR8Rm8 _ m => m.wf a
  | .subRRm _ m => m.wf a
  | .subAlImm8 _ => true
  | .subEaxImm i => immWf o i
  | .subRm8Imm8 d _ => d.wf a
  | .subRmImm d i => d.wf a && immWf o i
  | .subRmImm8 d _ => d.wf a
  | .xorRm8R8 d _ => d.wf a
  | .xorRmR d _ => d.wf a
  | .xorR8Rm8 _ m => m.wf a
  | .xorRRm _ m => m.wf a
  | .xorAlImm8 _ => true
  | .xorEaxImm i => immWf o i
  | .xorRm8Imm8 d _ => d.wf a
  | .xorRmImm d i => d.wf a && immWf o i
  | .xorRmImm8 d _ => d.wf a
  | .cmpRm8R8 d _ => d.wf a
  | .cmpRmR d _ => d.wf a
  | .cmpR8Rm8 _ m => m.wf a
  | .cmpRRm _ m => m.wf a
  | .cmpAlImm8 _ => true
  | .cmpEaxImm i => immWf o i
  | .cmpRm8Imm8 d _ => d.wf a
  | .cmpRmImm d i => d.wf a && immWf o i
  | .cmpRmImm8 d _ => d.wf a
  | .incRm8 d => d.wf a
  | .incRm d => d.wf a
  | .incR _ => true
  | .decRm8 d => d.wf a
  | .decRm d => d.wf a
  | .decR _ => true
  | .notRm8 d => d.wf a
  | .notRm d => d.wf a
  | .negRm8 d => d.wf a
  | .negRm d => d.wf a
  | .mulRm8 d => d.wf a
  | .mulRm d => d.wf a
  | .imulRm8 d => d.wf a
  | .imulRm d => d.wf a
  | .divRm8 d => d.wf a
  | .divRm d => d.wf a
  | .idivRm8 d => d.wf a
  | .idivRm d => d.wf a
  | .imulRRm _ m => m.wf a
  | .imulRRmImm8 _ m _ => m.wf a
  | .imulRRmImm _ m i => m.wf a && immWf o i
  | .cbwCwde => true
  | .cwdCdq => true
  | .aaa => true
  | .aas => true
  | .aamImm8 _ => true
  | .aadImm8 _ => true
  | .daa => true
  | .das => true
  | .testAlImm8 _ => true
  | .testEaxImm i => immWf o i
  | .testRm8Imm8 d _ => d.wf a
  | .testRmImm d i => d.wf a && immWf o i
  | .testRm8R8 d _ => d.wf a
  | .testRmR d _ => d.wf a
  | .rolRm8One d => d.wf a
  | .rolRm8Cl d => d.wf a
  | .rolRm8Imm8 d _ => d.wf a
  | .rolRmOne d => d.wf a
  | .rolRmCl d => d.wf a
  | .rolRmImm8 d _ => d.wf a
  | .rorRm8One d => d.wf a
  | .rorRm8Cl d => d.wf a
  | .rorRm8Imm8 d _ => d.wf a
  | .rorRmOne d => d.wf a
  | .rorRmCl d => d.wf a
  | .rorRmImm8 d _ => d.wf a
  | .rclRm8One d => d.wf a
  | .rclRm8Cl d => d.wf a
  | .rclRm8Imm8 d _ => d.wf a
  | .rclRmOne d => d.wf a
  | .rclRmCl d => d.wf a
  | .rclRmImm8 d _ => d.wf a
  | .rcrRm8One d => d.wf a
  | .rcrRm8Cl d => d.wf a
  | .rcrRm8Imm8 d _ => d.wf a
  | .rcrRmOne d => d.wf a
  | .rcrRmCl d => d.wf a
  | .rcrRmImm8 d _ => d.wf a
  | .salRm8One d => d.wf a
  | .salRm8Cl d => d.wf a
  | .salRm8Imm8 d _ => d.wf a
  | .salRmOne d => d.wf a
  | .salRmCl d => d.wf a
  | .salRmImm8 d _ => d.wf a
  | .shrRm8One d => d.wf a
  | .shrRm8Cl d => d.wf a
  | .shrRm8Imm8 d _ => d.wf a
  | .shrRmOne d => d.wf a
  | .shrRmCl d => d.wf a
  | .shrRmImm8 d _ => d.wf a
  | .sarRm8One d => d.wf a
  | .sarRm8Cl d => d.wf a
  | .sarRm8Imm8 d _ => d.wf a
  | .sarRmOne d => d.wf a
  | .sarRmCl d => d.wf a
  | .sarRmImm8 d _ => d.wf a
  | .shldRmRImm8 d _ _ => d.wf a
  | .shldRmRCl d _ => d.wf a
  | .shrdRmRImm8 d _ _ => d.wf a
  | .shrdRmRCl d _ => d.wf a
  | .btRmR d _ => d.wf a
  | .btRmImm8 d _ => d.wf a
  | .btsRmR d _ => d.wf a
  | .btsRmImm8 d _ => d.wf a
  | .btrRmR d _ => d.wf a
  | .btrRmImm8 d _ => d.wf a
  | .btcRmR d _ => d.wf a
  | .btcRmImm8 d _ => d.wf a
  | .bsfRRm _ m => m.wf a
  | .bsrRRm _ m => m.wf a
  | .setoRm8 d => d.wf a
  | .setnoRm8 d => d.wf a
  | .setbRm8 d => d.wf a
  | .setaeRm8 d => d.wf a
  | .seteRm8 d => d.wf a
  | .setneRm8 d => d.wf a
  | .setbeRm8 d => d.wf a
  | .setaRm8 d => d.wf a
  | .setsRm8 d => d.wf a
  | .setnsRm8 d => d.wf a
  | .setpRm8 d => d.wf a
  | .setnpRm8 d => d.wf a
  | .setlRm8 d => d.wf a
  | .setgeRm8 d => d.wf a
  | .setleRm8 d => d.wf a
  | .setgRm8 d => d.wf a
  | .movRm8R8 d _ => d.wf a
  | .movRmR d _ => d.wf a
  | .movR8Rm8 _ m => m.wf a
  | .movRRm _ m => m.wf a
  | .movR8Imm8 _ _ => true
  | .movRImm _ i => immWf o i
  | .movRm8Imm8 d _ => d.wf a
  | .movRmImm d i => d.wf a && immWf o i
  | .movAlMoffs off => immWf a off
  | .movEaxMoffs off => immWf a off
  | .movMoffsAl off => immWf a off
  | .movMoffsEax off => immWf a off
  | .movRmSreg d _ => d.wf a
  | .movSregRm sr m => decide (sr ≠ .cs) && m.wf a
  | .movsxRRm8 _ m => m.wf a
  | .movsxRRm16 _ m => m.wf a
  | .movzxRRm8 _ m => m.wf a
  | .movzxRRm16 _ m => m.wf a
  | .xchgEaxR r => decide (r ≠ .eax)
  | .xchgRm8R8 d _ => d.wf a
  | .xchgRmR d _ => d.wf a
  | .leaRM _ m => m.wf a
  | .xlat => true
  | .pushRm d => d.wf a
  | .pushR _ => true
  | .pushImm8 _ => true
  | .pushImm i => immWf o i
  | .pushEs => true
  | .pushCs => true
  | .pushSs => true
  | .pushDs => true
  | .pushFs => true
  | .pushGs => true
  | .popRm d => d.wf a
  | .popR _ => true
  | .popEs => true
  | .popSs => true
  | .popDs => true
  | .popFs => true
  | .popGs => true
  | .pusha => true
  | .popa => true
  | .pushf => true
  | .popf => true
  | .lahf => true
  | .sahf => true
  | .ldsRM _ m => m.wf a
  | .lesRM _ m => m.wf a
  | .lfsRM _ m => m.wf a
  | .lgsRM _ m => m.wf a
  | .lssRM _ m => m.wf a
  | .clc => true
  | .cld => true
  | .cmc => true
  | .stc => true
  | .std => true
  | .movsb => true
  | .movswMovsd => true
  | .cmpsb => true
  | .cmpswCmpsd => true
  | .stosb => true
  | .stoswStosd => true
  | .lodsb => true
  | .lodswLodsd => true
  | .scasb => true
  | .scaswScasd => true
  | .insb => true
  | .inswInsd => true
  | .outsb => true
  | .outswOutsd => true
  | .inAlImm8 _ => true
  | .inEaxImm8 _ => true
  | .inAlDx => true
  | .inEaxDx => true
  | .outImm8Al _ => true
  | .outImm8Eax _ => true
  | .outDxAl => true
  | .outDxEax => true
  | .rep => true
  | .repne => true
  | .jmpRel8 _ => true
  | .jmpRel i => immWf o i
  | .jmpRm d => d.wf a
  | .jmpPtr _ off => immWf o off
  | .jmpMFar m => m.wf a
  | .joRel8 _ => true
  | .joRel i => immWf o i
  | .jnoRel8 _ => true
  | .jnoRel i => immWf o i
  | .jbRel8 _ => true
  | .jbRel i => immWf o i
  | .jaeRel8 _ => true
  | .jaeRel i => immWf o i
  | .jeRel8 _ => true
  | .jeRel i => immWf o i
  | .jneRel8 _ => true
  | .jneRel i => immWf o i
  | .jbeRel8 _ => true
  | .jbeRel i => immWf o i
  | .jaRel8 _ => true
  | .jaRel i => immWf o i
  | .jsRel8 _ => true
  | .jsRel i => immWf o i
  | .jnsRel8 _ => true
  | .jnsRel i => immWf o i
  | .jpRel8 _ => true
  | .jpRel i => immWf o i
  | .jnpRel8 _ => true
  | .jnpRel i => immWf o i
  | .jlRel8 _ => true
  | .jlRel i => immWf o i
  | .jgeRel8 _ => true
  | .jgeRel i => immWf o i
  | .jleRel8 _ => true
  | .jleRel i => immWf o i
  | .jgRel8 _ => true
  | .jgRel i => immWf o i
  | .jcxzRel8 _ => true
  | .loopRel8 _ => true
  | .loopeRel8 _ => true
  | .loopneRel8 _ => true
  | .callRel i => immWf o i
  | .callRm d => d.wf a
  | .callPtr _ off => immWf o off
  | .callMFar m => m.wf a
  | .retNear => true
  | .retNearImm16 _ => true
  | .retFar => true
  | .retFarImm16 _ => true
  | .intImm8 _ => true
  | .int3 => true
  | .into => true
  | .int1 => true
  | .iret => true
  | .enter _ _ => true
  | .leave => true
  | .boundRM _ m => m.wf a
  | .hlt => true
  | .lock => true
  | .wait => true
  | .nop => true
  | .sldtRm16 d => d.wf a
  | .strRm16 d => d.wf a
  | .lldtRm16 d => d.wf a
  | .ltrRm16 d => d.wf a
  | .verrRm16 d => d.wf a
  | .verwRm16 d => d.wf a
  | .sgdtM m => m.wf a
  | .sidtM m => m.wf a
  | .lgdtM m => m.wf a
  | .lidtM m => m.wf a
  | .smswRm16 d => d.wf a
  | .lmswRm16 d => d.wf a
  | .larRRm16 _ m => m.wf a
  | .lslRRm16 _ m => m.wf a
  | .clts => true
  | .movRCr _ _ => true
  | .movCrR _ _ => true
  | .movRDr _ _ => true
  | .movDrR _ _ => true
  | .arplRm16R16 d _ => d.wf a
  | .cli => true
  | .sti => true
  | .fldM32 m => m.wf a
  | .fldM64 m => m.wf a
  | .fldM80 m => m.wf a
  | .fldSt _ => true
  | .fld1 => true
  | .fldl2t => true
  | .fldl2e => true
  | .fldpi => true
  | .fldlg2 => true
  | .fldln2 => true
  | .fldz => true
  | .fstM32 m => m.wf a
  | .fstM64 m => m.wf a
  | .fstSt _ => true
  | .fstpM32 m => m.wf a
  | .fstpM64 m => m.wf a
  | .fstpM80 m => m.wf a
  | .fstpSt _ => true
  | .fildM16 m => m.wf a
  | .fildM32 m => m.wf a
  | .fildM64 m => m.wf a
  | .fistM16 m => m.wf a
  | .fistM32 m => m.wf a
  | .fistpM16 m => m.wf a
  | .fistpM32 m => m.wf a
  | .fistpM64 m => m.wf a
  | .fbldM80 m => m.wf a
  | .fbstpM80 m => m.wf a
  | .fxchSt _ => true
  | .faddM32 m => m.wf a
  | .faddM64 m => m.wf a
  | .faddSt0Sti _ => true
  | .faddStiSt0 _ => true
  | .faddpStiSt0 _ => true
  | .fiaddM32 m => m.wf a
  | .fiaddM16 m => m.wf a
  | .fmulM32 m => m.wf a
  | .fmulM64 m => m.wf a
  | .fmulSt0Sti _ => true
  | .fmulStiSt0 _ => true
  | .fmulpStiSt0 _ => true
  | .fimulM32 m => m.wf a
  | .fimulM16 m => m.wf a
  | .fsubM32 m => m.wf a
  | .fsubM64 m => m.wf a
  | .fsubSt0Sti _ => true
  | .fsubStiSt0 _ => true
  | .fsubpStiSt0 _ => true
  | .fisubM32 m => m.wf a
  | .fisubM16 m => m.wf a
  | .fsubrM32 m => m.wf a
  | .fsubrM64 m => m.wf a
  | .fsubrSt0Sti _ => true
  | .fsubrStiSt0 _ => true
  | .fsubrpStiSt0 _ => true
  | .fisubrM32 m => m.wf a
  | .fisubrM16 m => m.wf a
  | .fdivM32 m => m.wf a
  | .fdivM64 m => m.wf a
  | .fdivSt0Sti _ => true
  | .fdivStiSt0 _ => true
  | .fdivpStiSt0 _ => true
  | .fidivM32 m => m.wf a
  | .fidivM16 m => m.wf a
  | .fdivrM32 m => m.wf a
  | .fdivrM64 m => m.wf a
  | .fdivrSt0Sti _ => true
  | .fdivrStiSt0 _ => true
  | .fdivrpStiSt0 _ => true
  | .fidivrM32 m => m.wf a
  | .fidivrM16 m => m.wf a
  | .fsqrt => true
  | .fscale => true
  | .fprem => true
  | .fprem1 => true
  | .frndint => true
  | .fxtract => true
  | .fabs => true
  | .fchs => true
  | .fcomM32 m => m.wf a
  | .fcomM64 m => m.wf a
  | .fcomSt _ => true
  | .fcompM32 m => m.wf a
  | .fcompM64 m => m.wf a
  | .fcompSt _ => true
  | .fcompp => true
  | .ficomM16 m => m.wf a
  | .ficomM32 m => m.wf a
  | .ficompM16 m => m.wf a
  | .ficompM32 m => m.wf a
  | .ftst => true
  | .fucomSt _ => true
  | .fucompSt _ => true
  | .fucompp => true
  | .fxam => true
  | .f2xm1 => true
  | .fyl2x => true
  | .fyl2xp1 => true
  | .fptan => true
  | .fpatan => true
  | .fsin => true
  | .fcos => true
  | .fsincos => true
  | .fninit => true
  | .fnclex => true
  | .fldcwM16 m => m.wf a
  | .fnstcwM16 m => m.wf a
  | .fnstswM16 m => m.wf a
  | .fnstswAx => true
  | .fldenvEnv m => m.wf a
  | .fnstenvEnv m => m.wf a
  | .fnsaveFull m => m.wf a
  | .frstorFull m => m.wf a
  | .fincstp => true
  | .fdecstp => true
  | .ffreeSt _ => true
  | .fnop => true
  | .feni => true
  | .fdisi => true
  | .fsetpm => true
  | .repe => true
  | .segEs => true
  | .segCs => true
  | .segSs => true
  | .segDs => true
  | .segFs => true
  | .segGs => true
  | .opsize => true
  | .adsize => true

end Sys2Proof
end

