-- ==== Sys2Proof/Decode.lean ====
section
/-!
DEFINITION. The decoder and the encoder, both from the encoding tables of 30_encoding.md and the x87 rows of
46_x87_a.md R618. (`Instr` has more constructors than Lean's code generator can lay out, so the section is
noncomputable; the kernel evaluates every definition here.) The decoder reads bytes one at a time, in order (R160), and answers an instruction, "more bytes are
needed", or which way the encoding is undefined (R205, 47_x87_b.md R696). The encoder writes one encoding of each
instruction: the longest displacement, a SIB byte for every 32-bit form.
-/

noncomputable section

namespace Sys2Proof

/-- Why the decoder gives no instruction. -/
inductive DecErr
  /-- The bytes end before the instruction does. -/
  | more
  /-- An undefined opcode (R205). -/
  | undefined
  /-- An undefined escape encoding (47_x87_b.md R696). -/
  | undefinedEsc
  deriving DecidableEq, Repr

/-- A reader of instruction bytes. -/
abbrev Dec := EStateM DecErr (List Byte)

/-- The next instruction byte. -/
def byte : Dec Byte := fun bs =>
  match bs with
  | [] => .error .more []
  | b :: bs => .ok b bs

/-- An 8-bit immediate (R167). -/
def imm8 : Dec Byte := byte

/-- Two bytes, low byte first (R160). -/
def bytes16 (b0 b1 : Byte) : BitVec 16 := b1 ++ b0

/-- A 16-bit immediate (R167). -/
def imm16 : Dec (BitVec 16) := do
  let b0 ← byte
  let b1 ← byte
  pure (bytes16 b0 b1)

/-- A 32-bit immediate (R167). -/
def imm32 : Dec (BitVec 32) := do
  let lo ← imm16
  let hi ← imm16
  pure (hi ++ lo)

/-- A field of 16 or 32 bits by the size attribute, zero-extended (R167). -/
def immV : Size → Dec (BitVec 32)
  | .s16 => do
      let v ← imm16
      pure (v.setWidth 32)
  | .s32 => imm32

/-- ModRM bits 7:6 (R164). -/
def modField (b : Byte) : Nat := b.toNat / 64

/-- ModRM bits 5:3 (R164). -/
def regField (b : Byte) : Nat := b.toNat / 8 % 8

/-- ModRM bits 2:0 (R164). -/
def rmField (b : Byte) : Nat := b.toNat % 8

/-- The register of a number (R184). -/
def Reg.ofNum : Nat → Reg
  | 0 => .eax | 1 => .ecx | 2 => .edx | 3 => .ebx | 4 => .esp | 5 => .ebp | 6 => .esi | _ => .edi

/-- The number of a register (R184). -/
def Reg.num : Reg → Nat
  | .eax => 0 | .ecx => 1 | .edx => 2 | .ebx => 3 | .esp => 4 | .ebp => 5 | .esi => 6 | .edi => 7

/-- The byte register of a number (R184). -/
def Reg8.ofNum : Nat → Reg8
  | 0 => .al | 1 => .cl | 2 => .dl | 3 => .bl | 4 => .ah | 5 => .ch | 6 => .dh | _ => .bh

/-- The number of a byte register (R184). -/
def Reg8.num : Reg8 → Nat
  | .al => 0 | .cl => 1 | .dl => 2 | .bl => 3 | .ah => 4 | .ch => 5 | .dh => 6 | .bh => 7

/-- The segment register of a number; 6 and 7 name none (R186). -/
def sreg : Nat → Dec SReg
  | 0 => pure .es | 1 => pure .cs | 2 => pure .ss | 3 => pure .ds | 4 => pure .fs | 5 => pure .gs
  | _ => throw .undefined

/-- The segment register of a MOV to a segment register: CS is undefined (R205 item 5). -/
def loadableSreg : Nat → Dec SReg
  | 1 => throw .undefined
  | n => sreg n

/-- The number of a segment register (R186). -/
def SReg.num : SReg → Nat
  | .es => 0 | .cs => 1 | .ss => 2 | .ds => 3 | .fs => 4 | .gs => 5

/-- The control register of a number (R205 item 6). -/
def creg : Nat → Dec CReg
  | 0 => pure .cr0 | 2 => pure .cr2 | 3 => pure .cr3
  | _ => throw .undefined

/-- The number of a control register. -/
def CReg.num : CReg → Nat
  | .cr0 => 0 | .cr2 => 2 | .cr3 => 3

/-- The scale of SIB bits 7:6 (R165). -/
def Scale.ofNum : Nat → Scale
  | 0 => .x1 | 1 => .x2 | 2 => .x4 | _ => .x8

/-- SIB bits 7:6 of a scale (R165). -/
def Scale.num : Scale → Nat
  | .x1 => 0 | .x2 => 1 | .x4 => 2 | .x8 => 3

/-- The base part of a 16-bit form with a base (R180). -/
def Base16.ofNum : Nat → Base16
  | 0 => .bxsi | 1 => .bxdi | 2 => .bpsi | 3 => .bpdi | 4 => .si | 5 => .di | 6 => .bp | _ => .bx

/-- ModRM.rm of a base part (R180). -/
def Base16.num : Base16 → Nat
  | .bxsi => 0 | .bxdi => 1 | .bpsi => 2 | .bpdi => 3 | .si => 4 | .di => 5 | .bp => 6 | .bx => 7 | .none => 6

/-- A 16-bit memory operand (R166, R180). -/
def mem16 (md rm : Nat) : Dec MemOp :=
  match md, rm with
  | 0, 6 => do
      let d ← imm16
      pure (.a16 .none d)
  | 0, n => pure (.a16 (Base16.ofNum n) 0)
  | 1, n => do
      let d ← imm8
      pure (.a16 (Base16.ofNum n) (d.signExtend 16))
  | _, n => do
      let d ← imm16
      pure (.a16 (Base16.ofNum n) d)

/-- The displacement of a 32-bit form with ModRM.mod = 0, 1 or 2 (R166). -/
def disp32 (md : Nat) : Dec (BitVec 32) :=
  match md with
  | 0 => pure 0
  | 1 => do
      let d ← imm8
      pure (d.signExtend 32)
  | _ => imm32

/-- The index a SIB byte names (R165): 4 is none. -/
def sibIndex (b : Byte) : Option (Reg × Scale) :=
  match regField b with
  | 4 => none
  | n => some (Reg.ofNum n, Scale.ofNum (modField b))

/-- A 32-bit memory operand (R165, R166, R181). -/
def mem32 (md rm : Nat) : Dec MemOp :=
  match md, rm with
  | 0, 5 => do
      let d ← imm32
      pure (.a32 none none d)
  | md, 4 => do
      let s ← byte
      match md, rmField s with
      | 0, 5 => do
          let d ← imm32
          pure (.a32 none (sibIndex s) d)
      | md, n => do
          let d ← disp32 md
          pure (.a32 (some (Reg.ofNum n)) (sibIndex s) d)
  | md, n => do
      let d ← disp32 md
      pure (.a32 (some (Reg.ofNum n)) none d)

/-- The memory operand of a ModRM byte with mod ≠ 3 (R164). -/
def memOp (a : Size) (b : Byte) : Dec MemOp :=
  match a with
  | .s16 => mem16 (modField b) (rmField b)
  | .s32 => mem32 (modField b) (rmField b)

/-- An r/m8 operand (R164, R220). -/
def rm8 (a : Size) (b : Byte) : Dec RM8 :=
  if modField b = 3 then pure (.reg (Reg8.ofNum (rmField b))) else do
    let m ← memOp a b
    pure (.mem m)

/-- An r/m16 or r/m32 operand (R164, R220). -/
def rm (a : Size) (b : Byte) : Dec RM :=
  if modField b = 3 then pure (.reg (Reg.ofNum (rmField b))) else do
    let m ← memOp a b
    pure (.mem m)

/-- An operand that must be in memory: mod = 3 is undefined (R164, R205 item 4). -/
def memOnly (a : Size) (b : Byte) : Dec MemOp :=
  if modField b = 3 then throw .undefined else memOp a b


/-- The escape opcode D8H (R193, 46_x87_a.md R618). -/
def decodeEscD8 (a : Size) : Dec Instr := do
  let b ← byte
  if modField b = 3 then
    match regField b, rmField b with
    | 0, i => pure (.faddSt0Sti (BitVec.ofNat 3 i))
    | 1, i => pure (.fmulSt0Sti (BitVec.ofNat 3 i))
    | 2, i => pure (.fcomSt (BitVec.ofNat 3 i))
    | 3, i => pure (.fcompSt (BitVec.ofNat 3 i))
    | 4, i => pure (.fsubSt0Sti (BitVec.ofNat 3 i))
    | 5, i => pure (.fsubrSt0Sti (BitVec.ofNat 3 i))
    | 6, i => pure (.fdivSt0Sti (BitVec.ofNat 3 i))
    | 7, i => pure (.fdivrSt0Sti (BitVec.ofNat 3 i))
    | _, _ => throw .undefinedEsc
  else do
    let m ← memOp a b
    match regField b with
    | 0 => pure (.faddM32 m)
    | 1 => pure (.fmulM32 m)
    | 2 => pure (.fcomM32 m)
    | 3 => pure (.fcompM32 m)
    | 4 => pure (.fsubM32 m)
    | 5 => pure (.fsubrM32 m)
    | 6 => pure (.fdivM32 m)
    | 7 => pure (.fdivrM32 m)
    | _ => throw .undefinedEsc

/-- The escape opcode D9H (R193, 46_x87_a.md R618). -/
def decodeEscD9 (a : Size) : Dec Instr := do
  let b ← byte
  if modField b = 3 then
    match regField b, rmField b with
    | 0, i => pure (.fldSt (BitVec.ofNat 3 i))
    | 1, i => pure (.fxchSt (BitVec.ofNat 3 i))
    | 2, 0 => pure .fnop
    | 4, 0 => pure .fchs
    | 4, 1 => pure .fabs
    | 4, 4 => pure .ftst
    | 4, 5 => pure .fxam
    | 5, 0 => pure .fld1
    | 5, 1 => pure .fldl2t
    | 5, 2 => pure .fldl2e
    | 5, 3 => pure .fldpi
    | 5, 4 => pure .fldlg2
    | 5, 5 => pure .fldln2
    | 5, 6 => pure .fldz
    | 6, 0 => pure .f2xm1
    | 6, 1 => pure .fyl2x
    | 6, 2 => pure .fptan
    | 6, 3 => pure .fpatan
    | 6, 4 => pure .fxtract
    | 6, 5 => pure .fprem1
    | 6, 6 => pure .fdecstp
    | 6, 7 => pure .fincstp
    | 7, 0 => pure .fprem
    | 7, 1 => pure .fyl2xp1
    | 7, 2 => pure .fsqrt
    | 7, 3 => pure .fsincos
    | 7, 4 => pure .frndint
    | 7, 5 => pure .fscale
    | 7, 6 => pure .fsin
    | 7, 7 => pure .fcos
    | _, _ => throw .undefinedEsc
  else do
    let m ← memOp a b
    match regField b with
    | 0 => pure (.fldM32 m)
    | 2 => pure (.fstM32 m)
    | 3 => pure (.fstpM32 m)
    | 4 => pure (.fldenvEnv m)
    | 5 => pure (.fldcwM16 m)
    | 6 => pure (.fnstenvEnv m)
    | 7 => pure (.fnstcwM16 m)
    | _ => throw .undefinedEsc

/-- The escape opcode DAH (R193, 46_x87_a.md R618). -/
def decodeEscDA (a : Size) : Dec Instr := do
  let b ← byte
  if modField b = 3 then
    match regField b, rmField b with
    | 5, 1 => pure .fucompp
    | _, _ => throw .undefinedEsc
  else do
    let m ← memOp a b
    match regField b with
    | 0 => pure (.fiaddM32 m)
    | 1 => pure (.fimulM32 m)
    | 2 => pure (.ficomM32 m)
    | 3 => pure (.ficompM32 m)
    | 4 => pure (.fisubM32 m)
    | 5 => pure (.fisubrM32 m)
    | 6 => pure (.fidivM32 m)
    | 7 => pure (.fidivrM32 m)
    | _ => throw .undefinedEsc

/-- The escape opcode DBH (R193, 46_x87_a.md R618). -/
def decodeEscDB (a : Size) : Dec Instr := do
  let b ← byte
  if modField b = 3 then
    match regField b, rmField b with
    | 4, 0 => pure .feni
    | 4, 1 => pure .fdisi
    | 4, 2 => pure .fnclex
    | 4, 3 => pure .fninit
    | 4, 4 => pure .fsetpm
    | _, _ => throw .undefinedEsc
  else do
    let m ← memOp a b
    match regField b with
    | 0 => pure (.fildM32 m)
    | 2 => pure (.fistM32 m)
    | 3 => pure (.fistpM32 m)
    | 5 => pure (.fldM80 m)
    | 7 => pure (.fstpM80 m)
    | _ => throw .undefinedEsc

/-- The escape opcode DCH (R193, 46_x87_a.md R618). -/
def decodeEscDC (a : Size) : Dec Instr := do
  let b ← byte
  if modField b = 3 then
    match regField b, rmField b with
    | 0, i => pure (.faddStiSt0 (BitVec.ofNat 3 i))
    | 1, i => pure (.fmulStiSt0 (BitVec.ofNat 3 i))
    | 4, i => pure (.fsubrStiSt0 (BitVec.ofNat 3 i))
    | 5, i => pure (.fsubStiSt0 (BitVec.ofNat 3 i))
    | 6, i => pure (.fdivrStiSt0 (BitVec.ofNat 3 i))
    | 7, i => pure (.fdivStiSt0 (BitVec.ofNat 3 i))
    | _, _ => throw .undefinedEsc
  else do
    let m ← memOp a b
    match regField b with
    | 0 => pure (.faddM64 m)
    | 1 => pure (.fmulM64 m)
    | 2 => pure (.fcomM64 m)
    | 3 => pure (.fcompM64 m)
    | 4 => pure (.fsubM64 m)
    | 5 => pure (.fsubrM64 m)
    | 6 => pure (.fdivM64 m)
    | 7 => pure (.fdivrM64 m)
    | _ => throw .undefinedEsc

/-- The escape opcode DDH (R193, 46_x87_a.md R618). -/
def decodeEscDD (a : Size) : Dec Instr := do
  let b ← byte
  if modField b = 3 then
    match regField b, rmField b with
    | 0, i => pure (.ffreeSt (BitVec.ofNat 3 i))
    | 2, i => pure (.fstSt (BitVec.ofNat 3 i))
    | 3, i => pure (.fstpSt (BitVec.ofNat 3 i))
    | 4, i => pure (.fucomSt (BitVec.ofNat 3 i))
    | 5, i => pure (.fucompSt (BitVec.ofNat 3 i))
    | _, _ => throw .undefinedEsc
  else do
    let m ← memOp a b
    match regField b with
    | 0 => pure (.fldM64 m)
    | 2 => pure (.fstM64 m)
    | 3 => pure (.fstpM64 m)
    | 4 => pure (.frstorFull m)
    | 6 => pure (.fnsaveFull m)
    | 7 => pure (.fnstswM16 m)
    | _ => throw .undefinedEsc

/-- The escape opcode DEH (R193, 46_x87_a.md R618). -/
def decodeEscDE (a : Size) : Dec Instr := do
  let b ← byte
  if modField b = 3 then
    match regField b, rmField b with
    | 0, i => pure (.faddpStiSt0 (BitVec.ofNat 3 i))
    | 1, i => pure (.fmulpStiSt0 (BitVec.ofNat 3 i))
    | 3, 1 => pure .fcompp
    | 4, i => pure (.fsubrpStiSt0 (BitVec.ofNat 3 i))
    | 5, i => pure (.fsubpStiSt0 (BitVec.ofNat 3 i))
    | 6, i => pure (.fdivrpStiSt0 (BitVec.ofNat 3 i))
    | 7, i => pure (.fdivpStiSt0 (BitVec.ofNat 3 i))
    | _, _ => throw .undefinedEsc
  else do
    let m ← memOp a b
    match regField b with
    | 0 => pure (.fiaddM16 m)
    | 1 => pure (.fimulM16 m)
    | 2 => pure (.ficomM16 m)
    | 3 => pure (.ficompM16 m)
    | 4 => pure (.fisubM16 m)
    | 5 => pure (.fisubrM16 m)
    | 6 => pure (.fidivM16 m)
    | 7 => pure (.fidivrM16 m)
    | _ => throw .undefinedEsc

/-- The escape opcode DFH (R193, 46_x87_a.md R618). -/
def decodeEscDF (a : Size) : Dec Instr := do
  let b ← byte
  if modField b = 3 then
    match regField b, rmField b with
    | 4, 0 => pure .fnstswAx
    | _, _ => throw .undefinedEsc
  else do
    let m ← memOp a b
    match regField b with
    | 0 => pure (.fildM16 m)
    | 2 => pure (.fistM16 m)
    | 3 => pure (.fistpM16 m)
    | 4 => pure (.fbldM80 m)
    | 5 => pure (.fildM64 m)
    | 6 => pure (.fbstpM80 m)
    | 7 => pure (.fistpM64 m)
    | _ => throw .undefinedEsc

/-- The opcode 00H after 0FH, selected by ModRM.reg (R192). -/
def decode0FGroup00 (_o a : Size) (b : Byte) : Dec Instr :=
  match regField b with
  | 0 => do
      let d ← rm a b
      pure (.sldtRm16 d)
  | 1 => do
      let d ← rm a b
      pure (.strRm16 d)
  | 2 => do
      let d ← rm a b
      pure (.lldtRm16 d)
  | 3 => do
      let d ← rm a b
      pure (.ltrRm16 d)
  | 4 => do
      let d ← rm a b
      pure (.verrRm16 d)
  | 5 => do
      let d ← rm a b
      pure (.verwRm16 d)
  | _ => throw .undefined

/-- The opcode 01H after 0FH, selected by ModRM.reg (R192). -/
def decode0FGroup01 (_o a : Size) (b : Byte) : Dec Instr :=
  match regField b with
  | 0 => do
      let m ← memOnly a b
      pure (.sgdtM m)
  | 1 => do
      let m ← memOnly a b
      pure (.sidtM m)
  | 2 => do
      let m ← memOnly a b
      pure (.lgdtM m)
  | 3 => do
      let m ← memOnly a b
      pure (.lidtM m)
  | 4 => do
      let d ← rm a b
      pure (.smswRm16 d)
  | 6 => do
      let d ← rm a b
      pure (.lmswRm16 d)
  | _ => throw .undefined

/-- The opcode BAH after 0FH, selected by ModRM.reg (R192). -/
def decode0FGroupBA (_o a : Size) (b : Byte) : Dec Instr :=
  match regField b with
  | 4 => do
      let d ← rm a b
      let i ← imm8
      pure (.btRmImm8 d i)
  | 5 => do
      let d ← rm a b
      let i ← imm8
      pure (.btsRmImm8 d i)
  | 6 => do
      let d ← rm a b
      let i ← imm8
      pure (.btrRmImm8 d i)
  | 7 => do
      let d ← rm a b
      let i ← imm8
      pure (.btcRmImm8 d i)
  | _ => throw .undefined

/-- The second opcode bytes 00H to 0FH (R190, R191). -/
def decode0FRow0 (o a : Size) (lo : Nat) : Dec Instr :=
  match lo with
  | 0 => do
      let b ← byte
      decode0FGroup00 o a b
  | 1 => do
      let b ← byte
      decode0FGroup01 o a b
  | 2 => do
      let b ← byte
      let m ← rm a b
      pure (.larRRm16 (Reg.ofNum (regField b)) m)
  | 3 => do
      let b ← byte
      let m ← rm a b
      pure (.lslRRm16 (Reg.ofNum (regField b)) m)
  | 6 => pure .clts
  | _ => throw .undefined

/-- The second opcode bytes 20H to 2FH (R190, R191). -/
def decode0FRow2 (_o _a : Size) (lo : Nat) : Dec Instr :=
  match lo with
  | 0 => do
      let b ← byte
      let c ← creg (regField b)
      pure (.movRCr (Reg.ofNum (rmField b)) c)
  | 1 => do
      let b ← byte
      pure (.movRDr (Reg.ofNum (rmField b)) (BitVec.ofNat 3 (regField b)))
  | 2 => do
      let b ← byte
      let c ← creg (regField b)
      pure (.movCrR c (Reg.ofNum (rmField b)))
  | 3 => do
      let b ← byte
      pure (.movDrR (BitVec.ofNat 3 (regField b)) (Reg.ofNum (rmField b)))
  | _ => throw .undefined

/-- The second opcode bytes 80H to 8FH (R190, R191). -/
def decode0FRow8 (o _a : Size) (lo : Nat) : Dec Instr :=
  match lo with
  | 0 => do
      let i ← immV o
      pure (.joRel i)
  | 1 => do
      let i ← immV o
      pure (.jnoRel i)
  | 2 => do
      let i ← immV o
      pure (.jbRel i)
  | 3 => do
      let i ← immV o
      pure (.jaeRel i)
  | 4 => do
      let i ← immV o
      pure (.jeRel i)
  | 5 => do
      let i ← immV o
      pure (.jneRel i)
  | 6 => do
      let i ← immV o
      pure (.jbeRel i)
  | 7 => do
      let i ← immV o
      pure (.jaRel i)
  | 8 => do
      let i ← immV o
      pure (.jsRel i)
  | 9 => do
      let i ← immV o
      pure (.jnsRel i)
  | 10 => do
      let i ← immV o
      pure (.jpRel i)
  | 11 => do
      let i ← immV o
      pure (.jnpRel i)
  | 12 => do
      let i ← immV o
      pure (.jlRel i)
  | 13 => do
      let i ← immV o
      pure (.jgeRel i)
  | 14 => do
      let i ← immV o
      pure (.jleRel i)
  | 15 => do
      let i ← immV o
      pure (.jgRel i)
  | _ => throw .undefined

/-- The second opcode bytes 90H to 9FH (R190, R191). -/
def decode0FRow9 (_o a : Size) (lo : Nat) : Dec Instr :=
  match lo with
  | 0 => do
      let b ← byte
      let d ← rm8 a b
      pure (.setoRm8 d)
  | 1 => do
      let b ← byte
      let d ← rm8 a b
      pure (.setnoRm8 d)
  | 2 => do
      let b ← byte
      let d ← rm8 a b
      pure (.setbRm8 d)
  | 3 => do
      let b ← byte
      let d ← rm8 a b
      pure (.setaeRm8 d)
  | 4 => do
      let b ← byte
      let d ← rm8 a b
      pure (.seteRm8 d)
  | 5 => do
      let b ← byte
      let d ← rm8 a b
      pure (.setneRm8 d)
  | 6 => do
      let b ← byte
      let d ← rm8 a b
      pure (.setbeRm8 d)
  | 7 => do
      let b ← byte
      let d ← rm8 a b
      pure (.setaRm8 d)
  | 8 => do
      let b ← byte
      let d ← rm8 a b
      pure (.setsRm8 d)
  | 9 => do
      let b ← byte
      let d ← rm8 a b
      pure (.setnsRm8 d)
  | 10 => do
      let b ← byte
      let d ← rm8 a b
      pure (.setpRm8 d)
  | 11 => do
      let b ← byte
      let d ← rm8 a b
      pure (.setnpRm8 d)
  | 12 => do
      let b ← byte
      let d ← rm8 a b
      pure (.setlRm8 d)
  | 13 => do
      let b ← byte
      let d ← rm8 a b
      pure (.setgeRm8 d)
  | 14 => do
      let b ← byte
      let d ← rm8 a b
      pure (.setleRm8 d)
  | 15 => do
      let b ← byte
      let d ← rm8 a b
      pure (.setgRm8 d)
  | _ => throw .undefined

/-- The second opcode bytes A0H to AFH (R190, R191). -/
def decode0FRowA (_o a : Size) (lo : Nat) : Dec Instr :=
  match lo with
  | 0 => pure .pushFs
  | 1 => pure .popFs
  | 3 => do
      let b ← byte
      let d ← rm a b
      pure (.btRmR d (Reg.ofNum (regField b)))
  | 4 => do
      let b ← byte
      let d ← rm a b
      let i ← imm8
      pure (.shldRmRImm8 d (Reg.ofNum (regField b)) i)
  | 5 => do
      let b ← byte
      let d ← rm a b
      pure (.shldRmRCl d (Reg.ofNum (regField b)))
  | 8 => pure .pushGs
  | 9 => pure .popGs
  | 11 => do
      let b ← byte
      let d ← rm a b
      pure (.btsRmR d (Reg.ofNum (regField b)))
  | 12 => do
      let b ← byte
      let d ← rm a b
      let i ← imm8
      pure (.shrdRmRImm8 d (Reg.ofNum (regField b)) i)
  | 13 => do
      let b ← byte
      let d ← rm a b
      pure (.shrdRmRCl d (Reg.ofNum (regField b)))
  | 15 => do
      let b ← byte
      let m ← rm a b
      pure (.imulRRm (Reg.ofNum (regField b)) m)
  | _ => throw .undefined

/-- The second opcode bytes B0H to BFH (R190, R191). -/
def decode0FRowB (o a : Size) (lo : Nat) : Dec Instr :=
  match lo with
  | 2 => do
      let b ← byte
      let m ← memOnly a b
      pure (.lssRM (Reg.ofNum (regField b)) m)
  | 3 => do
      let b ← byte
      let d ← rm a b
      pure (.btrRmR d (Reg.ofNum (regField b)))
  | 4 => do
      let b ← byte
      let m ← memOnly a b
      pure (.lfsRM (Reg.ofNum (regField b)) m)
  | 5 => do
      let b ← byte
      let m ← memOnly a b
      pure (.lgsRM (Reg.ofNum (regField b)) m)
  | 6 => do
      let b ← byte
      let m ← rm8 a b
      pure (.movzxRRm8 (Reg.ofNum (regField b)) m)
  | 7 => do
      let b ← byte
      let m ← rm a b
      pure (.movzxRRm16 (Reg.ofNum (regField b)) m)
  | 10 => do
      let b ← byte
      decode0FGroupBA o a b
  | 11 => do
      let b ← byte
      let d ← rm a b
      pure (.btcRmR d (Reg.ofNum (regField b)))
  | 12 => do
      let b ← byte
      let m ← rm a b
      pure (.bsfRRm (Reg.ofNum (regField b)) m)
  | 13 => do
      let b ← byte
      let m ← rm a b
      pure (.bsrRRm (Reg.ofNum (regField b)) m)
  | 14 => do
      let b ← byte
      let m ← rm8 a b
      pure (.movsxRRm8 (Reg.ofNum (regField b)) m)
  | 15 => do
      let b ← byte
      let m ← rm a b
      pure (.movsxRRm16 (Reg.ofNum (regField b)) m)
  | _ => throw .undefined

/-- The two-byte opcodes: the byte after 0FH (R162, R191). -/
def decode0F (o a : Size) : Dec Instr := do
  let b ← byte
  match b.toNat / 16 with
  | 0 => decode0FRow0 o a (b.toNat % 16)
  | 2 => decode0FRow2 o a (b.toNat % 16)
  | 8 => decode0FRow8 o a (b.toNat % 16)
  | 9 => decode0FRow9 o a (b.toNat % 16)
  | 10 => decode0FRowA o a (b.toNat % 16)
  | 11 => decode0FRowB o a (b.toNat % 16)
  | _ => throw .undefined

/-- The opcode 80H, selected by ModRM.reg (R192). -/
def decode1Group80 (_o a : Size) (b : Byte) : Dec Instr :=
  match regField b with
  | 0 => do
      let d ← rm8 a b
      let i ← imm8
      pure (.addRm8Imm8 d i)
  | 1 => do
      let d ← rm8 a b
      let i ← imm8
      pure (.orRm8Imm8 d i)
  | 2 => do
      let d ← rm8 a b
      let i ← imm8
      pure (.adcRm8Imm8 d i)
  | 3 => do
      let d ← rm8 a b
      let i ← imm8
      pure (.sbbRm8Imm8 d i)
  | 4 => do
      let d ← rm8 a b
      let i ← imm8
      pure (.andRm8Imm8 d i)
  | 5 => do
      let d ← rm8 a b
      let i ← imm8
      pure (.subRm8Imm8 d i)
  | 6 => do
      let d ← rm8 a b
      let i ← imm8
      pure (.xorRm8Imm8 d i)
  | 7 => do
      let d ← rm8 a b
      let i ← imm8
      pure (.cmpRm8Imm8 d i)
  | _ => throw .undefined

/-- The opcode 81H, selected by ModRM.reg (R192). -/
def decode1Group81 (o a : Size) (b : Byte) : Dec Instr :=
  match regField b with
  | 0 => do
      let d ← rm a b
      let i ← immV o
      pure (.addRmImm d i)
  | 1 => do
      let d ← rm a b
      let i ← immV o
      pure (.orRmImm d i)
  | 2 => do
      let d ← rm a b
      let i ← immV o
      pure (.adcRmImm d i)
  | 3 => do
      let d ← rm a b
      let i ← immV o
      pure (.sbbRmImm d i)
  | 4 => do
      let d ← rm a b
      let i ← immV o
      pure (.andRmImm d i)
  | 5 => do
      let d ← rm a b
      let i ← immV o
      pure (.subRmImm d i)
  | 6 => do
      let d ← rm a b
      let i ← immV o
      pure (.xorRmImm d i)
  | 7 => do
      let d ← rm a b
      let i ← immV o
      pure (.cmpRmImm d i)
  | _ => throw .undefined

/-- The opcode 83H, selected by ModRM.reg (R192). -/
def decode1Group83 (_o a : Size) (b : Byte) : Dec Instr :=
  match regField b with
  | 0 => do
      let d ← rm a b
      let i ← imm8
      pure (.addRmImm8 d i)
  | 1 => do
      let d ← rm a b
      let i ← imm8
      pure (.orRmImm8 d i)
  | 2 => do
      let d ← rm a b
      let i ← imm8
      pure (.adcRmImm8 d i)
  | 3 => do
      let d ← rm a b
      let i ← imm8
      pure (.sbbRmImm8 d i)
  | 4 => do
      let d ← rm a b
      let i ← imm8
      pure (.andRmImm8 d i)
  | 5 => do
      let d ← rm a b
      let i ← imm8
      pure (.subRmImm8 d i)
  | 6 => do
      let d ← rm a b
      let i ← imm8
      pure (.xorRmImm8 d i)
  | 7 => do
      let d ← rm a b
      let i ← imm8
      pure (.cmpRmImm8 d i)
  | _ => throw .undefined

/-- The opcode 8FH, selected by ModRM.reg (R192). -/
def decode1Group8F (_o a : Size) (b : Byte) : Dec Instr :=
  match regField b with
  | 0 => do
      let d ← rm a b
      pure (.popRm d)
  | _ => throw .undefined

/-- The opcode C0H, selected by ModRM.reg (R192). -/
def decode1GroupC0 (_o a : Size) (b : Byte) : Dec Instr :=
  match regField b with
  | 0 => do
      let d ← rm8 a b
      let i ← imm8
      pure (.rolRm8Imm8 d i)
  | 1 => do
      let d ← rm8 a b
      let i ← imm8
      pure (.rorRm8Imm8 d i)
  | 2 => do
      let d ← rm8 a b
      let i ← imm8
      pure (.rclRm8Imm8 d i)
  | 3 => do
      let d ← rm8 a b
      let i ← imm8
      pure (.rcrRm8Imm8 d i)
  | 4 => do
      let d ← rm8 a b
      let i ← imm8
      pure (.salRm8Imm8 d i)
  | 5 => do
      let d ← rm8 a b
      let i ← imm8
      pure (.shrRm8Imm8 d i)
  | 7 => do
      let d ← rm8 a b
      let i ← imm8
      pure (.sarRm8Imm8 d i)
  | _ => throw .undefined

/-- The opcode C1H, selected by ModRM.reg (R192). -/
def decode1GroupC1 (_o a : Size) (b : Byte) : Dec Instr :=
  match regField b with
  | 0 => do
      let d ← rm a b
      let i ← imm8
      pure (.rolRmImm8 d i)
  | 1 => do
      let d ← rm a b
      let i ← imm8
      pure (.rorRmImm8 d i)
  | 2 => do
      let d ← rm a b
      let i ← imm8
      pure (.rclRmImm8 d i)
  | 3 => do
      let d ← rm a b
      let i ← imm8
      pure (.rcrRmImm8 d i)
  | 4 => do
      let d ← rm a b
      let i ← imm8
      pure (.salRmImm8 d i)
  | 5 => do
      let d ← rm a b
      let i ← imm8
      pure (.shrRmImm8 d i)
  | 7 => do
      let d ← rm a b
      let i ← imm8
      pure (.sarRmImm8 d i)
  | _ => throw .undefined

/-- The opcode C6H, selected by ModRM.reg (R192). -/
def decode1GroupC6 (_o a : Size) (b : Byte) : Dec Instr :=
  match regField b with
  | 0 => do
      let d ← rm8 a b
      let i ← imm8
      pure (.movRm8Imm8 d i)
  | _ => throw .undefined

/-- The opcode C7H, selected by ModRM.reg (R192). -/
def decode1GroupC7 (o a : Size) (b : Byte) : Dec Instr :=
  match regField b with
  | 0 => do
      let d ← rm a b
      let i ← immV o
      pure (.movRmImm d i)
  | _ => throw .undefined

/-- The opcode D0H, selected by ModRM.reg (R192). -/
def decode1GroupD0 (_o a : Size) (b : Byte) : Dec Instr :=
  match regField b with
  | 0 => do
      let d ← rm8 a b
      pure (.rolRm8One d)
  | 1 => do
      let d ← rm8 a b
      pure (.rorRm8One d)
  | 2 => do
      let d ← rm8 a b
      pure (.rclRm8One d)
  | 3 => do
      let d ← rm8 a b
      pure (.rcrRm8One d)
  | 4 => do
      let d ← rm8 a b
      pure (.salRm8One d)
  | 5 => do
      let d ← rm8 a b
      pure (.shrRm8One d)
  | 7 => do
      let d ← rm8 a b
      pure (.sarRm8One d)
  | _ => throw .undefined

/-- The opcode D1H, selected by ModRM.reg (R192). -/
def decode1GroupD1 (_o a : Size) (b : Byte) : Dec Instr :=
  match regField b with
  | 0 => do
      let d ← rm a b
      pure (.rolRmOne d)
  | 1 => do
      let d ← rm a b
      pure (.rorRmOne d)
  | 2 => do
      let d ← rm a b
      pure (.rclRmOne d)
  | 3 => do
      let d ← rm a b
      pure (.rcrRmOne d)
  | 4 => do
      let d ← rm a b
      pure (.salRmOne d)
  | 5 => do
      let d ← rm a b
      pure (.shrRmOne d)
  | 7 => do
      let d ← rm a b
      pure (.sarRmOne d)
  | _ => throw .undefined

/-- The opcode D2H, selected by ModRM.reg (R192). -/
def decode1GroupD2 (_o a : Size) (b : Byte) : Dec Instr :=
  match regField b with
  | 0 => do
      let d ← rm8 a b
      pure (.rolRm8Cl d)
  | 1 => do
      let d ← rm8 a b
      pure (.rorRm8Cl d)
  | 2 => do
      let d ← rm8 a b
      pure (.rclRm8Cl d)
  | 3 => do
      let d ← rm8 a b
      pure (.rcrRm8Cl d)
  | 4 => do
      let d ← rm8 a b
      pure (.salRm8Cl d)
  | 5 => do
      let d ← rm8 a b
      pure (.shrRm8Cl d)
  | 7 => do
      let d ← rm8 a b
      pure (.sarRm8Cl d)
  | _ => throw .undefined

/-- The opcode D3H, selected by ModRM.reg (R192). -/
def decode1GroupD3 (_o a : Size) (b : Byte) : Dec Instr :=
  match regField b with
  | 0 => do
      let d ← rm a b
      pure (.rolRmCl d)
  | 1 => do
      let d ← rm a b
      pure (.rorRmCl d)
  | 2 => do
      let d ← rm a b
      pure (.rclRmCl d)
  | 3 => do
      let d ← rm a b
      pure (.rcrRmCl d)
  | 4 => do
      let d ← rm a b
      pure (.salRmCl d)
  | 5 => do
      let d ← rm a b
      pure (.shrRmCl d)
  | 7 => do
      let d ← rm a b
      pure (.sarRmCl d)
  | _ => throw .undefined

/-- The opcode F6H, selected by ModRM.reg (R192). -/
def decode1GroupF6 (_o a : Size) (b : Byte) : Dec Instr :=
  match regField b with
  | 0 => do
      let d ← rm8 a b
      let i ← imm8
      pure (.testRm8Imm8 d i)
  | 2 => do
      let d ← rm8 a b
      pure (.notRm8 d)
  | 3 => do
      let d ← rm8 a b
      pure (.negRm8 d)
  | 4 => do
      let d ← rm8 a b
      pure (.mulRm8 d)
  | 5 => do
      let d ← rm8 a b
      pure (.imulRm8 d)
  | 6 => do
      let d ← rm8 a b
      pure (.divRm8 d)
  | 7 => do
      let d ← rm8 a b
      pure (.idivRm8 d)
  | _ => throw .undefined

/-- The opcode F7H, selected by ModRM.reg (R192). -/
def decode1GroupF7 (o a : Size) (b : Byte) : Dec Instr :=
  match regField b with
  | 0 => do
      let d ← rm a b
      let i ← immV o
      pure (.testRmImm d i)
  | 2 => do
      let d ← rm a b
      pure (.notRm d)
  | 3 => do
      let d ← rm a b
      pure (.negRm d)
  | 4 => do
      let d ← rm a b
      pure (.mulRm d)
  | 5 => do
      let d ← rm a b
      pure (.imulRm d)
  | 6 => do
      let d ← rm a b
      pure (.divRm d)
  | 7 => do
      let d ← rm a b
      pure (.idivRm d)
  | _ => throw .undefined

/-- The opcode FEH, selected by ModRM.reg (R192). -/
def decode1GroupFE (_o a : Size) (b : Byte) : Dec Instr :=
  match regField b with
  | 0 => do
      let d ← rm8 a b
      pure (.incRm8 d)
  | 1 => do
      let d ← rm8 a b
      pure (.decRm8 d)
  | _ => throw .undefined

/-- The opcode FFH, selected by ModRM.reg (R192). -/
def decode1GroupFF (_o a : Size) (b : Byte) : Dec Instr :=
  match regField b with
  | 0 => do
      let d ← rm a b
      pure (.incRm d)
  | 1 => do
      let d ← rm a b
      pure (.decRm d)
  | 2 => do
      let d ← rm a b
      pure (.callRm d)
  | 3 => do
      let m ← memOnly a b
      pure (.callMFar m)
  | 4 => do
      let d ← rm a b
      pure (.jmpRm d)
  | 5 => do
      let m ← memOnly a b
      pure (.jmpMFar m)
  | 6 => do
      let d ← rm a b
      pure (.pushRm d)
  | _ => throw .undefined

/-- The first opcode bytes 00H to 0FH (R190, R191). -/
def decode1Row0 (o a : Size) (lo : Nat) : Dec Instr :=
  match lo with
  | 0 => do
      let b ← byte
      let d ← rm8 a b
      pure (.addRm8R8 d (Reg8.ofNum (regField b)))
  | 1 => do
      let b ← byte
      let d ← rm a b
      pure (.addRmR d (Reg.ofNum (regField b)))
  | 2 => do
      let b ← byte
      let m ← rm8 a b
      pure (.addR8Rm8 (Reg8.ofNum (regField b)) m)
  | 3 => do
      let b ← byte
      let m ← rm a b
      pure (.addRRm (Reg.ofNum (regField b)) m)
  | 4 => do
      let i ← imm8
      pure (.addAlImm8 i)
  | 5 => do
      let i ← immV o
      pure (.addEaxImm i)
  | 6 => pure .pushEs
  | 7 => pure .popEs
  | 8 => do
      let b ← byte
      let d ← rm8 a b
      pure (.orRm8R8 d (Reg8.ofNum (regField b)))
  | 9 => do
      let b ← byte
      let d ← rm a b
      pure (.orRmR d (Reg.ofNum (regField b)))
  | 10 => do
      let b ← byte
      let m ← rm8 a b
      pure (.orR8Rm8 (Reg8.ofNum (regField b)) m)
  | 11 => do
      let b ← byte
      let m ← rm a b
      pure (.orRRm (Reg.ofNum (regField b)) m)
  | 12 => do
      let i ← imm8
      pure (.orAlImm8 i)
  | 13 => do
      let i ← immV o
      pure (.orEaxImm i)
  | 14 => pure .pushCs
  | 15 => decode0F o a
  | _ => throw .undefined

/-- The first opcode bytes 10H to 1FH (R190, R191). -/
def decode1Row1 (o a : Size) (lo : Nat) : Dec Instr :=
  match lo with
  | 0 => do
      let b ← byte
      let d ← rm8 a b
      pure (.adcRm8R8 d (Reg8.ofNum (regField b)))
  | 1 => do
      let b ← byte
      let d ← rm a b
      pure (.adcRmR d (Reg.ofNum (regField b)))
  | 2 => do
      let b ← byte
      let m ← rm8 a b
      pure (.adcR8Rm8 (Reg8.ofNum (regField b)) m)
  | 3 => do
      let b ← byte
      let m ← rm a b
      pure (.adcRRm (Reg.ofNum (regField b)) m)
  | 4 => do
      let i ← imm8
      pure (.adcAlImm8 i)
  | 5 => do
      let i ← immV o
      pure (.adcEaxImm i)
  | 6 => pure .pushSs
  | 7 => pure .popSs
  | 8 => do
      let b ← byte
      let d ← rm8 a b
      pure (.sbbRm8R8 d (Reg8.ofNum (regField b)))
  | 9 => do
      let b ← byte
      let d ← rm a b
      pure (.sbbRmR d (Reg.ofNum (regField b)))
  | 10 => do
      let b ← byte
      let m ← rm8 a b
      pure (.sbbR8Rm8 (Reg8.ofNum (regField b)) m)
  | 11 => do
      let b ← byte
      let m ← rm a b
      pure (.sbbRRm (Reg.ofNum (regField b)) m)
  | 12 => do
      let i ← imm8
      pure (.sbbAlImm8 i)
  | 13 => do
      let i ← immV o
      pure (.sbbEaxImm i)
  | 14 => pure .pushDs
  | 15 => pure .popDs
  | _ => throw .undefined

/-- The first opcode bytes 20H to 2FH (R190, R191). -/
def decode1Row2 (o a : Size) (lo : Nat) : Dec Instr :=
  match lo with
  | 0 => do
      let b ← byte
      let d ← rm8 a b
      pure (.andRm8R8 d (Reg8.ofNum (regField b)))
  | 1 => do
      let b ← byte
      let d ← rm a b
      pure (.andRmR d (Reg.ofNum (regField b)))
  | 2 => do
      let b ← byte
      let m ← rm8 a b
      pure (.andR8Rm8 (Reg8.ofNum (regField b)) m)
  | 3 => do
      let b ← byte
      let m ← rm a b
      pure (.andRRm (Reg.ofNum (regField b)) m)
  | 4 => do
      let i ← imm8
      pure (.andAlImm8 i)
  | 5 => do
      let i ← immV o
      pure (.andEaxImm i)
  | 7 => pure .daa
  | 8 => do
      let b ← byte
      let d ← rm8 a b
      pure (.subRm8R8 d (Reg8.ofNum (regField b)))
  | 9 => do
      let b ← byte
      let d ← rm a b
      pure (.subRmR d (Reg.ofNum (regField b)))
  | 10 => do
      let b ← byte
      let m ← rm8 a b
      pure (.subR8Rm8 (Reg8.ofNum (regField b)) m)
  | 11 => do
      let b ← byte
      let m ← rm a b
      pure (.subRRm (Reg.ofNum (regField b)) m)
  | 12 => do
      let i ← imm8
      pure (.subAlImm8 i)
  | 13 => do
      let i ← immV o
      pure (.subEaxImm i)
  | 15 => pure .das
  | _ => throw .undefined

/-- The first opcode bytes 30H to 3FH (R190, R191). -/
def decode1Row3 (o a : Size) (lo : Nat) : Dec Instr :=
  match lo with
  | 0 => do
      let b ← byte
      let d ← rm8 a b
      pure (.xorRm8R8 d (Reg8.ofNum (regField b)))
  | 1 => do
      let b ← byte
      let d ← rm a b
      pure (.xorRmR d (Reg.ofNum (regField b)))
  | 2 => do
      let b ← byte
      let m ← rm8 a b
      pure (.xorR8Rm8 (Reg8.ofNum (regField b)) m)
  | 3 => do
      let b ← byte
      let m ← rm a b
      pure (.xorRRm (Reg.ofNum (regField b)) m)
  | 4 => do
      let i ← imm8
      pure (.xorAlImm8 i)
  | 5 => do
      let i ← immV o
      pure (.xorEaxImm i)
  | 7 => pure .aaa
  | 8 => do
      let b ← byte
      let d ← rm8 a b
      pure (.cmpRm8R8 d (Reg8.ofNum (regField b)))
  | 9 => do
      let b ← byte
      let d ← rm a b
      pure (.cmpRmR d (Reg.ofNum (regField b)))
  | 10 => do
      let b ← byte
      let m ← rm8 a b
      pure (.cmpR8Rm8 (Reg8.ofNum (regField b)) m)
  | 11 => do
      let b ← byte
      let m ← rm a b
      pure (.cmpRRm (Reg.ofNum (regField b)) m)
  | 12 => do
      let i ← imm8
      pure (.cmpAlImm8 i)
  | 13 => do
      let i ← immV o
      pure (.cmpEaxImm i)
  | 15 => pure .aas
  | _ => throw .undefined

/-- The first opcode bytes 40H to 4FH (R190, R191). -/
def decode1Row4 (_o _a : Size) (lo : Nat) : Dec Instr :=
  match lo with
  | 0 | 1 | 2 | 3 | 4 | 5 | 6 | 7 => pure (.incR (Reg.ofNum (lo % 8)))
  | 8 | 9 | 10 | 11 | 12 | 13 | 14 | 15 => pure (.decR (Reg.ofNum (lo % 8)))
  | _ => throw .undefined

/-- The first opcode bytes 50H to 5FH (R190, R191). -/
def decode1Row5 (_o _a : Size) (lo : Nat) : Dec Instr :=
  match lo with
  | 0 | 1 | 2 | 3 | 4 | 5 | 6 | 7 => pure (.pushR (Reg.ofNum (lo % 8)))
  | 8 | 9 | 10 | 11 | 12 | 13 | 14 | 15 => pure (.popR (Reg.ofNum (lo % 8)))
  | _ => throw .undefined

/-- The first opcode bytes 60H to 6FH (R190, R191). -/
def decode1Row6 (o a : Size) (lo : Nat) : Dec Instr :=
  match lo with
  | 0 => pure .pusha
  | 1 => pure .popa
  | 2 => do
      let b ← byte
      let m ← memOnly a b
      pure (.boundRM (Reg.ofNum (regField b)) m)
  | 3 => do
      let b ← byte
      let d ← rm a b
      pure (.arplRm16R16 d (Reg.ofNum (regField b)))
  | 8 => do
      let i ← immV o
      pure (.pushImm i)
  | 9 => do
      let b ← byte
      let m ← rm a b
      let i ← immV o
      pure (.imulRRmImm (Reg.ofNum (regField b)) m i)
  | 10 => do
      let i ← imm8
      pure (.pushImm8 i)
  | 11 => do
      let b ← byte
      let m ← rm a b
      let i ← imm8
      pure (.imulRRmImm8 (Reg.ofNum (regField b)) m i)
  | 12 => pure .insb
  | 13 => pure .inswInsd
  | 14 => pure .outsb
  | 15 => pure .outswOutsd
  | _ => throw .undefined

/-- The first opcode bytes 70H to 7FH (R190, R191). -/
def decode1Row7 (_o _a : Size) (lo : Nat) : Dec Instr :=
  match lo with
  | 0 => do
      let i ← imm8
      pure (.joRel8 i)
  | 1 => do
      let i ← imm8
      pure (.jnoRel8 i)
  | 2 => do
      let i ← imm8
      pure (.jbRel8 i)
  | 3 => do
      let i ← imm8
      pure (.jaeRel8 i)
  | 4 => do
      let i ← imm8
      pure (.jeRel8 i)
  | 5 => do
      let i ← imm8
      pure (.jneRel8 i)
  | 6 => do
      let i ← imm8
      pure (.jbeRel8 i)
  | 7 => do
      let i ← imm8
      pure (.jaRel8 i)
  | 8 => do
      let i ← imm8
      pure (.jsRel8 i)
  | 9 => do
      let i ← imm8
      pure (.jnsRel8 i)
  | 10 => do
      let i ← imm8
      pure (.jpRel8 i)
  | 11 => do
      let i ← imm8
      pure (.jnpRel8 i)
  | 12 => do
      let i ← imm8
      pure (.jlRel8 i)
  | 13 => do
      let i ← imm8
      pure (.jgeRel8 i)
  | 14 => do
      let i ← imm8
      pure (.jleRel8 i)
  | 15 => do
      let i ← imm8
      pure (.jgRel8 i)
  | _ => throw .undefined

/-- The first opcode bytes 80H to 8FH (R190, R191). -/
def decode1Row8 (o a : Size) (lo : Nat) : Dec Instr :=
  match lo with
  | 0 => do
      let b ← byte
      decode1Group80 o a b
  | 1 => do
      let b ← byte
      decode1Group81 o a b
  | 3 => do
      let b ← byte
      decode1Group83 o a b
  | 4 => do
      let b ← byte
      let d ← rm8 a b
      pure (.testRm8R8 d (Reg8.ofNum (regField b)))
  | 5 => do
      let b ← byte
      let d ← rm a b
      pure (.testRmR d (Reg.ofNum (regField b)))
  | 6 => do
      let b ← byte
      let d ← rm8 a b
      pure (.xchgRm8R8 d (Reg8.ofNum (regField b)))
  | 7 => do
      let b ← byte
      let d ← rm a b
      pure (.xchgRmR d (Reg.ofNum (regField b)))
  | 8 => do
      let b ← byte
      let d ← rm8 a b
      pure (.movRm8R8 d (Reg8.ofNum (regField b)))
  | 9 => do
      let b ← byte
      let d ← rm a b
      pure (.movRmR d (Reg.ofNum (regField b)))
  | 10 => do
      let b ← byte
      let m ← rm8 a b
      pure (.movR8Rm8 (Reg8.ofNum (regField b)) m)
  | 11 => do
      let b ← byte
      let m ← rm a b
      pure (.movRRm (Reg.ofNum (regField b)) m)
  | 12 => do
      let b ← byte
      let sr ← sreg (regField b)
      let d ← rm a b
      pure (.movRmSreg d sr)
  | 13 => do
      let b ← byte
      let m ← memOnly a b
      pure (.leaRM (Reg.ofNum (regField b)) m)
  | 14 => do
      let b ← byte
      let sr ← loadableSreg (regField b)
      let m ← rm a b
      pure (.movSregRm sr m)
  | 15 => do
      let b ← byte
      decode1Group8F o a b
  | _ => throw .undefined

/-- The first opcode bytes 90H to 9FH (R190, R191). -/
def decode1Row9 (o _a : Size) (lo : Nat) : Dec Instr :=
  match lo with
  | 0 => pure .nop
  | 1 | 2 | 3 | 4 | 5 | 6 | 7 => pure (.xchgEaxR (Reg.ofNum (lo % 8)))
  | 8 => pure .cbwCwde
  | 9 => pure .cwdCdq
  | 10 => do
      let off ← immV o
      let sel ← imm16
      pure (.callPtr sel off)
  | 11 => pure .wait
  | 12 => pure .pushf
  | 13 => pure .popf
  | 14 => pure .sahf
  | 15 => pure .lahf
  | _ => throw .undefined

/-- The first opcode bytes A0H to AFH (R190, R191). -/
def decode1RowA (o a : Size) (lo : Nat) : Dec Instr :=
  match lo with
  | 0 => do
      let off ← immV a
      pure (.movAlMoffs off)
  | 1 => do
      let off ← immV a
      pure (.movEaxMoffs off)
  | 2 => do
      let off ← immV a
      pure (.movMoffsAl off)
  | 3 => do
      let off ← immV a
      pure (.movMoffsEax off)
  | 4 => pure .movsb
  | 5 => pure .movswMovsd
  | 6 => pure .cmpsb
  | 7 => pure .cmpswCmpsd
  | 8 => do
      let i ← imm8
      pure (.testAlImm8 i)
  | 9 => do
      let i ← immV o
      pure (.testEaxImm i)
  | 10 => pure .stosb
  | 11 => pure .stoswStosd
  | 12 => pure .lodsb
  | 13 => pure .lodswLodsd
  | 14 => pure .scasb
  | 15 => pure .scaswScasd
  | _ => throw .undefined

/-- The first opcode bytes B0H to BFH (R190, R191). -/
def decode1RowB (o _a : Size) (lo : Nat) : Dec Instr :=
  match lo with
  | 0 | 1 | 2 | 3 | 4 | 5 | 6 | 7 => do
      let i ← imm8
      pure (.movR8Imm8 (Reg8.ofNum (lo % 8)) i)
  | 8 | 9 | 10 | 11 | 12 | 13 | 14 | 15 => do
      let i ← immV o
      pure (.movRImm (Reg.ofNum (lo % 8)) i)
  | _ => throw .undefined

/-- The first opcode bytes C0H to CFH (R190, R191). -/
def decode1RowC (o a : Size) (lo : Nat) : Dec Instr :=
  match lo with
  | 0 => do
      let b ← byte
      decode1GroupC0 o a b
  | 1 => do
      let b ← byte
      decode1GroupC1 o a b
  | 2 => do
      let i ← imm16
      pure (.retNearImm16 i)
  | 3 => pure .retNear
  | 4 => do
      let b ← byte
      let m ← memOnly a b
      pure (.lesRM (Reg.ofNum (regField b)) m)
  | 5 => do
      let b ← byte
      let m ← memOnly a b
      pure (.ldsRM (Reg.ofNum (regField b)) m)
  | 6 => do
      let b ← byte
      decode1GroupC6 o a b
  | 7 => do
      let b ← byte
      decode1GroupC7 o a b
  | 8 => do
      let size ← imm16
      let level ← imm8
      pure (.enter size level)
  | 9 => pure .leave
  | 10 => do
      let i ← imm16
      pure (.retFarImm16 i)
  | 11 => pure .retFar
  | 12 => pure .int3
  | 13 => do
      let i ← imm8
      pure (.intImm8 i)
  | 14 => pure .into
  | 15 => pure .iret
  | _ => throw .undefined

/-- The first opcode bytes D0H to DFH (R190, R191). -/
def decode1RowD (o a : Size) (lo : Nat) : Dec Instr :=
  match lo with
  | 0 => do
      let b ← byte
      decode1GroupD0 o a b
  | 1 => do
      let b ← byte
      decode1GroupD1 o a b
  | 2 => do
      let b ← byte
      decode1GroupD2 o a b
  | 3 => do
      let b ← byte
      decode1GroupD3 o a b
  | 4 => do
      let i ← imm8
      pure (.aamImm8 i)
  | 5 => do
      let i ← imm8
      pure (.aadImm8 i)
  | 7 => pure .xlat
  | 8 => decodeEscD8 a
  | 9 => decodeEscD9 a
  | 10 => decodeEscDA a
  | 11 => decodeEscDB a
  | 12 => decodeEscDC a
  | 13 => decodeEscDD a
  | 14 => decodeEscDE a
  | 15 => decodeEscDF a
  | _ => throw .undefined

/-- The first opcode bytes E0H to EFH (R190, R191). -/
def decode1RowE (o _a : Size) (lo : Nat) : Dec Instr :=
  match lo with
  | 0 => do
      let i ← imm8
      pure (.loopneRel8 i)
  | 1 => do
      let i ← imm8
      pure (.loopeRel8 i)
  | 2 => do
      let i ← imm8
      pure (.loopRel8 i)
  | 3 => do
      let i ← imm8
      pure (.jcxzRel8 i)
  | 4 => do
      let i ← imm8
      pure (.inAlImm8 i)
  | 5 => do
      let i ← imm8
      pure (.inEaxImm8 i)
  | 6 => do
      let i ← imm8
      pure (.outImm8Al i)
  | 7 => do
      let i ← imm8
      pure (.outImm8Eax i)
  | 8 => do
      let i ← immV o
      pure (.callRel i)
  | 9 => do
      let i ← immV o
      pure (.jmpRel i)
  | 10 => do
      let off ← immV o
      let sel ← imm16
      pure (.jmpPtr sel off)
  | 11 => do
      let i ← imm8
      pure (.jmpRel8 i)
  | 12 => pure .inAlDx
  | 13 => pure .inEaxDx
  | 14 => pure .outDxAl
  | 15 => pure .outDxEax
  | _ => throw .undefined

/-- The first opcode bytes F0H to FFH (R190, R191). -/
def decode1RowF (o a : Size) (lo : Nat) : Dec Instr :=
  match lo with
  | 1 => pure .int1
  | 4 => pure .hlt
  | 5 => pure .cmc
  | 6 => do
      let b ← byte
      decode1GroupF6 o a b
  | 7 => do
      let b ← byte
      decode1GroupF7 o a b
  | 8 => pure .clc
  | 9 => pure .stc
  | 10 => pure .cli
  | 11 => pure .sti
  | 12 => pure .cld
  | 13 => pure .std
  | 14 => do
      let b ← byte
      decode1GroupFE o a b
  | 15 => do
      let b ← byte
      decode1GroupFF o a b
  | _ => throw .undefined

/-- An instruction without its prefixes, at operand size `o` and address size `a` (R160, R190). -/
def decodeInstr (o a : Size) : Dec Instr := do
  let b ← byte
  match b.toNat / 16 with
  | 0 => decode1Row0 o a (b.toNat % 16)
  | 1 => decode1Row1 o a (b.toNat % 16)
  | 2 => decode1Row2 o a (b.toNat % 16)
  | 3 => decode1Row3 o a (b.toNat % 16)
  | 4 => decode1Row4 o a (b.toNat % 16)
  | 5 => decode1Row5 o a (b.toNat % 16)
  | 6 => decode1Row6 o a (b.toNat % 16)
  | 7 => decode1Row7 o a (b.toNat % 16)
  | 8 => decode1Row8 o a (b.toNat % 16)
  | 9 => decode1Row9 o a (b.toNat % 16)
  | 10 => decode1RowA o a (b.toNat % 16)
  | 11 => decode1RowB o a (b.toNat % 16)
  | 12 => decode1RowC o a (b.toNat % 16)
  | 13 => decode1RowD o a (b.toNat % 16)
  | 14 => decode1RowE o a (b.toNat % 16)
  | 15 => decode1RowF o a (b.toNat % 16)
  | _ => throw .undefined

/-- The instruction whose bytes `bs` begin with, or why there is none; what follows it is left over. -/
def decode (o a : Size) (bs : List Byte) : Except DecErr (Instr × List Byte) :=
  match decodeInstr o a bs with
  | .ok i rest => .ok (i, rest)
  | .error e _ => .error e

/-- The prefix bytes (R163). F3H is `rep` here; `prefixInstr` names it `repe` before a comparing string instruction. -/
def prefixByte (b : Byte) : Option Instr :=
  match b.toNat with
  | 0xF0 => some .lock
  | 0xF2 => some .repne
  | 0xF3 => some .rep
  | 0x26 => some .segEs
  | 0x2E => some .segCs
  | 0x36 => some .segSs
  | 0x3E => some .segDs
  | 0x64 => some .segFs
  | 0x65 => some .segGs
  | 0x66 => some .opsize
  | 0x67 => some .adsize
  | _ => none

/-- CMPS and SCAS, before which F3H is REPE (43_string_io.md R432). -/
def Instr.compares : Instr → Bool
  | .cmpsb => true
  | .cmpswCmpsd => true
  | .scasb => true
  | .scaswScasd => true
  | _ => false

/-- A prefix as the row it is before the instruction `i`: the one byte F3H has the two rows REP and REPE. -/
def prefixInstr (i p : Instr) : Instr :=
  match p with
  | .rep => if i.compares then .repe else .rep
  | p => p

/-- The operand-size attribute after the prefixes `ps`, from the code segment's default (R170, R173). -/
def opSize (d : Size) (ps : List Instr) : Size := if ps.contains .opsize then d.flip else d

/-- The address-size attribute after the prefixes `ps` (R171, R173). -/
def adSize (d : Size) (ps : List Instr) : Size := if ps.contains .adsize then d.flip else d

/-- The prefixes `bs` begins with, and the rest (R160, R163). -/
def takePrefixes : List Byte → List Instr × List Byte
  | [] => ([], [])
  | b :: bs =>
      match prefixByte b with
      | some p =>
          let r := takePrefixes bs
          (p :: r.1, r.2)
      | none => ([], b :: bs)

/-- The first thing `bs` spells: a prefix, or an instruction without prefixes. -/
def decodeFirst (d : Size) (bs : List Byte) : Option Instr :=
  match takePrefixes bs with
  | ([], bs) =>
      match decode d d bs with
      | .ok (i, _) => some i
      | .error _ => none
  | (p :: ps, bs) =>
      match decode (opSize d (p :: ps)) (adSize d (p :: ps)) bs with
      | .ok (i, _) => some (prefixInstr i p)
      | .error _ => some p

/-- The `n` low bytes of `w`, first byte lowest. -/
def bytesOf : Nat → Nat → List Byte
  | 0, _ => []
  | n + 1, w => BitVec.ofNat 8 w :: bytesOf n (w / 256)

/-- The bytes of a table word: `nbits` bits of `w`, then zeros up to the longest instruction (R161). -/
def tableBytes (nbits w : Nat) : List Byte :=
  bytesOf 15 (w % 2 ^ nbits)

/-- What the decoder reads from a row's word, in a 16-bit code segment as after reset. -/
def decodeTableWord (nbits w : Nat) : Option Instr :=
  decodeFirst .s16 (tableBytes nbits w)


/-- The instruction may carry a LOCK prefix: a listed instruction whose destination is in memory (R175). -/
def Instr.lockLegal : Instr → Bool
  | .addRm8R8 (.mem _) _ => true
  | .addRmR (.mem _) _ => true
  | .addRm8Imm8 (.mem _) _ => true
  | .addRmImm (.mem _) _ => true
  | .addRmImm8 (.mem _) _ => true
  | .orRm8R8 (.mem _) _ => true
  | .orRmR (.mem _) _ => true
  | .orRm8Imm8 (.mem _) _ => true
  | .orRmImm (.mem _) _ => true
  | .orRmImm8 (.mem _) _ => true
  | .adcRm8R8 (.mem _) _ => true
  | .adcRmR (.mem _) _ => true
  | .adcRm8Imm8 (.mem _) _ => true
  | .adcRmImm (.mem _) _ => true
  | .adcRmImm8 (.mem _) _ => true
  | .sbbRm8R8 (.mem _) _ => true
  | .sbbRmR (.mem _) _ => true
  | .sbbRm8Imm8 (.mem _) _ => true
  | .sbbRmImm (.mem _) _ => true
  | .sbbRmImm8 (.mem _) _ => true
  | .andRm8R8 (.mem _) _ => true
  | .andRmR (.mem _) _ => true
  | .andRm8Imm8 (.mem _) _ => true
  | .andRmImm (.mem _) _ => true
  | .andRmImm8 (.mem _) _ => true
  | .subRm8R8 (.mem _) _ => true
  | .subRmR (.mem _) _ => true
  | .subRm8Imm8 (.mem _) _ => true
  | .subRmImm (.mem _) _ => true
  | .subRmImm8 (.mem _) _ => true
  | .xorRm8R8 (.mem _) _ => true
  | .xorRmR (.mem _) _ => true
  | .xorRm8Imm8 (.mem _) _ => true
  | .xorRmImm (.mem _) _ => true
  | .xorRmImm8 (.mem _) _ => true
  | .incRm8 (.mem _) => true
  | .incRm (.mem _) => true
  | .decRm8 (.mem _) => true
  | .decRm (.mem _) => true
  | .notRm8 (.mem _) => true
  | .notRm (.mem _) => true
  | .negRm8 (.mem _) => true
  | .negRm (.mem _) => true
  | .btsRmR (.mem _) _ => true
  | .btsRmImm8 (.mem _) _ => true
  | .btrRmR (.mem _) _ => true
  | .btrRmImm8 (.mem _) _ => true
  | .btcRmR (.mem _) _ => true
  | .btcRmImm8 (.mem _) _ => true
  | .xchgRm8R8 (.mem _) _ => true
  | .xchgRmR (.mem _) _ => true
  | _ => false

/-- Two bytes, low byte first (R160). -/
def enc16 (v : BitVec 16) : List Byte := [v.setWidth 8, (v >>> 8).setWidth 8]

/-- Four bytes, low byte first (R160). -/
def enc32 (v : BitVec 32) : List Byte := enc16 (v.setWidth 16) ++ enc16 ((v >>> 16).setWidth 16)

/-- A field of 16 or 32 bits by the size attribute (R167). -/
def encV : Size → BitVec 32 → List Byte
  | .s16, v => enc16 (v.setWidth 16)
  | .s32, v => enc32 v

/-- A ModRM or SIB byte of its three fields (R164, R165). -/
def fields (hi mid lo : Nat) : Byte := BitVec.ofNat 8 (hi * 64 + mid * 8 + lo)

/-- The SIB byte of a base number and an index (R165). -/
def encSib (base : Nat) : Option (Reg × Scale) → Byte
  | none => fields 0 4 base
  | some (r, s) => fields s.num r.num base

/-- The ModRM byte with reg field `g`, and what follows it, of a memory operand (R164 to R166). -/
def encMem (g : Nat) : MemOp → List Byte
  | .a16 .none d => fields 0 g 6 :: enc16 d
  | .a16 b d => fields 2 g b.num :: enc16 d
  | .a32 none index d => fields 0 g 4 :: encSib 5 index :: enc32 d
  | .a32 (some r) index d => fields 2 g 4 :: encSib r.num index :: enc32 d

/-- The same of an r/m8 operand. -/
def encRm8 (g : Nat) : RM8 → List Byte
  | .reg r => [fields 3 g r.num]
  | .mem m => encMem g m

/-- The same of an r/m16 or r/m32 operand. -/
def encRm (g : Nat) : RM → List Byte
  | .reg r => [fields 3 g r.num]
  | .mem m => encMem g m

/-- An opcode byte that a register number is added to (R184, R221). -/
def plusNum (op n : Nat) : Byte := BitVec.ofNat 8 (op + n)

/-- One part of an instruction after another (R160). -/
def cat (x y : List Byte) : List Byte := x ++ y

/-- The bytes of an instruction at operand size `o` and address size `a`, without prefixes; a prefix is its byte. -/
def encode (o a : Size) : Instr → List Byte
  | .addRm8R8 d r => 0x00 :: (encRm8 r.num d)
  | .addRmR d r => 0x01 :: (encRm r.num d)
  | .addR8Rm8 r m => 0x02 :: (encRm8 r.num m)
  | .addRRm r m => 0x03 :: (encRm r.num m)
  | .addAlImm8 i => 0x04 :: [i]
  | .addEaxImm i => 0x05 :: (encV o i)
  | .addRm8Imm8 d i => 0x80 :: (cat (encRm8 0 d) ([i]))
  | .addRmImm d i => 0x81 :: (cat (encRm 0 d) (encV o i))
  | .addRmImm8 d i => 0x83 :: (cat (encRm 0 d) ([i]))
  | .orRm8R8 d r => 0x08 :: (encRm8 r.num d)
  | .orRmR d r => 0x09 :: (encRm r.num d)
  | .orR8Rm8 r m => 0x0A :: (encRm8 r.num m)
  | .orRRm r m => 0x0B :: (encRm r.num m)
  | .orAlImm8 i => 0x0C :: [i]
  | .orEaxImm i => 0x0D :: (encV o i)
  | .orRm8Imm8 d i => 0x80 :: (cat (encRm8 1 d) ([i]))
  | .orRmImm d i => 0x81 :: (cat (encRm 1 d) (encV o i))
  | .orRmImm8 d i => 0x83 :: (cat (encRm 1 d) ([i]))
  | .adcRm8R8 d r => 0x10 :: (encRm8 r.num d)
  | .adcRmR d r => 0x11 :: (encRm r.num d)
  | .adcR8Rm8 r m => 0x12 :: (encRm8 r.num m)
  | .adcRRm r m => 0x13 :: (encRm r.num m)
  | .adcAlImm8 i => 0x14 :: [i]
  | .adcEaxImm i => 0x15 :: (encV o i)
  | .adcRm8Imm8 d i => 0x80 :: (cat (encRm8 2 d) ([i]))
  | .adcRmImm d i => 0x81 :: (cat (encRm 2 d) (encV o i))
  | .adcRmImm8 d i => 0x83 :: (cat (encRm 2 d) ([i]))
  | .sbbRm8R8 d r => 0x18 :: (encRm8 r.num d)
  | .sbbRmR d r => 0x19 :: (encRm r.num d)
  | .sbbR8Rm8 r m => 0x1A :: (encRm8 r.num m)
  | .sbbRRm r m => 0x1B :: (encRm r.num m)
  | .sbbAlImm8 i => 0x1C :: [i]
  | .sbbEaxImm i => 0x1D :: (encV o i)
  | .sbbRm8Imm8 d i => 0x80 :: (cat (encRm8 3 d) ([i]))
  | .sbbRmImm d i => 0x81 :: (cat (encRm 3 d) (encV o i))
  | .sbbRmImm8 d i => 0x83 :: (cat (encRm 3 d) ([i]))
  | .andRm8R8 d r => 0x20 :: (encRm8 r.num d)
  | .andRmR d r => 0x21 :: (encRm r.num d)
  | .andR8Rm8 r m => 0x22 :: (encRm8 r.num m)
  | .andRRm r m => 0x23 :: (encRm r.num m)
  | .andAlImm8 i => 0x24 :: [i]
  | .andEaxImm i => 0x25 :: (encV o i)
  | .andRm8Imm8 d i => 0x80 :: (cat (encRm8 4 d) ([i]))
  | .andRmImm d i => 0x81 :: (cat (encRm 4 d) (encV o i))
  | .andRmImm8 d i => 0x83 :: (cat (encRm 4 d) ([i]))
  | .subRm8R8 d r => 0x28 :: (encRm8 r.num d)
  | .subRmR d r => 0x29 :: (encRm r.num d)
  | .subR8Rm8 r m => 0x2A :: (encRm8 r.num m)
  | .subRRm r m => 0x2B :: (encRm r.num m)
  | .subAlImm8 i => 0x2C :: [i]
  | .subEaxImm i => 0x2D :: (encV o i)
  | .subRm8Imm8 d i => 0x80 :: (cat (encRm8 5 d) ([i]))
  | .subRmImm d i => 0x81 :: (cat (encRm 5 d) (encV o i))
  | .subRmImm8 d i => 0x83 :: (cat (encRm 5 d) ([i]))
  | .xorRm8R8 d r => 0x30 :: (encRm8 r.num d)
  | .xorRmR d r => 0x31 :: (encRm r.num d)
  | .xorR8Rm8 r m => 0x32 :: (encRm8 r.num m)
  | .xorRRm r m => 0x33 :: (encRm r.num m)
  | .xorAlImm8 i => 0x34 :: [i]
  | .xorEaxImm i => 0x35 :: (encV o i)
  | .xorRm8Imm8 d i => 0x80 :: (cat (encRm8 6 d) ([i]))
  | .xorRmImm d i => 0x81 :: (cat (encRm 6 d) (encV o i))
  | .xorRmImm8 d i => 0x83 :: (cat (encRm 6 d) ([i]))
  | .cmpRm8R8 d r => 0x38 :: (encRm8 r.num d)
  | .cmpRmR d r => 0x39 :: (encRm r.num d)
  | .cmpR8Rm8 r m => 0x3A :: (encRm8 r.num m)
  | .cmpRRm r m => 0x3B :: (encRm r.num m)
  | .cmpAlImm8 i => 0x3C :: [i]
  | .cmpEaxImm i => 0x3D :: (encV o i)
  | .cmpRm8Imm8 d i => 0x80 :: (cat (encRm8 7 d) ([i]))
  | .cmpRmImm d i => 0x81 :: (cat (encRm 7 d) (encV o i))
  | .cmpRmImm8 d i => 0x83 :: (cat (encRm 7 d) ([i]))
  | .incRm8 d => 0xFE :: (encRm8 0 d)
  | .incRm d => 0xFF :: (encRm 0 d)
  | .incR r => [plusNum 0x40 r.num]
  | .decRm8 d => 0xFE :: (encRm8 1 d)
  | .decRm d => 0xFF :: (encRm 1 d)
  | .decR r => [plusNum 0x48 r.num]
  | .notRm8 d => 0xF6 :: (encRm8 2 d)
  | .notRm d => 0xF7 :: (encRm 2 d)
  | .negRm8 d => 0xF6 :: (encRm8 3 d)
  | .negRm d => 0xF7 :: (encRm 3 d)
  | .mulRm8 d => 0xF6 :: (encRm8 4 d)
  | .mulRm d => 0xF7 :: (encRm 4 d)
  | .imulRm8 d => 0xF6 :: (encRm8 5 d)
  | .imulRm d => 0xF7 :: (encRm 5 d)
  | .divRm8 d => 0xF6 :: (encRm8 6 d)
  | .divRm d => 0xF7 :: (encRm 6 d)
  | .idivRm8 d => 0xF6 :: (encRm8 7 d)
  | .idivRm d => 0xF7 :: (encRm 7 d)
  | .imulRRm r m => 0x0F :: 0xAF :: (encRm r.num m)
  | .imulRRmImm8 r m i => 0x6B :: (cat (encRm r.num m) ([i]))
  | .imulRRmImm r m i => 0x69 :: (cat (encRm r.num m) (encV o i))
  | .cbwCwde => [0x98]
  | .cwdCdq => [0x99]
  | .aaa => [0x37]
  | .aas => [0x3F]
  | .aamImm8 i => 0xD4 :: [i]
  | .aadImm8 i => 0xD5 :: [i]
  | .daa => [0x27]
  | .das => [0x2F]
  | .testAlImm8 i => 0xA8 :: [i]
  | .testEaxImm i => 0xA9 :: (encV o i)
  | .testRm8Imm8 d i => 0xF6 :: (cat (encRm8 0 d) ([i]))
  | .testRmImm d i => 0xF7 :: (cat (encRm 0 d) (encV o i))
  | .testRm8R8 d r => 0x84 :: (encRm8 r.num d)
  | .testRmR d r => 0x85 :: (encRm r.num d)
  | .rolRm8One d => 0xD0 :: (encRm8 0 d)
  | .rolRm8Cl d => 0xD2 :: (encRm8 0 d)
  | .rolRm8Imm8 d i => 0xC0 :: (cat (encRm8 0 d) ([i]))
  | .rolRmOne d => 0xD1 :: (encRm 0 d)
  | .rolRmCl d => 0xD3 :: (encRm 0 d)
  | .rolRmImm8 d i => 0xC1 :: (cat (encRm 0 d) ([i]))
  | .rorRm8One d => 0xD0 :: (encRm8 1 d)
  | .rorRm8Cl d => 0xD2 :: (encRm8 1 d)
  | .rorRm8Imm8 d i => 0xC0 :: (cat (encRm8 1 d) ([i]))
  | .rorRmOne d => 0xD1 :: (encRm 1 d)
  | .rorRmCl d => 0xD3 :: (encRm 1 d)
  | .rorRmImm8 d i => 0xC1 :: (cat (encRm 1 d) ([i]))
  | .rclRm8One d => 0xD0 :: (encRm8 2 d)
  | .rclRm8Cl d => 0xD2 :: (encRm8 2 d)
  | .rclRm8Imm8 d i => 0xC0 :: (cat (encRm8 2 d) ([i]))
  | .rclRmOne d => 0xD1 :: (encRm 2 d)
  | .rclRmCl d => 0xD3 :: (encRm 2 d)
  | .rclRmImm8 d i => 0xC1 :: (cat (encRm 2 d) ([i]))
  | .rcrRm8One d => 0xD0 :: (encRm8 3 d)
  | .rcrRm8Cl d => 0xD2 :: (encRm8 3 d)
  | .rcrRm8Imm8 d i => 0xC0 :: (cat (encRm8 3 d) ([i]))
  | .rcrRmOne d => 0xD1 :: (encRm 3 d)
  | .rcrRmCl d => 0xD3 :: (encRm 3 d)
  | .rcrRmImm8 d i => 0xC1 :: (cat (encRm 3 d) ([i]))
  | .salRm8One d => 0xD0 :: (encRm8 4 d)
  | .salRm8Cl d => 0xD2 :: (encRm8 4 d)
  | .salRm8Imm8 d i => 0xC0 :: (cat (encRm8 4 d) ([i]))
  | .salRmOne d => 0xD1 :: (encRm 4 d)
  | .salRmCl d => 0xD3 :: (encRm 4 d)
  | .salRmImm8 d i => 0xC1 :: (cat (encRm 4 d) ([i]))
  | .shrRm8One d => 0xD0 :: (encRm8 5 d)
  | .shrRm8Cl d => 0xD2 :: (encRm8 5 d)
  | .shrRm8Imm8 d i => 0xC0 :: (cat (encRm8 5 d) ([i]))
  | .shrRmOne d => 0xD1 :: (encRm 5 d)
  | .shrRmCl d => 0xD3 :: (encRm 5 d)
  | .shrRmImm8 d i => 0xC1 :: (cat (encRm 5 d) ([i]))
  | .sarRm8One d => 0xD0 :: (encRm8 7 d)
  | .sarRm8Cl d => 0xD2 :: (encRm8 7 d)
  | .sarRm8Imm8 d i => 0xC0 :: (cat (encRm8 7 d) ([i]))
  | .sarRmOne d => 0xD1 :: (encRm 7 d)
  | .sarRmCl d => 0xD3 :: (encRm 7 d)
  | .sarRmImm8 d i => 0xC1 :: (cat (encRm 7 d) ([i]))
  | .shldRmRImm8 d r i => 0x0F :: 0xA4 :: (cat (encRm r.num d) ([i]))
  | .shldRmRCl d r => 0x0F :: 0xA5 :: (encRm r.num d)
  | .shrdRmRImm8 d r i => 0x0F :: 0xAC :: (cat (encRm r.num d) ([i]))
  | .shrdRmRCl d r => 0x0F :: 0xAD :: (encRm r.num d)
  | .btRmR d r => 0x0F :: 0xA3 :: (encRm r.num d)
  | .btRmImm8 d i => 0x0F :: 0xBA :: (cat (encRm 4 d) ([i]))
  | .btsRmR d r => 0x0F :: 0xAB :: (encRm r.num d)
  | .btsRmImm8 d i => 0x0F :: 0xBA :: (cat (encRm 5 d) ([i]))
  | .btrRmR d r => 0x0F :: 0xB3 :: (encRm r.num d)
  | .btrRmImm8 d i => 0x0F :: 0xBA :: (cat (encRm 6 d) ([i]))
  | .btcRmR d r => 0x0F :: 0xBB :: (encRm r.num d)
  | .btcRmImm8 d i => 0x0F :: 0xBA :: (cat (encRm 7 d) ([i]))
  | .bsfRRm r m => 0x0F :: 0xBC :: (encRm r.num m)
  | .bsrRRm r m => 0x0F :: 0xBD :: (encRm r.num m)
  | .setoRm8 d => 0x0F :: 0x90 :: (encRm8 0 d)
  | .setnoRm8 d => 0x0F :: 0x91 :: (encRm8 0 d)
  | .setbRm8 d => 0x0F :: 0x92 :: (encRm8 0 d)
  | .setaeRm8 d => 0x0F :: 0x93 :: (encRm8 0 d)
  | .seteRm8 d => 0x0F :: 0x94 :: (encRm8 0 d)
  | .setneRm8 d => 0x0F :: 0x95 :: (encRm8 0 d)
  | .setbeRm8 d => 0x0F :: 0x96 :: (encRm8 0 d)
  | .setaRm8 d => 0x0F :: 0x97 :: (encRm8 0 d)
  | .setsRm8 d => 0x0F :: 0x98 :: (encRm8 0 d)
  | .setnsRm8 d => 0x0F :: 0x99 :: (encRm8 0 d)
  | .setpRm8 d => 0x0F :: 0x9A :: (encRm8 0 d)
  | .setnpRm8 d => 0x0F :: 0x9B :: (encRm8 0 d)
  | .setlRm8 d => 0x0F :: 0x9C :: (encRm8 0 d)
  | .setgeRm8 d => 0x0F :: 0x9D :: (encRm8 0 d)
  | .setleRm8 d => 0x0F :: 0x9E :: (encRm8 0 d)
  | .setgRm8 d => 0x0F :: 0x9F :: (encRm8 0 d)
  | .movRm8R8 d r => 0x88 :: (encRm8 r.num d)
  | .movRmR d r => 0x89 :: (encRm r.num d)
  | .movR8Rm8 r m => 0x8A :: (encRm8 r.num m)
  | .movRRm r m => 0x8B :: (encRm r.num m)
  | .movR8Imm8 r i => plusNum 0xB0 r.num :: [i]
  | .movRImm r i => plusNum 0xB8 r.num :: (encV o i)
  | .movRm8Imm8 d i => 0xC6 :: (cat (encRm8 0 d) ([i]))
  | .movRmImm d i => 0xC7 :: (cat (encRm 0 d) (encV o i))
  | .movAlMoffs off => 0xA0 :: (encV a off)
  | .movEaxMoffs off => 0xA1 :: (encV a off)
  | .movMoffsAl off => 0xA2 :: (encV a off)
  | .movMoffsEax off => 0xA3 :: (encV a off)
  | .movRmSreg d sr => 0x8C :: (encRm sr.num d)
  | .movSregRm sr m => 0x8E :: (encRm sr.num m)
  | .movsxRRm8 r m => 0x0F :: 0xBE :: (encRm8 r.num m)
  | .movsxRRm16 r m => 0x0F :: 0xBF :: (encRm r.num m)
  | .movzxRRm8 r m => 0x0F :: 0xB6 :: (encRm8 r.num m)
  | .movzxRRm16 r m => 0x0F :: 0xB7 :: (encRm r.num m)
  | .xchgEaxR r => [plusNum 0x90 r.num]
  | .xchgRm8R8 d r => 0x86 :: (encRm8 r.num d)
  | .xchgRmR d r => 0x87 :: (encRm r.num d)
  | .leaRM r m => 0x8D :: (encMem r.num m)
  | .xlat => [0xD7]
  | .pushRm d => 0xFF :: (encRm 6 d)
  | .pushR r => [plusNum 0x50 r.num]
  | .pushImm8 i => 0x6A :: [i]
  | .pushImm i => 0x68 :: (encV o i)
  | .pushEs => [0x06]
  | .pushCs => [0x0E]
  | .pushSs => [0x16]
  | .pushDs => [0x1E]
  | .pushFs => [0x0F, 0xA0]
  | .pushGs => [0x0F, 0xA8]
  | .popRm d => 0x8F :: (encRm 0 d)
  | .popR r => [plusNum 0x58 r.num]
  | .popEs => [0x07]
  | .popSs => [0x17]
  | .popDs => [0x1F]
  | .popFs => [0x0F, 0xA1]
  | .popGs => [0x0F, 0xA9]
  | .pusha => [0x60]
  | .popa => [0x61]
  | .pushf => [0x9C]
  | .popf => [0x9D]
  | .lahf => [0x9F]
  | .sahf => [0x9E]
  | .ldsRM r m => 0xC5 :: (encMem r.num m)
  | .lesRM r m => 0xC4 :: (encMem r.num m)
  | .lfsRM r m => 0x0F :: 0xB4 :: (encMem r.num m)
  | .lgsRM r m => 0x0F :: 0xB5 :: (encMem r.num m)
  | .lssRM r m => 0x0F :: 0xB2 :: (encMem r.num m)
  | .clc => [0xF8]
  | .cld => [0xFC]
  | .cmc => [0xF5]
  | .stc => [0xF9]
  | .std => [0xFD]
  | .movsb => [0xA4]
  | .movswMovsd => [0xA5]
  | .cmpsb => [0xA6]
  | .cmpswCmpsd => [0xA7]
  | .stosb => [0xAA]
  | .stoswStosd => [0xAB]
  | .lodsb => [0xAC]
  | .lodswLodsd => [0xAD]
  | .scasb => [0xAE]
  | .scaswScasd => [0xAF]
  | .insb => [0x6C]
  | .inswInsd => [0x6D]
  | .outsb => [0x6E]
  | .outswOutsd => [0x6F]
  | .inAlImm8 i => 0xE4 :: [i]
  | .inEaxImm8 i => 0xE5 :: [i]
  | .inAlDx => [0xEC]
  | .inEaxDx => [0xED]
  | .outImm8Al i => 0xE6 :: [i]
  | .outImm8Eax i => 0xE7 :: [i]
  | .outDxAl => [0xEE]
  | .outDxEax => [0xEF]
  | .rep => [0xF3]
  | .repne => [0xF2]
  | .jmpRel8 i => 0xEB :: [i]
  | .jmpRel i => 0xE9 :: (encV o i)
  | .jmpRm d => 0xFF :: (encRm 4 d)
  | .jmpPtr sel off => 0xEA :: (cat (encV o off) (enc16 sel))
  | .jmpMFar m => 0xFF :: (encMem 5 m)
  | .joRel8 i => 0x70 :: [i]
  | .joRel i => 0x0F :: 0x80 :: (encV o i)
  | .jnoRel8 i => 0x71 :: [i]
  | .jnoRel i => 0x0F :: 0x81 :: (encV o i)
  | .jbRel8 i => 0x72 :: [i]
  | .jbRel i => 0x0F :: 0x82 :: (encV o i)
  | .jaeRel8 i => 0x73 :: [i]
  | .jaeRel i => 0x0F :: 0x83 :: (encV o i)
  | .jeRel8 i => 0x74 :: [i]
  | .jeRel i => 0x0F :: 0x84 :: (encV o i)
  | .jneRel8 i => 0x75 :: [i]
  | .jneRel i => 0x0F :: 0x85 :: (encV o i)
  | .jbeRel8 i => 0x76 :: [i]
  | .jbeRel i => 0x0F :: 0x86 :: (encV o i)
  | .jaRel8 i => 0x77 :: [i]
  | .jaRel i => 0x0F :: 0x87 :: (encV o i)
  | .jsRel8 i => 0x78 :: [i]
  | .jsRel i => 0x0F :: 0x88 :: (encV o i)
  | .jnsRel8 i => 0x79 :: [i]
  | .jnsRel i => 0x0F :: 0x89 :: (encV o i)
  | .jpRel8 i => 0x7A :: [i]
  | .jpRel i => 0x0F :: 0x8A :: (encV o i)
  | .jnpRel8 i => 0x7B :: [i]
  | .jnpRel i => 0x0F :: 0x8B :: (encV o i)
  | .jlRel8 i => 0x7C :: [i]
  | .jlRel i => 0x0F :: 0x8C :: (encV o i)
  | .jgeRel8 i => 0x7D :: [i]
  | .jgeRel i => 0x0F :: 0x8D :: (encV o i)
  | .jleRel8 i => 0x7E :: [i]
  | .jleRel i => 0x0F :: 0x8E :: (encV o i)
  | .jgRel8 i => 0x7F :: [i]
  | .jgRel i => 0x0F :: 0x8F :: (encV o i)
  | .jcxzRel8 i => 0xE3 :: [i]
  | .loopRel8 i => 0xE2 :: [i]
  | .loopeRel8 i => 0xE1 :: [i]
  | .loopneRel8 i => 0xE0 :: [i]
  | .callRel i => 0xE8 :: (encV o i)
  | .callRm d => 0xFF :: (encRm 2 d)
  | .callPtr sel off => 0x9A :: (cat (encV o off) (enc16 sel))
  | .callMFar m => 0xFF :: (encMem 3 m)
  | .retNear => [0xC3]
  | .retNearImm16 i => 0xC2 :: (enc16 i)
  | .retFar => [0xCB]
  | .retFarImm16 i => 0xCA :: (enc16 i)
  | .intImm8 i => 0xCD :: [i]
  | .int3 => [0xCC]
  | .into => [0xCE]
  | .int1 => [0xF1]
  | .iret => [0xCF]
  | .enter size level => 0xC8 :: (cat (enc16 size) ([level]))
  | .leave => [0xC9]
  | .boundRM r m => 0x62 :: (encMem r.num m)
  | .hlt => [0xF4]
  | .lock => [0xF0]
  | .wait => [0x9B]
  | .nop => [0x90]
  | .sldtRm16 d => 0x0F :: 0x00 :: (encRm 0 d)
  | .strRm16 d => 0x0F :: 0x00 :: (encRm 1 d)
  | .lldtRm16 d => 0x0F :: 0x00 :: (encRm 2 d)
  | .ltrRm16 d => 0x0F :: 0x00 :: (encRm 3 d)
  | .verrRm16 d => 0x0F :: 0x00 :: (encRm 4 d)
  | .verwRm16 d => 0x0F :: 0x00 :: (encRm 5 d)
  | .sgdtM m => 0x0F :: 0x01 :: (encMem 0 m)
  | .sidtM m => 0x0F :: 0x01 :: (encMem 1 m)
  | .lgdtM m => 0x0F :: 0x01 :: (encMem 2 m)
  | .lidtM m => 0x0F :: 0x01 :: (encMem 3 m)
  | .smswRm16 d => 0x0F :: 0x01 :: (encRm 4 d)
  | .lmswRm16 d => 0x0F :: 0x01 :: (encRm 6 d)
  | .larRRm16 r m => 0x0F :: 0x02 :: (encRm r.num m)
  | .lslRRm16 r m => 0x0F :: 0x03 :: (encRm r.num m)
  | .clts => [0x0F, 0x06]
  | .movRCr r c => 0x0F :: 0x20 :: [fields 3 c.num r.num]
  | .movCrR c r => 0x0F :: 0x22 :: [fields 3 c.num r.num]
  | .movRDr r n => 0x0F :: 0x21 :: [fields 3 n.toNat r.num]
  | .movDrR n r => 0x0F :: 0x23 :: [fields 3 n.toNat r.num]
  | .arplRm16R16 d r => 0x63 :: (encRm r.num d)
  | .cli => [0xFA]
  | .sti => [0xFB]
  | .fldM32 m => 0xD9 :: (encMem 0 m)
  | .fldM64 m => 0xDD :: (encMem 0 m)
  | .fldM80 m => 0xDB :: (encMem 5 m)
  | .fldSt i => [0xD9, plusNum 0xC0 i.toNat]
  | .fld1 => [0xD9, 0xE8]
  | .fldl2t => [0xD9, 0xE9]
  | .fldl2e => [0xD9, 0xEA]
  | .fldpi => [0xD9, 0xEB]
  | .fldlg2 => [0xD9, 0xEC]
  | .fldln2 => [0xD9, 0xED]
  | .fldz => [0xD9, 0xEE]
  | .fstM32 m => 0xD9 :: (encMem 2 m)
  | .fstM64 m => 0xDD :: (encMem 2 m)
  | .fstSt i => [0xDD, plusNum 0xD0 i.toNat]
  | .fstpM32 m => 0xD9 :: (encMem 3 m)
  | .fstpM64 m => 0xDD :: (encMem 3 m)
  | .fstpM80 m => 0xDB :: (encMem 7 m)
  | .fstpSt i => [0xDD, plusNum 0xD8 i.toNat]
  | .fildM16 m => 0xDF :: (encMem 0 m)
  | .fildM32 m => 0xDB :: (encMem 0 m)
  | .fildM64 m => 0xDF :: (encMem 5 m)
  | .fistM16 m => 0xDF :: (encMem 2 m)
  | .fistM32 m => 0xDB :: (encMem 2 m)
  | .fistpM16 m => 0xDF :: (encMem 3 m)
  | .fistpM32 m => 0xDB :: (encMem 3 m)
  | .fistpM64 m => 0xDF :: (encMem 7 m)
  | .fbldM80 m => 0xDF :: (encMem 4 m)
  | .fbstpM80 m => 0xDF :: (encMem 6 m)
  | .fxchSt i => [0xD9, plusNum 0xC8 i.toNat]
  | .faddM32 m => 0xD8 :: (encMem 0 m)
  | .faddM64 m => 0xDC :: (encMem 0 m)
  | .faddSt0Sti i => [0xD8, plusNum 0xC0 i.toNat]
  | .faddStiSt0 i => [0xDC, plusNum 0xC0 i.toNat]
  | .faddpStiSt0 i => [0xDE, plusNum 0xC0 i.toNat]
  | .fiaddM32 m => 0xDA :: (encMem 0 m)
  | .fiaddM16 m => 0xDE :: (encMem 0 m)
  | .fmulM32 m => 0xD8 :: (encMem 1 m)
  | .fmulM64 m => 0xDC :: (encMem 1 m)
  | .fmulSt0Sti i => [0xD8, plusNum 0xC8 i.toNat]
  | .fmulStiSt0 i => [0xDC, plusNum 0xC8 i.toNat]
  | .fmulpStiSt0 i => [0xDE, plusNum 0xC8 i.toNat]
  | .fimulM32 m => 0xDA :: (encMem 1 m)
  | .fimulM16 m => 0xDE :: (encMem 1 m)
  | .fsubM32 m => 0xD8 :: (encMem 4 m)
  | .fsubM64 m => 0xDC :: (encMem 4 m)
  | .fsubSt0Sti i => [0xD8, plusNum 0xE0 i.toNat]
  | .fsubStiSt0 i => [0xDC, plusNum 0xE8 i.toNat]
  | .fsubpStiSt0 i => [0xDE, plusNum 0xE8 i.toNat]
  | .fisubM32 m => 0xDA :: (encMem 4 m)
  | .fisubM16 m => 0xDE :: (encMem 4 m)
  | .fsubrM32 m => 0xD8 :: (encMem 5 m)
  | .fsubrM64 m => 0xDC :: (encMem 5 m)
  | .fsubrSt0Sti i => [0xD8, plusNum 0xE8 i.toNat]
  | .fsubrStiSt0 i => [0xDC, plusNum 0xE0 i.toNat]
  | .fsubrpStiSt0 i => [0xDE, plusNum 0xE0 i.toNat]
  | .fisubrM32 m => 0xDA :: (encMem 5 m)
  | .fisubrM16 m => 0xDE :: (encMem 5 m)
  | .fdivM32 m => 0xD8 :: (encMem 6 m)
  | .fdivM64 m => 0xDC :: (encMem 6 m)
  | .fdivSt0Sti i => [0xD8, plusNum 0xF0 i.toNat]
  | .fdivStiSt0 i => [0xDC, plusNum 0xF8 i.toNat]
  | .fdivpStiSt0 i => [0xDE, plusNum 0xF8 i.toNat]
  | .fidivM32 m => 0xDA :: (encMem 6 m)
  | .fidivM16 m => 0xDE :: (encMem 6 m)
  | .fdivrM32 m => 0xD8 :: (encMem 7 m)
  | .fdivrM64 m => 0xDC :: (encMem 7 m)
  | .fdivrSt0Sti i => [0xD8, plusNum 0xF8 i.toNat]
  | .fdivrStiSt0 i => [0xDC, plusNum 0xF0 i.toNat]
  | .fdivrpStiSt0 i => [0xDE, plusNum 0xF0 i.toNat]
  | .fidivrM32 m => 0xDA :: (encMem 7 m)
  | .fidivrM16 m => 0xDE :: (encMem 7 m)
  | .fsqrt => [0xD9, 0xFA]
  | .fscale => [0xD9, 0xFD]
  | .fprem => [0xD9, 0xF8]
  | .fprem1 => [0xD9, 0xF5]
  | .frndint => [0xD9, 0xFC]
  | .fxtract => [0xD9, 0xF4]
  | .fabs => [0xD9, 0xE1]
  | .fchs => [0xD9, 0xE0]
  | .fcomM32 m => 0xD8 :: (encMem 2 m)
  | .fcomM64 m => 0xDC :: (encMem 2 m)
  | .fcomSt i => [0xD8, plusNum 0xD0 i.toNat]
  | .fcompM32 m => 0xD8 :: (encMem 3 m)
  | .fcompM64 m => 0xDC :: (encMem 3 m)
  | .fcompSt i => [0xD8, plusNum 0xD8 i.toNat]
  | .fcompp => [0xDE, 0xD9]
  | .ficomM16 m => 0xDE :: (encMem 2 m)
  | .ficomM32 m => 0xDA :: (encMem 2 m)
  | .ficompM16 m => 0xDE :: (encMem 3 m)
  | .ficompM32 m => 0xDA :: (encMem 3 m)
  | .ftst => [0xD9, 0xE4]
  | .fucomSt i => [0xDD, plusNum 0xE0 i.toNat]
  | .fucompSt i => [0xDD, plusNum 0xE8 i.toNat]
  | .fucompp => [0xDA, 0xE9]
  | .fxam => [0xD9, 0xE5]
  | .f2xm1 => [0xD9, 0xF0]
  | .fyl2x => [0xD9, 0xF1]
  | .fyl2xp1 => [0xD9, 0xF9]
  | .fptan => [0xD9, 0xF2]
  | .fpatan => [0xD9, 0xF3]
  | .fsin => [0xD9, 0xFE]
  | .fcos => [0xD9, 0xFF]
  | .fsincos => [0xD9, 0xFB]
  | .fninit => [0xDB, 0xE3]
  | .fnclex => [0xDB, 0xE2]
  | .fldcwM16 m => 0xD9 :: (encMem 5 m)
  | .fnstcwM16 m => 0xD9 :: (encMem 7 m)
  | .fnstswM16 m => 0xDD :: (encMem 7 m)
  | .fnstswAx => [0xDF, 0xE0]
  | .fldenvEnv m => 0xD9 :: (encMem 4 m)
  | .fnstenvEnv m => 0xD9 :: (encMem 6 m)
  | .fnsaveFull m => 0xDD :: (encMem 6 m)
  | .frstorFull m => 0xDD :: (encMem 4 m)
  | .fincstp => [0xD9, 0xF7]
  | .fdecstp => [0xD9, 0xF6]
  | .ffreeSt i => [0xDD, plusNum 0xC0 i.toNat]
  | .fnop => [0xD9, 0xD0]
  | .feni => [0xDB, 0xE0]
  | .fdisi => [0xDB, 0xE1]
  | .fsetpm => [0xDB, 0xE4]
  | .repe => [0xF3]
  | .segEs => [0x26]
  | .segCs => [0x2E]
  | .segSs => [0x36]
  | .segDs => [0x3E]
  | .segFs => [0x64]
  | .segGs => [0x65]
  | .opsize => [0x66]
  | .adsize => [0x67]

end Sys2Proof

end
end

