-- ==== Sys2Proof/Machine/State.lean ====
section
/-!
DEFINITION. The state of the machine: every piece of 10_state.md R73, the coprocessor's registers (R69), the hidden
state of R71, memory, and the model's own fields; the reasons a step can stop; and the state after reset (R801).
-/

namespace Sys2Proof.Machine

/-- The eight general registers (R40). -/
structure Regs where
  eax : Word
  ecx : Word
  edx : Word
  ebx : Word
  esp : Word
  ebp : Word
  esi : Word
  edi : Word
  deriving DecidableEq, Repr

/-- EFLAGS by its flags (R52); the reserved bits are constants and are no storage. -/
structure Flags where
  cf : Bool
  pf : Bool
  af : Bool
  zf : Bool
  sf : Bool
  tf : Bool
  ifl : Bool
  df : Bool
  of : Bool
  iopl : BitVec 2
  nt : Bool
  rf : Bool
  vm : Bool
  deriving DecidableEq, Repr

/-- A segment register: the selector and its hidden part (R48, R56). -/
structure SegReg where
  selector : Half
  valid : Bool
  base : Word
  limit : Word
  type : BitVec 4
  s : Bool
  dpl : BitVec 2
  p : Bool
  db : Bool
  g : Bool
  deriving DecidableEq, Repr

/-- The six segment registers (R48). -/
structure Segs where
  es : SegReg
  cs : SegReg
  ss : SegReg
  ds : SegReg
  fs : SegReg
  gs : SegReg
  deriving DecidableEq, Repr

/-- GDTR or IDTR (R57). -/
structure TableReg where
  base : Word
  limit : Half
  deriving DecidableEq, Repr

/-- LDTR or TR (R58, R59). -/
structure SysReg where
  selector : Half
  valid : Bool
  base : Word
  limit : Word
  type : BitVec 4
  deriving DecidableEq, Repr

/-- CR0 by its bits (R64). -/
structure Cr0 where
  pe : Bool
  mp : Bool
  em : Bool
  ts : Bool
  et : Bool
  pg : Bool
  deriving DecidableEq, Repr

/-- The debug registers (R67). The reserved bits of DR6 hold 0 while the debug registers function. -/
structure DebugRegs where
  dr0 : Word
  dr1 : Word
  dr2 : Word
  dr3 : Word
  dr6 : Word
  dr7 : Word
  deriving DecidableEq, Repr

/-- An x87 tag (46_x87_a.md R605). -/
inductive Tag
  | valid | zero | special | empty
  deriving DecidableEq, Repr

/-- Eight like things: the x87 registers and their tags by physical number (46_x87_a.md R602). -/
structure Oct (α : Type) where
  x0 : α
  x1 : α
  x2 : α
  x3 : α
  x4 : α
  x5 : α
  x6 : α
  x7 : α
  deriving DecidableEq, Repr

/-- The stored bits of the x87 status word; ES and B are derived from them and the control word (46_x87_a.md R604). -/
structure Fsw where
  ie : Bool
  de : Bool
  ze : Bool
  oe : Bool
  ue : Bool
  pe : Bool
  sf : Bool
  c0 : Bool
  c1 : Bool
  c2 : Bool
  c3 : Bool
  top : BitVec 3
  deriving DecidableEq, Repr

/-- A selector and an offset. -/
structure FarPtr where
  sel : Half
  off : Word
  deriving DecidableEq, Repr

/-- An x87 instruction or data pointer (46_x87_a.md R614): a selector and an offset, or a linear address that came from a
real-mode image (47_x87_b.md R685, D5). -/
inductive FpuPtr
  | far (sel : Half) (off : Word)
  | linear (addr : Word)
  deriving DecidableEq, Repr

/-- The coprocessor's registers (10_state.md R69). -/
structure Fpu where
  fpr : Oct Ext
  tags : Oct Tag
  fcw : Half
  fsw : Fsw
  fip : FpuPtr
  fdp : FpuPtr
  fop : BitVec 11
  deriving DecidableEq, Repr

/-- The run state (R70). -/
inductive Run
  | running | halted | shutdown
  deriving DecidableEq, Repr

/-- The interrupt shadow and its cause (R71, 60_exceptions.md R735). -/
inductive Shadow
  | none | ssLoad | sti
  deriving DecidableEq, Repr

/-- The pending trap set (R71, 60_exceptions.md R761), and where the instruction that caused it began (R723). -/
structure Pending where
  step : Bool
  task : Bool
  data : BitVec 4
  /-- Breakpoints whose condition was met and which DR7 does not enable: Bi may be set for them (R761, log 19). -/
  loose : BitVec 4
  cs : Half
  eip : Word
  deriving DecidableEq, Repr

/-- A cached translation (20_memory.md R133). -/
structure TlbEntry where
  page : BitVec 20
  frame : BitVec 20
  user : Bool
  writable : Bool
  dirty : Bool
  deriving DecidableEq, Repr

/-- A repeat prefix (30_encoding.md R176). -/
inductive Rep
  | rep | repne
  deriving DecidableEq, Repr

/-- A result of a transcendental function (47_x87_b.md R672): the number `(-1)^neg * sig * 2^exp`, whether it is inexact, and
whether its magnitude was rounded up. -/
structure Approx where
  neg : Bool
  sig : BitVec 64
  exp : Int
  inexact : Bool
  up : Bool
  deriving DecidableEq, Repr

/-- What X87_FN gives for the operands of the instruction in progress (47_x87_b.md R672), function by function; the step
supplies it (`x87Answers`, log 20). -/
structure X87Answers where
  f2xm1 : Approx
  fyl2x : Approx
  fyl2xp1 : Approx
  ftan : Approx
  fatan : Approx
  fsin : Approx
  fcos : Approx
  deriving DecidableEq, Repr

/-- What became of the instruction in progress. -/
inductive Event
  | none | soft | fault
  deriving DecidableEq, Repr

/-- What is known of the instruction in progress: the prefixes recorded (30_encoding.md R160), where the next
instruction begins, and what the end of the step needs. It is written anew by every step (assumption log 13). -/
structure Ins where
  opsize : Bool
  adsize : Bool
  seg : Option SReg
  lock : Bool
  rep : Option Rep
  /-- curEIP: the offset of the first byte, prefixes included (R46). -/
  curEip : Word
  nextEip : Word
  /-- The opcode bits an x87 instruction records: the low bits of its first byte, and its ModRM byte (46_x87_a.md R614). -/
  fop : BitVec 11
  /-- Table bytes written on the processor's own account, which a fault does not undo (60_exceptions.md R730). -/
  sysLog : List Host.Cell
  /-- Data breakpoints touched (60_exceptions.md R761 (b)). -/
  hits : BitVec 4
  /-- Breakpoints met that DR7 does not enable (60_exceptions.md R761, log 19). -/
  loose : BitVec 4
  event : Event
  /-- RF was loaded by this instruction (60_exceptions.md R734). -/
  keepRf : Bool
  /-- A task whose TSS has T = 1 was entered (44_control.md R496). -/
  taskTrap : Bool
  /-- The transcendental functions at the operands of this instruction (47_x87_b.md R672, log 20). -/
  x87 : X87Answers
  deriving DecidableEq, Repr

/-- One access to the I/O space (20_memory.md R150): the ports it addresses, the lowest byte's first. -/
inductive IoAccess
  | read (ports : List Half)
  | write (ports : List Half) (value : Word)
  deriving DecidableEq, Repr

/-- The arguments of `Reset(params)` (00_scope.md R17, R18, 70_reset_and_hazards.md R801): what reset leaves undefined. -/
structure ResetParams where
  eax : Word
  ecx : Word
  /-- RESET_EDX, but for DH, which reset fixes. -/
  edx : Word
  ebx : Word
  esp : Word
  ebp : Word
  esi : Word
  edi : Word
  /-- RESET_CR0_ET. -/
  et : Bool
  cr2 : Word
  cr3 : Word
  gdtr : TableReg
  /-- RESET_LDTR and RESET_TR: reset makes them unusable whatever they hold. -/
  ldtr : SysReg
  tr : SysReg
  dr0 : Word
  dr1 : Word
  dr2 : Word
  dr3 : Word
  dr6 : Word
  fpr : Oct Ext
  deriving DecidableEq, Repr

/-- Physical memory: the bytes that are not what an unlisted address reads as, by rising address. -/
abbrev Memory := List Host.Cell

end Sys2Proof.Machine

namespace Sys2Proof.Machine

/-- The state of the machine (R73). -/
structure State where
  regs : Regs
  eip : Word
  flags : Flags
  segs : Segs
  cpl : BitVec 2
  gdtr : TableReg
  idtr : TableReg
  ldtr : SysReg
  tr : SysReg
  cr0 : Cr0
  cr2 : Word
  cr3 : Word
  dbg : DebugRegs
  fpu : Fpu
  run : Run
  shadow : Shadow
  nmiBlocked : Bool
  nmiPending : Bool
  intr : Bool
  /-- The RESET input with its arguments, when the platform has asserted it (R18, 70_reset_and_hazards.md R800). -/
  resetIn : Option ResetParams
  pending : Pending
  tlb : List TlbEntry
  mem : Memory
  /-- The model's: the parameters (log 4). -/
  cfg : Config
  /-- The model's: how many free values have been drawn (log 9). -/
  draws : Nat
  /-- The model's: the accesses made to the I/O space, newest first (log 10). -/
  io : List IoAccess
  /-- The model's: the instruction in progress (log 13). -/
  ins : Ins
  /-- The model's: a repeated string instruction has iterations left (log 14). -/
  inRep : Bool
  deriving DecidableEq, Repr

/-- The host's faults. No rule of the spec stops this machine: every exception is taken and a failed double fault is
the run state `shutdown`. -/
inductive Fault
  /-- Raised by nothing. Safe. -/
  | none
  deriving DecidableEq, Repr

/-- The reasons a step is refused. -/
inductive Refusal
  /-- Raised by an arm of `exec` whose instruction has no meaning yet. Safe: the machine stops. -/
  | notModelled (mnemonic : String)
  /-- Raised by an escape instruction with HAS_X87 = false and CR0.EM = CR0.TS = 0 (93_implementation_defined.md U2). Safe. -/
  | noCoprocessor
  /-- Raised by an escape encoding that the spec does not define, with CR0.EM = CR0.TS = 0 (U8, D7). Safe. -/
  | undefinedEscape
  deriving DecidableEq, Repr

/-- A data segment register after reset (R801); DPL and G are DEDUCED (log 6). -/
def SegReg.resetData : SegReg :=
  { selector := 0, valid := true, base := 0, limit := 0xFFFF, type := 0b0011, s := true, dpl := 0, p := true,
    db := false, g := false }

/-- CS after reset (R801). -/
def SegReg.resetCode : SegReg :=
  { selector := 0xF000, valid := true, base := 0xFFFF0000, limit := 0xFFFF, type := 0b1011, s := true, dpl := 0,
    p := true, db := false, g := false }

/-- LDTR and TR after reset: invalid (R58, R59); DESIGN CHOICE zeros (log 6). -/
def SysReg.reset : SysReg := { selector := 0, valid := false, base := 0, limit := 0, type := 0 }

/-- Eight times the same. -/
def Oct.all {α : Type} (x : α) : Oct α := ⟨x, x, x, x, x, x, x, x⟩

/-- The coprocessor as FNINIT leaves it (R801, D32), the registers a DESIGN CHOICE zero (log 8). -/
def Fpu.reset : Fpu :=
  { fpr := Oct.all 0, tags := Oct.all .empty, fcw := 0x037F,
    fsw := { ie := false, de := false, ze := false, oe := false, ue := false, pe := false, sf := false,
             c0 := false, c1 := false, c2 := false, c3 := false, top := 0 },
    fip := .far 0 0, fdp := .far 0 0, fop := 0 }

/-- No trap pending. -/
def Pending.none : Pending := { step := false, task := false, data := 0, loose := 0, cs := 0, eip := 0 }

/-- No result. -/
def Approx.zero : Approx := { neg := false, sig := 0, exp := 0, inexact := false, up := false }

/-- No results. -/
def X87Answers.none : X87Answers :=
  { f2xm1 := .zero, fyl2x := .zero, fyl2xp1 := .zero, ftan := .zero, fatan := .zero, fsin := .zero, fcos := .zero }

/-- No instruction in progress. -/
def Ins.none : Ins :=
  { opsize := false, adsize := false, seg := .none, lock := false, rep := .none, curEip := 0, nextEip := 0, fop := 0, sysLog := [],
    hits := 0, loose := 0, event := .none, keepRf := false, taskTrap := false, x87 := .none }

/-- The machine right after reset (R801); the registers R801 leaves undefined are zero (logs 5 to 8). -/
def State.reset : State :=
  { regs := { eax := 0, ecx := 0, edx := 0x300, ebx := 0, esp := 0, ebp := 0, esi := 0, edi := 0 },
    eip := 0xFFF0,
    flags := { cf := false, pf := false, af := false, zf := false, sf := false, tf := false, ifl := false,
               df := false, of := false, iopl := 0, nt := false, rf := false, vm := false },
    segs := { es := SegReg.resetData, cs := SegReg.resetCode, ss := SegReg.resetData, ds := SegReg.resetData,
              fs := SegReg.resetData, gs := SegReg.resetData },
    cpl := 0,
    gdtr := { base := 0, limit := 0 },
    idtr := { base := 0, limit := 0x3FF },
    ldtr := SysReg.reset, tr := SysReg.reset,
    cr0 := { pe := false, mp := false, em := false, ts := false, et := true, pg := false },
    cr2 := 0, cr3 := 0,
    dbg := { dr0 := 0, dr1 := 0, dr2 := 0, dr3 := 0, dr6 := 0, dr7 := 0 },
    fpu := Fpu.reset,
    run := .running, shadow := .none, nmiBlocked := false, nmiPending := false, intr := false,
    resetIn := none, pending := Pending.none, tlb := [], mem := [],
    cfg := Config.default, draws := 0, io := [], ins := Ins.none, inRep := false }

end Sys2Proof.Machine
end

