-- ==== Sys2Proof/Machine/Monad.lean ====
section
/-!
DEFINITION. The form in which meanings are written (state in, state or a stop out), and the plain accessors of the
registers: general registers (R40 to R45), EFLAGS (R52), segment registers (R48), control and debug registers.
-/

namespace Sys2Proof.Machine

/-- An exception as it is raised (60_exceptions.md R721, R726, R727): the vector; the error code it pushes in protected
mode; what it writes to CR2, DR6 and DR7.GD; whether the pushed EFLAGS image has RF = 1 (R734); and the stack pointers of the
instruction with which it is not delivered but ends in shutdown (42_data_move.md R359, R366). -/
structure Exn where
  vec : BitVec 8
  ec : Option Half
  cr2 : Option Word
  dr6 : Word
  clearGd : Bool
  pushRf : Bool
  deadSp : List Word
  deriving DecidableEq, Repr

/-- Why an operation gives no result: an exception (`committed` when it belongs to the task just entered, R730 (c)), a
wait (the instruction is to be tried again at the next step), or a refusal. -/
inductive Stop
  | exc (e : Exn) (committed : Bool)
  | wait
  | refuse (r : Refusal)
  deriving DecidableEq, Repr

/-- An operation of the machine. -/
abbrev M := EStateM Stop State

/-- The state. -/
def getS : M State := fun s => .ok s s

/-- Change the state. -/
def upd (f : State → State) : M Unit := fun s => .ok () (f s)

/-- Stop. -/
def stop {α : Type} (e : Stop) : M α := fun s => .error e s

/-- Do nothing. -/
def skip : M Unit := fun s => .ok () s

/-- `x` when `c` holds. -/
def onlyIf (c : Bool) (x : M Unit) : M Unit := if c then x else skip

/-- `x` for each element, in order. -/
def forEach {α : Type} (l : List α) (x : α → M Unit) : M Unit :=
  match l with
  | [] => skip
  | a :: as => do
      x a
      forEach as x

/-! ### Raising exceptions (60_exceptions.md R721) -/

/-- The exception of a vector with no other effect. -/
def Exn.plain (v : BitVec 8) (ec : Option Half) : Exn :=
  { vec := v, ec := ec, cr2 := none, dr6 := 0, clearGd := false, pushRf := true, deadSp := [] }

/-- Raise an exception. -/
def raise {α : Type} (e : Exn) : M α := stop (.exc e false)

/-- The error code that names a selector: its RPL bits cleared (60_exceptions.md R726). -/
def selCode (sel : Half) : Half := sel &&& 0xFFFC

/-- #DE (R760). -/
def raiseDE {α : Type} : M α := raise (.plain 0 none)
/-- #BR (R765). -/
def raiseBR {α : Type} : M α := raise (.plain 5 none)
/-- #UD (R766). -/
def raiseUD {α : Type} : M α := raise (.plain 6 none)
/-- #NM (R767). -/
def raiseNM {α : Type} : M α := raise (.plain 7 none)
/-- #MF (R776). -/
def raiseMF {α : Type} : M α := raise (.plain 16 none)
/-- #TS (R770). -/
def raiseTS {α : Type} (ec : Half) : M α := raise (.plain 10 (some ec))
/-- #NP (R771). -/
def raiseNP {α : Type} (ec : Half) : M α := raise (.plain 11 (some ec))
/-- #SS (R772). -/
def raiseSS {α : Type} (ec : Half) : M α := raise (.plain 12 (some ec))
/-- #SS that ends in shutdown with these stack pointers (42_data_move.md R359, R366). -/
def raiseDeadSS {α : Type} (dead : List Word) (ec : Half) : M α := raise { Exn.plain 12 (some ec) with deadSp := dead }
/-- #SS of a push of `n` bytes: one of four bytes in real-address mode on a 16-bit stack is not delivered with SP = 1, 2 or 3
(42_data_move.md R359; log 32). -/
def raisePush {α : Type} (n : Nat) (ec : Half) : M α := fun s =>
  raiseDeadSS (if !s.cr0.pe && !s.segs.ss.db && decide (n = 4) then [1, 2, 3] else []) ec s
/-- #GP (R773). -/
def raiseGP {α : Type} (ec : Half) : M α := raise (.plain 13 (some ec))
/-- #PF (R774): the error code of R727 and the linear address for CR2. -/
def raisePF {α : Type} (present write user : Bool) (la : Word) : M α :=
  raise { Exn.plain 14 (some (BitVec.ofNat 16 (present.toNat + 2 * write.toNat + 4 * user.toNat))) with cr2 := some la }

/-- Raise unless the condition holds. -/
def check (c : Bool) (e : M Unit) : M Unit := if c then skip else e

/-! ### Free values (00_scope.md R22; log 9) -/

/-- A free bit. -/
def drawBit : M Bool := fun s => .ok (Config.freeBit s.draws) { s with draws := s.draws + 1 }

/-- A free word. -/
def drawWord : M Word := fun s => .ok (Config.freeWord s.draws) { s with draws := s.draws + 1 }

/-- A free x87 register value. -/
def drawExt : M Ext := fun s => .ok (Config.freeExt s.draws) { s with draws := s.draws + 1 }

/-! ### General registers (R40 to R42) -/

/-- The 32-bit register. -/
def Regs.get (g : Regs) : Reg → Word
  | .eax => g.eax | .ecx => g.ecx | .edx => g.edx | .ebx => g.ebx
  | .esp => g.esp | .ebp => g.ebp | .esi => g.esi | .edi => g.edi

/-- Write the 32-bit register. -/
def Regs.set (g : Regs) (r : Reg) (v : Word) : Regs :=
  match r with
  | .eax => { g with eax := v } | .ecx => { g with ecx := v } | .edx => { g with edx := v }
  | .ebx => { g with ebx := v } | .esp => { g with esp := v } | .ebp => { g with ebp := v }
  | .esi => { g with esi := v } | .edi => { g with edi := v }

/-- The 16-bit name of a register: bits 15:0 (R40). -/
def Regs.get16 (g : Regs) (r : Reg) : Half := (g.get r).setWidth 16

/-- A word with new bits 15:0. -/
def withLow16 (w : Word) (v : Half) : Word := (w &&& 0xFFFF0000) ||| v.setWidth 32

/-- Write bits 15:0; bits 31:16 stay (R42). -/
def Regs.set16 (g : Regs) (r : Reg) (v : Half) : Regs := g.set r (withLow16 (g.get r) v)

/-- The register a byte register is part of, and whether it is bits 15:8 (R41). -/
def reg8Part : Reg8 → Reg × Bool
  | .al => (.eax, false) | .cl => (.ecx, false) | .dl => (.edx, false) | .bl => (.ebx, false)
  | .ah => (.eax, true) | .ch => (.ecx, true) | .dh => (.edx, true) | .bh => (.ebx, true)

/-- The byte register (R41). -/
def Regs.get8 (g : Regs) (r : Reg8) : Byte :=
  match reg8Part r with
  | (q, false) => (g.get q).setWidth 8
  | (q, true) => ((g.get q) >>> 8).setWidth 8

/-- Write a byte register; the other bits stay (R42). -/
def Regs.set8 (g : Regs) (r : Reg8) (v : Byte) : Regs :=
  match reg8Part r with
  | (q, false) => g.set q ((g.get q &&& 0xFFFFFF00) ||| v.setWidth 32)
  | (q, true) => g.set q ((g.get q &&& 0xFFFF00FF) ||| (v.setWidth 32 <<< 8))

/-- Read a 32-bit register. -/
def reg (r : Reg) : M Word := fun s => .ok (s.regs.get r) s

/-- Write a 32-bit register. -/
def setReg (r : Reg) (v : Word) : M Unit := upd fun s => { s with regs := s.regs.set r v }

/-- Write a 16-bit register. -/
def setReg16 (r : Reg) (v : Half) : M Unit := upd fun s => { s with regs := s.regs.set16 r v }

/-- Write a byte register. -/
def setReg8 (r : Reg8) (v : Byte) : M Unit := upd fun s => { s with regs := s.regs.set8 r v }

/-- Read the 16- or 32-bit register, zero-extended. -/
def Regs.getV (g : Regs) (o : Size) (r : Reg) : Word :=
  match o with
  | .s16 => (g.get16 r).setWidth 32
  | .s32 => g.get r

/-- Write the 16- or 32-bit register. -/
def Regs.setV (g : Regs) (o : Size) (r : Reg) (v : Word) : Regs :=
  match o with
  | .s16 => g.set16 r (v.setWidth 16)
  | .s32 => g.set r v

/-- Read the 16- or 32-bit register, zero-extended. -/
def regV (o : Size) (r : Reg) : M Word := fun s => .ok (s.regs.getV o r) s

/-- Write the 16- or 32-bit register. -/
def setRegV (o : Size) (r : Reg) (v : Word) : M Unit := upd fun s => { s with regs := s.regs.setV o r v }

/-! ### EFLAGS (R52) -/

/-- A bit at a place of a word. -/
def bitAt (b : Bool) (i : Nat) : Word := if b then BitVec.twoPow 32 i else 0

/-- The EFLAGS word: bit 1 reads 1, the other reserved bits 0 (R52). -/
def Flags.toWord (f : Flags) : Word :=
  2 ||| bitAt f.cf 0 ||| bitAt f.pf 2 ||| bitAt f.af 4 ||| bitAt f.zf 6 ||| bitAt f.sf 7 ||| bitAt f.tf 8
    ||| bitAt f.ifl 9 ||| bitAt f.df 10 ||| bitAt f.of 11 ||| (f.iopl.setWidth 32 <<< 12) ||| bitAt f.nt 14
    ||| bitAt f.rf 16 ||| bitAt f.vm 17

/-- The flags of an EFLAGS word; the reserved bits are ignored (R52). -/
def Flags.ofWord (w : Word) : Flags :=
  { cf := w.getLsbD 0, pf := w.getLsbD 2, af := w.getLsbD 4, zf := w.getLsbD 6, sf := w.getLsbD 7, tf := w.getLsbD 8,
    ifl := w.getLsbD 9, df := w.getLsbD 10, of := w.getLsbD 11, iopl := w.extractLsb' 12 2, nt := w.getLsbD 14,
    rf := w.getLsbD 16, vm := w.getLsbD 17 }

/-- The flags. -/
def getFlags : M Flags := fun s => .ok s.flags s

/-- Change the flags. -/
def updFlags (f : Flags → Flags) : M Unit := upd fun s => { s with flags := f s.flags }

/-! ### Modes (60_exceptions.md R780) -/

/-- Protected mode: PE = 1 and VM = 0 (R782). -/
def State.protectedMode (s : State) : Bool := s.cr0.pe && !s.flags.vm

/-- Virtual-8086 mode: PE = 1 and VM = 1 (R783). -/
def State.v86 (s : State) : Bool := s.cr0.pe && s.flags.vm

/-- The processor's own accesses aside, CPL 3 makes user accesses (20_memory.md R131). -/
def State.user (s : State) : Bool := decide (s.cpl = 3)

/-! ### Segment registers (R48) -/

/-- A segment register. -/
def Segs.get (g : Segs) : SReg → SegReg
  | .es => g.es | .cs => g.cs | .ss => g.ss | .ds => g.ds | .fs => g.fs | .gs => g.gs

/-- Write a segment register. -/
def Segs.set (g : Segs) (r : SReg) (v : SegReg) : Segs :=
  match r with
  | .es => { g with es := v } | .cs => { g with cs := v } | .ss => { g with ss := v }
  | .ds => { g with ds := v } | .fs => { g with fs := v } | .gs => { g with gs := v }

/-- Write a segment register. -/
def setSeg (r : SReg) (v : SegReg) : M Unit := upd fun s => { s with segs := s.segs.set r v }

/-- The stack-address size: SS.B (R45). -/
def State.stackSize (s : State) : Size := .ofBit s.segs.ss.db

/-- The operand-size attribute: CS.D turned over by a 66H prefix (30_encoding.md R170). -/
def State.opSize (s : State) : Size := if s.ins.opsize then (Size.ofBit s.segs.cs.db).flip else .ofBit s.segs.cs.db

/-- The address-size attribute: CS.D turned over by a 67H prefix (30_encoding.md R171). -/
def State.adSize (s : State) : Size := if s.ins.adsize then (Size.ofBit s.segs.cs.db).flip else .ofBit s.segs.cs.db

/-- How many bytes a size is. -/
def sizeBytes : Size → Nat
  | .s16 => 2
  | .s32 => 4

/-- An offset of a size: its low 16 bits, zero-extended, or all of it. -/
def sizeTrunc : Size → Word → Word
  | .s16, w => w &&& 0xFFFF
  | .s32, w => w

/-- Write the stack pointer: SP leaves ESP[31:16] as they were (R45). -/
def setSp (v : Word) : M Unit := upd fun s => { s with regs := s.regs.setV s.stackSize .esp v }

/-- The stack pointer (R45). -/
def State.sp (s : State) : Word := s.regs.getV s.stackSize .esp

/-! ### Control and debug registers (R64 to R67) -/

/-- The CR0 word (R64). -/
def Cr0.toWord (c : Cr0) : Word :=
  bitAt c.pe 0 ||| bitAt c.mp 1 ||| bitAt c.em 2 ||| bitAt c.ts 3 ||| bitAt c.et 4 ||| bitAt c.pg 31

/-- The DR6 bits the processor sets (R67): B0 to B3, BD, BS, BT. -/
def dr6Mask : Word := 0x0000E00F

/-- Empty the TLB (20_memory.md R134). -/
def flushTlb : M Unit := upd fun s => { s with tlb := [] }

/-- Write EIP. -/
def setEip (v : Word) : M Unit := upd fun s => { s with eip := v }

/-- Where the program counter of a state points. -/
def State.here (s : State) : FarPtr := { sel := s.segs.cs.selector, off := s.eip }

end Sys2Proof.Machine
end

