-- ==== Sys2Proof/Machine/Mem.lean ====
section
/-!
DEFINITION. Memory: the bytes (20_memory.md R100, R101), translation from linear to physical addresses (R130 to R136),
the segment checks (R110, R111, R120, R121), and the stack (R122, 42_data_move.md R359).
-/

namespace Sys2Proof.Machine

/-! ### Bytes -/

/-- What an unlisted address reads as (assumption log 1). -/
def unlistedByte : Byte := 0

/-- The byte at an address. -/
def Memory.read : Memory → Nat → Byte
  | [], _ => unlistedByte
  | (b, w) :: m, a => if a = b then w else Memory.read m a

/-- A cell before a memory, unless it holds what an unlisted address reads as. -/
def Memory.cell (a : Nat) (v : Byte) (m : Memory) : Memory := if v = unlistedByte then m else (a, v) :: m

/-- Write the byte at an address, in canonical form. -/
def Memory.write : Memory → Nat → Byte → Memory
  | [], a, v => Memory.cell a v []
  | (b, w) :: m, a, v =>
      if a < b then Memory.cell a v ((b, w) :: m)
      else if a = b then Memory.cell a v m
      else (b, w) :: Memory.write m a v

/-- The canonical form: rising addresses of 32 bits, no byte an unlisted address would read. -/
def Memory.wf : Memory → Bool
  | [] => true
  | (a, v) :: m =>
      decide (a < 2 ^ 32) && decide (v ≠ unlistedByte) && (match m with
        | [] => true
        | (b, _) :: _ => decide (a < b)) && Memory.wf m

/-- The little-endian number in the bytes at the addresses (R100). -/
def Memory.load (m : Memory) : List Word → Nat
  | [] => 0
  | a :: as => (Memory.read m a.toNat).toNat + 256 * Memory.load m as

/-- Store a number little-endian in the bytes at the addresses (R100). -/
def Memory.store (m : Memory) : List Word → Nat → Memory
  | [], _ => m
  | a :: as, v => Memory.store (Memory.write m a.toNat (BitVec.ofNat 8 v)) as (v / 256)

/-- The `n` addresses from `a` on, modulo 2^32. -/
def addrs (a : Word) : Nat → List Word
  | 0 => []
  | n + 1 => a :: addrs (a + 1) n

/-- Load from physical addresses. -/
def loadAt (as : List Word) : M Nat := fun s => .ok (Memory.load s.mem as) s

/-- Store to physical addresses. -/
def storeAt (as : List Word) (v : Nat) : M Unit := upd fun s => { s with mem := Memory.store s.mem as v }

/-- Store on the processor's own account: a fault does not undo it (60_exceptions.md R730 (d), (e)). -/
def sysStoreByte (a : Word) (v : Byte) : M Unit := upd fun s =>
  { s with mem := Memory.write s.mem a.toNat v, ins := { s.ins with sysLog := s.ins.sysLog ++ [(a.toNat, v)] } }

/-! ### Paging (R130 to R136) -/

/-- A directory or table entry's address: frame and index (R130). -/
def entryAddr (frame : BitVec 20) (index : BitVec 10) : Word := frame ++ index ++ (0 : BitVec 2)

/-- Page-level rights (R131): a supervisor access is always allowed. -/
def rightsOk (userPage writablePage write user : Bool) : Bool := !user || (userPage && (!write || writablePage))

/-- Keep a translation, in place of one for the same page (R133). -/
def keepTlb (e : TlbEntry) : M Unit := upd fun s => { s with tlb := e :: s.tlb.filter fun x => x.page != e.page }

/-- Set bits of the low byte of a table entry, if they are not set (R132). -/
def setEntryBits (a : Word) (entry : Word) (bits : Byte) : M Unit :=
  onlyIf (decide (entry.setWidth 8 &&& bits ≠ bits)) (sysStoreByte a (entry.setWidth 8 ||| bits))

/-- The two-level walk (R130 to R132): the frame of the page of `la`. -/
def walk (la : Word) (write user : Bool) : M (BitVec 20) := do
  let s ← getS
  let pdeAddr := entryAddr (s.cr3.extractLsb' 12 20) (la.extractLsb' 22 10)
  let pdeN ← loadAt (addrs pdeAddr 4)
  let pde : Word := BitVec.ofNat 32 pdeN
  check (pde.getLsbD 0) (raisePF false write user la)
  let pteAddr := entryAddr (pde.extractLsb' 12 20) (la.extractLsb' 12 10)
  let pteN ← loadAt (addrs pteAddr 4)
  let pte : Word := BitVec.ofNat 32 pteN
  if pte.getLsbD 0 then do
    let userPage := pde.getLsbD 2 && pte.getLsbD 2
    let writablePage := pde.getLsbD 1 && pte.getLsbD 1
    check (rightsOk userPage writablePage write user) (raisePF true write user la)
    setEntryBits pdeAddr pde 0x20
    setEntryBits pteAddr pte (if write then 0x60 else 0x20)
    keepTlb { page := la.extractLsb' 12 20, frame := pte.extractLsb' 12 20, user := userPage, writable := writablePage,
              dirty := write || pte.getLsbD 6 }
    pure (pte.extractLsb' 12 20)
  else do
    setEntryBits pdeAddr pde 0x20
    raisePF false write user la

/-- Whether a cached translation is still there (R133; log 12). -/
def tlbKeeps : M Bool := fun s => .ok (Config.tlbKeeps s.draws) { s with draws := s.draws + 1 }

/-- The frame of the page of `la`, from the TLB or by a walk (R133): both may happen while an entry may exist. -/
def frameOf (la : Word) (write user : Bool) : M (BitVec 20) := do
  let s ← getS
  match s.tlb.find? fun x => x.page == la.extractLsb' 12 20 with
  | none => walk la write user
  | some e => do
      let kept ← tlbKeeps
      if kept && (!write || e.dirty) then do
        check (rightsOk e.user e.writable write user) (raisePF true write user la)
        pure e.frame
      else walk la write user

/-- The physical addresses of `n` bytes from `la`, page by page, lower page first (R136). `known` is the page just
translated and its frame. DESIGN CHOICE (log 12): of an operand that wraps past FFFFFFFFH the page of its first byte comes first. -/
def physPaged (write user : Bool) : (n : Nat) → (la : Word) → (known : Option (BitVec 20 × BitVec 20)) → M (List Word)
  | 0, _, _ => pure []
  | n + 1, la, known => do
      let page := la.extractLsb' 12 20
      let frame ← match known with
        | some (p, f) => if p = page then pure f else frameOf la write user
        | none => frameOf la write user
      let rest ← physPaged write user n (la + 1) (some (page, frame))
      pure ((frame ++ la.extractLsb' 0 12) :: rest)

/-- The physical addresses of `n` bytes from the linear address `la` (R130). -/
def physOf (la : Word) (n : Nat) (write user : Bool) : M (List Word) := do
  let s ← getS
  if s.cr0.pg then physPaged write user n la none else pure (addrs la n)

/-! ### System accesses (R135): linear, supervisor -/

/-- LinRead (00_scope.md R28). -/
def linRead (la : Word) (n : Nat) : M Nat := do
  let as ← physOf la n false false
  loadAt as

/-- LinWrite (00_scope.md R28). -/
def linWrite (la : Word) (n : Nat) (v : Nat) : M Unit := do
  let as ← physOf la n true false
  storeAt as v

/-- Write one descriptor byte; a later fault does not undo it (R129, 60_exceptions.md R730 (d)). -/
def linWriteSysByte (la : Word) (v : Byte) : M Unit := do
  let as ← physOf la 1 true false
  forEach as fun a => sysStoreByte a v

/-! ### Data breakpoints (60_exceptions.md R761 (b)) -/

/-- The address bits that count for a LEN field; `none` for the undefined length (R67, U28). -/
def lenMask (len : BitVec 2) : Option Word :=
  match len.toNat with
  | 0 => some 0xFFFFFFFF
  | 1 => some 0xFFFFFFFE
  | 3 => some 0xFFFFFFFC
  | _ => none

/-- Breakpoint `i` is enabled in DR7, locally or globally (R67). -/
def bpEnabled (dr7 : Word) (i : Nat) : Bool := dr7.getLsbD (2 * i) || dr7.getLsbD (2 * i + 1)

/-- DR7.R/Wi. -/
def bpRw (dr7 : Word) (i : Nat) : BitVec 2 := dr7.extractLsb' (16 + 4 * i) 2

/-- DR7.LENi. -/
def bpLen (dr7 : Word) (i : Nat) : BitVec 2 := dr7.extractLsb' (18 + 4 * i) 2

/-- The breakpoint address register `i`. -/
def DebugRegs.addr (d : DebugRegs) (i : Nat) : Word :=
  match i with
  | 0 => d.dr0 | 1 => d.dr1 | 2 => d.dr2 | _ => d.dr3

/-- An access of `n` bytes at `la` meets the condition of data breakpoint `i`, which DR7 may enable or not. -/
def dataMet (d : DebugRegs) (la : Word) (n : Nat) (write : Bool) (i : Nat) : Bool :=
  (decide (bpRw d.dr7 i = 3) || (write && decide (bpRw d.dr7 i = 1))) &&
    match lenMask (bpLen d.dr7 i) with
    | none => false
    | some m => (addrs la n).any fun a => a &&& m == d.addr i &&& m

/-- Four bits, one for each breakpoint. -/
def eachBp (f : Nat → Bool) : BitVec 4 :=
  BitVec.ofNat 4 ((f 0).toNat + 2 * (f 1).toNat + 4 * (f 2).toNat + 8 * (f 3).toNat)

/-- Data breakpoint `i` matches an access of `n` bytes at `la`. -/
def dataHit (d : DebugRegs) (la : Word) (n : Nat) (write : Bool) (i : Nat) : Bool :=
  bpEnabled d.dr7 i && dataMet d la n write i

/-- The data breakpoints an access touches. -/
def dataHits (d : DebugRegs) (la : Word) (n : Nat) (write : Bool) : BitVec 4 := eachBp (dataHit d la n write)

/-- The data breakpoints whose condition an access meets and which DR7 does not enable (log 19). -/
def dataLoose (d : DebugRegs) (la : Word) (n : Nat) (write : Bool) : BitVec 4 :=
  eachBp fun i => !bpEnabled d.dr7 i && dataMet d la n write i

/-- Record an access for the data breakpoints (log 18). -/
def noteAccess (la : Word) (n : Nat) (write : Bool) : M Unit := upd fun s =>
  if s.cfg.hasDebugRegs && decide (s.dbg.dr7 ≠ 0) then
    { s with ins := { s.ins with hits := s.ins.hits ||| dataHits s.dbg la n write,
                                 loose := s.ins.loose ||| dataLoose s.dbg la n write } }
  else s

/-! ### Segments (R110, R111, R120, R121) -/

/-- A code segment by its hidden type (R126). -/
def SegReg.isCode (g : SegReg) : Bool := g.s && g.type.getLsbD 3

/-- A data segment that expands down (R126). -/
def SegReg.expandDown (g : SegReg) : Bool := !g.type.getLsbD 3 && g.type.getLsbD 2

/-- Readable: a data segment, or a code segment with R = 1 (R126). -/
def SegReg.readable (g : SegReg) : Bool := !g.type.getLsbD 3 || g.type.getLsbD 1

/-- Writable: a data segment with W = 1 (R126). -/
def SegReg.writable (g : SegReg) : Bool := !g.type.getLsbD 3 && g.type.getLsbD 1

/-- InLimit (R111): `n` bytes at `off` lie within the segment, without wrapping. -/
def SegReg.inLimit (g : SegReg) (off : Word) (n : Nat) : Bool :=
  let last := off.toNat + n - 1
  if g.expandDown then
    decide (g.limit.toNat < off.toNat) && decide (last ≤ if g.db then 0xFFFFFFFF else 0xFFFF)
  else decide (last ≤ g.limit.toNat) && decide (last < 2 ^ 32)

/-- Raise the limit violation of a segment register: #SS through SS, else #GP (R120 (3)). -/
def raiseLimit {α : Type} (r : SReg) : M α := if r = .ss then raiseSS 0 else raiseGP 0

/-- The segment checks of a data access (R120, R121): steps (1) to (3). -/
def checkSeg (r : SReg) (off : Word) (n : Nat) (write : Bool) : M Unit := do
  let s ← getS
  let g := s.segs.get r
  onlyIf s.protectedMode (do
    check g.valid (raiseGP 0)
    check (if write then g.writable else g.readable) (raiseGP 0))
  check (g.inLimit off n) (raiseLimit r)

/-- The physical addresses of a data access, after all its checks (R120, R121). A read-modify-write operand is
accessed once, as a write. -/
def access (r : SReg) (off : Word) (n : Nat) (write : Bool) : M (List Word) := do
  checkSeg r off n write
  let s ← getS
  let la := (s.segs.get r).base + off
  let as ← physOf la n write s.user
  noteAccess la n write
  pure as

/-- MemRead (00_scope.md R28). -/
def memRead (r : SReg) (off : Word) (n : Nat) : M Nat := do
  let as ← access r off n false
  loadAt as

/-- MemWrite (00_scope.md R28). -/
def memWrite (r : SReg) (off : Word) (n : Nat) (v : Nat) : M Unit := do
  let as ← access r off n true
  storeAt as v

/-! ### The stack (R122, 42_data_move.md R359) -/

/-- The stack checks of `n` bytes at `off` in the stack segment `g` (R122); `ec` is the error code of a failure. -/
def stackAccess (g : SegReg) (off : Word) (n : Nat) (write user : Bool) (ec : Half) : M (List Word) := do
  check (g.inLimit off n) (raiseSS ec)
  let as ← physOf (g.base + off) n write user
  noteAccess (g.base + off) n write
  pure as

/-- The offset `k` items of `n` bytes below the stack pointer, modulo the stack size (R45). -/
def below (sz : Size) (sp : Word) (n k : Nat) : Word := sizeTrunc sz (sp - BitVec.ofNat 32 (n * k))

/-- The limit checks of pushing `k` items of `n` bytes (R122: the space for all of them first). -/
def roomFor (g : SegReg) (sp : Word) (n : Nat) (ec : Half) : Nat → M Unit
  | 0 => skip
  | k + 1 => do
      roomFor g sp n ec k
      check (g.inLimit (below (.ofBit g.db) sp n (k + 1)) n) (raisePush n ec)

/-- The addresses that the `k`-th push from `sp` writes, counted from 1. -/
def pushSlot (g : SegReg) (sp : Word) (n : Nat) (user : Bool) (ec : Half) (k : Nat) : M (List Word) :=
  stackAccess g (below (.ofBit g.db) sp n k) n true user ec

/-- The addresses the pushes write, the first pushed first (60_exceptions.md R758). -/
def pushSlots (g : SegReg) (sp : Word) (n : Nat) (user : Bool) (ec : Half) : (k : Nat) → M (List (List Word))
  | 0 => pure []
  | k + 1 => do
      let before ← pushSlots g sp n user ec k
      let as ← pushSlot g sp n user ec (k + 1)
      pure (before ++ [as])

/-- Store the pushed values in their slots. -/
def storeSlots : List (List Word) → List Nat → M Unit
  | as :: slots, v :: vs => do
      storeAt as v
      storeSlots slots vs
  | _, _ => skip

/-- Push the values, `n` bytes each, the first first, on the stack `g` at `sp`: all the checks, then the writes. -/
def pushOn (g : SegReg) (sp : Word) (user : Bool) (ec : Half) (n : Nat) (vs : List Nat) : M Unit := do
  roomFor g sp n ec vs.length
  let slots ← pushSlots g sp n user ec vs.length
  storeSlots slots vs

/-- Push the values on the current stack and move the stack pointer (R359). -/
def pushAll (n : Nat) (vs : List Nat) : M Unit := do
  let s ← getS
  pushOn s.segs.ss s.sp s.user 0 n vs
  setSp (s.sp - BitVec.ofNat 32 (n * vs.length))

/-- Push_n (R359). -/
def push (o : Size) (v : Word) : M Unit := pushAll (sizeBytes o) [v.toNat]

/-- Read `n` bytes at `k` bytes above the stack pointer (R122). -/
def peek (k n : Nat) : M Nat := do
  let s ← getS
  let as ← stackAccess s.segs.ss (sizeTrunc s.stackSize (s.sp + BitVec.ofNat 32 k)) n false s.user 0
  loadAt as

/-- Move the stack pointer up. -/
def popBytes (n : Nat) : M Unit := do
  let s ← getS
  setSp (s.sp + BitVec.ofNat 32 n)

/-- Pop_n (R359). -/
def pop (o : Size) : M Word := do
  let v ← peek 0 (sizeBytes o)
  popBytes (sizeBytes o)
  pure (BitVec.ofNat 32 v)

end Sys2Proof.Machine
end

