-- ==== Sys2Proof/Machine/Desc.lean ====
section
/-!
DEFINITION. Selectors and descriptors (20_memory.md R124 to R129), and loading segment registers (42_data_move.md R354,
R355, 44_control.md R480, R497).
-/

namespace Sys2Proof.Machine

/-! ### Selectors (R124) -/

/-- A NULL selector: 0000H to 0003H. -/
def selNull (sel : Half) : Bool := decide (sel &&& 0xFFFC = 0)

/-- The requested privilege level. -/
def selRpl (sel : Half) : BitVec 2 := sel.extractLsb' 0 2

/-- The table indicator: the LDT. -/
def selLocal (sel : Half) : Bool := sel.getLsbD 2

/-- The offset of the descriptor in its table: index * 8. -/
def selOffset (sel : Half) : Nat := (sel &&& 0xFFF8).toNat

/-- A selector with the given RPL. -/
def withRpl (sel : Half) (rpl : BitVec 2) : Half := (sel &&& 0xFFFC) ||| rpl.setWidth 16

/-- The error code that names a selector, with the EXT bit (60_exceptions.md R726). -/
def extCode (sel ext : Half) : Half := selCode sel ||| ext

/-! ### Descriptors (R126 to R128) -/

/-- A descriptor or gate, 8 bytes. -/
abbrev Desc := BitVec 64

/-- Type (bits 43:40). -/
def Desc.type (d : Desc) : BitVec 4 := d.extractLsb' 40 4
/-- S: code or data (bit 44). -/
def Desc.s (d : Desc) : Bool := d.getLsbD 44
/-- DPL (bits 46:45). -/
def Desc.dpl (d : Desc) : BitVec 2 := d.extractLsb' 45 2
/-- P (bit 47). -/
def Desc.p (d : Desc) : Bool := d.getLsbD 47
/-- D/B (bit 54). -/
def Desc.db (d : Desc) : Bool := d.getLsbD 54
/-- G (bit 55). -/
def Desc.g (d : Desc) : Bool := d.getLsbD 55
/-- Base. -/
def Desc.base (d : Desc) : Word := d.extractLsb' 56 8 ++ d.extractLsb' 16 24
/-- The 20-bit limit field. -/
def Desc.limit20 (d : Desc) : BitVec 20 := d.extractLsb' 48 4 ++ d.extractLsb' 0 16
/-- The effective limit (R126). -/
def Desc.limit (d : Desc) : Word :=
  if d.g then (d.limit20.setWidth 32 <<< 12) ||| 0xFFF else d.limit20.setWidth 32
/-- A code segment. -/
def Desc.isCode (d : Desc) : Bool := d.s && d.type.getLsbD 3
/-- A conforming code segment. -/
def Desc.conforming (d : Desc) : Bool := d.s && d.type.getLsbD 3 && d.type.getLsbD 2
/-- A data segment. -/
def Desc.isData (d : Desc) : Bool := d.s && !d.type.getLsbD 3
/-- A writable data segment. -/
def Desc.writableData (d : Desc) : Bool := d.s && !d.type.getLsbD 3 && d.type.getLsbD 1
/-- A data segment or a readable code segment. -/
def Desc.readable (d : Desc) : Bool := d.s && (!d.type.getLsbD 3 || d.type.getLsbD 1)
/-- A system descriptor of one of the types (R127). -/
def Desc.isSystem (d : Desc) (types : List (BitVec 4)) : Bool := !d.s && types.contains d.type
/-- A 32-bit gate or TSS: type bit 3. -/
def Desc.is32 (d : Desc) : Bool := d.type.getLsbD 3
/-- A gate's selector (R128). -/
def Desc.gateSel (d : Desc) : Half := d.extractLsb' 16 16
/-- A gate's offset: 32 bits, or 16 zero-extended for a 16-bit gate (R128). -/
def Desc.gateOff (d : Desc) : Word :=
  if d.is32 then d.extractLsb' 48 16 ++ d.extractLsb' 0 16 else (d.extractLsb' 0 16).setWidth 32
/-- A call gate's parameter count (R128). -/
def Desc.gateCount (d : Desc) : Nat := (d.extractLsb' 32 5).toNat

/-- The base and limit of the table a selector names; none when the LDT is invalid (R125). -/
def State.tableOf (s : State) (sel : Half) : Option (Word × Nat) :=
  if selLocal sel then (if s.ldtr.valid then some (s.ldtr.base, s.ldtr.limit.toNat) else none)
  else some (s.gdtr.base, s.gdtr.limit.toNat)

/-- The linear address of a selector's descriptor; none outside the table limit (R125). -/
def State.descAddr (s : State) (sel : Half) : Option Word :=
  match s.tableOf sel with
  | some (base, limit) => if selOffset sel + 7 ≤ limit then some (base + BitVec.ofNat 32 (selOffset sel)) else none
  | none => none

/-- ReadDescriptor (R125); `outside` is what a selector outside its table does. -/
def readDesc (sel : Half) (outside : M Desc) : M Desc := do
  let s ← getS
  match s.descAddr sel with
  | none => outside
  | some a => do
      let d ← linRead a 8
      pure (BitVec.ofNat 64 d)

/-- Write the access byte of a selector's descriptor (R129). -/
def writeAccess (sel : Half) (v : Byte) : M Unit := do
  let s ← getS
  match s.descAddr sel with
  | none => skip
  | some a => linWriteSysByte (a + 5) v

/-- Set the Accessed bit of a code or data descriptor being loaded, if it is clear (R129 (a)). -/
def setAccessed (sel : Half) (d : Desc) : M Unit :=
  onlyIf (!d.getLsbD 40) (writeAccess sel (d.extractLsb' 40 8 ||| 1))

/-- Set the busy bit of a TSS descriptor (R129 (b)). -/
def setBusy (sel : Half) (d : Desc) : M Unit := writeAccess sel (d.extractLsb' 40 8 ||| 2)

/-- Clear the busy bit of a TSS descriptor (R129 (b)). DESIGN CHOICE (log 40): a task switch with TR never loaded clears the
bit of the descriptor that TR's selector field names as it stands, GDT entry 0 after reset; and where the selector now lies
outside the GDT, nothing is cleared and nothing raised. -/
def clearBusy (sel : Half) : M Unit := do
  let s ← getS
  match s.descAddr sel with
  | none => skip
  | some a => do
      let b ← linRead (a + 5) 1
      linWriteSysByte (a + 5) (BitVec.ofNat 8 b &&& 0xFD)

/-- The segment register a descriptor gives (R56). -/
def segOf (sel : Half) (d : Desc) : SegReg :=
  { selector := sel, valid := true, base := d.base, limit := d.limit, type := d.type ||| 1, s := d.s, dpl := d.dpl,
    p := d.p, db := d.db, g := d.g }

/-- Load a segment register from a checked descriptor, setting its Accessed bit (R56, R129). -/
def loadSeg (r : SReg) (sel : Half) (d : Desc) : M Unit := do
  setAccessed sel d
  setSeg r (segOf sel d)

/-- A load in real-address or virtual-8086 mode: selector and base, nothing else (R56). -/
def SegReg.realLoad (g : SegReg) (sel : Half) : SegReg := { g with selector := sel, base := sel.setWidth 32 <<< 4 }

/-- A segment register of virtual-8086 mode (R56, 44_control.md R510). -/
def SegReg.v86 (sel : Half) : SegReg :=
  { selector := sel, valid := true, base := sel.setWidth 32 <<< 4, limit := 0xFFFF, type := 0b0011, s := true, dpl := 3,
    p := true, db := false, g := false }

/-- LoadCS_Real (44_control.md R480). -/
def loadCsReal (sel : Half) : M Unit := upd fun s => { s with segs := { s.segs with cs := s.segs.cs.realLoad sel } }

/-- A NULL selector in a data segment register (42_data_move.md R354 (1)). -/
def SegReg.nulled (g : SegReg) (sel : Half) : SegReg := { g with selector := sel, valid := false }

/-- What a segment load raises when it fails: #GP as an instruction does, #TS as a task switch does (44_control.md R496). -/
abbrev LoadFail := Half → M Desc

/-- The protected-mode load of DS, ES, FS or GS (42_data_move.md R354); `ext` is the EXT bit of its error codes. -/
def loadDataProt (bad : LoadFail) (ext : Half) (r : SReg) (sel : Half) : M Unit :=
  if selNull sel then upd fun s => { s with segs := s.segs.set r ((s.segs.get r).nulled sel) }
  else do
    let fail := bad (extCode sel ext)
    let d ← readDesc sel fail
    let s ← getS
    check d.readable (do let _ ← fail; skip)
    check (d.conforming || (decide (selRpl sel ≤ d.dpl) && decide (s.cpl ≤ d.dpl))) (do let _ ← fail; skip)
    check d.p (raiseNP (extCode sel ext))
    loadSeg r sel d

/-- LoadDataSeg (42_data_move.md R354). -/
def loadDataSeg (r : SReg) (sel : Half) : M Unit := do
  let s ← getS
  if s.protectedMode then loadDataProt raiseGP 0 r sel
  else setSeg r ((s.segs.get r).realLoad sel)

/-- The checks of a stack segment for privilege level `n` (42_data_move.md R355, 44_control.md R490, R495). -/
def checkStackSeg (bad : LoadFail) (ext : Half) (sel : Half) (n : BitVec 2) : M Desc := do
  let fail := bad (extCode sel ext)
  let d ← readDesc sel fail
  check (decide (selRpl sel = n) && d.writableData && decide (d.dpl = n)) (do let _ ← fail; skip)
  check d.p (raiseSS (extCode sel ext))
  pure d

/-- LoadSS (42_data_move.md R355). -/
def loadSs (sel : Half) : M Unit := do
  let s ← getS
  if s.protectedMode then do
    check (!selNull sel) (raiseGP 0)
    let d ← checkStackSeg raiseGP 0 sel s.cpl
    loadSeg .ss sel d
  else setSeg .ss (s.segs.ss.realLoad sel)

/-- A load of any segment register but CS. -/
def loadSreg (r : SReg) (sel : Half) : M Unit := if r = .ss then loadSs sel else loadDataSeg r sel

/-- Load CS with a selector whose RPL becomes `cpl` (44_control.md R481 (6)). -/
def loadCs (sel : Half) (d : Desc) (cpl : BitVec 2) : M Unit := loadSeg .cs (withRpl sel cpl) d

/-- A data segment register does not survive a return to level `cpl` (44_control.md R497). -/
def SegReg.outer (g : SegReg) (cpl : BitVec 2) : SegReg :=
  if selNull g.selector || (decide (g.dpl < cpl) && !(g.type.getLsbD 3 && g.type.getLsbD 2)) then g.nulled 0 else g

/-- Apply R497 to ES, FS, GS and DS. -/
def dropDataSegs (cpl : BitVec 2) : M Unit := upd fun s =>
  { s with segs := { s.segs with es := s.segs.es.outer cpl, fs := s.segs.fs.outer cpl, gs := s.segs.gs.outer cpl,
                                 ds := s.segs.ds.outer cpl } }

/-- Check a control-transfer target offset against a limit (44_control.md R470, R481 (4)). -/
def checkTarget (limit off : Word) (ec : Half) : M Unit := check (decide (off ≤ limit)) (raiseGP ec)

/-- TSSStack (44_control.md R492): the stack selector and pointer of an inner level. DESIGN CHOICE (log 40): with TR never
loaded its hidden base, limit and type are used as they stand. -/
def tssStack (n : BitVec 2) (ext : Half) : M (Half × Word) := do
  let s ← getS
  if s.tr.type.getLsbD 3 then do
    let a := n.toNat * 8 + 4
    check (decide (a + 5 ≤ s.tr.limit.toNat)) (raiseTS (extCode s.tr.selector ext))
    let sp ← linRead (s.tr.base + BitVec.ofNat 32 a) 4
    let ss ← linRead (s.tr.base + BitVec.ofNat 32 (a + 4)) 2
    pure (BitVec.ofNat 16 ss, BitVec.ofNat 32 sp)
  else do
    let a := n.toNat * 4 + 2
    check (decide (a + 3 ≤ s.tr.limit.toNat)) (raiseTS (extCode s.tr.selector ext))
    let sp ← linRead (s.tr.base + BitVec.ofNat 32 a) 2
    let ss ← linRead (s.tr.base + BitVec.ofNat 32 (a + 2)) 2
    pure (BitVec.ofNat 16 ss, BitVec.ofNat 32 sp)

end Sys2Proof.Machine
end

