-- ==== Sys2Proof/Machine/Task.lean ====
section
/-!
DEFINITION. The task switch (44_control.md R496). The assumption log 25 lists what the model fixes of it.
-/

namespace Sys2Proof.Machine

/-- Why a task is switched (R496). -/
inductive SwitchKind
  | jmp | call | int | iret
  deriving DecidableEq, Repr

/-- The old task stays busy and the new one is linked to it (R496 (3)). -/
def SwitchKind.nests : SwitchKind → Bool
  | .call => true | .int => true | .jmp => false | .iret => false

/-- A field of a structure whose bytes are at the addresses `as`. -/
def fieldAt (as : List Word) (off n : Nat) : List Word := (as.drop off).take n

/-- Read a field. -/
def loadField (as : List Word) (off n : Nat) : M Nat := loadAt (fieldAt as off n)

/-- Read a 32-bit field. -/
def loadField32 (as : List Word) (off : Nat) : M Word := do
  let v ← loadField as off 4
  pure (BitVec.ofNat 32 v)

/-- Read a 16-bit field. -/
def loadField16 (as : List Word) (off : Nat) : M Half := do
  let v ← loadField as off 2
  pure (BitVec.ofNat 16 v)

/-- Write fields of `n` bytes: (offset, value) pairs, where `as` begins at the offset `start`. -/
def storeFields (as : List Word) (start n : Nat) (l : List (Nat × Nat)) : M Unit :=
  forEach l fun x => storeAt (fieldAt as (x.1 - start) n) x.2

/-- The part of a TSS that a switch saves into (R496 (2)): its first offset and its length. -/
def savedPart (wide : Bool) : Nat × Nat := if wide then (0x20, 0x3E) else (0x0E, 0x1C)

/-- What the outgoing task's TSS receives (R496 (2)): `as` are the addresses of its saved part, `ret` the CS and EIP to
save (60_exceptions.md R753, R723). -/
def saveTask (wide : Bool) (as : List Word) (ret : FarPtr) (flags : Word) : M Unit := do
  let s ← getS
  let g := s.regs
  if wide then do
    storeFields as 0x20 4 [(0x20, ret.off.toNat), (0x24, flags.toNat), (0x28, g.eax.toNat), (0x2C, g.ecx.toNat),
      (0x30, g.edx.toNat), (0x34, g.ebx.toNat), (0x38, g.esp.toNat), (0x3C, g.ebp.toNat), (0x40, g.esi.toNat),
      (0x44, g.edi.toNat)]
    storeFields as 0x20 2 [(0x48, s.segs.es.selector.toNat), (0x4C, ret.sel.toNat),
      (0x50, s.segs.ss.selector.toNat), (0x54, s.segs.ds.selector.toNat), (0x58, s.segs.fs.selector.toNat),
      (0x5C, s.segs.gs.selector.toNat)]
  else
    storeFields as 0x0E 2 [(0x0E, ret.off.toNat), (0x10, flags.toNat), (0x12, g.eax.toNat), (0x14, g.ecx.toNat),
      (0x16, g.edx.toNat), (0x18, g.ebx.toNat), (0x1A, g.esp.toNat), (0x1C, g.ebp.toNat), (0x1E, g.esi.toNat),
      (0x20, g.edi.toNat), (0x22, s.segs.es.selector.toNat), (0x24, ret.sel.toNat),
      (0x26, s.segs.ss.selector.toNat), (0x28, s.segs.ds.selector.toNat)]

/-- What a TSS gives the incoming task (R496 (6)). -/
structure TaskImage where
  cr3 : Option Word
  eip : Word
  flags : Word
  regs : Regs
  ldt : Half
  es : Half
  cs : Half
  ss : Half
  ds : Half
  fs : Half
  gs : Half
  trap : Bool
  deriving DecidableEq, Repr

/-- A 16-bit register field: the upper half is unspecified (R496 (6)), a free value. -/
def loadReg16 (as : List Word) (off : Nat) : M Word := do
  let v ← loadField16 as off
  let upper ← drawWord
  pure (withLow16 upper v)

/-- Read the incoming task's TSS (R496 (6)). -/
def readTask (wide : Bool) (as : List Word) : M TaskImage := do
  if wide then do
    let cr3 ← loadField32 as 0x1C
    let eip ← loadField32 as 0x20
    let flags ← loadField32 as 0x24
    let eax ← loadField32 as 0x28
    let ecx ← loadField32 as 0x2C
    let edx ← loadField32 as 0x30
    let ebx ← loadField32 as 0x34
    let esp ← loadField32 as 0x38
    let ebp ← loadField32 as 0x3C
    let esi ← loadField32 as 0x40
    let edi ← loadField32 as 0x44
    let es ← loadField16 as 0x48
    let cs ← loadField16 as 0x4C
    let ss ← loadField16 as 0x50
    let ds ← loadField16 as 0x54
    let fs ← loadField16 as 0x58
    let gs ← loadField16 as 0x5C
    let ldt ← loadField16 as 0x60
    let t ← loadField16 as 0x64
    pure { cr3 := some cr3, eip, flags, regs := ⟨eax, ecx, edx, ebx, esp, ebp, esi, edi⟩, ldt, es, cs, ss, ds, fs, gs,
           trap := t.getLsbD 0 }
  else do
    let eip ← loadField16 as 0x0E
    let flags ← loadField16 as 0x10
    let eax ← loadReg16 as 0x12
    let ecx ← loadReg16 as 0x14
    let edx ← loadReg16 as 0x16
    let ebx ← loadReg16 as 0x18
    let esp ← loadReg16 as 0x1A
    let ebp ← loadReg16 as 0x1C
    let esi ← loadReg16 as 0x1E
    let edi ← loadReg16 as 0x20
    let es ← loadField16 as 0x22
    let cs ← loadField16 as 0x24
    let ss ← loadField16 as 0x26
    let ds ← loadField16 as 0x28
    let ldt ← loadField16 as 0x2A
    pure { cr3 := none, eip := eip.setWidth 32, flags := flags.setWidth 32,
           regs := ⟨eax, ecx, edx, ebx, esp, ebp, esi, edi⟩, ldt, es, cs, ss, ds, fs := 0, gs := 0, trap := false }

/-- A segment register whose selector is loaded and whose descriptor is not yet (R496 (7)). -/
def SegReg.unloaded (sel : Half) : SegReg :=
  { selector := sel, valid := false, base := 0, limit := 0, type := 0, s := true, dpl := 0, p := false, db := false,
    g := false }

/-- Enter the incoming task with its selectors not yet validated (R496 (5), (6)); the local enables of DR7 are cleared where
the debug registers function (60_exceptions.md R761, 00_scope.md R20). DESIGN CHOICE (log 25): CPL is the RPL of the new CS
from here on, so that a fault of the validations is delivered at it. -/
def enterTask (tsel : Half) (td : Desc) (nt : Bool) (i : TaskImage) : M Unit := upd fun s =>
  let f := Flags.ofWord i.flags
  let paged := s.cr0.pg && i.cr3.isSome
  { s with
    tr := { selector := tsel, valid := true, base := td.base, limit := td.limit, type := td.type ||| 2 },
    cr0 := { s.cr0 with ts := true },
    cr3 := if paged then (i.cr3.getD 0) &&& 0xFFFFF000 else s.cr3,
    tlb := if paged then [] else s.tlb,
    eip := i.eip,
    flags := { f with nt := f.nt || nt },
    regs := i.regs,
    ldtr := { selector := i.ldt, valid := false, base := 0, limit := 0, type := 0 },
    segs := { es := .unloaded i.es, cs := .unloaded i.cs, ss := .unloaded i.ss, ds := .unloaded i.ds,
              fs := .unloaded i.fs, gs := .unloaded i.gs },
    cpl := if f.vm then 3 else selRpl i.cs,
    dbg := if s.cfg.hasDebugRegs then { s.dbg with dr7 := s.dbg.dr7 &&& 0xFFFFFEAA } else s.dbg,
    ins := { s.ins with keepRf := true, taskTrap := s.ins.taskTrap || i.trap } }

/-- Load LDTR of the incoming task (R496 (7)). -/
def loadTaskLdt (ext sel : Half) : M Unit :=
  if selNull sel then skip
  else do
    let bad := raiseTS (extCode sel ext)
    check (!selLocal sel) bad
    let d ← readDesc sel (raiseTS (extCode sel ext))
    check (d.isSystem [2] && d.p) bad
    upd fun s => { s with ldtr := { selector := sel, valid := true, base := d.base, limit := d.limit, type := d.type } }

/-- Load CS of the incoming task: the rules of a far return, with #TS (R496 (7)). -/
def loadTaskCs (ext sel : Half) : M Unit := do
  let bad := raiseTS (extCode sel ext)
  check (!selNull sel) bad
  let d ← readDesc sel (raiseTS (extCode sel ext))
  check d.isCode bad
  check (if d.conforming then decide (d.dpl ≤ selRpl sel) else decide (d.dpl = selRpl sel)) bad
  check d.p (raiseNP (extCode sel ext))
  loadSeg .cs sel d

/-- Load SS of the incoming task: as LoadSS, with #TS (R496 (7)). -/
def loadTaskSs (ext sel : Half) : M Unit := do
  check (!selNull sel) (raiseTS (extCode sel ext))
  let s ← getS
  let d ← checkStackSeg raiseTS ext sel s.cpl
  loadSeg .ss sel d

/-- Validate the incoming task's selectors and load their hidden parts (R496 (7)). -/
def loadTaskSegs (ext : Half) (i : TaskImage) : M Unit := do
  loadTaskLdt ext i.ldt
  let s ← getS
  if s.flags.vm then upd fun s =>
    { s with segs := { es := .v86 i.es, cs := .v86 i.cs, ss := .v86 i.ss, ds := .v86 i.ds, fs := .v86 i.fs,
                       gs := .v86 i.gs } }
  else do
    loadTaskCs ext i.cs
    loadTaskSs ext i.ss
    loadDataProt raiseTS ext .ds i.ds
    loadDataProt raiseTS ext .es i.es
    loadDataProt raiseTS ext .fs i.fs
    loadDataProt raiseTS ext .gs i.gs

/-- From here on a fault belongs to the task just entered (60_exceptions.md R730 (c)). -/
def inNewTask {α : Type} (x : M α) : M α := fun s =>
  match x s with
  | .error (.exc e _) t => .error (.exc e true) t
  | r => r

/-- SwitchTasks (R496), to the TSS of descriptor `td`. The outgoing task's saved CS, EIP and EFLAGS are `ret` and `flags`;
every byte the switch touches in the two TSSs is translated before anything is written (log 25). DESIGN CHOICE (log 40):
with TR never loaded the outgoing state is saved by TR's hidden base and type as they stand. -/
def switchTasks (tsel : Half) (td : Desc) (kind : SwitchKind) (ext : Half) (ret : FarPtr) (flags : Flags) : M Unit := do
  let s ← getS
  let wide := td.is32
  check (decide ((if wide then 0x67 else 0x2B) ≤ td.limit.toNat)) (raiseTS (extCode tsel ext))
  let newAs ← physOf td.base (if wide then 104 else 44) false false
  let linkAs ← (if kind.nests then physOf td.base 2 true false else pure [])
  let oldWide := s.tr.type.getLsbD 3
  let oldAs ← physOf (s.tr.base + BitVec.ofNat 32 (savedPart oldWide).1) (savedPart oldWide).2 true false
  let savedFlags := if kind = .iret then { flags with nt := false } else flags
  saveTask oldWide oldAs ret savedFlags.toWord
  onlyIf kind.nests (storeAt linkAs s.tr.selector.toNat)
  onlyIf (!kind.nests) (clearBusy s.tr.selector)
  onlyIf (decide (kind ≠ .iret)) (setBusy tsel td)
  let i ← readTask wide newAs
  enterTask tsel td kind.nests i
  inNewTask (loadTaskSegs ext i)

/-- The final test of a task switch: EIP within the new CS limit (R484, R485, R491). -/
def checkNewEip (ext : Half) : M Unit := inNewTask do
  let s ← getS
  checkTarget s.segs.cs.limit s.eip ext

/-- The TSS descriptor a task gate or a back link names: not NULL (20_memory.md R124), in the GDT, of one of the types and
present. -/
def readTss (tsel : Half) (types : List (BitVec 4)) (ext : Half) : M Desc := do
  check (!selNull tsel) (raiseGP (extCode tsel ext))
  check (!selLocal tsel) (raiseGP (extCode tsel ext))
  let td ← readDesc tsel (raiseGP (extCode tsel ext))
  check (td.isSystem types) (raiseGP (extCode tsel ext))
  check td.p (raiseNP (extCode tsel ext))
  pure td

end Sys2Proof.Machine
end

