-- ==== Sys2Proof/Machine/Ops.lean ====
section
/-!
DEFINITION. Taking an exception or interrupt (60_exceptions.md R750 to R758, R740 to R742), returning from one
(44_control.md R505 to R511), and the form in which a meaning runs: its exceptions are taken, and a fault undoes
everything but what R730 (c) to (g) lists.
-/

namespace Sys2Proof.Machine

/-- The kind of an event (60_exceptions.md, Notation): what fixes EXT, the gate-DPL test and the pushed RF. -/
inductive Kind
  | soft | int1 | fault | trap | abort | nmi | intr
  deriving DecidableEq, Repr

/-- EXT (R724): 0 for a software interrupt, else 1. -/
def Kind.ext : Kind → Half
  | .soft => 0
  | _ => 1

/-- An event to deliver: its vector, kind and error code, the return address (R750), and whether the pushed image has
RF = 1 (R734). -/
structure Delivery where
  vec : BitVec 8
  kind : Kind
  ec : Option Half
  ret : FarPtr
  rf : Bool
  deriving DecidableEq, Repr

/-- The error code that names an IDT entry (R726). -/
def idtCode (v : BitVec 8) (ext : Half) : Half := (v.setWidth 16 <<< 3) ||| 2 ||| ext

/-- The optional error code as a list of pushed values. -/
def ecList : Option Half → List Nat
  | none => []
  | some e => [e.toNat]

/-- retEFLAGS (R750, R734). -/
def retFlags (rf : Bool) (f : Flags) : Flags := { f with rf := f.rf || rf }

/-- The flags after an entry through a gate (R755 (10), R757 (4)): an interrupt gate clears IF too. -/
def Flags.entered (f : Flags) (intGate : Bool) : Flags :=
  { f with ifl := f.ifl && !intGate, tf := false, nt := false, rf := false, vm := false }

/-- Delivery in real-address mode (R751): RF is cleared as every delivery clears it (R734); R751 speaks of RF = 0 only (log
29). -/
def deliverReal (d : Delivery) : M Unit := do
  let s ← getS
  check (decide (d.vec.toNat * 4 + 3 ≤ s.idtr.limit.toNat)) (raiseGP 0)
  roomFor s.segs.ss s.sp 2 0 3
  let off ← linRead (s.idtr.base + d.vec.setWidth 32 * 4) 2
  let sel ← linRead (s.idtr.base + d.vec.setWidth 32 * 4 + 2) 2
  pushAll 2 [(retFlags d.rf s.flags).toWord.toNat, d.ret.sel.toNat, d.ret.off.toNat]
  updFlags fun f => { f with ifl := false, tf := false, rf := false }
  loadCsReal (BitVec.ofNat 16 sel)
  setEip (BitVec.ofNat 32 off)

/-- The gate types of the IDT (R752 (2)). -/
def idtGates : List (BitVec 4) := [5, 6, 7, 14, 15]

/-- Delivery through a task gate (R753). -/
def deliverTask (d : Delivery) (g : Desc) : M Unit := do
  let ext := d.kind.ext
  let s ← getS
  let tsel := g.gateSel
  let td ← readTss tsel [1, 9] ext
  switchTasks tsel td .int ext d.ret (retFlags d.rf s.flags)
  inNewTask (do
    let t ← getS
    match d.ec with
    | none => skip
    | some e => do
        let n := if td.is32 then 4 else 2
        pushOn t.segs.ss t.sp t.user ext n [e.toNat]
        setSp (t.sp - BitVec.ofNat 32 n))
  checkNewEip ext

/-- The new stack of an inner-level entry: the selector and pointer of the TSS, checked. `rplFirst`: the selector's RPL is
tested before the descriptor is read (R755 (3), R756 (3)); CALL tests it after (44_control.md R490 (2)). -/
def innerStack (n : BitVec 2) (ext : Half) (rplFirst : Bool) : M (Half × Word × Desc) := do
  let (ss, esp) ← tssStack n ext
  check (!selNull ss) (raiseTS ext)
  check (!rplFirst || decide (selRpl ss = n)) (raiseTS (extCode ss ext))
  let sd ← checkStackSeg raiseTS ext ss n
  pure (ss, esp, sd)

/-- Move to a new stack: SS with its descriptor, ESP below the pushed values (R755 (8), R756 (8)). -/
def takeStack (ss : Half) (sd : Desc) (esp : Word) : M Unit := do
  loadSeg .ss ss sd
  upd fun s => { s with regs := { s.regs with esp := esp } }

/-- The stack pointer after pushing `k` items of `n` bytes from `esp` (R45: a 16-bit stack moves SP alone). -/
def pushedEsp (sz : Size) (esp : Word) (n k : Nat) : Word :=
  match sz with
  | .s16 => withLow16 esp ((esp - BitVec.ofNat 32 (n * k)).setWidth 16)
  | .s32 => esp - BitVec.ofNat 32 (n * k)

/-- The stack pointer of a stack of the given size. -/
def spOf (sz : Size) (esp : Word) : Word := sizeTrunc sz esp

/-- Entry to an inner level, also from virtual-8086 mode (R755, R756): `saved` are the values pushed before the error
code, `from86` the data segment registers to make NULL. -/
def deliverInner (d : Delivery) (g : Desc) (cd : Desc) (from86 : Bool) : M Unit := do
  let ext := d.kind.ext
  let s ← getS
  let n := cd.dpl
  let (ss, esp, sd) ← innerStack n ext true
  let size := if g.is32 then 4 else 2
  let image := retFlags d.rf s.flags
  let segs := if from86 then [s.segs.gs.selector.toNat, s.segs.fs.selector.toNat, s.segs.ds.selector.toNat,
    s.segs.es.selector.toNat] else []
  let values := segs ++ [s.segs.ss.selector.toNat, s.regs.esp.toNat, image.toWord.toNat, d.ret.sel.toNat,
    d.ret.off.toNat] ++ ecList d.ec
  let sz := Size.ofBit sd.db
  let newSs := segOf ss sd
  roomFor newSs (spOf sz esp) size (extCode ss ext) values.length
  checkTarget cd.limit g.gateOff ext
  pushOn newSs (spOf sz esp) (decide (n = 3)) (extCode ss ext) size values
  takeStack ss sd (pushedEsp sz esp size values.length)
  loadCs g.gateSel cd n
  setEip g.gateOff
  upd fun t => { t with cpl := n }
  updFlags fun f => f.entered (!g.type.getLsbD 0)
  onlyIf from86 (upd fun t =>
    { t with segs := { t.segs with gs := t.segs.gs.nulled 0, fs := t.segs.fs.nulled 0, ds := t.segs.ds.nulled 0,
                                   es := t.segs.es.nulled 0 } })

/-- Entry at the same level (R757). -/
def deliverSame (d : Delivery) (g : Desc) (cd : Desc) : M Unit := do
  let ext := d.kind.ext
  let s ← getS
  let size := if g.is32 then 4 else 2
  let values := [(retFlags d.rf s.flags).toWord.toNat, d.ret.sel.toNat, d.ret.off.toNat] ++ ecList d.ec
  roomFor s.segs.ss s.sp size ext values.length
  checkTarget cd.limit g.gateOff ext
  pushOn s.segs.ss s.sp s.user ext size values
  setSp (s.sp - BitVec.ofNat 32 (size * values.length))
  loadCs g.gateSel cd s.cpl
  setEip g.gateOff
  updFlags fun f => f.entered (!g.type.getLsbD 0)

/-- Delivery through an interrupt or trap gate (R754): the target checks and the choice of case. -/
def deliverGate (d : Delivery) (g : Desc) : M Unit := do
  let ext := d.kind.ext
  let s ← getS
  let csel := g.gateSel
  check (!selNull csel) (raiseGP ext)
  let cd ← readDesc csel (raiseGP (extCode csel ext))
  check (cd.isCode && decide (cd.dpl ≤ s.cpl)) (raiseGP (extCode csel ext))
  check cd.p (raiseNP (extCode csel ext))
  if !cd.conforming && decide (cd.dpl < s.cpl) then
    if s.flags.vm then
      if cd.dpl = 0 then deliverInner d g cd true else raiseGP (extCode csel ext)
    else deliverInner d g cd false
  else
    if s.flags.vm then raiseGP (extCode csel ext) else deliverSame d g cd

/-- Delivery in protected and virtual-8086 mode (R752). -/
def deliverProtected (d : Delivery) : M Unit := do
  let code := idtCode d.vec d.kind.ext
  let s ← getS
  check (decide (d.vec.toNat * 8 + 7 ≤ s.idtr.limit.toNat)) (raiseGP code)
  let gate ← linRead (s.idtr.base + d.vec.setWidth 32 * 8) 8
  let g : Desc := BitVec.ofNat 64 gate
  check (g.isSystem idtGates) (raiseGP code)
  check (decide (d.kind ≠ .soft) || decide (s.cpl ≤ g.dpl)) (raiseGP code)
  check g.p (raiseNP code)
  if g.type = 5 then deliverTask d g else deliverGate d g

/-- Deliver (R750): it also ends the halt state and the interrupt shadow. -/
def deliver (d : Delivery) : M Unit := do
  let s ← getS
  if s.cr0.pe then deliverProtected d else deliverReal d
  upd fun t => { t with run := .running, shadow := .none }

/-! ### Exceptions (R723, R730, R740 to R742) -/

/-- The memory that a fault leaves: the bytes of the log are written, the instruction's own are not (R730 (d), (e)). -/
def replay : List Host.Cell → Memory → Memory
  | [], m => m
  | (a, v) :: l, m => replay l (Memory.write m a v)

/-- Undo an instruction begun at `s` that stopped at `t` (R730): what stays is the log's bytes, the TLB, the draws,
the accesses made to ports, and the unblocking of NMI (R730 (f)). -/
def rollback (s t : State) : State :=
  { s with mem := replay t.ins.sysLog s.mem, tlb := t.tlb, draws := t.draws, io := t.io, nmiBlocked := t.nmiBlocked,
           ins := { s.ins with sysLog := t.ins.sysLog } }

/-- Write DR6 for a debug exception (R761): the bits of its causes are set, and each of the breakpoints `loose`, whose
condition was met but which DR7 does not enable, may have its bit set too, a free value (log 19). -/
def State.reportDebug (s : State) (bits : Word) (loose : BitVec 4) : State :=
  { s with dbg := { s.dbg with dr6 := s.dbg.dr6 ||| bits
                                 ||| (Config.freeWord s.draws &&& loose.setWidth 32) },
           draws := s.draws + 1 }

/-- What raising an exception writes by itself: CR2, DR6, DR7.GD (R730 (g)). -/
def recordExn (e : Exn) (s : State) : State :=
  let s := if e.dr6 = 0 then s else s.reportDebug e.dr6 s.ins.loose
  { s with cr2 := e.cr2.getD s.cr2,
           dbg := { s.dbg with dr7 := if e.clearGd then s.dbg.dr7 &&& 0xFFFFDFFF else s.dbg.dr7 } }

/-- The contributory exceptions (R741). -/
def contributory (v : BitVec 8) : Bool := [0, 10, 11, 12, 13].contains v

/-- `a` and then `b` make a double fault (R741). -/
def doubleFaults (a b : BitVec 8) : Bool :=
  (contributory a && contributory b) || (decide (a = 14) && (contributory b || decide (b = 14)))

/-- The double fault (R740); its pushed image has RF = 1, as 96_test_vectors_system.md V60.2 shows (log 29). -/
def Exn.doubleFault : Exn :=
  { vec := 8, ec := some 0, cr2 := none, dr6 := 0, clearGd := false, pushRf := true, deadSp := [] }

/-- Shutdown (R742); it ends the interrupt shadow, which outlasts no boundary (R735 (d)). -/
def State.shutDown (s : State) : State :=
  { s with run := .shutdown, shadow := .none, ins := { s.ins with event := .fault } }

/-- The delivery of an exception (R750). -/
def Exn.delivery (e : Exn) (ret : FarPtr) : Delivery :=
  { vec := e.vec, kind := if e.vec = 8 then .abort else .fault, ec := e.ec, ret := ret, rf := e.pushRf }

/-- Take the exception `e` at the state `s`, to return to `ret` (R723, R740 to R742): an exception of its delivery is
taken instead, or becomes a double fault, or ends in shutdown. `fuel` bounds the nesting, which R741 keeps below 5. DESIGN
CHOICE (log 29): where the delivery had completed a task switch, a double fault saves the CS:EIP of the new task. -/
def takeExn : (fuel : Nat) → (e : Exn) → (ret : FarPtr) → (s : State) → State
  | 0, _, _, s => s.shutDown
  | fuel + 1, e, ret, s =>
      let s := recordExn e { s with ins := { s.ins with sysLog := [] } }
      match deliver (e.delivery ret) s with
      | .ok _ t => { t with ins := { t.ins with event := .fault } }
      | .error (.exc b committed) t =>
          let base := if committed then t else rollback s t
          let ret' := if committed then t.here else ret
          if e.vec = 8 then (recordExn b base).shutDown
          else if doubleFaults e.vec b.vec then takeExn fuel .doubleFault ret' (recordExn b base)
          else takeExn fuel b ret' base
      | .error _ t => t.shutDown

/-- How deep exceptions of deliveries can nest. -/
def nesting : Nat := 5

/-- Take a fault of the instruction begun at `s` that stopped at `t`. An #SS that is not delivered with the stack pointer of
`s` ends in shutdown (42_data_move.md R359, R366; log 32). -/
def takeFault (e : Exn) (committed : Bool) (s t : State) : State :=
  let base := if committed then t else rollback s t
  if e.deadSp.contains base.sp then State.shutDown { base with ins := { base.ins with sysLog := [] } }
  else takeExn nesting e base.here base

/-- Run a meaning: EIP first moves past the instruction (R46), its exceptions are taken. A wait leaves it to be tried
again after the platform's interrupt, which is requested (46_x87_a.md R607; log 22). -/
def runInstr (body : M Unit) (s : State) : Host.Outcome State Fault Refusal :=
  match body { s with eip := s.ins.nextEip } with
  | .ok _ t => .next t
  | .error (.exc e committed) t => .next (takeFault e committed s t)
  | .error .wait t => .next { rollback s t with intr := true, ins := { (rollback s t).ins with event := .fault } }
  | .error (.refuse r) _ => .refused r

/-- A software interrupt or INT1 (44_control.md R500 to R503): delivery with the next instruction as return address. The
pushed image has RF as it is while the instruction runs (log 29), and no single-step trap follows, after INT1 too (log 28). -/
def softInt (v : BitVec 8) (kind : Kind) : M Unit := do
  let s ← getS
  deliver { vec := v, kind := kind, ec := none, ret := s.here, rf := false }
  upd fun t => { t with ins := { t.ins with event := .soft } }

/-! ### Return (44_control.md R493 to R511) -/

/-- The limit checks of the stack slots at the given distances above the stack pointer (R122). -/
def checkSlots (n : Nat) : List Nat → M Unit
  | [] => skip
  | k :: ks => do
      let s ← getS
      check (s.segs.ss.inLimit (sizeTrunc s.stackSize (s.sp + BitVec.ofNat 32 k)) n) (raiseSS 0)
      checkSlots n ks

/-- The limit check of `n` bytes from `k` bytes above the stack pointer on, modulo the stack size (R122, 10_state.md R45). -/
def checkSpan (k n : Nat) : M Unit := do
  let s ← getS
  let off := sizeTrunc s.stackSize (s.sp + BitVec.ofNat 32 k)
  let first := min n ((if s.stackSize = .s16 then 2 ^ 16 else 2 ^ 32) - off.toNat)
  check (decide (n = 0) || (s.segs.ss.inLimit off first && (decide (first = n) || s.segs.ss.inLimit 0 (n - first))))
    (raiseSS 0)

/-- A stack slot of the operand size. -/
def slotV (o : Size) (k : Nat) : M Word := do
  let v ← peek k (sizeBytes o)
  pure (BitVec.ofNat 32 v)

/-- The selector in a stack slot: all of the slot is read, its low word kept (R493, R505). -/
def slotSel (o : Size) (k : Nat) : M Half := do
  let v ← slotV o k
  pure (v.setWidth 16)

/-- The checks of a return code segment (R493 (2)). -/
def checkReturnCs (sel : Half) : M Desc := do
  check (!selNull sel) (raiseGP 0)
  let d ← readDesc sel (raiseGP (selCode sel))
  let s ← getS
  check d.isCode (raiseGP (selCode sel))
  check (decide (s.cpl ≤ selRpl sel)) (raiseGP (selCode sel))
  check (if d.conforming then decide (d.dpl ≤ selRpl sel) else decide (d.dpl = selRpl sel)) (raiseGP (selCode sel))
  check d.p (raiseNP (selCode sel))
  pure d

/-- The checks of an outer stack segment (R495 (2), R509 (2)). -/
def checkOuterSs (ssel : Half) (rpl : BitVec 2) : M Desc := do
  check (!selNull ssel) (raiseGP 0)
  checkStackSeg raiseGP 0 ssel rpl

/-- The flags a protected-mode IRET loads (R511), by the CPL before it. -/
def Flags.iretLoad (f w : Flags) (o : Size) (cpl : BitVec 2) : Flags :=
  { f with cf := w.cf, pf := w.pf, af := w.af, zf := w.zf, sf := w.sf, tf := w.tf, df := w.df, of := w.of, nt := w.nt,
           rf := if o = .s32 then w.rf else f.rf,
           ifl := if cpl ≤ f.iopl then w.ifl else f.ifl,
           iopl := if cpl = 0 then w.iopl else f.iopl }

/-- The flags an IRET in real-address mode loads (R505). -/
def Flags.iretReal (f w : Flags) (o : Size) : Flags :=
  { w with rf := if o = .s32 then w.rf else f.rf, vm := f.vm }

/-- The flags an IRET in virtual-8086 mode loads (R507). -/
def Flags.iretV86 (f w : Flags) (o : Size) : Flags :=
  { w with rf := if o = .s32 then w.rf else f.rf, vm := f.vm, iopl := f.iopl }

/-- RF was loaded if the operand size is 32 (R734). -/
def markRf (o : Size) : M Unit := upd fun s => { s with ins := { s.ins with keepRf := decide (o = .s32) } }

/-- IRET in real-address and virtual-8086 mode (R505, R507). -/
def iretReal (o : Size) : M Unit := do
  let k := sizeBytes o
  let s ← getS
  check (!s.v86 || decide (s.flags.iopl = 3)) (raiseGP 0)
  checkSlots k [0, k, 2 * k]
  let t ← slotV o 0
  let sel ← slotSel o k
  let f ← slotV o (2 * k)
  checkTarget s.segs.cs.limit t 0
  popBytes (3 * k)
  setEip t
  loadCsReal sel
  updFlags fun g => if s.v86 then g.iretV86 (Flags.ofWord f) o else g.iretReal (Flags.ofWord f) o
  markRf o

/-- IRET of a nested task (R506). -/
def iretTask : M Unit := do
  let s ← getS
  let l ← linRead s.tr.base 2
  let link : Half := BitVec.ofNat 16 l
  let td ← readTss link [3, 11] 0
  switchTasks link td .iret 0 s.here s.flags
  checkNewEip 0

/-- IRET to virtual-8086 mode (R510). -/
def iretToV86 (t : Word) (sel : Half) (f : Word) : M Unit := do
  checkSlots 4 [12, 16, 20, 24, 28, 32]
  check (decide (t ≤ 0xFFFF)) (raiseGP 0)
  let esp ← slotV .s32 12
  let ss ← slotSel .s32 16
  let es ← slotSel .s32 20
  let ds ← slotSel .s32 24
  let fs ← slotSel .s32 28
  let gs ← slotSel .s32 32
  setEip t
  upd fun s =>
    { s with flags := Flags.ofWord f, cpl := 3, regs := { s.regs with esp := esp },
             segs := { cs := .v86 sel, ss := .v86 ss, es := .v86 es, ds := .v86 ds, fs := .v86 fs, gs := .v86 gs } }
  markRf .s32

/-- IRET to an outer level (R509). -/
def iretOuter (o : Size) (t : Word) (sel : Half) (cd : Desc) (f : Word) : M Unit := do
  let k := sizeBytes o
  let s ← getS
  checkSlots k [3 * k, 4 * k]
  let ssel ← slotSel o (4 * k)
  let sd ← checkOuterSs ssel (selRpl sel)
  checkTarget cd.limit t 0
  let esp ← slotV o (3 * k)
  setEip t
  loadSeg .cs sel cd
  updFlags fun g => g.iretLoad (Flags.ofWord f) o s.cpl
  upd fun u => { u with cpl := selRpl sel }
  takeStack ssel sd esp
  dropDataSegs (selRpl sel)
  markRf o

/-- IRET with NT = 0 in protected mode (R508). -/
def iretProtected (o : Size) : M Unit := do
  let k := sizeBytes o
  let s ← getS
  checkSlots k [0, k, 2 * k]
  let t ← slotV o 0
  let sel ← slotSel o k
  let f ← slotV o (2 * k)
  if o = .s32 ∧ (Flags.ofWord f).vm ∧ s.cpl = 0 then iretToV86 t sel f
  else do
    let cd ← checkReturnCs sel
    if s.cpl < selRpl sel then iretOuter o t sel cd f
    else do
      checkTarget cd.limit t 0
      popBytes (3 * k)
      setEip t
      loadSeg .cs sel cd
      updFlags fun g => g.iretLoad (Flags.ofWord f) o s.cpl
      markRf o

/-- Return from an exception or interrupt (R505 to R511); it unblocks NMI even if it faults (60_exceptions.md R737). -/
def returnFromInt (o : Size) : M Unit := do
  upd fun s => { s with nmiBlocked := false }
  let s ← getS
  if s.protectedMode then (if s.flags.nt then iretTask else iretProtected o) else iretReal o

/-! ### Reset (00_scope.md R18, 70_reset_and_hazards.md R800, R801) -/

/-- The arguments that make `State.reset`: the spec's defaults where it gives them (00_scope.md R17), zeros elsewhere (logs 5
to 8). -/
def ResetParams.default (cfg : Config) : ResetParams :=
  { eax := 0, ecx := 0, edx := 0x300, ebx := 0, esp := 0, ebp := 0, esi := 0, edi := 0, et := cfg.hasX87, cr2 := 0, cr3 := 0,
    gdtr := { base := 0, limit := 0 }, ldtr := SysReg.reset, tr := SysReg.reset,
    dr0 := 0, dr1 := 0, dr2 := 0, dr3 := 0, dr6 := 0, fpr := Oct.all 0 }

/-- Reset(params) of a machine in any state (R800, R801): every register receives its reset value, what was in progress,
pending or cached is dropped; memory, the I/O space, INTR and the parameters stay. -/
def State.resetBy (p : ResetParams) (s : State) : State :=
  { State.reset with
    regs := { eax := p.eax, ecx := p.ecx, edx := (p.edx &&& 0xFFFF00FF) ||| 0x300, ebx := p.ebx, esp := p.esp, ebp := p.ebp,
              esi := p.esi, edi := p.edi },
    gdtr := p.gdtr,
    ldtr := { p.ldtr with valid := false },
    tr := { p.tr with valid := false },
    cr0 := { State.reset.cr0 with et := p.et },
    cr2 := p.cr2,
    cr3 := p.cr3 &&& 0xFFFFF000,
    dbg := { dr0 := p.dr0, dr1 := p.dr1, dr2 := p.dr2, dr3 := p.dr3,
             dr6 := if s.cfg.hasDebugRegs then p.dr6 &&& dr6Mask else p.dr6, dr7 := 0 },
    fpu := { Fpu.reset with fpr := p.fpr },
    intr := s.intr, mem := s.mem, cfg := s.cfg, draws := s.draws, io := s.io }

end Sys2Proof.Machine
end

