-- ==== Sys2Proof/Machine/Flags.lean ====
section
/-!
DEFINITION. The flag functions (10_state.md R60), the condition codes (R62), and the flags an instruction leaves
undefined, which are draws (R53, 93_implementation_defined.md U1).
-/

namespace Sys2Proof.Machine

/-- PF: the low byte has an even number of 1 bits (R60). -/
def parity {n : Nat} (r : BitVec n) : Bool :=
  !(r.getLsbD 0 ^^ r.getLsbD 1 ^^ r.getLsbD 2 ^^ r.getLsbD 3 ^^ r.getLsbD 4 ^^ r.getLsbD 5 ^^ r.getLsbD 6 ^^ r.getLsbD 7)

/-- CF_add (R60). -/
def cfAdd {n : Nat} (a b : BitVec n) (c : Bool) : Bool := decide (2 ^ n ≤ a.toNat + b.toNat + c.toNat)

/-- AF_add (R60). -/
def afAdd {n : Nat} (a b : BitVec n) (c : Bool) : Bool := decide (16 ≤ a.toNat % 16 + b.toNat % 16 + c.toNat)

/-- OF_add (R60). -/
def ofAdd {n : Nat} (a b r : BitVec n) : Bool := a.msb == b.msb && r.msb != a.msb

/-- CF_sub (R60). -/
def cfSub {n : Nat} (a b : BitVec n) (c : Bool) : Bool := decide (a.toNat < b.toNat + c.toNat)

/-- AF_sub (R60). -/
def afSub {n : Nat} (a b : BitVec n) (c : Bool) : Bool := decide (a.toNat % 16 < b.toNat % 16 + c.toNat)

/-- OF_sub (R60). -/
def ofSub {n : Nat} (a b r : BitVec n) : Bool := a.msb != b.msb && r.msb != a.msb

/-- SF, ZF and PF of a result (R60). -/
def Flags.szp {n : Nat} (f : Flags) (r : BitVec n) : Flags :=
  { f with sf := r.msb, zf := decide (r = 0), pf := parity r }

/-- The flags of an addition with carry `c` (R230, R231). -/
def Flags.afterAdd {n : Nat} (f : Flags) (a b : BitVec n) (c : Bool) (r : BitVec n) : Flags :=
  { f.szp r with cf := cfAdd a b c, af := afAdd a b c, of := ofAdd a b r }

/-- The flags of a subtraction with borrow `c` (R232, R233). -/
def Flags.afterSub {n : Nat} (f : Flags) (a b : BitVec n) (c : Bool) (r : BitVec n) : Flags :=
  { f.szp r with cf := cfSub a b c, af := afSub a b c, of := ofSub a b r }

/-- The flags of a logical operation; AF is the draw `u` (R290). -/
def Flags.afterLogic {n : Nat} (f : Flags) (r : BitVec n) (u : Bool) : Flags :=
  { f.szp r with cf := false, of := false, af := u }

/-- CF and OF alike after a multiplication; SF, ZF, AF and PF are draws (R238 to R241). -/
def flagsAfterMul (big : Bool) : M Unit := do
  let sf ← drawBit
  let zf ← drawBit
  let af ← drawBit
  let pf ← drawBit
  updFlags fun f => { f with cf := big, of := big, sf := sf, zf := zf, af := af, pf := pf }

/-- All six status flags are draws (U1). -/
def drawAllFlags : M Unit := do
  let cf ← drawBit
  let pf ← drawBit
  let af ← drawBit
  let zf ← drawBit
  let sf ← drawBit
  let of ← drawBit
  updFlags fun f => { f with cf := cf, pf := pf, af := af, zf := zf, sf := sf, of := of }

/-- The condition codes in the order of their numbers (R62). -/
inductive Cond
  | o | no | b | ae | e | ne | be | a | s | ns | p | np | l | ge | le | g
  deriving DecidableEq, Repr

/-- When a condition holds (R62). -/
def cond (f : Flags) : Cond → Bool
  | .o => f.of
  | .no => !f.of
  | .b => f.cf
  | .ae => !f.cf
  | .e => f.zf
  | .ne => !f.zf
  | .be => f.cf || f.zf
  | .a => !f.cf && !f.zf
  | .s => f.sf
  | .ns => !f.sf
  | .p => f.pf
  | .np => !f.pf
  | .l => f.sf != f.of
  | .ge => f.sf == f.of
  | .le => f.zf || f.sf != f.of
  | .g => !f.zf && f.sf == f.of

end Sys2Proof.Machine
end

