-- ==== Sys2Proof/Machine/Operands.lean ====
section
/-!
DEFINITION. The operand forms (30_encoding.md R180, R181, R183, R220): effective addresses, the segment a memory operand
is in, and reading, writing and modifying an operand of a width.
-/

namespace Sys2Proof.Machine

/-- The width of an operand (00_scope.md R27). -/
inductive Width
  | w8 | w16 | w32
  deriving DecidableEq, Repr

/-- How many bits. -/
abbrev Width.bits : Width → Nat
  | .w8 => 8
  | .w16 => 16
  | .w32 => 32

/-- How many bytes. -/
def Width.bytes : Width → Nat
  | .w8 => 1
  | .w16 => 2
  | .w32 => 4

/-- The width the operand-size attribute selects (30_encoding.md R170). -/
def widthOf : Size → Width
  | .s16 => .w16
  | .s32 => .w32

/-- The base part of a 16-bit form (R180). -/
def base16 (g : Regs) : Base16 → Half
  | .bxsi => g.get16 .ebx + g.get16 .esi
  | .bxdi => g.get16 .ebx + g.get16 .edi
  | .bpsi => g.get16 .ebp + g.get16 .esi
  | .bpdi => g.get16 .ebp + g.get16 .edi
  | .si => g.get16 .esi
  | .di => g.get16 .edi
  | .bp => g.get16 .ebp
  | .bx => g.get16 .ebx
  | .none => 0

/-- The index part of a 32-bit form (R181). -/
def scaled (g : Regs) : Option (Reg × Scale) → Word
  | none => 0
  | some (r, .x1) => g.get r
  | some (r, .x2) => g.get r <<< 1
  | some (r, .x4) => g.get r <<< 2
  | some (r, .x8) => g.get r <<< 3

/-- The base register of a 32-bit form (R181). -/
def base32 (g : Regs) : Option Reg → Word
  | none => 0
  | some r => g.get r

/-- The effective address (R180, R181). -/
def ea (g : Regs) : MemOp → Word
  | .a16 b d => (base16 g b + d).setWidth 32
  | .a32 b i d => base32 g b + scaled g i + d

/-- The default segment of a memory operand (R183). -/
def defaultSeg : MemOp → SReg
  | .a16 .bpsi _ => .ss
  | .a16 .bpdi _ => .ss
  | .a16 .bp _ => .ss
  | .a16 _ _ => .ds
  | .a32 (some .ebp) _ _ => .ss
  | .a32 (some .esp) _ _ => .ss
  | .a32 _ _ _ => .ds

/-- The segment a memory operand is in: an override prefix replaces the default (R172). -/
def State.segFor (s : State) (m : MemOp) : SReg := s.ins.seg.getD (defaultSeg m)

/-- The segment of an operand whose default is DS (moffs, string source, XLAT; R183). -/
def State.dsSeg (s : State) : SReg := s.ins.seg.getD .ds

/-- The physical addresses of a memory operand, after its checks. -/
def accessMem (m : MemOp) (n : Nat) (write : Bool) : M (List Word) := do
  let s ← getS
  access (s.segFor m) (ea s.regs m) n write

/-- Read a memory operand of `n` bytes. -/
def readMem (m : MemOp) (n : Nat) : M Nat := do
  let as ← accessMem m n false
  loadAt as

/-- Write a memory operand of `n` bytes. -/
def writeMem (m : MemOp) (n : Nat) (v : Nat) : M Unit := do
  let as ← accessMem m n true
  storeAt as v

/-- An operand as the operations see it. An immediate is already extended to 32 bits. -/
inductive Opnd
  | reg8 (r : Reg8)
  | reg (r : Reg)
  | mem (m : MemOp)
  | imm (v : Word)
  deriving DecidableEq, Repr

/-- An r/m8 operand. -/
def rm8Op : RM8 → Opnd
  | .reg r => .reg8 r
  | .mem m => .mem m

/-- An r/m16 or r/m32 operand. -/
def rmOp : RM → Opnd
  | .reg r => .reg r
  | .mem m => .mem m

/-- Read an operand. -/
def readOp (w : Width) : Opnd → M (BitVec w.bits)
  | .reg8 r => do
      let s ← getS
      pure ((s.regs.get8 r).setWidth w.bits)
  | .reg r => do
      let s ← getS
      pure ((s.regs.get r).setWidth w.bits)
  | .mem m => do
      let v ← readMem m w.bytes
      pure (BitVec.ofNat w.bits v)
  | .imm v => pure (v.setWidth w.bits)

/-- Write a register of a width (R42). -/
def writeReg (w : Width) (r : Reg) (v : BitVec w.bits) : M Unit :=
  match w with
  | .w8 => setReg8 .al (v.setWidth 8)
  | .w16 => setReg16 r (v.setWidth 16)
  | .w32 => setReg r (v.setWidth 32)

/-- Write an operand. -/
def writeOp (w : Width) (d : Opnd) (v : BitVec w.bits) : M Unit :=
  match d with
  | .reg8 r => setReg8 r (v.setWidth 8)
  | .reg r => writeReg w r v
  | .mem m => writeMem m w.bytes v.toNat
  | .imm _ => skip

/-- Read and write an operand: a memory operand is checked once, for writing, before it is read (20_memory.md R121).
`f` gives the new value, or none when nothing is written. DESIGN CHOICE (log 27): where nothing is written (a masked shift
count of 0, ARPL with ZF = 0) a data breakpoint still sees the checked write access. -/
def modify (w : Width) (d : Opnd) (f : BitVec w.bits → M (Option (BitVec w.bits))) : M Unit :=
  match d with
  | .mem m => do
      let as ← accessMem m w.bytes true
      let v ← loadAt as
      let r ← f (BitVec.ofNat w.bits v)
      match r with
      | some r => storeAt as r.toNat
      | none => skip
  | d => do
      let a ← readOp w d
      let r ← f a
      match r with
      | some r => writeOp w d r
      | none => skip

/-- The accumulator of a width: AL, AX or EAX. -/
def accOp : Width → Opnd
  | .w8 => .reg8 .al
  | .w16 => .reg .eax
  | .w32 => .reg .eax

/-- The width of the operand-size attribute in force. -/
def State.width (s : State) : Width := widthOf s.opSize

/-- Run a width-dependent meaning at the operand size in force (30_encoding.md R170). -/
def atSize (f : Width → M Unit) : M Unit := fun s => f s.width s

/-- Run a meaning at the operand-size attribute in force. -/
def atOpSize (f : Size → M Unit) : M Unit := fun s => f s.opSize s

end Sys2Proof.Machine
end

