-- ==== Sys2Proof/Machine/Arith.lean ====
section
/-!
DEFINITION. Binary and decimal arithmetic, and the logical operations that share its operand forms (40_arith.md R230 to
R251, 41_logic_shift_bit.md R290 to R294).
-/

namespace Sys2Proof.Machine

/-- The two-operand operations of the opcode groups 80, 81 and 83. -/
inductive AluOp
  | add | or | adc | sbb | and | sub | xor | cmp
  deriving DecidableEq, Repr

/-- The result of an operation with CF = `c` (R230 to R234, R290 to R292). -/
def aluResult {n : Nat} (op : AluOp) (a b : BitVec n) (c : Bool) : BitVec n :=
  match op with
  | .add => a + b
  | .or => a ||| b
  | .adc => a + b + BitVec.ofNat n c.toNat
  | .sbb => a - (b + BitVec.ofNat n c.toNat)
  | .and => a &&& b
  | .sub => a - b
  | .xor => a ^^^ b
  | .cmp => a - b

/-- The operation is logical: it leaves AF undefined (R290). -/
def AluOp.logical : AluOp → Bool
  | .or => true | .and => true | .xor => true
  | _ => false

/-- The flags of an operation (R230 to R234, R290); `u` is the draw for AF. -/
def aluFlags {n : Nat} (op : AluOp) (f : Flags) (a b : BitVec n) (u : Bool) : Flags :=
  let r := aluResult op a b f.cf
  match op with
  | .add => f.afterAdd a b false r
  | .adc => f.afterAdd a b f.cf r
  | .sbb => f.afterSub a b f.cf r
  | .sub => f.afterSub a b false r
  | .cmp => f.afterSub a b false r
  | .or => f.afterLogic r u
  | .and => f.afterLogic r u
  | .xor => f.afterLogic r u

/-- A draw for AF, if the operation leaves it undefined. -/
def drawAf (op : AluOp) : M Bool := if op.logical then drawBit else pure false

/-- An operation on a destination and a source: the result is written, unless it is CMP. -/
def alu (op : AluOp) (w : Width) (d s : Opnd) : M Unit := do
  let b ← readOp w s
  if op = .cmp then do
    let a ← readOp w d
    updFlags fun f => aluFlags .cmp f a b false
  else modify w d fun a => do
    let f ← getFlags
    let u ← drawAf op
    updFlags fun f => aluFlags op f a b u
    pure (some (aluResult op a b f.cf))

/-- TEST: the flags of AND; nothing is written (R294). -/
def test (w : Width) (d s : Opnd) : M Unit := do
  let b ← readOp w s
  let a ← readOp w d
  let u ← drawBit
  updFlags fun f => f.afterLogic (a &&& b) u

/-- INC (R235): CF is unchanged. -/
def inc (w : Width) (d : Opnd) : M Unit := modify w d fun a => do
  updFlags fun f => { f.afterAdd a 1 false (a + 1) with cf := f.cf }
  pure (some (a + 1))

/-- DEC (R236): CF is unchanged. -/
def dec (w : Width) (d : Opnd) : M Unit := modify w d fun a => do
  updFlags fun f => { f.afterSub a 1 false (a - 1) with cf := f.cf }
  pure (some (a - 1))

/-- NEG (R237). -/
def neg (w : Width) (d : Opnd) : M Unit := modify w d fun a => do
  updFlags fun f => f.afterSub 0 a false (0 - a)
  pure (some (0 - a))

/-- NOT (R293): no flag changes. -/
def not (w : Width) (d : Opnd) : M Unit := modify w d fun a => pure (some (~~~a))

/-! ### Multiplication and division -/

/-- Write a double-width value to AX, DX:AX or EDX:EAX (R238). -/
def setPair (w : Width) (p : Nat) : M Unit :=
  match w with
  | .w8 => setReg16 .eax (BitVec.ofNat 16 p)
  | .w16 => do
      setReg16 .eax (BitVec.ofNat 16 p)
      setReg16 .edx (BitVec.ofNat 16 (p / 65536))
  | .w32 => do
      setReg .eax (BitVec.ofNat 32 p)
      setReg .edx (BitVec.ofNat 32 (p / 4294967296))

/-- Read AX, DX:AX or EDX:EAX (R242). -/
def getPair (w : Width) : M Nat := do
  let s ← getS
  match w with
  | .w8 => pure (s.regs.get16 .eax).toNat
  | .w16 => pure ((s.regs.get16 .edx).toNat * 65536 + (s.regs.get16 .eax).toNat)
  | .w32 => pure (s.regs.edx.toNat * 4294967296 + s.regs.eax.toNat)

/-- MUL (R238). -/
def mul (w : Width) (src : Opnd) : M Unit := do
  let b ← readOp w src
  let a ← readOp w (accOp w)
  let p := a.toNat * b.toNat
  setPair w p
  flagsAfterMul (decide (2 ^ w.bits ≤ p))

/-- The signed product does not fit the width (R239 to R241). -/
def mulOverflows (n : Nat) (p : Int) : Bool := decide ((BitVec.ofInt n p).toInt ≠ p)

/-- IMUL, one operand (R239). -/
def imul1 (w : Width) (src : Opnd) : M Unit := do
  let b ← readOp w src
  let a ← readOp w (accOp w)
  let p := a.toInt * b.toInt
  setPair w (BitVec.ofInt (2 * w.bits) p).toNat
  flagsAfterMul (mulOverflows w.bits p)

/-- IMUL with a destination register: the product of two operands (R240, R241). -/
def imulTo (w : Width) (r : Reg) (x y : Opnd) : M Unit := do
  let a ← readOp w x
  let b ← readOp w y
  let p := a.toInt * b.toInt
  writeReg w r (BitVec.ofInt w.bits p)
  flagsAfterMul (mulOverflows w.bits p)

/-- Write the quotient and the remainder: AL and AH, AX and DX, EAX and EDX (R242, R243). -/
def setQuotient (w : Width) (q r : Nat) : M Unit :=
  match w with
  | .w8 => do
      setReg8 .al (BitVec.ofNat 8 q)
      setReg8 .ah (BitVec.ofNat 8 r)
  | .w16 => do
      setReg16 .eax (BitVec.ofNat 16 q)
      setReg16 .edx (BitVec.ofNat 16 r)
  | .w32 => do
      setReg .eax (BitVec.ofNat 32 q)
      setReg .edx (BitVec.ofNat 32 r)

/-- DIV (R242). -/
def div (w : Width) (src : Opnd) : M Unit := do
  let d ← readOp w src
  let n ← getPair w
  check (decide (d.toNat ≠ 0)) raiseDE
  check (decide (n / d.toNat < 2 ^ w.bits)) raiseDE
  setQuotient w (n / d.toNat) (n % d.toNat)
  drawAllFlags

/-- IDIV (R243): the quotient truncates toward zero, the remainder has the sign of the dividend. -/
def idiv (w : Width) (src : Opnd) : M Unit := do
  let b ← readOp w src
  let p ← getPair w
  let n := (BitVec.ofNat (2 * w.bits) p).toInt
  let d := b.toInt
  check (decide (d ≠ 0)) raiseDE
  let q := n.tdiv d
  check (decide (q < 2 ^ (w.bits - 1)) && decide (-(2 ^ (w.bits - 1)) ≤ q)) raiseDE
  setQuotient w (BitVec.ofInt w.bits q).toNat (BitVec.ofInt w.bits (n.tmod d)).toNat
  drawAllFlags

/-! ### The accumulator -/

/-- CBW, CWDE (R244). -/
def cbw (o : Size) : M Unit := do
  let s ← getS
  match o with
  | .s16 => setReg16 .eax ((s.regs.get8 .al).signExtend 16)
  | .s32 => setReg .eax ((s.regs.get16 .eax).signExtend 32)

/-- CWD, CDQ (R245). -/
def cwd (o : Size) : M Unit := do
  let s ← getS
  match o with
  | .s16 => setReg16 .edx (if (s.regs.get16 .eax).msb then 0xFFFF else 0)
  | .s32 => setReg .edx (if s.regs.eax.msb then 0xFFFFFFFF else 0)

/-- The low digit of AL is above 9, or AF is set (R246, R247, R250, R251). -/
def digitAdjust (al : Byte) (f : Flags) : Bool := decide (9 < al.toNat % 16) || f.af

/-- AF and CF alike; OF, SF, ZF and PF are draws (R246, R247). -/
def flagsAfterAscii (c : Bool) : M Unit := do
  let of ← drawBit
  let sf ← drawBit
  let zf ← drawBit
  let pf ← drawBit
  updFlags fun f => { f with af := c, cf := c, of := of, sf := sf, zf := zf, pf := pf }

/-- AL keeps its low digit (R246, R247). -/
def maskAl : M Unit := upd fun s => { s with regs := s.regs.set8 .al (s.regs.get8 .al &&& 0x0F) }

/-- AAA (R246). -/
def doAaa : M Unit := do
  let s ← getS
  let c := digitAdjust (s.regs.get8 .al) s.flags
  onlyIf c (setReg16 .eax (s.regs.get16 .eax + 0x106))
  flagsAfterAscii c
  maskAl

/-- AAS (R247). -/
def doAas : M Unit := do
  let s ← getS
  let c := digitAdjust (s.regs.get8 .al) s.flags
  onlyIf c (do
    setReg16 .eax (s.regs.get16 .eax - 6)
    upd fun t => { t with regs := t.regs.set8 .ah (t.regs.get8 .ah - 1) })
  flagsAfterAscii c
  maskAl

/-- SF, ZF and PF from a result; OF, AF and CF are draws (R248, R249). -/
def flagsAfterAam (r : Byte) : M Unit := do
  let of ← drawBit
  let af ← drawBit
  let cf ← drawBit
  updFlags fun f => { f.szp r with of := of, af := af, cf := cf }

/-- AAM (R248). -/
def doAam (base : Byte) : M Unit := do
  check (decide (base ≠ 0)) raiseDE
  let s ← getS
  let t := (s.regs.get8 .al).toNat
  setReg8 .ah (BitVec.ofNat 8 (t / base.toNat))
  setReg8 .al (BitVec.ofNat 8 (t % base.toNat))
  flagsAfterAam (BitVec.ofNat 8 (t % base.toNat))

/-- AAD (R249). -/
def doAad (base : Byte) : M Unit := do
  let s ← getS
  let r := s.regs.get8 .al + s.regs.get8 .ah * base
  setReg8 .al r
  setReg8 .ah 0
  flagsAfterAam r

/-- CF and AF as given, SF, ZF and PF from AL; OF is a draw (R250, R251). -/
def flagsAfterDecimal (al : Byte) (cf af : Bool) : M Unit := do
  let of ← drawBit
  updFlags fun f => { f.szp al with cf := cf, af := af, of := of }

/-- The second correction of DAA and DAS is made (R250, R251). -/
def highAdjust (al : Byte) (cf : Bool) : Bool := decide (0x99 < al.toNat) || cf

/-- DAA (R250). -/
def doDaa : M Unit := do
  let s ← getS
  let old := s.regs.get8 .al
  let low := digitAdjust old s.flags
  let high := highAdjust old s.flags.cf
  let al := (if low then old + 6 else old) + (if high then 0x60 else 0)
  setReg8 .al al
  flagsAfterDecimal al high low

/-- DAS (R251): CF also keeps the borrow of the first correction. -/
def doDas : M Unit := do
  let s ← getS
  let old := s.regs.get8 .al
  let low := digitAdjust old s.flags
  let high := highAdjust old s.flags.cf
  let al := (if low then old - 6 else old) - (if high then 0x60 else 0)
  setReg8 .al al
  flagsAfterDecimal al (high || (low && (s.flags.cf || decide (old.toNat < 6)))) low

/-! ### The instructions -/

/-- ADD r/m8,r8: `00 /r` (40_arith.md R230). -/
def execAddRm8R8 (d : RM8) (r : Reg8) (s : State) : Host.Outcome State Fault Refusal :=
  runInstr (alu .add .w8 (rm8Op d) (.reg8 r)) s

/-- ADD r/m16/32,r16/32: `01 /r` (40_arith.md R230). -/
def execAddRmR (d : RM) (r : Reg) (s : State) : Host.Outcome State Fault Refusal :=
  runInstr (atSize fun w => alu .add w (rmOp d) (.reg r)) s

/-- ADD r8,r/m8: `02 /r` (40_arith.md R230). -/
def execAddR8Rm8 (r : Reg8) (m : RM8) (s : State) : Host.Outcome State Fault Refusal :=
  runInstr (alu .add .w8 (.reg8 r) (rm8Op m)) s

/-- ADD r16/32,r/m16/32: `03 /r` (40_arith.md R230). -/
def execAddRRm (r : Reg) (m : RM) (s : State) : Host.Outcome State Fault Refusal :=
  runInstr (atSize fun w => alu .add w (.reg r) (rmOp m)) s

/-- ADD AL,imm8: `04 ib` (40_arith.md R230). -/
def execAddAlImm8 (i : BitVec 8) (s : State) : Host.Outcome State Fault Refusal :=
  runInstr (alu .add .w8 (accOp .w8) (.imm (sext i))) s

/-- ADD eAX,imm16/32: `05 iw/id` (40_arith.md R230). -/
def execAddEaxImm (i : BitVec 32) (s : State) : Host.Outcome State Fault Refusal :=
  runInstr (atSize fun w => alu .add w (accOp w) (.imm i)) s

/-- ADD r/m8,imm8: `80 /0 ib` (40_arith.md R230). -/
def execAddRm8Imm8 (d : RM8) (i : BitVec 8) (s : State) : Host.Outcome State Fault Refusal :=
  runInstr (alu .add .w8 (rm8Op d) (.imm (sext i))) s

/-- ADD r/m16/32,imm16/32: `81 /0 iw/id` (40_arith.md R230). -/
def execAddRmImm (d : RM) (i : BitVec 32) (s : State) : Host.Outcome State Fault Refusal :=
  runInstr (atSize fun w => alu .add w (rmOp d) (.imm i)) s

/-- ADD r/m16/32,imm8: `83 /0 ib` (40_arith.md R230). -/
def execAddRmImm8 (d : RM) (i : BitVec 8) (s : State) : Host.Outcome State Fault Refusal :=
  runInstr (atSize fun w => alu .add w (rmOp d) (.imm (sext i))) s

/-- OR r/m8,r8: `08 /r` (41_logic_shift_bit.md R291). -/
def execOrRm8R8 (d : RM8) (r : Reg8) (s : State) : Host.Outcome State Fault Refusal :=
  runInstr (alu .or .w8 (rm8Op d) (.reg8 r)) s

/-- OR r/m16/32,r16/32: `09 /r` (41_logic_shift_bit.md R291). -/
def execOrRmR (d : RM) (r : Reg) (s : State) : Host.Outcome State Fault Refusal :=
  runInstr (atSize fun w => alu .or w (rmOp d) (.reg r)) s

/-- OR r8,r/m8: `0A /r` (41_logic_shift_bit.md R291). -/
def execOrR8Rm8 (r : Reg8) (m : RM8) (s : State) : Host.Outcome State Fault Refusal :=
  runInstr (alu .or .w8 (.reg8 r) (rm8Op m)) s

/-- OR r16/32,r/m16/32: `0B /r` (41_logic_shift_bit.md R291). -/
def execOrRRm (r : Reg) (m : RM) (s : State) : Host.Outcome State Fault Refusal :=
  runInstr (atSize fun w => alu .or w (.reg r) (rmOp m)) s

/-- OR AL,imm8: `0C ib` (41_logic_shift_bit.md R291). -/
def execOrAlImm8 (i : BitVec 8) (s : State) : Host.Outcome State Fault Refusal :=
  runInstr (alu .or .w8 (accOp .w8) (.imm (sext i))) s

/-- OR eAX,imm16/32: `0D iw/id` (41_logic_shift_bit.md R291). -/
def execOrEaxImm (i : BitVec 32) (s : State) : Host.Outcome State Fault Refusal :=
  runInstr (atSize fun w => alu .or w (accOp w) (.imm i)) s

/-- OR r/m8,imm8: `80 /1 ib` (41_logic_shift_bit.md R291). -/
def execOrRm8Imm8 (d : RM8) (i : BitVec 8) (s : State) : Host.Outcome State Fault Refusal :=
  runInstr (alu .or .w8 (rm8Op d) (.imm (sext i))) s

/-- OR r/m16/32,imm16/32: `81 /1 iw/id` (41_logic_shift_bit.md R291). -/
def execOrRmImm (d : RM) (i : BitVec 32) (s : State) : Host.Outcome State Fault Refusal :=
  runInstr (atSize fun w => alu .or w (rmOp d) (.imm i)) s

/-- OR r/m16/32,imm8: `83 /1 ib` (41_logic_shift_bit.md R291). -/
def execOrRmImm8 (d : RM) (i : BitVec 8) (s : State) : Host.Outcome State Fault Refusal :=
  runInstr (atSize fun w => alu .or w (rmOp d) (.imm (sext i))) s

/-- ADC r/m8,r8: `10 /r` (40_arith.md R231). -/
def execAdcRm8R8 (d : RM8) (r : Reg8) (s : State) : Host.Outcome State Fault Refusal :=
  runInstr (alu .adc .w8 (rm8Op d) (.reg8 r)) s

/-- ADC r/m16/32,r16/32: `11 /r` (40_arith.md R231). -/
def execAdcRmR (d : RM) (r : Reg) (s : State) : Host.Outcome State Fault Refusal :=
  runInstr (atSize fun w => alu .adc w (rmOp d) (.reg r)) s

/-- ADC r8,r/m8: `12 /r` (40_arith.md R231). -/
def execAdcR8Rm8 (r : Reg8) (m : RM8) (s : State) : Host.Outcome State Fault Refusal :=
  runInstr (alu .adc .w8 (.reg8 r) (rm8Op m)) s

/-- ADC r16/32,r/m16/32: `13 /r` (40_arith.md R231). -/
def execAdcRRm (r : Reg) (m : RM) (s : State) : Host.Outcome State Fault Refusal :=
  runInstr (atSize fun w => alu .adc w (.reg r) (rmOp m)) s

/-- ADC AL,imm8: `14 ib` (40_arith.md R231). -/
def execAdcAlImm8 (i : BitVec 8) (s : State) : Host.Outcome State Fault Refusal :=
  runInstr (alu .adc .w8 (accOp .w8) (.imm (sext i))) s

/-- ADC eAX,imm16/32: `15 iw/id` (40_arith.md R231). -/
def execAdcEaxImm (i : BitVec 32) (s : State) : Host.Outcome State Fault Refusal :=
  runInstr (atSize fun w => alu .adc w (accOp w) (.imm i)) s

/-- ADC r/m8,imm8: `80 /2 ib` (40_arith.md R231). -/
def execAdcRm8Imm8 (d : RM8) (i : BitVec 8) (s : State) : Host.Outcome State Fault Refusal :=
  runInstr (alu .adc .w8 (rm8Op d) (.imm (sext i))) s

/-- ADC r/m16/32,imm16/32: `81 /2 iw/id` (40_arith.md R231). -/
def execAdcRmImm (d : RM) (i : BitVec 32) (s : State) : Host.Outcome State Fault Refusal :=
  runInstr (atSize fun w => alu .adc w (rmOp d) (.imm i)) s

/-- ADC r/m16/32,imm8: `83 /2 ib` (40_arith.md R231). -/
def execAdcRmImm8 (d : RM) (i : BitVec 8) (s : State) : Host.Outcome State Fault Refusal :=
  runInstr (atSize fun w => alu .adc w (rmOp d) (.imm (sext i))) s

/-- SBB r/m8,r8: `18 /r` (40_arith.md R233). -/
def execSbbRm8R8 (d : RM8) (r : Reg8) (s : State) : Host.Outcome State Fault Refusal :=
  runInstr (alu .sbb .w8 (rm8Op d) (.reg8 r)) s

/-- SBB r/m16/32,r16/32: `19 /r` (40_arith.md R233). -/
def execSbbRmR (d : RM) (r : Reg) (s : State) : Host.Outcome State Fault Refusal :=
  runInstr (atSize fun w => alu .sbb w (rmOp d) (.reg r)) s

/-- SBB r8,r/m8: `1A /r` (40_arith.md R233). -/
def execSbbR8Rm8 (r : Reg8) (m : RM8) (s : State) : Host.Outcome State Fault Refusal :=
  runInstr (alu .sbb .w8 (.reg8 r) (rm8Op m)) s

/-- SBB r16/32,r/m16/32: `1B /r` (40_arith.md R233). -/
def execSbbRRm (r : Reg) (m : RM) (s : State) : Host.Outcome State Fault Refusal :=
  runInstr (atSize fun w => alu .sbb w (.reg r) (rmOp m)) s

/-- SBB AL,imm8: `1C ib` (40_arith.md R233). -/
def execSbbAlImm8 (i : BitVec 8) (s : State) : Host.Outcome State Fault Refusal :=
  runInstr (alu .sbb .w8 (accOp .w8) (.imm (sext i))) s

/-- SBB eAX,imm16/32: `1D iw/id` (40_arith.md R233). -/
def execSbbEaxImm (i : BitVec 32) (s : State) : Host.Outcome State Fault Refusal :=
  runInstr (atSize fun w => alu .sbb w (accOp w) (.imm i)) s

/-- SBB r/m8,imm8: `80 /3 ib` (40_arith.md R233). -/
def execSbbRm8Imm8 (d : RM8) (i : BitVec 8) (s : State) : Host.Outcome State Fault Refusal :=
  runInstr (alu .sbb .w8 (rm8Op d) (.imm (sext i))) s

/-- SBB r/m16/32,imm16/32: `81 /3 iw/id` (40_arith.md R233). -/
def execSbbRmImm (d : RM) (i : BitVec 32) (s : State) : Host.Outcome State Fault Refusal :=
  runInstr (atSize fun w => alu .sbb w (rmOp d) (.imm i)) s

/-- SBB r/m16/32,imm8: `83 /3 ib` (40_arith.md R233). -/
def execSbbRmImm8 (d : RM) (i : BitVec 8) (s : State) : Host.Outcome State Fault Refusal :=
  runInstr (atSize fun w => alu .sbb w (rmOp d) (.imm (sext i))) s

/-- AND r/m8,r8: `20 /r` (41_logic_shift_bit.md R290). -/
def execAndRm8R8 (d : RM8) (r : Reg8) (s : State) : Host.Outcome State Fault Refusal :=
  runInstr (alu .and .w8 (rm8Op d) (.reg8 r)) s

/-- AND r/m16/32,r16/32: `21 /r` (41_logic_shift_bit.md R290). -/
def execAndRmR (d : RM) (r : Reg) (s : State) : Host.Outcome State Fault Refusal :=
  runInstr (atSize fun w => alu .and w (rmOp d) (.reg r)) s

/-- AND r8,r/m8: `22 /r` (41_logic_shift_bit.md R290). -/
def execAndR8Rm8 (r : Reg8) (m : RM8) (s : State) : Host.Outcome State Fault Refusal :=
  runInstr (alu .and .w8 (.reg8 r) (rm8Op m)) s

/-- AND r16/32,r/m16/32: `23 /r` (41_logic_shift_bit.md R290). -/
def execAndRRm (r : Reg) (m : RM) (s : State) : Host.Outcome State Fault Refusal :=
  runInstr (atSize fun w => alu .and w (.reg r) (rmOp m)) s

/-- AND AL,imm8: `24 ib` (41_logic_shift_bit.md R290). -/
def execAndAlImm8 (i : BitVec 8) (s : State) : Host.Outcome State Fault Refusal :=
  runInstr (alu .and .w8 (accOp .w8) (.imm (sext i))) s

/-- AND eAX,imm16/32: `25 iw/id` (41_logic_shift_bit.md R290). -/
def execAndEaxImm (i : BitVec 32) (s : State) : Host.Outcome State Fault Refusal :=
  runInstr (atSize fun w => alu .and w (accOp w) (.imm i)) s

/-- AND r/m8,imm8: `80 /4 ib` (41_logic_shift_bit.md R290). -/
def execAndRm8Imm8 (d : RM8) (i : BitVec 8) (s : State) : Host.Outcome State Fault Refusal :=
  runInstr (alu .and .w8 (rm8Op d) (.imm (sext i))) s

/-- AND r/m16/32,imm16/32: `81 /4 iw/id` (41_logic_shift_bit.md R290). -/
def execAndRmImm (d : RM) (i : BitVec 32) (s : State) : Host.Outcome State Fault Refusal :=
  runInstr (atSize fun w => alu .and w (rmOp d) (.imm i)) s

/-- AND r/m16/32,imm8: `83 /4 ib` (41_logic_shift_bit.md R290). -/
def execAndRmImm8 (d : RM) (i : BitVec 8) (s : State) : Host.Outcome State Fault Refusal :=
  runInstr (atSize fun w => alu .and w (rmOp d) (.imm (sext i))) s

/-- SUB r/m8,r8: `28 /r` (40_arith.md R232). -/
def execSubRm8R8 (d : RM8) (r : Reg8) (s : State) : Host.Outcome State Fault Refusal :=
  runInstr (alu .sub .w8 (rm8Op d) (.reg8 r)) s

/-- SUB r/m16/32,r16/32: `29 /r` (40_arith.md R232). -/
def execSubRmR (d : RM) (r : Reg) (s : State) : Host.Outcome State Fault Refusal :=
  runInstr (atSize fun w => alu .sub w (rmOp d) (.reg r)) s

/-- SUB r8,r/m8: `2A /r` (40_arith.md R232). -/
def execSubR8Rm8 (r : Reg8) (m : RM8) (s : State) : Host.Outcome State Fault Refusal :=
  runInstr (alu .sub .w8 (.reg8 r) (rm8Op m)) s

/-- SUB r16/32,r/m16/32: `2B /r` (40_arith.md R232). -/
def execSubRRm (r : Reg) (m : RM) (s : State) : Host.Outcome State Fault Refusal :=
  runInstr (atSize fun w => alu .sub w (.reg r) (rmOp m)) s

/-- SUB AL,imm8: `2C ib` (40_arith.md R232). -/
def execSubAlImm8 (i : BitVec 8) (s : State) : Host.Outcome State Fault Refusal :=
  runInstr (alu .sub .w8 (accOp .w8) (.imm (sext i))) s

/-- SUB eAX,imm16/32: `2D iw/id` (40_arith.md R232). -/
def execSubEaxImm (i : BitVec 32) (s : State) : Host.Outcome State Fault Refusal :=
  runInstr (atSize fun w => alu .sub w (accOp w) (.imm i)) s

/-- SUB r/m8,imm8: `80 /5 ib` (40_arith.md R232). -/
def execSubRm8Imm8 (d : RM8) (i : BitVec 8) (s : State) : Host.Outcome State Fault Refusal :=
  runInstr (alu .sub .w8 (rm8Op d) (.imm (sext i))) s

/-- SUB r/m16/32,imm16/32: `81 /5 iw/id` (40_arith.md R232). -/
def execSubRmImm (d : RM) (i : BitVec 32) (s : State) : Host.Outcome State Fault Refusal :=
  runInstr (atSize fun w => alu .sub w (rmOp d) (.imm i)) s

/-- SUB r/m16/32,imm8: `83 /5 ib` (40_arith.md R232). -/
def execSubRmImm8 (d : RM) (i : BitVec 8) (s : State) : Host.Outcome State Fault Refusal :=
  runInstr (atSize fun w => alu .sub w (rmOp d) (.imm (sext i))) s

/-- XOR r/m8,r8: `30 /r` (41_logic_shift_bit.md R292). -/
def execXorRm8R8 (d : RM8) (r : Reg8) (s : State) : Host.Outcome State Fault Refusal :=
  runInstr (alu .xor .w8 (rm8Op d) (.reg8 r)) s

/-- XOR r/m16/32,r16/32: `31 /r` (41_logic_shift_bit.md R292). -/
def execXorRmR (d : RM) (r : Reg) (s : State) : Host.Outcome State Fault Refusal :=
  runInstr (atSize fun w => alu .xor w (rmOp d) (.reg r)) s

/-- XOR r8,r/m8: `32 /r` (41_logic_shift_bit.md R292). -/
def execXorR8Rm8 (r : Reg8) (m : RM8) (s : State) : Host.Outcome State Fault Refusal :=
  runInstr (alu .xor .w8 (.reg8 r) (rm8Op m)) s

/-- XOR r16/32,r/m16/32: `33 /r` (41_logic_shift_bit.md R292). -/
def execXorRRm (r : Reg) (m : RM) (s : State) : Host.Outcome State Fault Refusal :=
  runInstr (atSize fun w => alu .xor w (.reg r) (rmOp m)) s

/-- XOR AL,imm8: `34 ib` (41_logic_shift_bit.md R292). -/
def execXorAlImm8 (i : BitVec 8) (s : State) : Host.Outcome State Fault Refusal :=
  runInstr (alu .xor .w8 (accOp .w8) (.imm (sext i))) s

/-- XOR eAX,imm16/32: `35 iw/id` (41_logic_shift_bit.md R292). -/
def execXorEaxImm (i : BitVec 32) (s : State) : Host.Outcome State Fault Refusal :=
  runInstr (atSize fun w => alu .xor w (accOp w) (.imm i)) s

/-- XOR r/m8,imm8: `80 /6 ib` (41_logic_shift_bit.md R292). -/
def execXorRm8Imm8 (d : RM8) (i : BitVec 8) (s : State) : Host.Outcome State Fault Refusal :=
  runInstr (alu .xor .w8 (rm8Op d) (.imm (sext i))) s

/-- XOR r/m16/32,imm16/32: `81 /6 iw/id` (41_logic_shift_bit.md R292). -/
def execXorRmImm (d : RM) (i : BitVec 32) (s : State) : Host.Outcome State Fault Refusal :=
  runInstr (atSize fun w => alu .xor w (rmOp d) (.imm i)) s

/-- XOR r/m16/32,imm8: `83 /6 ib` (41_logic_shift_bit.md R292). -/
def execXorRmImm8 (d : RM) (i : BitVec 8) (s : State) : Host.Outcome State Fault Refusal :=
  runInstr (atSize fun w => alu .xor w (rmOp d) (.imm (sext i))) s

/-- CMP r/m8,r8: `38 /r` (40_arith.md R234). -/
def execCmpRm8R8 (d : RM8) (r : Reg8) (s : State) : Host.Outcome State Fault Refusal :=
  runInstr (alu .cmp .w8 (rm8Op d) (.reg8 r)) s

/-- CMP r/m16/32,r16/32: `39 /r` (40_arith.md R234). -/
def execCmpRmR (d : RM) (r : Reg) (s : State) : Host.Outcome State Fault Refusal :=
  runInstr (atSize fun w => alu .cmp w (rmOp d) (.reg r)) s

/-- CMP r8,r/m8: `3A /r` (40_arith.md R234). -/
def execCmpR8Rm8 (r : Reg8) (m : RM8) (s : State) : Host.Outcome State Fault Refusal :=
  runInstr (alu .cmp .w8 (.reg8 r) (rm8Op m)) s

/-- CMP r16/32,r/m16/32: `3B /r` (40_arith.md R234). -/
def execCmpRRm (r : Reg) (m : RM) (s : State) : Host.Outcome State Fault Refusal :=
  runInstr (atSize fun w => alu .cmp w (.reg r) (rmOp m)) s

/-- CMP AL,imm8: `3C ib` (40_arith.md R234). -/
def execCmpAlImm8 (i : BitVec 8) (s : State) : Host.Outcome State Fault Refusal :=
  runInstr (alu .cmp .w8 (accOp .w8) (.imm (sext i))) s

/-- CMP eAX,imm16/32: `3D iw/id` (40_arith.md R234). -/
def execCmpEaxImm (i : BitVec 32) (s : State) : Host.Outcome State Fault Refusal :=
  runInstr (atSize fun w => alu .cmp w (accOp w) (.imm i)) s

/-- CMP r/m8,imm8: `80 /7 ib` (40_arith.md R234). -/
def execCmpRm8Imm8 (d : RM8) (i : BitVec 8) (s : State) : Host.Outcome State Fault Refusal :=
  runInstr (alu .cmp .w8 (rm8Op d) (.imm (sext i))) s

/-- CMP r/m16/32,imm16/32: `81 /7 iw/id` (40_arith.md R234). -/
def execCmpRmImm (d : RM) (i : BitVec 32) (s : State) : Host.Outcome State Fault Refusal :=
  runInstr (atSize fun w => alu .cmp w (rmOp d) (.imm i)) s

/-- CMP r/m16/32,imm8: `83 /7 ib` (40_arith.md R234). -/
def execCmpRmImm8 (d : RM) (i : BitVec 8) (s : State) : Host.Outcome State Fault Refusal :=
  runInstr (atSize fun w => alu .cmp w (rmOp d) (.imm (sext i))) s

/-- INC r/m8: `FE /0` (40_arith.md R235). -/
def execIncRm8 (d : RM8) (s : State) : Host.Outcome State Fault Refusal :=
  runInstr (inc .w8 (rm8Op d)) s

/-- INC r/m16/32: `FF /0` (40_arith.md R235). -/
def execIncRm (d : RM) (s : State) : Host.Outcome State Fault Refusal :=
  runInstr (atSize fun w => inc w (rmOp d)) s

/-- INC r16/32: `40+rw/rd` (40_arith.md R235). -/
def execIncR (r : Reg) (s : State) : Host.Outcome State Fault Refusal :=
  runInstr (atSize fun w => inc w (.reg r)) s

/-- DEC r/m8: `FE /1` (40_arith.md R236). -/
def execDecRm8 (d : RM8) (s : State) : Host.Outcome State Fault Refusal :=
  runInstr (dec .w8 (rm8Op d)) s

/-- DEC r/m16/32: `FF /1` (40_arith.md R236). -/
def execDecRm (d : RM) (s : State) : Host.Outcome State Fault Refusal :=
  runInstr (atSize fun w => dec w (rmOp d)) s

/-- DEC r16/32: `48+rw/rd` (40_arith.md R236). -/
def execDecR (r : Reg) (s : State) : Host.Outcome State Fault Refusal :=
  runInstr (atSize fun w => dec w (.reg r)) s

/-- NOT r/m8: `F6 /2` (41_logic_shift_bit.md R293). -/
def execNotRm8 (d : RM8) (s : State) : Host.Outcome State Fault Refusal :=
  runInstr (not .w8 (rm8Op d)) s

/-- NOT r/m16/32: `F7 /2` (41_logic_shift_bit.md R293). -/
def execNotRm (d : RM) (s : State) : Host.Outcome State Fault Refusal :=
  runInstr (atSize fun w => not w (rmOp d)) s

/-- NEG r/m8: `F6 /3` (40_arith.md R237). -/
def execNegRm8 (d : RM8) (s : State) : Host.Outcome State Fault Refusal :=
  runInstr (neg .w8 (rm8Op d)) s

/-- NEG r/m16/32: `F7 /3` (40_arith.md R237). -/
def execNegRm (d : RM) (s : State) : Host.Outcome State Fault Refusal :=
  runInstr (atSize fun w => neg w (rmOp d)) s

/-- MUL r/m8: `F6 /4` (40_arith.md R238). -/
def execMulRm8 (d : RM8) (s : State) : Host.Outcome State Fault Refusal :=
  runInstr (mul .w8 (rm8Op d)) s

/-- MUL r/m16/32: `F7 /4` (40_arith.md R238). -/
def execMulRm (d : RM) (s : State) : Host.Outcome State Fault Refusal :=
  runInstr (atSize fun w => mul w (rmOp d)) s

/-- IMUL r/m8: `F6 /5` (40_arith.md R239). -/
def execImulRm8 (d : RM8) (s : State) : Host.Outcome State Fault Refusal :=
  runInstr (imul1 .w8 (rm8Op d)) s

/-- IMUL r/m16/32: `F7 /5` (40_arith.md R239). -/
def execImulRm (d : RM) (s : State) : Host.Outcome State Fault Refusal :=
  runInstr (atSize fun w => imul1 w (rmOp d)) s

/-- DIV r/m8: `F6 /6` (40_arith.md R242). -/
def execDivRm8 (d : RM8) (s : State) : Host.Outcome State Fault Refusal :=
  runInstr (div .w8 (rm8Op d)) s

/-- DIV r/m16/32: `F7 /6` (40_arith.md R242). -/
def execDivRm (d : RM) (s : State) : Host.Outcome State Fault Refusal :=
  runInstr (atSize fun w => div w (rmOp d)) s

/-- IDIV r/m8: `F6 /7` (40_arith.md R243). -/
def execIdivRm8 (d : RM8) (s : State) : Host.Outcome State Fault Refusal :=
  runInstr (idiv .w8 (rm8Op d)) s

/-- IDIV r/m16/32: `F7 /7` (40_arith.md R243). -/
def execIdivRm (d : RM) (s : State) : Host.Outcome State Fault Refusal :=
  runInstr (atSize fun w => idiv w (rmOp d)) s

/-- IMUL r16/32,r/m16/32: `0F AF /r` (40_arith.md R240). -/
def execImulRRm (r : Reg) (m : RM) (s : State) : Host.Outcome State Fault Refusal :=
  runInstr (atSize fun w => imulTo w r (.reg r) (rmOp m)) s

/-- IMUL r16/32,r/m16/32,imm8: `6B /r ib` (40_arith.md R241). -/
def execImulRRmImm8 (r : Reg) (m : RM) (i : BitVec 8) (s : State) : Host.Outcome State Fault Refusal :=
  runInstr (atSize fun w => imulTo w r (rmOp m) (.imm (sext i))) s

/-- IMUL r16/32,r/m16/32,imm16/32: `69 /r iw/id` (40_arith.md R241). -/
def execImulRRmImm (r : Reg) (m : RM) (i : BitVec 32) (s : State) : Host.Outcome State Fault Refusal :=
  runInstr (atSize fun w => imulTo w r (rmOp m) (.imm i)) s

/-- CBW_CWDE: `98` (40_arith.md R244). -/
def execCbwCwde (s : State) : Host.Outcome State Fault Refusal :=
  runInstr (fun s => cbw s.opSize s) s

/-- CWD_CDQ: `99` (40_arith.md R245). -/
def execCwdCdq (s : State) : Host.Outcome State Fault Refusal :=
  runInstr (fun s => cwd s.opSize s) s

/-- AAA: `37` (40_arith.md R246). -/
def execAaa (s : State) : Host.Outcome State Fault Refusal :=
  runInstr (doAaa) s

/-- AAS: `3F` (40_arith.md R247). -/
def execAas (s : State) : Host.Outcome State Fault Refusal :=
  runInstr (doAas) s

/-- AAM imm8: `D4 ib` (40_arith.md R248). -/
def execAamImm8 (i : BitVec 8) (s : State) : Host.Outcome State Fault Refusal :=
  runInstr (doAam i) s

/-- AAD imm8: `D5 ib` (40_arith.md R249). -/
def execAadImm8 (i : BitVec 8) (s : State) : Host.Outcome State Fault Refusal :=
  runInstr (doAad i) s

/-- DAA: `27` (40_arith.md R250). -/
def execDaa (s : State) : Host.Outcome State Fault Refusal :=
  runInstr (doDaa) s

/-- DAS: `2F` (40_arith.md R251). -/
def execDas (s : State) : Host.Outcome State Fault Refusal :=
  runInstr (doDas) s

/-- TEST AL,imm8: `A8 ib` (41_logic_shift_bit.md R294). -/
def execTestAlImm8 (i : BitVec 8) (s : State) : Host.Outcome State Fault Refusal :=
  runInstr (test .w8 (accOp .w8) (.imm (sext i))) s

/-- TEST eAX,imm16/32: `A9 iw/id` (41_logic_shift_bit.md R294). -/
def execTestEaxImm (i : BitVec 32) (s : State) : Host.Outcome State Fault Refusal :=
  runInstr (atSize fun w => test w (accOp w) (.imm i)) s

/-- TEST r/m8,imm8: `F6 /0 ib` (41_logic_shift_bit.md R294). -/
def execTestRm8Imm8 (d : RM8) (i : BitVec 8) (s : State) : Host.Outcome State Fault Refusal :=
  runInstr (test .w8 (rm8Op d) (.imm (sext i))) s

/-- TEST r/m16/32,imm16/32: `F7 /0 iw/id` (41_logic_shift_bit.md R294). -/
def execTestRmImm (d : RM) (i : BitVec 32) (s : State) : Host.Outcome State Fault Refusal :=
  runInstr (atSize fun w => test w (rmOp d) (.imm i)) s

/-- TEST r/m8,r8: `84 /r` (41_logic_shift_bit.md R294). -/
def execTestRm8R8 (d : RM8) (r : Reg8) (s : State) : Host.Outcome State Fault Refusal :=
  runInstr (test .w8 (rm8Op d) (.reg8 r)) s

/-- TEST r/m16/32,r16/32: `85 /r` (41_logic_shift_bit.md R294). -/
def execTestRmR (d : RM) (r : Reg) (s : State) : Host.Outcome State Fault Refusal :=
  runInstr (atSize fun w => test w (rmOp d) (.reg r)) s

end Sys2Proof.Machine
end

