-- ==== Sys2Proof/Machine/Control.lean ====
section
/-!
DEFINITION. Near transfers, software interrupts, frames, BOUND, HLT and NOP (44_control.md R470 to R479, R500 to R520).
-/

namespace Sys2Proof.Machine

/-- NearTarget (R470): the target within the limit of CS, else #GP(0). -/
def nearTarget (o : Size) (t : Word) : M Unit := do
  let s ← getS
  let t := sizeTrunc o t
  checkTarget s.segs.cs.limit t 0
  setEip t

/-- A jump relative to the next instruction (R470). -/
def jumpRel (rel : Word) : M Unit := do
  let s ← getS
  nearTarget s.opSize (s.eip + rel)

/-- JMP to a target in a register or memory (R471). -/
def jumpOpnd (d : Opnd) : M Unit := atOpSize fun o => do
  let t ← readOp (widthOf o) d
  nearTarget o (t.setWidth 32)

/-- Jcc (R472). -/
def jumpIf (c : Cond) (rel : Word) : M Unit := do
  let s ← getS
  onlyIf (cond s.flags c) (jumpRel rel)

/-- The count register (R473): CX or ECX by the address size. -/
def State.count (s : State) : Word := s.regs.getV s.adSize .ecx

/-- JCXZ and JECXZ (R473). -/
def jumpIfNoCount (rel : Word) : M Unit := do
  let s ← getS
  onlyIf (decide (s.count = 0)) (jumpRel rel)

/-- LOOP, LOOPE, LOOPNE (R475 to R477): count down, jump unless the count is zero and while ZF is as `want`. -/
def loopWhile (want : Option Bool) (rel : Word) : M Unit := do
  let s ← getS
  setRegV s.adSize .ecx (s.count - 1)
  let t ← getS
  onlyIf (decide (t.count ≠ 0) && want.all fun z => t.flags.zf == z) (jumpRel rel)

/-- CALL near to the target `t` (R478): the limit is tested before the push. -/
def callNear (o : Size) (t : Word) : M Unit := do
  let s ← getS
  let t := sizeTrunc o t
  checkTarget s.segs.cs.limit t 0
  push o s.eip
  setEip t

/-- CALL near, relative (R478). -/
def callRelative (rel : Word) : M Unit := do
  let s ← getS
  callNear s.opSize (s.eip + rel)

/-- CALL near, indirect (R478): the operand is read before the push. -/
def callOpnd (d : Opnd) : M Unit := atOpSize fun o => do
  let t ← readOp (widthOf o) d
  callNear o (t.setWidth 32)

/-- RET near, releasing `imm` bytes (R479). -/
def returnNear (imm : Half) : M Unit := atOpSize fun o => do
  let t ← pop o
  nearTarget o t
  popBytes imm.toNat

/-! ### Software interrupts -/

/-- INT n (R500): in virtual-8086 mode only with IOPL = 3. -/
def intN (n : BitVec 8) : M Unit := do
  let s ← getS
  check (!s.v86 || decide (s.flags.iopl = 3)) (raiseGP 0)
  softInt n .soft

/-- INTO (R502). -/
def intOverflow : M Unit := do
  let s ← getS
  onlyIf s.flags.of (softInt 4 .soft)

/-! ### Frames -/

/-- Read `n` bytes of the stack segment at an offset (R122, R512). -/
def stackRead (off : Word) (n : Nat) : M Nat := do
  let s ← getS
  let as ← stackAccess s.segs.ss off n false s.user 0
  loadAt as

/-- The display loop of ENTER (R512): the frame pointers of the outer levels are pushed again. -/
def copyDisplay (o : Size) : Nat → M Unit
  | 0 => skip
  | i + 1 => do
      let s ← getS
      setRegV s.stackSize .ebp (s.regs.getV s.stackSize .ebp - BitVec.ofNat 32 (sizeBytes o))
      let t ← getS
      let v ← stackRead (t.regs.getV t.stackSize .ebp) (sizeBytes o)
      push o (BitVec.ofNat 32 v)
      copyDisplay o i

/-- The final test of ENTER (R512): a write at the new stack pointer would not fault; nothing is written. DESIGN CHOICE (log
12): the test sets the A and D bits of the page's entries as a write does. -/
def probeStack (n : Nat) : M Unit := do
  let s ← getS
  check (s.segs.ss.inLimit s.sp n) (raiseSS 0)
  let _ ← physOf (s.segs.ss.base + s.sp) n true s.user

/-- ENTER (R512). -/
def enterFrame (o : Size) (size : Half) (level : BitVec 8) : M Unit := do
  let s ← getS
  push o (s.regs.getV o .ebp)
  let frame ← regV o .esp
  let levels := level.toNat % 32
  copyDisplay o (levels - 1)
  onlyIf (decide (0 < levels)) (push o frame)
  setRegV o .ebp frame
  let sp ← regV o .esp
  setRegV o .esp (sp - size.setWidth 32)
  probeStack (sizeBytes o)

/-- LEAVE (R513): the stack pointer takes the frame pointer by the stack size, the pop follows the operand size. -/
def leaveFrame (o : Size) : M Unit := do
  let s ← getS
  setSp (s.regs.getV s.stackSize .ebp)
  let v ← pop o
  setRegV o .ebp v

/-! ### BOUND and HLT -/

/-- BOUND (R514): both bounds are one operand for the checks. -/
def bound (w : Width) (r : Reg) (m : MemOp) : M Unit := do
  let b ← readMem m (2 * w.bytes)
  let i ← readOp w (.reg r)
  let lower : BitVec w.bits := BitVec.ofNat w.bits b
  let upper : BitVec w.bits := BitVec.ofNat w.bits (b / 2 ^ w.bits)
  check (decide (lower.toInt ≤ i.toInt) && decide (i.toInt ≤ upper.toInt)) raiseBR

/-- HLT (R515). -/
def halt : M Unit := do
  let s ← getS
  check (!s.cr0.pe || decide (s.cpl = 0)) (raiseGP 0)
  upd fun t => { t with run := .halted }

/-! ### The instructions -/

/-- JMP rel8: `EB cb` (44_control.md R471). -/
def execJmpRel8 (i : BitVec 8) (s : State) : Host.Outcome State Fault Refusal :=
  runInstr (jumpRel (sext i)) s

/-- JMP rel16/32: `E9 cw/cd` (44_control.md R471). -/
def execJmpRel (i : BitVec 32) (s : State) : Host.Outcome State Fault Refusal :=
  runInstr (jumpRel i) s

/-- JMP r/m16/32: `FF /4` (44_control.md R471). -/
def execJmpRm (d : RM) (s : State) : Host.Outcome State Fault Refusal :=
  runInstr (jumpOpnd (rmOp d)) s

/-- JO rel8: `70 cb` (44_control.md R472). -/
def execJoRel8 (i : BitVec 8) (s : State) : Host.Outcome State Fault Refusal :=
  runInstr (jumpIf .o (sext i)) s

/-- JO rel16/32: `0F 80 cw/cd` (44_control.md R472). -/
def execJoRel (i : BitVec 32) (s : State) : Host.Outcome State Fault Refusal :=
  runInstr (jumpIf .o i) s

/-- JNO rel8: `71 cb` (44_control.md R472). -/
def execJnoRel8 (i : BitVec 8) (s : State) : Host.Outcome State Fault Refusal :=
  runInstr (jumpIf .no (sext i)) s

/-- JNO rel16/32: `0F 81 cw/cd` (44_control.md R472). -/
def execJnoRel (i : BitVec 32) (s : State) : Host.Outcome State Fault Refusal :=
  runInstr (jumpIf .no i) s

/-- JB_JC_JNAE rel8: `72 cb` (44_control.md R472). -/
def execJbRel8 (i : BitVec 8) (s : State) : Host.Outcome State Fault Refusal :=
  runInstr (jumpIf .b (sext i)) s

/-- JB_JC_JNAE rel16/32: `0F 82 cw/cd` (44_control.md R472). -/
def execJbRel (i : BitVec 32) (s : State) : Host.Outcome State Fault Refusal :=
  runInstr (jumpIf .b i) s

/-- JAE_JNB_JNC rel8: `73 cb` (44_control.md R472). -/
def execJaeRel8 (i : BitVec 8) (s : State) : Host.Outcome State Fault Refusal :=
  runInstr (jumpIf .ae (sext i)) s

/-- JAE_JNB_JNC rel16/32: `0F 83 cw/cd` (44_control.md R472). -/
def execJaeRel (i : BitVec 32) (s : State) : Host.Outcome State Fault Refusal :=
  runInstr (jumpIf .ae i) s

/-- JE_JZ rel8: `74 cb` (44_control.md R472). -/
def execJeRel8 (i : BitVec 8) (s : State) : Host.Outcome State Fault Refusal :=
  runInstr (jumpIf .e (sext i)) s

/-- JE_JZ rel16/32: `0F 84 cw/cd` (44_control.md R472). -/
def execJeRel (i : BitVec 32) (s : State) : Host.Outcome State Fault Refusal :=
  runInstr (jumpIf .e i) s

/-- JNE_JNZ rel8: `75 cb` (44_control.md R472). -/
def execJneRel8 (i : BitVec 8) (s : State) : Host.Outcome State Fault Refusal :=
  runInstr (jumpIf .ne (sext i)) s

/-- JNE_JNZ rel16/32: `0F 85 cw/cd` (44_control.md R472). -/
def execJneRel (i : BitVec 32) (s : State) : Host.Outcome State Fault Refusal :=
  runInstr (jumpIf .ne i) s

/-- JBE_JNA rel8: `76 cb` (44_control.md R472). -/
def execJbeRel8 (i : BitVec 8) (s : State) : Host.Outcome State Fault Refusal :=
  runInstr (jumpIf .be (sext i)) s

/-- JBE_JNA rel16/32: `0F 86 cw/cd` (44_control.md R472). -/
def execJbeRel (i : BitVec 32) (s : State) : Host.Outcome State Fault Refusal :=
  runInstr (jumpIf .be i) s

/-- JA_JNBE rel8: `77 cb` (44_control.md R472). -/
def execJaRel8 (i : BitVec 8) (s : State) : Host.Outcome State Fault Refusal :=
  runInstr (jumpIf .a (sext i)) s

/-- JA_JNBE rel16/32: `0F 87 cw/cd` (44_control.md R472). -/
def execJaRel (i : BitVec 32) (s : State) : Host.Outcome State Fault Refusal :=
  runInstr (jumpIf .a i) s

/-- JS rel8: `78 cb` (44_control.md R472). -/
def execJsRel8 (i : BitVec 8) (s : State) : Host.Outcome State Fault Refusal :=
  runInstr (jumpIf .s (sext i)) s

/-- JS rel16/32: `0F 88 cw/cd` (44_control.md R472). -/
def execJsRel (i : BitVec 32) (s : State) : Host.Outcome State Fault Refusal :=
  runInstr (jumpIf .s i) s

/-- JNS rel8: `79 cb` (44_control.md R472). -/
def execJnsRel8 (i : BitVec 8) (s : State) : Host.Outcome State Fault Refusal :=
  runInstr (jumpIf .ns (sext i)) s

/-- JNS rel16/32: `0F 89 cw/cd` (44_control.md R472). -/
def execJnsRel (i : BitVec 32) (s : State) : Host.Outcome State Fault Refusal :=
  runInstr (jumpIf .ns i) s

/-- JP_JPE rel8: `7A cb` (44_control.md R472). -/
def execJpRel8 (i : BitVec 8) (s : State) : Host.Outcome State Fault Refusal :=
  runInstr (jumpIf .p (sext i)) s

/-- JP_JPE rel16/32: `0F 8A cw/cd` (44_control.md R472). -/
def execJpRel (i : BitVec 32) (s : State) : Host.Outcome State Fault Refusal :=
  runInstr (jumpIf .p i) s

/-- JNP_JPO rel8: `7B cb` (44_control.md R472). -/
def execJnpRel8 (i : BitVec 8) (s : State) : Host.Outcome State Fault Refusal :=
  runInstr (jumpIf .np (sext i)) s

/-- JNP_JPO rel16/32: `0F 8B cw/cd` (44_control.md R472). -/
def execJnpRel (i : BitVec 32) (s : State) : Host.Outcome State Fault Refusal :=
  runInstr (jumpIf .np i) s

/-- JL_JNGE rel8: `7C cb` (44_control.md R472). -/
def execJlRel8 (i : BitVec 8) (s : State) : Host.Outcome State Fault Refusal :=
  runInstr (jumpIf .l (sext i)) s

/-- JL_JNGE rel16/32: `0F 8C cw/cd` (44_control.md R472). -/
def execJlRel (i : BitVec 32) (s : State) : Host.Outcome State Fault Refusal :=
  runInstr (jumpIf .l i) s

/-- JGE_JNL rel8: `7D cb` (44_control.md R472). -/
def execJgeRel8 (i : BitVec 8) (s : State) : Host.Outcome State Fault Refusal :=
  runInstr (jumpIf .ge (sext i)) s

/-- JGE_JNL rel16/32: `0F 8D cw/cd` (44_control.md R472). -/
def execJgeRel (i : BitVec 32) (s : State) : Host.Outcome State Fault Refusal :=
  runInstr (jumpIf .ge i) s

/-- JLE_JNG rel8: `7E cb` (44_control.md R472). -/
def execJleRel8 (i : BitVec 8) (s : State) : Host.Outcome State Fault Refusal :=
  runInstr (jumpIf .le (sext i)) s

/-- JLE_JNG rel16/32: `0F 8E cw/cd` (44_control.md R472). -/
def execJleRel (i : BitVec 32) (s : State) : Host.Outcome State Fault Refusal :=
  runInstr (jumpIf .le i) s

/-- JG_JNLE rel8: `7F cb` (44_control.md R472). -/
def execJgRel8 (i : BitVec 8) (s : State) : Host.Outcome State Fault Refusal :=
  runInstr (jumpIf .g (sext i)) s

/-- JG_JNLE rel16/32: `0F 8F cw/cd` (44_control.md R472). -/
def execJgRel (i : BitVec 32) (s : State) : Host.Outcome State Fault Refusal :=
  runInstr (jumpIf .g i) s

/-- JCXZ_JECXZ rel8: `E3 cb` (44_control.md R473). -/
def execJcxzRel8 (i : BitVec 8) (s : State) : Host.Outcome State Fault Refusal :=
  runInstr (jumpIfNoCount (sext i)) s

/-- LOOP rel8: `E2 cb` (44_control.md R475). -/
def execLoopRel8 (i : BitVec 8) (s : State) : Host.Outcome State Fault Refusal :=
  runInstr (loopWhile none (sext i)) s

/-- LOOPE_LOOPZ rel8: `E1 cb` (44_control.md R476). -/
def execLoopeRel8 (i : BitVec 8) (s : State) : Host.Outcome State Fault Refusal :=
  runInstr (loopWhile (some true) (sext i)) s

/-- LOOPNE_LOOPNZ rel8: `E0 cb` (44_control.md R477). -/
def execLoopneRel8 (i : BitVec 8) (s : State) : Host.Outcome State Fault Refusal :=
  runInstr (loopWhile (some false) (sext i)) s

/-- CALL rel16/32: `E8 cw/cd` (44_control.md R478). -/
def execCallRel (i : BitVec 32) (s : State) : Host.Outcome State Fault Refusal :=
  runInstr (callRelative i) s

/-- CALL r/m16/32: `FF /2` (44_control.md R478). -/
def execCallRm (d : RM) (s : State) : Host.Outcome State Fault Refusal :=
  runInstr (callOpnd (rmOp d)) s

/-- RET (near): `C3` (44_control.md R479). -/
def execRetNear (s : State) : Host.Outcome State Fault Refusal :=
  runInstr (returnNear 0) s

/-- RET imm16 (near): `C2 iw` (44_control.md R479). -/
def execRetNearImm16 (i : BitVec 16) (s : State) : Host.Outcome State Fault Refusal :=
  runInstr (returnNear i) s

/-- INT imm8: `CD ib` (44_control.md R500). -/
def execIntImm8 (i : BitVec 8) (s : State) : Host.Outcome State Fault Refusal :=
  runInstr (intN i) s

/-- INT3: `CC` (44_control.md R501). -/
def execInt3 (s : State) : Host.Outcome State Fault Refusal :=
  runInstr (softInt 3 .soft) s

/-- INTO: `CE` (44_control.md R502). -/
def execInto (s : State) : Host.Outcome State Fault Refusal :=
  runInstr (intOverflow) s

/-- INT1: `F1` (44_control.md R503). -/
def execInt1 (s : State) : Host.Outcome State Fault Refusal :=
  runInstr (softInt 1 .int1) s

/-- IRET_IRETD: `CF` (44_control.md R505). -/
def execIret (s : State) : Host.Outcome State Fault Refusal :=
  runInstr (atOpSize returnFromInt) s

/-- ENTER imm16,imm8: `C8 iw ib` (44_control.md R512). -/
def execEnter (size : BitVec 16) (level : BitVec 8) (s : State) : Host.Outcome State Fault Refusal :=
  runInstr (atOpSize fun o => enterFrame o size level) s

/-- LEAVE: `C9` (44_control.md R513). -/
def execLeave (s : State) : Host.Outcome State Fault Refusal :=
  runInstr (atOpSize leaveFrame) s

/-- BOUND r16/32,m16&16/m32&32: `62 /r` (44_control.md R514). -/
def execBoundRM (r : Reg) (m : MemOp) (s : State) : Host.Outcome State Fault Refusal :=
  runInstr (atSize fun w => bound w r m) s

/-- HLT: `F4` (44_control.md R515). -/
def execHlt (s : State) : Host.Outcome State Fault Refusal :=
  runInstr (halt) s

/-- NOP: `90` (44_control.md R520). -/
def execNop (s : State) : Host.Outcome State Fault Refusal :=
  runInstr (skip) s

end Sys2Proof.Machine
end

