-- ==== Sys2Proof/Machine/DataMove.lean ====
section
/-!
DEFINITION. Data movement, the stack, the flag register and far pointer loads (42_data_move.md R350 to R381).
-/

namespace Sys2Proof.Machine

/-- MOV (R350). -/
def move (w : Width) (d s : Opnd) : M Unit := do
  let v ← readOp w s
  writeOp w d v

/-- MOV from a direct offset (R351). -/
def loadMoffs (w : Width) (off : Word) : M Unit := do
  let s ← getS
  let v ← memRead s.dsSeg off w.bytes
  writeOp w (accOp w) (BitVec.ofNat w.bits v)

/-- MOV to a direct offset (R351). -/
def storeMoffs (w : Width) (off : Word) : M Unit := do
  let s ← getS
  let v ← readOp w (accOp w)
  memWrite s.dsSeg off w.bytes v.toNat

/-- A 16-bit system value to a register or memory (R352, 45_system.md R546, R550): memory takes 16 bits; bits 31:16 of a
32-bit register are undefined (93_implementation_defined.md U15, U22), a draw. -/
def storeHalf (o : Size) (d : RM) (v : Half) : M Unit :=
  match d with
  | .mem m => writeMem m 2 v.toNat
  | .reg r =>
      match o with
      | .s16 => setReg16 r v
      | .s32 => do
          let upper ← drawWord
          setReg r (withLow16 upper v)

/-- MOV from a segment register (R352). -/
def moveFromSreg (o : Size) (d : RM) (r : SReg) : M Unit := do
  let s ← getS
  storeHalf o d (s.segs.get r).selector

/-- A load of SS by MOV or POP holds off interrupts at the next boundary (60_exceptions.md R735 (a)). -/
def shadowSs (r : SReg) : M Unit := onlyIf (decide (r = .ss)) (upd fun s => { s with shadow := .ssLoad })

/-- MOV to a segment register (R353). -/
def moveToSreg (r : SReg) (src : RM) : M Unit := do
  check (decide (r ≠ .cs)) raiseUD
  let v ← readOp .w16 (rmOp src)
  loadSreg r v
  shadowSs r

/-- MOVSX and MOVZX: read at one width, write at another (R356, R357). -/
def moveExtend (signed : Bool) (narrow wide : Width) (r : Reg) (src : Opnd) : M Unit := do
  let v ← readOp narrow src
  writeReg wide r (if signed then v.signExtend wide.bits else v.setWidth wide.bits)

/-- XCHG (R358). A memory operand is checked once, for writing. -/
def exchange (w : Width) (d s : Opnd) : M Unit := modify w d fun a => do
  let b ← readOp w s
  writeOp w s a
  pure (some b)

/-- LEA (R360). -/
def lea (w : Width) (r : Reg) (m : MemOp) : M Unit := do
  let s ← getS
  writeReg w r ((ea s.regs m).setWidth w.bits)

/-- XLAT (R361). -/
def doXlat : M Unit := do
  let s ← getS
  let a := sizeTrunc s.adSize (s.regs.ebx + (s.regs.get8 .al).setWidth 32)
  let v ← memRead s.dsSeg a 1
  setReg8 .al (BitVec.ofNat 8 v)

/-! ### PUSH and POP -/

/-- PUSH of an operand (R362): the source is read before the stack pointer moves. -/
def pushOpnd (o : Size) (src : Opnd) : M Unit := do
  let v ← readOp (widthOf o) src
  push o (v.setWidth 32)

/-- PUSH of a segment register (R363): 4 bytes are checked; the upper word is written as PUSH_SREG_32_ZEROEXT says. DESIGN
CHOICE (log 18): for a data breakpoint it is a write of the 4 bytes either way. -/
def pushSreg (o : Size) (r : SReg) : M Unit := do
  let s ← getS
  let sel := (s.segs.get r).selector
  if o = .s32 ∧ !s.cfg.pushSreg32ZeroExt then do
    roomFor s.segs.ss s.sp 4 0 1
    let as ← stackAccess s.segs.ss (below s.stackSize s.sp 4 1) 4 true s.user 0
    storeAt (as.take 2) sel.toNat
    setSp (s.sp - 4)
  else push o (sel.setWidth 32)

/-- A memory operand addressed through ESP. -/
def Opnd.viaEsp : Opnd → Bool
  | .mem (.a32 (some .esp) _ _) => true
  | _ => false

/-- POP of `n` bytes to an address through ESP while a 16-bit SP wraps (R364, 93_implementation_defined.md U18). -/
def popWraps (s : State) (d : Opnd) (n : Nat) : Bool :=
  d.viaEsp && decide (s.stackSize = .s16) && decide (2 ^ 16 ≤ s.sp.toNat + n)

/-- POP (R364): the stack pointer moves before the destination's address is computed. Where SP wraps, whether the address
takes the carry into bit 16 is free (U18; log 26). -/
def popOpnd (o : Size) (d : Opnd) : M Unit := do
  let s ← getS
  let v ← pop o
  let carry ← if popWraps s d (sizeBytes o) then drawBit else pure false
  let t ← getS
  onlyIf carry (upd fun u => { u with regs := u.regs.set .esp (s.regs.esp + BitVec.ofNat 32 (sizeBytes o)) })
  writeOp (widthOf o) d (v.setWidth (widthOf o).bits)
  onlyIf carry (upd fun u => { u with regs := t.regs })

/-- POP of a segment register (R365). DESIGN CHOICE (log 26): POP SS moves the stack pointer by the size of the new stack. -/
def popSreg (o : Size) (r : SReg) : M Unit := do
  let v ← peek 0 (sizeBytes o)
  loadSreg r (BitVec.ofNat 16 v)
  popBytes (sizeBytes o)
  shadowSs r

/-- The stack pointers with which PUSHA raises #GP in real-address and virtual-8086 mode (R366). -/
def pushaOdd : List Word := [7, 9, 11, 13, 15]

/-- The stack pointers with which PUSHA in these modes ends in shutdown (R366). -/
def pushaDead : List Word := [1, 3, 5]

/-- PUSHA (R366): the whole range is checked before anything is written. -/
def doPusha (o : Size) : M Unit := do
  let s ← getS
  check (s.protectedMode || !pushaOdd.contains s.sp) (raiseGP 0)
  check (s.protectedMode || !pushaDead.contains s.sp) (raiseDeadSS pushaDead 0)
  let v := fun r => (s.regs.getV o r).toNat
  pushAll (sizeBytes o) [v .eax, v .ecx, v .edx, v .ebx, v .esp, v .ebp, v .esi, v .edi]

/-- POPA (R367): the image of the stack pointer is skipped. DESIGN CHOICE (log 18): for a data breakpoint its slot is read like
the others. -/
def doPopa (o : Size) : M Unit := do
  let n := sizeBytes o
  let s ← getS
  check ((List.range 8).all fun k => s.segs.ss.inLimit (sizeTrunc s.stackSize (s.sp + BitVec.ofNat 32 (n * k))) n) (raiseSS 0)
  let di ← peek 0 n
  let si ← peek n n
  let bp ← peek (2 * n) n
  let _ ← peek (3 * n) n
  let bx ← peek (4 * n) n
  let dx ← peek (5 * n) n
  let cx ← peek (6 * n) n
  let ax ← peek (7 * n) n
  popBytes (8 * n)
  forEach [(Reg.edi, di), (.esi, si), (.ebp, bp), (.ebx, bx), (.edx, dx), (.ecx, cx), (.eax, ax)] fun x =>
    setRegV o x.1 (BitVec.ofNat 32 x.2)

/-! ### The flag register -/

/-- PUSHF (R368). -/
def doPushf (o : Size) : M Unit := do
  let s ← getS
  check (!s.v86 || decide (s.flags.iopl = 3)) (raiseGP 0)
  push o ({ s.flags with vm := false, rf := false }.toWord)

/-- The flags POPF loads from `w` (R369), in the mode and at the CPL given. -/
def Flags.popped (f w : Flags) (o : Size) (pe : Bool) (cpl : BitVec 2) : Flags :=
  let all := !pe || (!f.vm && decide (cpl = 0))
  { cf := w.cf, pf := w.pf, af := w.af, zf := w.zf, sf := w.sf, tf := w.tf, df := w.df, of := w.of, nt := w.nt,
    ifl := if all || f.vm || decide (cpl ≤ f.iopl) then w.ifl else f.ifl,
    iopl := if all then w.iopl else f.iopl,
    rf := if o = .s32 then false else f.rf,
    vm := f.vm }

/-- POPF (R369). -/
def doPopf (o : Size) : M Unit := do
  let s ← getS
  check (!s.v86 || decide (s.flags.iopl = 3)) (raiseGP 0)
  let v ← pop o
  updFlags fun f => f.popped (Flags.ofWord v) o s.cr0.pe s.cpl

/-- LAHF (R370). -/
def doLahf : M Unit := do
  let s ← getS
  setReg8 .ah (s.flags.toWord.setWidth 8)

/-- SAHF (R371). -/
def doSahf : M Unit := do
  let s ← getS
  let w := Flags.ofWord ((s.regs.get8 .ah).setWidth 32)
  updFlags fun f => { f with sf := w.sf, zf := w.zf, af := w.af, pf := w.pf, cf := w.cf }

/-! ### Far pointers -/

/-- LDS, LES, LFS, LGS, LSS (R372 to R376): the pointer is read as one
operand, the segment register loaded, then the register. -/
def loadFar (w : Width) (r : Reg) (g : SReg) (m : MemOp) : M Unit := do
  let v ← readMem m (w.bytes + 2)
  loadSreg g (BitVec.ofNat 16 (v / 256 ^ w.bytes))
  writeReg w r (BitVec.ofNat w.bits v)

/-! ### The instructions -/

/-- MOV r/m8,r8: `88 /r` (42_data_move.md R350). -/
def execMovRm8R8 (d : RM8) (r : Reg8) (s : State) : Host.Outcome State Fault Refusal :=
  runInstr (move .w8 (rm8Op d) (.reg8 r)) s

/-- MOV r/m16/32,r16/32: `89 /r` (42_data_move.md R350). -/
def execMovRmR (d : RM) (r : Reg) (s : State) : Host.Outcome State Fault Refusal :=
  runInstr (atSize fun w => move w (rmOp d) (.reg r)) s

/-- MOV r8,r/m8: `8A /r` (42_data_move.md R350). -/
def execMovR8Rm8 (r : Reg8) (m : RM8) (s : State) : Host.Outcome State Fault Refusal :=
  runInstr (move .w8 (.reg8 r) (rm8Op m)) s

/-- MOV r16/32,r/m16/32: `8B /r` (42_data_move.md R350). -/
def execMovRRm (r : Reg) (m : RM) (s : State) : Host.Outcome State Fault Refusal :=
  runInstr (atSize fun w => move w (.reg r) (rmOp m)) s

/-- MOV r8,imm8: `B0+rb ib` (42_data_move.md R350). -/
def execMovR8Imm8 (r : Reg8) (i : BitVec 8) (s : State) : Host.Outcome State Fault Refusal :=
  runInstr (move .w8 (.reg8 r) (.imm (zext i))) s

/-- MOV r16/32,imm16/32: `B8+rw/rd iw/id` (42_data_move.md R350). -/
def execMovRImm (r : Reg) (i : BitVec 32) (s : State) : Host.Outcome State Fault Refusal :=
  runInstr (atSize fun w => move w (.reg r) (.imm i)) s

/-- MOV r/m8,imm8: `C6 /0 ib` (42_data_move.md R350). -/
def execMovRm8Imm8 (d : RM8) (i : BitVec 8) (s : State) : Host.Outcome State Fault Refusal :=
  runInstr (move .w8 (rm8Op d) (.imm (zext i))) s

/-- MOV r/m16/32,imm16/32: `C7 /0 iw/id` (42_data_move.md R350). -/
def execMovRmImm (d : RM) (i : BitVec 32) (s : State) : Host.Outcome State Fault Refusal :=
  runInstr (atSize fun w => move w (rmOp d) (.imm i)) s

/-- MOV AL,moffs8: `A0 moffs` (42_data_move.md R351). -/
def execMovAlMoffs (off : BitVec 32) (s : State) : Host.Outcome State Fault Refusal :=
  runInstr (loadMoffs .w8 off) s

/-- MOV eAX,moffs16/32: `A1 moffs` (42_data_move.md R351). -/
def execMovEaxMoffs (off : BitVec 32) (s : State) : Host.Outcome State Fault Refusal :=
  runInstr (atSize fun w => loadMoffs w off) s

/-- MOV moffs8,AL: `A2 moffs` (42_data_move.md R351). -/
def execMovMoffsAl (off : BitVec 32) (s : State) : Host.Outcome State Fault Refusal :=
  runInstr (storeMoffs .w8 off) s

/-- MOV moffs16/32,eAX: `A3 moffs` (42_data_move.md R351). -/
def execMovMoffsEax (off : BitVec 32) (s : State) : Host.Outcome State Fault Refusal :=
  runInstr (atSize fun w => storeMoffs w off) s

/-- MOV r/m16,Sreg: `8C /r` (42_data_move.md R352). -/
def execMovRmSreg (d : RM) (sr : SReg) (s : State) : Host.Outcome State Fault Refusal :=
  runInstr (atOpSize fun o => moveFromSreg o d sr) s

/-- MOV Sreg,r/m16: `8E /r` (42_data_move.md R353). -/
def execMovSregRm (sr : SReg) (m : RM) (s : State) : Host.Outcome State Fault Refusal :=
  runInstr (moveToSreg sr m) s

/-- MOVSX r16/32,r/m8: `0F BE /r` (42_data_move.md R356). -/
def execMovsxRRm8 (r : Reg) (m : RM8) (s : State) : Host.Outcome State Fault Refusal :=
  runInstr (atSize fun w => moveExtend true .w8 w r (rm8Op m)) s

/-- MOVSX r16/32,r/m16: `0F BF /r` (42_data_move.md R356). -/
def execMovsxRRm16 (r : Reg) (m : RM) (s : State) : Host.Outcome State Fault Refusal :=
  runInstr (atSize fun w => moveExtend true .w16 w r (rmOp m)) s

/-- MOVZX r16/32,r/m8: `0F B6 /r` (42_data_move.md R357). -/
def execMovzxRRm8 (r : Reg) (m : RM8) (s : State) : Host.Outcome State Fault Refusal :=
  runInstr (atSize fun w => moveExtend false .w8 w r (rm8Op m)) s

/-- MOVZX r16/32,r/m16: `0F B7 /r` (42_data_move.md R357). -/
def execMovzxRRm16 (r : Reg) (m : RM) (s : State) : Host.Outcome State Fault Refusal :=
  runInstr (atSize fun w => moveExtend false .w16 w r (rmOp m)) s

/-- XCHG eAX,r16/32: `90+rw/rd` (42_data_move.md R358). -/
def execXchgEaxR (r : Reg) (s : State) : Host.Outcome State Fault Refusal :=
  runInstr (atSize fun w => exchange w (.reg .eax) (.reg r)) s

/-- XCHG r/m8,r8: `86 /r` (42_data_move.md R358). -/
def execXchgRm8R8 (d : RM8) (r : Reg8) (s : State) : Host.Outcome State Fault Refusal :=
  runInstr (exchange .w8 (rm8Op d) (.reg8 r)) s

/-- XCHG r/m16/32,r16/32: `87 /r` (42_data_move.md R358). -/
def execXchgRmR (d : RM) (r : Reg) (s : State) : Host.Outcome State Fault Refusal :=
  runInstr (atSize fun w => exchange w (rmOp d) (.reg r)) s

/-- LEA r16/32,m: `8D /r` (42_data_move.md R360). -/
def execLeaRM (r : Reg) (m : MemOp) (s : State) : Host.Outcome State Fault Refusal :=
  runInstr (atSize fun w => lea w r m) s

/-- XLAT_XLATB: `D7` (42_data_move.md R361). -/
def execXlat (s : State) : Host.Outcome State Fault Refusal :=
  runInstr (doXlat) s

/-- PUSH r/m16/32: `FF /6` (42_data_move.md R362). -/
def execPushRm (d : RM) (s : State) : Host.Outcome State Fault Refusal :=
  runInstr (atOpSize fun o => pushOpnd o (rmOp d)) s

/-- PUSH r16/32: `50+rw/rd` (42_data_move.md R362). -/
def execPushR (r : Reg) (s : State) : Host.Outcome State Fault Refusal :=
  runInstr (atOpSize fun o => pushOpnd o (.reg r)) s

/-- PUSH imm8: `6A ib` (42_data_move.md R362). -/
def execPushImm8 (i : BitVec 8) (s : State) : Host.Outcome State Fault Refusal :=
  runInstr (atOpSize fun o => pushOpnd o (.imm (sext i))) s

/-- PUSH imm16/32: `68 iw/id` (42_data_move.md R362). -/
def execPushImm (i : BitVec 32) (s : State) : Host.Outcome State Fault Refusal :=
  runInstr (atOpSize fun o => pushOpnd o (.imm i)) s

/-- PUSH ES: `06` (42_data_move.md R363). -/
def execPushEs (s : State) : Host.Outcome State Fault Refusal :=
  runInstr (atOpSize fun o => pushSreg o .es) s

/-- PUSH CS: `0E` (42_data_move.md R363). -/
def execPushCs (s : State) : Host.Outcome State Fault Refusal :=
  runInstr (atOpSize fun o => pushSreg o .cs) s

/-- PUSH SS: `16` (42_data_move.md R363). -/
def execPushSs (s : State) : Host.Outcome State Fault Refusal :=
  runInstr (atOpSize fun o => pushSreg o .ss) s

/-- PUSH DS: `1E` (42_data_move.md R363). -/
def execPushDs (s : State) : Host.Outcome State Fault Refusal :=
  runInstr (atOpSize fun o => pushSreg o .ds) s

/-- PUSH FS: `0F A0` (42_data_move.md R363). -/
def execPushFs (s : State) : Host.Outcome State Fault Refusal :=
  runInstr (atOpSize fun o => pushSreg o .fs) s

/-- PUSH GS: `0F A8` (42_data_move.md R363). -/
def execPushGs (s : State) : Host.Outcome State Fault Refusal :=
  runInstr (atOpSize fun o => pushSreg o .gs) s

/-- POP r/m16/32: `8F /0` (42_data_move.md R364). -/
def execPopRm (d : RM) (s : State) : Host.Outcome State Fault Refusal :=
  runInstr (atOpSize fun o => popOpnd o (rmOp d)) s

/-- POP r16/32: `58+rw/rd` (42_data_move.md R364). -/
def execPopR (r : Reg) (s : State) : Host.Outcome State Fault Refusal :=
  runInstr (atOpSize fun o => popOpnd o (.reg r)) s

/-- POP ES: `07` (42_data_move.md R365). -/
def execPopEs (s : State) : Host.Outcome State Fault Refusal :=
  runInstr (atOpSize fun o => popSreg o .es) s

/-- POP SS: `17` (42_data_move.md R365). -/
def execPopSs (s : State) : Host.Outcome State Fault Refusal :=
  runInstr (atOpSize fun o => popSreg o .ss) s

/-- POP DS: `1F` (42_data_move.md R365). -/
def execPopDs (s : State) : Host.Outcome State Fault Refusal :=
  runInstr (atOpSize fun o => popSreg o .ds) s

/-- POP FS: `0F A1` (42_data_move.md R365). -/
def execPopFs (s : State) : Host.Outcome State Fault Refusal :=
  runInstr (atOpSize fun o => popSreg o .fs) s

/-- POP GS: `0F A9` (42_data_move.md R365). -/
def execPopGs (s : State) : Host.Outcome State Fault Refusal :=
  runInstr (atOpSize fun o => popSreg o .gs) s

/-- PUSHA_PUSHAD: `60` (42_data_move.md R366). -/
def execPusha (s : State) : Host.Outcome State Fault Refusal :=
  runInstr (atOpSize doPusha) s

/-- POPA_POPAD: `61` (42_data_move.md R367). -/
def execPopa (s : State) : Host.Outcome State Fault Refusal :=
  runInstr (atOpSize doPopa) s

/-- PUSHF_PUSHFD: `9C` (42_data_move.md R368). -/
def execPushf (s : State) : Host.Outcome State Fault Refusal :=
  runInstr (atOpSize doPushf) s

/-- POPF_POPFD: `9D` (42_data_move.md R369). -/
def execPopf (s : State) : Host.Outcome State Fault Refusal :=
  runInstr (atOpSize doPopf) s

/-- LAHF: `9F` (42_data_move.md R370). -/
def execLahf (s : State) : Host.Outcome State Fault Refusal :=
  runInstr (doLahf) s

/-- SAHF: `9E` (42_data_move.md R371). -/
def execSahf (s : State) : Host.Outcome State Fault Refusal :=
  runInstr (doSahf) s

/-- LDS r16/32,m16:16/32: `C5 /r` (42_data_move.md R372). -/
def execLdsRM (r : Reg) (m : MemOp) (s : State) : Host.Outcome State Fault Refusal :=
  runInstr (atSize fun w => loadFar w r .ds m) s

/-- LES r16/32,m16:16/32: `C4 /r` (42_data_move.md R373). -/
def execLesRM (r : Reg) (m : MemOp) (s : State) : Host.Outcome State Fault Refusal :=
  runInstr (atSize fun w => loadFar w r .es m) s

/-- LFS r16/32,m16:16/32: `0F B4 /r` (42_data_move.md R374). -/
def execLfsRM (r : Reg) (m : MemOp) (s : State) : Host.Outcome State Fault Refusal :=
  runInstr (atSize fun w => loadFar w r .fs m) s

/-- LGS r16/32,m16:16/32: `0F B5 /r` (42_data_move.md R375). -/
def execLgsRM (r : Reg) (m : MemOp) (s : State) : Host.Outcome State Fault Refusal :=
  runInstr (atSize fun w => loadFar w r .gs m) s

/-- LSS r16/32,m16:16/32: `0F B2 /r` (42_data_move.md R376). -/
def execLssRM (r : Reg) (m : MemOp) (s : State) : Host.Outcome State Fault Refusal :=
  runInstr (atSize fun w => loadFar w r .ss m) s

/-- CLC: `F8` (42_data_move.md R377). -/
def execClc (s : State) : Host.Outcome State Fault Refusal :=
  runInstr (updFlags fun f => { f with cf := false }) s

/-- CLD: `FC` (42_data_move.md R378). -/
def execCld (s : State) : Host.Outcome State Fault Refusal :=
  runInstr (updFlags fun f => { f with df := false }) s

/-- CMC: `F5` (42_data_move.md R379). -/
def execCmc (s : State) : Host.Outcome State Fault Refusal :=
  runInstr (updFlags fun f => { f with cf := !f.cf }) s

/-- STC: `F9` (42_data_move.md R380). -/
def execStc (s : State) : Host.Outcome State Fault Refusal :=
  runInstr (updFlags fun f => { f with cf := true }) s

/-- STD: `FD` (42_data_move.md R381). -/
def execStd (s : State) : Host.Outcome State Fault Refusal :=
  runInstr (updFlags fun f => { f with df := true }) s

end Sys2Proof.Machine
end

