-- ==== Sys2Proof/Machine/Far.lean ====
section
/-!
DEFINITION. Far transfers (44_control.md R474, R480 to R497): JMP, CALL and RET far, call gates, task gates and TSSs.
-/

namespace Sys2Proof.Machine

/-- Which far transfer. -/
inductive FarKind
  | jmp | call
  deriving DecidableEq, Repr

/-- The task switch it makes. -/
def FarKind.switch : FarKind → SwitchKind
  | .jmp => .jmp
  | .call => .call

/-- A far pointer in memory (R474): the offset, then the selector, read as one operand. -/
def readFarPtr (o : Size) (m : MemOp) : M (Half × Word) := do
  let v ← readMem m (sizeBytes o + 2)
  pure (BitVec.ofNat 16 (v / 256 ^ sizeBytes o), BitVec.ofNat 32 (v % 256 ^ sizeBytes o))

/-- PushFarReturn (R486): the selector, then the offset. -/
def pushFarReturn (n : Nat) : M Unit := do
  let s ← getS
  pushAll n [s.segs.cs.selector.toNat, s.eip.toNat]

/-- Room for a far return address, else #SS(0) (R481 (3), R487, R489). -/
def roomForReturn (n : Nat) : M Unit := do
  let s ← getS
  roomFor s.segs.ss s.sp n 0 2

/-- JMP and CALL far in real-address and virtual-8086 mode (R482, R487). -/
def farReal (k : FarKind) (o : Size) (sel : Half) (off : Word) : M Unit := do
  let s ← getS
  let t := sizeTrunc o off
  onlyIf (decide (k = .call)) (do
    roomForReturn (sizeBytes o)
    check (decide (t ≤ 0xFFFF)) (raiseGP 0))
  checkTarget s.segs.cs.limit t 0
  onlyIf (decide (k = .call)) (pushFarReturn (sizeBytes o))
  loadCsReal sel
  setEip t

/-- A far transfer to a code segment (R481). -/
def farCode (k : FarKind) (o : Size) (sel : Half) (off : Word) (d : Desc) : M Unit := do
  let s ← getS
  let t := sizeTrunc o off
  check (if d.conforming then decide (d.dpl ≤ s.cpl) else decide (selRpl sel ≤ s.cpl) && decide (d.dpl = s.cpl))
    (raiseGP (selCode sel))
  check d.p (raiseNP (selCode sel))
  onlyIf (decide (k = .call)) (roomForReturn (sizeBytes o))
  checkTarget d.limit t 0
  onlyIf (decide (k = .call)) (pushFarReturn (sizeBytes o))
  loadCs sel d s.cpl
  setEip t

/-- The test of a gate's privilege and presence (R483, R484, R488, R491). -/
def checkGate (gsel : Half) (gate : Desc) : M Unit := do
  let s ← getS
  check (decide (s.cpl ≤ gate.dpl) && decide (selRpl gsel ≤ gate.dpl)) (raiseGP (selCode gsel))
  check gate.p (raiseNP (selCode gsel))

/-- The descriptor of a call gate's target (R483, R488): `ok` is the privilege test. -/
def gateTarget (gate : Desc) (ok : Desc → Bool) : M Desc := do
  let csel := gate.gateSel
  check (!selNull csel) (raiseGP 0)
  let cd ← readDesc csel (raiseGP (selCode csel))
  check (cd.isCode && ok cd) (raiseGP (selCode csel))
  check cd.p (raiseNP (selCode csel))
  pure cd

/-- JMP through a call gate (R483). -/
def jumpGate (gsel : Half) (gate : Desc) : M Unit := do
  checkGate gsel gate
  let s ← getS
  let cd ← gateTarget gate fun cd => if cd.conforming then decide (cd.dpl ≤ s.cpl) else decide (cd.dpl = s.cpl)
  checkTarget cd.limit gate.gateOff 0
  loadCs gate.gateSel cd s.cpl
  setEip gate.gateOff

/-- CALL through a call gate at the same privilege (R489). -/
def callGateSame (gate cd : Desc) : M Unit := do
  let s ← getS
  let n := if gate.is32 then 4 else 2
  roomForReturn n
  checkTarget cd.limit gate.gateOff 0
  pushFarReturn n
  loadCs gate.gateSel cd s.cpl
  setEip gate.gateOff

/-- The addresses of the `c` lowest parameters, the last one first: each on the old stack, and then in the slot of its push,
the `k + 1`-st on, on the new stack `g` at `sp` (R490 (5)): supervisor accesses. -/
def paramSlots (g : SegReg) (sp : Word) (n : Nat) (ec : Half) : (c k : Nat) → M (List (List Word × List Word))
  | 0, _ => pure []
  | c + 1, k => do
      let s ← getS
      let src ← stackAccess s.segs.ss (sizeTrunc s.stackSize (s.sp + BitVec.ofNat 32 (n * c))) n false false 0
      let dst ← pushSlot g sp n false ec (k + 1)
      let rest ← paramSlots g sp n ec c (k + 1)
      pure ((src, dst) :: rest)

/-- Copy the parameters, one after another (R490 (5)). -/
def copyParams (l : List (List Word × List Word)) : M Unit := forEach l fun x => do
  let v ← loadAt x.1
  storeAt x.2 v

/-- CALL through a call gate to more privilege (R490): the slots are translated in the order of the pushes, and written when
all are (60_exceptions.md R730). -/
def callGateInner (gate cd : Desc) : M Unit := do
  let s ← getS
  let (ss, esp, sd) ← innerStack cd.dpl 0 false
  let c := gate.gateCount
  let n := if gate.is32 then 4 else 2
  let sz := Size.ofBit sd.db
  let newSs := segOf ss sd
  let sp := spOf sz esp
  let ec := selCode ss
  roomFor newSs sp n ec (c + 4)
  checkTarget cd.limit gate.gateOff 0
  let stack ← pushSlots newSs sp n false ec 2
  let params ← paramSlots newSs sp n ec c 2
  let csSlot ← pushSlot newSs sp n false ec (c + 3)
  let ipSlot ← pushSlot newSs sp n false ec (c + 4)
  storeSlots stack [s.segs.ss.selector.toNat, s.regs.esp.toNat]
  copyParams params
  storeSlots [csSlot, ipSlot] [s.segs.cs.selector.toNat, s.eip.toNat]
  takeStack ss sd (pushedEsp sz esp n (c + 4))
  loadCs gate.gateSel cd cd.dpl
  setEip gate.gateOff
  upd fun t => { t with cpl := cd.dpl }

/-- CALL through a call gate (R488). -/
def callGate (gsel : Half) (gate : Desc) : M Unit := do
  checkGate gsel gate
  let s ← getS
  let cd ← gateTarget gate fun cd => decide (cd.dpl ≤ s.cpl)
  if !cd.conforming && decide (cd.dpl < s.cpl) then callGateInner gate cd else callGateSame gate cd

/-- Switch to the task of a TSS descriptor, then test the new EIP (R484, R485, R491). -/
def farSwitch (k : FarKind) (tsel : Half) (td : Desc) : M Unit := do
  let s ← getS
  switchTasks tsel td k.switch 0 s.here s.flags
  checkNewEip 0

/-- JMP and CALL through a task gate (R484, R491). -/
def farTaskGate (k : FarKind) (gsel : Half) (gate : Desc) : M Unit := do
  checkGate gsel gate
  let td ← readTss gate.gateSel [1, 9] 0
  farSwitch k gate.gateSel td

/-- JMP and CALL to a TSS (R485, R491). -/
def farTss (k : FarKind) (tsel : Half) (td : Desc) : M Unit := do
  let s ← getS
  check (decide (s.cpl ≤ td.dpl) && decide (selRpl tsel ≤ td.dpl) && td.isSystem [1, 9] && !selLocal tsel)
    (raiseGP (selCode tsel))
  check td.p (raiseNP (selCode tsel))
  farSwitch k tsel td

/-- JMP and CALL far in protected mode (R482, R487): by the type of the descriptor. -/
def farProtected (k : FarKind) (o : Size) (sel : Half) (off : Word) : M Unit := do
  check (!selNull sel) (raiseGP 0)
  let d ← readDesc sel (raiseGP (selCode sel))
  if d.isCode then farCode k o sel off d
  else if d.isSystem [4, 12] then
    match k with
    | .jmp => jumpGate sel d
    | .call => callGate sel d
  else if d.isSystem [5] then farTaskGate k sel d
  else if d.isSystem [1, 3, 9, 11] then farTss k sel d
  else raiseGP (selCode sel)

/-- JMP and CALL far (R482, R487). -/
def farTransfer (k : FarKind) (sel : Half) (off : Word) : M Unit := do
  let s ← getS
  if s.protectedMode then farProtected k s.opSize sel off else farReal k s.opSize sel off

/-- JMP and CALL far through a pointer in memory. -/
def farIndirect (k : FarKind) (m : MemOp) : M Unit := do
  let s ← getS
  let (sel, off) ← readFarPtr s.opSize m
  farTransfer k sel off

/-! ### RET far -/

/-- RET far in real-address and virtual-8086 mode (R493). -/
def returnFarReal (o : Size) (imm : Nat) : M Unit := do
  let k := sizeBytes o
  let s ← getS
  checkSlots k [0, k]
  let t ← slotV o 0
  let sel ← slotSel o k
  checkTarget s.segs.cs.limit t 0
  popBytes (2 * k)
  setEip t
  loadCsReal sel
  popBytes imm

/-- RET far to the same level (R494). -/
def returnFarSame (o : Size) (imm : Nat) (sel : Half) (cd : Desc) : M Unit := do
  let t ← slotV o 0
  checkTarget cd.limit t 0
  popBytes (2 * sizeBytes o)
  setEip t
  loadSeg .cs sel cd
  popBytes imm

/-- ESP after a far return to an outer level (R495 (5)): RETF16_ESP_UPPER says what becomes of the upper half. -/
def outerEsp (o : Size) (keep : Bool) (old new : Word) : Word :=
  match o with
  | .s32 => new
  | .s16 => if keep then withLow16 old (new.setWidth 16) else new

/-- RET far to an outer level (R495): the limit test covers the parameter bytes between the slots too. -/
def returnFarOuter (o : Size) (imm : Nat) (sel : Half) (cd : Desc) : M Unit := do
  let k := sizeBytes o
  let s ← getS
  checkSlots k [0, k, 2 * k + imm, 3 * k + imm]
  checkSpan (2 * k) imm
  let ssel ← slotSel o (3 * k + imm)
  let sd ← checkOuterSs ssel (selRpl sel)
  let t ← slotV o 0
  checkTarget cd.limit t 0
  let esp ← slotV o (2 * k + imm)
  upd fun u => { u with cpl := selRpl sel }
  setEip t
  loadSeg .cs sel cd
  takeStack ssel sd (outerEsp o s.cfg.retf16EspUpper s.regs.esp esp)
  dropDataSegs (selRpl sel)
  popBytes imm

/-- RET far (R493), releasing `imm` bytes. -/
def returnFar (imm : Half) : M Unit := atOpSize fun o => do
  let s ← getS
  if s.protectedMode then do
    checkSlots (sizeBytes o) [sizeBytes o]
    let sel ← slotSel o (sizeBytes o)
    let cd ← checkReturnCs sel
    if s.cpl < selRpl sel then returnFarOuter o imm.toNat sel cd else returnFarSame o imm.toNat sel cd
  else returnFarReal o imm.toNat

/-! ### The instructions -/

/-- JMP ptr16:16/32: `EA cd/cp` (44_control.md R482). -/
def execJmpPtr (sel : BitVec 16) (off : BitVec 32) (s : State) : Host.Outcome State Fault Refusal :=
  runInstr (farTransfer .jmp sel off) s

/-- JMP m16:16/32: `FF /5` (44_control.md R482). -/
def execJmpMFar (m : MemOp) (s : State) : Host.Outcome State Fault Refusal :=
  runInstr (farIndirect .jmp m) s

/-- CALL ptr16:16/32: `9A cd/cp` (44_control.md R487). -/
def execCallPtr (sel : BitVec 16) (off : BitVec 32) (s : State) : Host.Outcome State Fault Refusal :=
  runInstr (farTransfer .call sel off) s

/-- CALL m16:16/32: `FF /3` (44_control.md R487). -/
def execCallMFar (m : MemOp) (s : State) : Host.Outcome State Fault Refusal :=
  runInstr (farIndirect .call m) s

/-- RET (far): `CB` (44_control.md R493). -/
def execRetFar (s : State) : Host.Outcome State Fault Refusal :=
  runInstr (returnFar 0) s

/-- RET imm16 (far): `CA iw` (44_control.md R493). -/
def execRetFarImm16 (i : BitVec 16) (s : State) : Host.Outcome State Fault Refusal :=
  runInstr (returnFar i) s

end Sys2Proof.Machine
end

