-- ==== Sys2Proof/Machine/FpuFormat.lean ====
section
/-!
DEFINITION. The numbers of the coprocessor (46_x87_a.md R608 to R610, R613, R616, R619): classes, exact values, rounding,
and the memory formats.
-/

namespace Sys2Proof.Machine

/-! ### Values of the register format (R608, R609) -/

/-- The classes of an 80-bit value (R609). A pseudo-denormal is a denormal. -/
inductive Cls
  | zero | denormal | normal | infinity | qnan | snan | unsupported
  deriving DecidableEq, Repr

/-- The sign bit. -/
def extNeg (x : Ext) : Bool := x.getLsbD 79

/-- The exponent field. -/
def extExp (x : Ext) : Nat := (x.extractLsb' 64 15).toNat

/-- The significand, integer bit included. -/
def extSig (x : Ext) : Nat := (x.extractLsb' 0 64).toNat

/-- The class (R609). -/
def extCls (x : Ext) : Cls :=
  let j := x.getLsbD 63
  if extExp x = 0 then (if extSig x = 0 then .zero else .denormal)
  else if !j then .unsupported
  else if extExp x = 0x7FFF then
    if extSig x = 2 ^ 63 then .infinity else if x.getLsbD 62 then .qnan else .snan
  else .normal

/-- An 80-bit value of its fields. -/
def mkExt (neg : Bool) (e sig : Nat) : Ext := BitVec.ofNat 80 (neg.toNat * 2 ^ 79 + e * 2 ^ 64 + sig)

/-- The real indefinite (R608). -/
def indefinite : Ext := 0xFFFFC000000000000000

/-- ±∞. -/
def extInf (neg : Bool) : Ext := mkExt neg 0x7FFF (2 ^ 63)

/-- ±0. -/
def extZero (neg : Bool) : Ext := mkExt neg 0 0

/-- +1.0. -/
def extOne : Ext := mkExt false 0x3FFF (2 ^ 63)

/-- A NaN made quiet (R613). -/
def quieted (x : Ext) : Ext := x ||| BitVec.twoPow 80 62

/-- A NaN. -/
def isNan (x : Ext) : Bool := decide (extCls x = .qnan) || decide (extCls x = .snan)

/-- The NaN of two operands of which at least one is a NaN (R613): the larger significand, the positive one of equals. -/
def nanOf (a b : Ext) : Ext :=
  if isNan a && isNan b then
    if extSig a = extSig b then quieted (if extNeg a then b else a)
    else quieted (if extSig b < extSig a then a else b)
  else quieted (if isNan a then a else b)

/-! ### Exact numbers and rounding (R610) -/

/-- The number `(-1)^neg * mant * 2^exp`. -/
structure Num where
  neg : Bool
  mant : Nat
  exp : Int
  deriving DecidableEq, Repr

/-- The number of a finite value (R609). -/
def numOf (x : Ext) : Num := { neg := extNeg x, mant := extSig x, exp := (max (extExp x) 1 : Nat) - 16446 }

/-- The exponent of the leading bit. -/
def topExp (mant : Nat) (exp : Int) : Int := exp + mant.log2

/-- The exponent of the leading bit. -/
def Num.top (n : Num) : Int := topExp n.mant n.exp

/-- The rounding control RC (R603). -/
inductive Rc
  | nearest | down | up | zero
  deriving DecidableEq, Repr

/-- RC of a control word. -/
def rcOf (fcw : Half) : Rc :=
  match (fcw.extractLsb' 10 2).toNat with
  | 0 => .nearest
  | 1 => .down
  | 2 => .up
  | _ => .zero

/-- A magnitude after rounding. -/
structure Rounded where
  mant : Nat
  exp : Int
  inexact : Bool
  up : Bool
  deriving DecidableEq, Repr

/-- Whether a remainder of `rem` below `2^k` rounds the magnitude `q` up (R610). -/
def roundsUp (rc : Rc) (neg : Bool) (q rem k : Nat) : Bool :=
  decide (rem ≠ 0) && match rc with
    | .nearest => decide (2 ^ k < 2 * rem) || (decide (2 ^ k = 2 * rem) && decide (q % 2 = 1))
    | .down => neg
    | .up => !neg
    | .zero => false

/-- Round to a multiple of `2^q` (R610). -/
def roundAt (rc : Rc) (n : Num) (q : Int) : Rounded :=
  if q ≤ n.exp then { mant := n.mant, exp := n.exp, inexact := false, up := false }
  else
    let k := (q - n.exp).toNat
    let rem := n.mant % 2 ^ k
    let up := roundsUp rc n.neg (n.mant / 2 ^ k) rem k
    { mant := n.mant / 2 ^ k + up.toNat, exp := q, inexact := decide (rem ≠ 0), up := up }

/-- Round to a significand of `p` bits, with unbounded exponent (R610). -/
def roundPrec (p : Nat) (rc : Rc) (n : Num) : Rounded := roundAt rc n (n.top + 1 - p)

/-- A floating-point format: the bits of its significand, its largest exponent, its bytes (R608). -/
structure Fmt where
  prec : Nat
  emax : Int
  bytes : Nat
  deriving DecidableEq, Repr

/-- Single precision. -/
def fmtSingle : Fmt := { prec := 24, emax := 127, bytes := 4 }

/-- Double precision. -/
def fmtDouble : Fmt := { prec := 53, emax := 1023, bytes := 8 }

/-- The register format, with a significand rounded to `p` bits (R603 PC, R610). -/
def fmtExt (p : Nat) : Fmt := { prec := p, emax := 16383, bytes := 10 }

/-- The least exponent of a normal number. -/
def Fmt.emin (f : Fmt) : Int := 1 - f.emax

/-- The exponent of a denormal's last bit. -/
def Fmt.quantum (f : Fmt) : Int := f.emin - f.prec + 1

/-- Overflow (R611): judged after rounding to the precision. -/
def Fmt.overflows (f : Fmt) (r : Rounded) : Bool := decide (f.emax < topExp r.mant r.exp)

/-- Tiny (R611): judged after rounding to the precision. -/
def Fmt.tiny (f : Fmt) (r : Rounded) : Bool := decide (topExp r.mant r.exp < f.emin)

/-- A masked overflow gives infinity (R611); else the largest finite number. -/
def overflowToInf (rc : Rc) (neg : Bool) : Bool :=
  match rc with
  | .nearest => true
  | .down => neg
  | .up => !neg
  | .zero => false

/-- The largest finite magnitude. -/
def Fmt.largest (f : Fmt) : Nat × Int := (2 ^ f.prec - 1, f.emax - f.prec + 1)

/-- A significand of `p` bits, leading bit at its top. -/
def normalised (p mant : Nat) : Nat :=
  if mant.log2 < p then mant * 2 ^ (p - 1 - mant.log2) else mant / 2 ^ (mant.log2 + 1 - p)

/-- A rounded number in the register format, exponent within its range. -/
def encodeExt (neg : Bool) (mant : Nat) (exp : Int) : Ext :=
  if mant = 0 then extZero neg
  else if topExp mant exp < -16382 then mkExt neg 0 (mant * 2 ^ (exp + 16445).toNat)
  else mkExt neg (topExp mant exp + 16383).toNat (normalised 64 mant)

/-- A rounded number in single or double precision (R608). -/
def Fmt.encode (f : Fmt) (neg : Bool) (mant : Nat) (exp : Int) : Nat :=
  let s := neg.toNat * 2 ^ (8 * f.bytes - 1)
  if mant = 0 then s
  else if topExp mant exp < f.emin then s + mant * 2 ^ (exp - f.quantum).toNat
  else s + (topExp mant exp + f.emax).toNat * 2 ^ (f.prec - 1) + (normalised f.prec mant - 2 ^ (f.prec - 1))

/-- The field of an infinity or NaN in single or double precision, with a fraction. -/
def Fmt.special (f : Fmt) (neg : Bool) (frac : Nat) : Nat :=
  neg.toNat * 2 ^ (8 * f.bytes - 1) + (2 * f.emax + 1).toNat * 2 ^ (f.prec - 1) + frac

/-- The fraction of a NaN, cut to the format (R628). -/
def Fmt.nanFrac (f : Fmt) (x : Ext) : Nat := extSig x % 2 ^ 63 / 2 ^ (64 - f.prec)

/-- An operand as an instruction sees it: its value, and whether it was a denormal in the format it came from. -/
structure FVal where
  x : Ext
  den : Bool
  deriving DecidableEq, Repr

/-- A register as an operand. -/
def FVal.ofExt (x : Ext) : FVal := { x := x, den := decide (extCls x = .denormal) }

/-- ToExt of single and double precision: exact (R609, R620). -/
def Fmt.decode (f : Fmt) (v : Nat) : FVal :=
  let neg := decide (v / 2 ^ (8 * f.bytes - 1) % 2 = 1)
  let e := v / 2 ^ (f.prec - 1) % 2 ^ (8 * f.bytes - f.prec)
  let frac := v % 2 ^ (f.prec - 1)
  if e = 0 then
    { x := encodeExt neg frac f.quantum, den := decide (frac ≠ 0) }
  else if e + 1 = 2 ^ (8 * f.bytes - f.prec) then
    { x := mkExt neg 0x7FFF (2 ^ 63 + frac * 2 ^ (64 - f.prec)), den := false }
  else { x := encodeExt neg (2 ^ (f.prec - 1) + frac) (e - f.emax - f.prec + 1), den := false }

/-! ### Integers and BCD (R619, R633, R634) -/

/-- IntToExt (R619): exact. -/
def intToExt (n : Int) : Ext := encodeExt (decide (n < 0)) n.natAbs 0

/-- The integer in `n` bytes of memory, sign-extended. -/
def signedBytes (n v : Nat) : Int := if v < 2 ^ (8 * n - 1) then (v : Int) else (v : Int) - 2 ^ (8 * n)

/-- A finite number rounded to an integral value (R619, R658): its magnitude. -/
def toIntegral (rc : Rc) (n : Num) : Nat × Bool × Bool :=
  let r := roundAt rc n 0
  (r.mant * 2 ^ r.exp.toNat, r.inexact, r.up)

/-- The value of the low `k` BCD digits, or none with a digit above 9 (R633). -/
def bcdDigits : (k : Nat) → (v : Nat) → Option Nat
  | 0, _ => some 0
  | k + 1, v => if v % 16 < 10 then (bcdDigits k (v / 16)).map fun r => v % 16 + 10 * r else none

/-- The low `k` decimal digits in BCD (R634). -/
def toBcd : (k : Nat) → (m : Nat) → Nat
  | 0, _ => 0
  | k + 1, m => m % 10 + 16 * toBcd k (m / 10)

/-! ### Exact operations (R616) -/

/-- A significand whose low bit stands for all the bits below. -/
def sticky (q : Nat) (inexact : Bool) : Nat := 2 * q + inexact.toNat

/-- The signed significand of `n` at the exponent `e`, not above its own. -/
def Num.scaledTo (n : Num) (e : Int) : Int :=
  let m : Int := n.mant * 2 ^ (n.exp - e).toNat
  if n.neg then -m else m

/-- The exact sum; none when it is zero. -/
def Num.add (a b : Num) : Option Num :=
  let e := min a.exp b.exp
  let v := a.scaledTo e + b.scaledTo e
  if v = 0 then none else some { neg := decide (v < 0), mant := v.natAbs, exp := e }

/-- The exact product. -/
def Num.mul (a b : Num) : Num := { neg := a.neg ^^ b.neg, mant := a.mant * b.mant, exp := a.exp + b.exp }

/-- The quotient, with a sticky bit: more bits than any precision. -/
def Num.div (a b : Num) : Num :=
  let n := a.mant * 2 ^ 130
  { neg := a.neg ^^ b.neg, mant := sticky (n / b.mant) (decide (n % b.mant ≠ 0)), exp := a.exp - b.exp - 131 }

/-- The integer square root, by its bits from bit `k - 1` down; `r` is what has been found. -/
def isqrt (n : Nat) : (k : Nat) → (r : Nat) → Nat
  | 0, r => r
  | k + 1, r => isqrt n k (if (r + 2 ^ k) * (r + 2 ^ k) ≤ n then r + 2 ^ k else r)

/-- The square root of a magnitude, with a sticky bit. -/
def Num.sqrt (a : Num) : Num :=
  let odd := decide (a.exp % 2 ≠ 0)
  let n := a.mant * 2 ^ (if odd then 141 else 140)
  let r := isqrt n 104 0
  { neg := false, mant := sticky r (decide (r * r ≠ n)), exp := (a.exp - (if odd then 141 else 140)) / 2 - 1 }

/-- The order of two numbers, zeros alike (47_x87_b.md R662). -/
def Num.cmp (a b : Num) : Ordering :=
  let e := min a.exp b.exp
  compare (a.scaledTo e) (b.scaledTo e)

/-- The order of two values that are no NaN and not unsupported: infinities are at the ends (47_x87_b.md R662). -/
def extCmp (a b : Ext) : Ordering :=
  match extCls a, extCls b with
  | .infinity, .infinity => if extNeg a = extNeg b then .eq else if extNeg a then .lt else .gt
  | .infinity, _ => if extNeg a then .lt else .gt
  | _, .infinity => if extNeg b then .gt else .lt
  | _, _ => (numOf a).cmp (numOf b)

end Sys2Proof.Machine
end

