-- ==== Sys2Proof/Machine/FpuOps.lean ====
section
/-!
DEFINITION. The coprocessor's shared operations (46_x87_a.md R600 to R617): its words, the register stack, the entry of an
escape instruction, its exceptions with their masked responses, and the delivery of rounded results.
-/

namespace Sys2Proof.Machine

/-! ### The registers (R602 to R605) -/

/-- One of the eight. -/
def Oct.get {α : Type} (o : Oct α) (i : BitVec 3) : α :=
  match i.toNat with
  | 0 => o.x0 | 1 => o.x1 | 2 => o.x2 | 3 => o.x3 | 4 => o.x4 | 5 => o.x5 | 6 => o.x6 | _ => o.x7

/-- Change one of the eight. -/
def Oct.set {α : Type} (o : Oct α) (i : BitVec 3) (v : α) : Oct α :=
  match i.toNat with
  | 0 => { o with x0 := v } | 1 => { o with x1 := v } | 2 => { o with x2 := v } | 3 => { o with x3 := v }
  | 4 => { o with x4 := v } | 5 => { o with x5 := v } | 6 => { o with x6 := v } | _ => { o with x7 := v }

/-- The tag of a value written to a register (R605). -/
def tagOf (x : Ext) : Tag :=
  match extCls x with
  | .normal => .valid
  | .zero => .zero
  | _ => .special

/-- The exception flags IE to PE (R604). -/
def Fsw.flags (w : Fsw) : BitVec 6 :=
  BitVec.ofNat 6 (w.ie.toNat + 2 * w.de.toNat + 4 * w.ze.toNat + 8 * w.oe.toNat + 16 * w.ue.toNat + 32 * w.pe.toNat)

/-- ES: an exception flag is set that the control word does not mask (R604). B is the same. -/
def Fpu.es (f : Fpu) : Bool := decide (f.fsw.flags &&& ~~~(f.fcw.setWidth 6) ≠ 0)

/-- The status word (R604). -/
def Fpu.fswWord (f : Fpu) : Half :=
  let w := f.fsw
  BitVec.ofNat 16 (w.flags.toNat + 64 * w.sf.toNat + 128 * f.es.toNat + 256 * w.c0.toNat + 512 * w.c1.toNat
    + 1024 * w.c2.toNat + 2048 * w.top.toNat + 16384 * w.c3.toNat + 32768 * f.es.toNat)

/-- The stored bits of a status word; ES and B are recomputed (R604). -/
def Fsw.ofWord (w : Half) : Fsw :=
  { ie := w.getLsbD 0, de := w.getLsbD 1, ze := w.getLsbD 2, oe := w.getLsbD 3, ue := w.getLsbD 4, pe := w.getLsbD 5,
    sf := w.getLsbD 6, c0 := w.getLsbD 8, c1 := w.getLsbD 9, c2 := w.getLsbD 10, c3 := w.getLsbD 14,
    top := w.extractLsb' 11 3 }

/-- The physical number of ST(i) (R602). -/
def Fpu.phys (f : Fpu) (i : BitVec 3) : BitVec 3 := f.fsw.top + i

/-- ST(i). -/
def Fpu.st (f : Fpu) (i : BitVec 3) : Ext := f.fpr.get (f.phys i)

/-- ST(i) is tagged empty. -/
def Fpu.empty (f : Fpu) (i : BitVec 3) : Bool := decide (f.tags.get (f.phys i) = .empty)

/-- Write ST(i), and its tag from the value (R605). -/
def Fpu.setSt (f : Fpu) (i : BitVec 3) (v : Ext) : Fpu :=
  { f with fpr := f.fpr.set (f.phys i) v, tags := f.tags.set (f.phys i) (tagOf v) }

/-- Move TOP (R602). -/
def Fpu.setTop (f : Fpu) (t : BitVec 3) : Fpu := { f with fsw := { f.fsw with top := t } }

/-- Pop (R612). -/
def Fpu.popped (f : Fpu) : Fpu := { f with tags := f.tags.set f.fsw.top .empty }.setTop (f.fsw.top + 1)

/-- Push, without the test of the register (R612). -/
def Fpu.pushed (f : Fpu) (v : Ext) : Fpu := (f.setTop (f.fsw.top - 1)).setSt 0 v

/-- The coprocessor. -/
def getFpu : M Fpu := fun s => .ok s.fpu s

/-- Change the coprocessor. -/
def updFpu (f : Fpu → Fpu) : M Unit := upd fun s => { s with fpu := f s.fpu }

/-- Change the status word. -/
def updFsw (f : Fsw → Fsw) : M Unit := updFpu fun p => { p with fsw := f p.fsw }

/-- ST(i) as an operand; none when it is empty. -/
def stOperand (i : BitVec 3) : M (Option FVal) := do
  let f ← getFpu
  pure (if f.empty i then none else some (FVal.ofExt (f.st i)))

/-- Write ST(i). -/
def setSt (i : BitVec 3) (v : Ext) : M Unit := updFpu fun f => f.setSt i v

/-- Pop. -/
def fpuPop : M Unit := updFpu Fpu.popped

/-- Pop when `c`. -/
def popIf (c : Bool) : M Unit := onlyIf c fpuPop

/-- The rounding control in force. -/
def roundingControl : M Rc := do
  let f ← getFpu
  pure (rcOf f.fcw)

/-- The precision in force (R603); the reserved encoding of PC leaves it free (log 36). -/
def precision : M Nat := do
  let f ← getFpu
  match (f.fcw.extractLsb' 8 2).toNat with
  | 0 => pure 24
  | 1 => do
      let u ← drawWord
      pure (match u.toNat % 3 with
        | 0 => 24
        | 1 => 53
        | _ => 64)
  | 2 => pure 53
  | _ => pure 64

/-! ### Condition codes (R615) -/

/-- C1. -/
def setC1 (c : Bool) : M Unit := updFsw fun w => { w with c1 := c }

/-- C0, C2 and C3 are undefined: draws; C1 is 0 unless the instruction sets it. -/
def drawCodes : M Unit := do
  let c0 ← drawBit
  let c2 ← drawBit
  let c3 ← drawBit
  updFsw fun w => { w with c0 := c0, c1 := false, c2 := c2, c3 := c3 }

/-- All four condition codes are undefined. -/
def drawAllCodes : M Unit := do
  drawCodes
  let c1 ← drawBit
  setC1 c1

/-! ### The entry of an escape instruction (R601, R606, R607, R614) -/

/-- #NM (R601); with no coprocessor the step is refused (R600). -/
def escapeGate : M Unit := do
  let s ← getS
  check (!s.cr0.em && !s.cr0.ts) raiseNM
  check s.cfg.hasX87 (stop (.refuse .noCoprocessor))

/-- Report a pending unmasked exception (R606, R607). -/
def reportPending : M Unit := do
  let s ← getS
  onlyIf s.fpu.es (if s.cfg.x87ErrorViaMf then raiseMF else stop .wait)

/-- A no-wait control instruction. -/
def noWait (body : M Unit) : M Unit := do
  escapeGate
  body

/-- A waiting control instruction. -/
def waiting (body : M Unit) : M Unit := do
  escapeGate
  reportPending
  body

/-- Record the instruction pointer and the opcode (R614). -/
def notePointer : M Unit := upd fun s =>
  { s with fpu := { s.fpu with fip := .far s.segs.cs.selector s.ins.curEip, fop := s.ins.fop } }

/-- A numeric instruction without memory operand: the data pointer becomes undefined, a draw (R614). -/
def numeric (body : M Unit) : M Unit := waiting do
  notePointer
  let sel ← drawWord
  let off ← drawWord
  updFpu fun f => { f with fdp := .far (sel.setWidth 16) off }
  body

/-- A numeric instruction with a memory operand (R614). -/
def numericMem (m : MemOp) (body : M Unit) : M Unit := waiting do
  notePointer
  upd fun s => { s with fpu := { s.fpu with fdp := .far (s.segs.get (s.segFor m)).selector (ea s.regs m) } }
  body

/-! ### Exceptions (R611, R612) -/

/-- The mask bit `i` of the control word. -/
def masked (i : Nat) : M Bool := do
  let f ← getFpu
  pure (f.fcw.getLsbD i)

/-- #IS: C1 tells overflow from underflow. Whether it is masked. -/
def stackFault (overflow : Bool) : M Bool := do
  updFsw fun w => { w with ie := true, sf := true, c1 := overflow }
  masked 0

/-- #IA. Whether it is masked. -/
def invalid : M Bool := do
  updFsw fun w => { w with ie := true }
  masked 0

/-- #Z. Whether it is masked. -/
def zeroDivide : M Bool := do
  updFsw fun w => { w with ze := true }
  masked 2

/-- #D, when the condition holds: the operation goes on, masked or not. -/
def denormalIf (c : Bool) : M Unit := onlyIf c (updFsw fun w => { w with de := true })

/-- #P, with C1 telling the direction. -/
def inexactIf (c up : Bool) : M Unit := onlyIf c (updFsw fun w => { w with pe := true, c1 := up })

/-- Push a value, or report stack overflow (R612). -/
def fpuPush (v : Ext) : M Unit := do
  let f ← getFpu
  if f.empty 7 then updFpu fun f => f.pushed v
  else do
    let m ← stackFault true
    onlyIf m (updFpu fun f => f.pushed indefinite)

/-- Stack underflow of an instruction whose destination is ST(i) (R612): masked, it receives the real indefinite. Whether
the instruction goes on to its pop. -/
def underflowTo (i : BitVec 3) : M Bool := do
  let m ← stackFault false
  onlyIf m (setSt i indefinite)
  pure m

/-- An operation's value before it is delivered: a NaN and whether #IA goes with it; #IA without a NaN; #Z; an exact
special value; or a number to be rounded. -/
inductive Calc
  | nan (x : Ext) (ia : Bool)
  | ia
  | zdiv (neg : Bool)
  | special (x : Ext)
  | num (n : Num)
  deriving DecidableEq, Repr

/-- NaN and unsupported operands (R609, R613); none when there are none. -/
def badOperands (a b : Ext) : Option Calc :=
  let bad := decide (extCls a = .unsupported) || decide (extCls b = .unsupported)
  let sn := decide (extCls a = .snan) || decide (extCls b = .snan)
  if isNan a || isNan b then some (.nan (nanOf a b) (bad || sn))
  else if bad then some .ia
  else none

/-- The register value with an exponent that an unmasked overflow or underflow adjusted (R611); outside the format it is
free (log 37). -/
def adjusted (neg : Bool) (mant : Nat) (exp : Int) : M Ext :=
  if (fmtExt 64).emin ≤ topExp mant exp ∧ topExp mant exp ≤ (fmtExt 64).emax then pure (encodeExt neg mant exp)
  else drawExt

/-- Deliver a number of sign `neg` to ST(i) in the format `f`: `r` is its magnitude rounded with unbounded exponent, `d` its
magnitude as a denormal (R610, R611). -/
def deliverRounded (i : BitVec 3) (f : Fmt) (neg : Bool) (r d : Rounded) : M Unit := do
  let rc ← roundingControl
  if f.overflows r then do
    let m ← masked 3
    updFsw fun w => { w with oe := true }
    if m then do
      inexactIf true (overflowToInf rc neg)
      setSt i (if overflowToInf rc neg then extInf neg else encodeExt neg f.largest.1 f.largest.2)
    else do
      inexactIf r.inexact r.up
      let x ← adjusted neg r.mant (r.exp - 24576)
      setSt i x
  else if f.tiny r then do
    let m ← masked 4
    if m then do
      onlyIf d.inexact (updFsw fun w => { w with ue := true })
      inexactIf d.inexact d.up
      setSt i (encodeExt neg d.mant d.exp)
    else do
      updFsw fun w => { w with ue := true }
      inexactIf r.inexact r.up
      let x ← adjusted neg r.mant (r.exp + 24576)
      setSt i x
  else do
    inexactIf r.inexact r.up
    setSt i (encodeExt neg r.mant r.exp)

/-- Deliver a non-zero number to ST(i), rounded to a significand of `p` bits (R610, R611). -/
def deliverNum (i : BitVec 3) (p : Nat) (n : Num) : M Unit := do
  let rc ← roundingControl
  deliverRounded i (fmtExt p) n.neg (roundPrec p rc n) (roundAt rc n (fmtExt p).quantum)

/-- Deliver an operation's value to ST(i) (R611, R613); `den`: an operand was a denormal, which is not reported beside a NaN
or an invalid operation (log 35). Whether the instruction completes, and pops. -/
def deliverCalc (i : BitVec 3) (p : Nat) (den : Bool) : Calc → M Bool
  | .nan x ia => do
      let m ← if ia then invalid else pure true
      onlyIf m (setSt i x)
      pure m
  | .ia => do
      let m ← invalid
      onlyIf m (setSt i indefinite)
      pure m
  | .zdiv neg => do
      let m ← zeroDivide
      onlyIf m (do
        denormalIf den
        setSt i (extInf neg))
      pure m
  | .special x => do
      denormalIf den
      setSt i x
      pure true
  | .num n => do
      denormalIf den
      if n.mant = 0 then setSt i (extZero n.neg) else deliverNum i p n
      pure true

end Sys2Proof.Machine
end

