-- ==== Sys2Proof/Machine/FpuArith.lean ====
section
/-!
DEFINITION. Arithmetic, sign and comparison of the coprocessor (46_x87_a.md R636 to R659, 47_x87_b.md R660 to R671).
-/

namespace Sys2Proof.Machine

/-! ### Operands -/

/-- A single or double precision operand. -/
def realOperand (f : Fmt) (m : MemOp) : M (Option FVal) := do
  let v ← readMem m f.bytes
  pure (some (f.decode v))

/-- An integer operand: 0 is +0. -/
def intOperand (n : Nat) (m : MemOp) : M (Option FVal) := do
  let v ← readMem m n
  pure (some { x := intToExt (signedBytes n v), den := false })

/-! ### The four operations (R616, R636 to R653) -/

/-- The operations, by the roles of destination and source. -/
inductive FOp
  | add | sub | subr | mul | div | divr
  deriving DecidableEq, Repr

/-- The sum of two operands, neither a NaN nor unsupported (R616); `flip` changes the sign of the second. -/
def calcAdd (rc : Rc) (a b : Ext) (flip : Bool) : Calc :=
  let na := extNeg a
  let nb := extNeg b ^^ flip
  match extCls a, extCls b with
  | .infinity, .infinity => if na = nb then .special (extInf na) else .ia
  | .infinity, _ => .special (extInf na)
  | _, .infinity => .special (extInf nb)
  | _, _ =>
      match (numOf a).add { numOf b with neg := nb } with
      | some n => .num n
      | none =>
          if extCls a = .zero ∧ na = nb then .special (extZero na)
          else .special (extZero (decide (rc = .down)))

/-- The product (R616). -/
def calcMul (a b : Ext) : Calc :=
  let neg := extNeg a ^^ extNeg b
  match extCls a, extCls b with
  | .infinity, .zero => .ia
  | .zero, .infinity => .ia
  | .infinity, _ => .special (extInf neg)
  | _, .infinity => .special (extInf neg)
  | _, _ => .num ((numOf a).mul (numOf b))

/-- The quotient `a / b` (R616, R648). -/
def calcDiv (a b : Ext) : Calc :=
  let neg := extNeg a ^^ extNeg b
  match extCls a, extCls b with
  | .infinity, .infinity => .ia
  | .zero, .zero => .ia
  | .infinity, _ => .special (extInf neg)
  | _, .infinity => .special (extZero neg)
  | _, .zero => .zdiv neg
  | .zero, _ => .special (extZero neg)
  | _, _ => .num ((numOf a).div (numOf b))

/-- The value of an operation on the destination `d` and the source `s`. -/
def calcOp (op : FOp) (rc : Rc) (d s : Ext) : Calc :=
  match badOperands d s with
  | some c => c
  | none =>
      match op with
      | .add => calcAdd rc d s false
      | .sub => calcAdd rc d s true
      | .subr => calcAdd rc s d true
      | .mul => calcMul d s
      | .div => calcDiv d s
      | .divr => calcDiv s d

/-- Arith (R636 to R653): the destination is ST(i). -/
def arith (op : FOp) (i : BitVec 3) (s : Option FVal) (pops : Bool) : M Unit := do
  drawCodes
  let d ← stOperand i
  match d, s with
  | some d, some s => do
      let p ← precision
      let rc ← roundingControl
      let go ← deliverCalc i p (d.den || s.den) (calcOp op rc d.x s.x)
      popIf (go && pops)
  | _, _ => do
      let go ← underflowTo i
      popIf (go && pops)

/-- A register form with destination ST(d) and source ST(s). -/
def arithRegs (op : FOp) (d s : BitVec 3) (pops : Bool) : M Unit := numeric do
  let b ← stOperand s
  arith op d b pops

/-- A form with a real operand in memory. -/
def arithReal (op : FOp) (f : Fmt) (m : MemOp) : M Unit := numericMem m do
  let b ← realOperand f m
  arith op 0 b false

/-- A form with an integer operand in memory. -/
def arithInt (op : FOp) (n : Nat) (m : MemOp) : M Unit := numericMem m do
  let b ← intOperand n m
  arith op 0 b false

/-! ### Operations on ST(0) (R654 to R659) -/

/-- An operation on ST(0), which must not be empty. -/
def unary (f : FVal → M Unit) : M Unit := numeric do
  drawCodes
  let v ← stOperand 0
  match v with
  | none => do
      let _ ← underflowTo 0
      skip
  | some v => f v

/-- Deliver to ST(0), no pop. -/
def deliver0 (p : Nat) (den : Bool) (c : Calc) : M Unit := do
  let _ ← deliverCalc 0 p den c
  skip

/-- A NaN or unsupported ST(0); none when it is neither. -/
def badOperand (x : Ext) : Option Calc := badOperands x x

/-- FSQRT (R654). -/
def calcSqrt (x : Ext) : Calc :=
  match badOperand x with
  | some c => c
  | none =>
      match extCls x, extNeg x with
      | .zero, _ => .special x
      | _, true => .ia
      | .infinity, false => .special x
      | _, false => .num (numOf x).sqrt

/-- FSQRT (R654). -/
def squareRoot : M Unit := unary fun v => do
  let p ← precision
  deliver0 p v.den (calcSqrt v.x)

/-- The integer part of a number, held within ±70000, beyond which every scaled number is out of range (R655). -/
def scaleCount (n : Num) : Int :=
  let m : Nat := if 20 < n.top then 70000 else min 70000 (toIntegral .zero { n with neg := false }).1
  if n.neg then -(m : Int) else m

/-- FSCALE (R655): ST(0) scaled by the integer part of ST(1). DEDUCED (log 41): ∞ by +∞ is ∞ and 0 by -∞ is 0, with the sign
of ST(0) and without exception, and a denormal ST(0) scaled by 2^0 is unchanged and no #U, masked or not. -/
def calcScale (x y : Ext) : Calc :=
  match badOperands x y with
  | some c => c
  | none =>
      match extCls x, extCls y, extNeg y with
      | .zero, .infinity, false => .ia
      | _, .infinity, false => .special (extInf (extNeg x))
      | .infinity, .infinity, true => .ia
      | _, .infinity, true => .special (extZero (extNeg x))
      | .infinity, _, _ => .special x
      | .zero, _, _ => .special x
      | _, _, _ =>
          if scaleCount (numOf y) = 0 then .special x
          else .num { numOf x with exp := (numOf x).exp + scaleCount (numOf y) }

/-- An operation on ST(0) and ST(1) with the result in ST(0). -/
def binary0 (f : FVal → FVal → M Unit) : M Unit := numeric do
  drawCodes
  let a ← stOperand 0
  let b ← stOperand 1
  match a, b with
  | some a, some b => f a b
  | _, _ => do
      let _ ← underflowTo 0
      skip

/-- FSCALE (R655). -/
def scale : M Unit := binary0 fun a b => deliver0 64 (a.den || b.den) (calcScale a.x b.x)

/-- The remainder of the significands at a common exponent: quotient, remainder, exponent. -/
def remParts (a b : Num) : Nat × Nat × Int :=
  let e := min a.exp b.exp
  let m := a.mant * 2 ^ (a.exp - e).toNat
  let n := b.mant * 2 ^ (b.exp - e).toNat
  (m / n, m % n, e)

/-- The remainder and the quotient of FPREM (R656), or of FPREM1 (R657), where the quotient is the nearest integer. -/
def remainder (nearest : Bool) (a b : Num) : Num × Nat :=
  let (q, r, e) := remParts a b
  let n := b.mant * 2 ^ (b.exp - e).toNat
  if nearest && (decide (n < 2 * r) || (decide (n = 2 * r) && decide (q % 2 = 1))) then
    ({ neg := !a.neg, mant := n - r, exp := e }, q + 1)
  else ({ neg := a.neg, mant := r, exp := e }, q)

/-- X87_FPREM_N, within 32 to 63 (R656; log 21). -/
def fpremN (d : Nat) : Nat := 32 + Config.fpremN d % 32

/-- The partial remainder for an exponent difference `d` of at least 64 (R656). -/
def partialRemainder (d : Nat) (a b : Num) : Num :=
  let (_, r, e) := remParts a { b with exp := b.exp + (d - fpremN d : Nat) }
  { neg := a.neg, mant := r, exp := e }

/-- The quotient's low bits in C0, C3 and C1, and C2 = 0 (R656). -/
def setQuotientCodes (q : Nat) : M Unit := updFsw fun w =>
  { w with c0 := q.testBit 2, c3 := q.testBit 1, c1 := q.testBit 0, c2 := false }

/-- C2 alone. -/
def setC2 (c : Bool) : M Unit := updFsw fun w => { w with c2 := c }

/-- No quotient of FPREM: all four condition codes are free, C1 too (log 21). -/
def noQuotient (c : Calc) : M Unit := do
  deliver0 64 false c
  let c1 ← drawBit
  setC1 c1

/-- FPREM and FPREM1 (R656, R657): exact; a NaN or invalid operand leaves the condition codes free. DESIGN CHOICE (log 21): the
exponent of a denormal operand is that of its leading bit; (log 41): a denormal dividend with an infinite modulus is a tiny
result, which an unmasked #U delivers with its exponent adjusted. -/
def partialRem (nearest : Bool) : M Unit := binary0 fun a b =>
  match badOperands a.x b.x with
  | some c => noQuotient c
  | none =>
      match extCls a.x, extCls b.x with
      | .infinity, _ => noQuotient .ia
      | _, .zero => noQuotient .ia
      | .zero, _ => do
          deliver0 64 (a.den || b.den) (.special a.x)
          setQuotientCodes 0
      | _, .infinity => do
          deliver0 64 (a.den || b.den) (.num (numOf a.x))
          setQuotientCodes 0
      | _, _ => do
          let d := (numOf a.x).top - (numOf b.x).top
          if d < 64 then do
            let r := remainder nearest (numOf a.x) (numOf b.x)
            deliver0 64 (a.den || b.den) (.num (if r.1.mant = 0 then { r.1 with neg := extNeg a.x } else r.1))
            setQuotientCodes r.2
          else do
            let c1 ← drawBit
            deliver0 64 (a.den || b.den) (.num (partialRemainder d.toNat (numOf a.x) (numOf b.x)))
            setC1 c1
            setC2 true

/-- FRNDINT (R658): an infinity or a zero is written back unchanged, as the pseudocode assigns ST(0). -/
def roundToInt : M Unit := unary fun v => do
  let rc ← roundingControl
  match badOperand v.x with
  | some c => deliver0 64 false c
  | none =>
      match extCls v.x with
      | .infinity => setSt 0 v.x
      | .zero => setSt 0 v.x
      | _ => do
          let (mag, inexact, up) := toIntegral rc (numOf v.x)
          denormalIf v.den
          inexactIf inexact up
          setSt 0 (encodeExt (extNeg v.x) mag 0)

/-- Replace ST(0) and push a second value; the register below TOP must be empty (R659, R676, R680). -/
def replaceAndPush (x y : Ext) : M Unit := do
  setSt 0 x
  updFpu fun f => f.pushed y

/-- An operation that replaces ST(0) and pushes: underflow and overflow of the stack come first; masked, both values are
the real indefinite (R612, R676). DESIGN CHOICE (log 38): underflow alone is reported when both occur, and a masked stack fault
leaves the real indefinite in both registers, FPTAN's 1.0 included. `f` is the operation on ST(0). -/
def extracting (f : FVal → M Unit) : M Unit := do
  let p ← getFpu
  let v ← stOperand 0
  match v with
  | none => do
      let go ← stackFault false
      onlyIf go (replaceAndPush indefinite indefinite)
  | some v =>
      if p.empty 7 then f v
      else do
        let go ← stackFault true
        onlyIf go (replaceAndPush indefinite indefinite)

/-- FXTRACT (R659). DESIGN CHOICE (log 41): a NaN gives the quiet NaN in both registers, a masked unsupported operand the real
indefinite in both. -/
def extract : M Unit := numeric do
  drawCodes
  extracting fun v =>
    match badOperand v.x with
    | some (.nan x ia) => do
        let go ← if ia then invalid else pure true
        onlyIf go (replaceAndPush x x)
    | some _ => do
        let go ← invalid
        onlyIf go (replaceAndPush indefinite indefinite)
    | none =>
        match extCls v.x with
        | .zero => do
            let go ← zeroDivide
            onlyIf go (replaceAndPush (extInf true) v.x)
        | .infinity => replaceAndPush (extInf false) v.x
        | _ => do
            denormalIf v.den
            let n := numOf v.x
            replaceAndPush (intToExt n.top) (encodeExt n.neg n.mant (-(n.mant.log2 : Int)))

/-! ### Sign (47_x87_b.md R660, R661) -/

/-- Change the bits of ST(0), of any class; its tag is the value's. -/
def onSign (f : Ext → Ext) : M Unit := unary fun v => setSt 0 (f v.x)

/-- FABS. -/
def absolute (x : Ext) : Ext := x &&& ~~~(BitVec.twoPow 80 79)

/-- FCHS. -/
def negated (x : Ext) : Ext := x ^^^ BitVec.twoPow 80 79

/-! ### Comparison (47_x87_b.md R662 to R671) -/

/-- C3, C2 and C0. -/
def setCodes (c3 c2 c0 : Bool) : M Unit := updFsw fun w => { w with c3 := c3, c2 := c2, c0 := c0 }

/-- Pop `n` times. -/
def popTimes : Nat → M Unit
  | 0 => skip
  | n + 1 => do
      fpuPop
      popTimes n

/-- An invalid comparison: masked it is unordered, and pops (R662). -/
def unordered (m : M Bool) (pops : Nat) : M Unit := do
  let go ← m
  onlyIf go (do
    setCodes true true true
    popTimes pops)

/-- Compare ST(0) with an operand (R662); `quiet`: a quiet NaN is unordered without exception (R668). -/
def compareWith (quiet : Bool) (b : Option FVal) (pops : Nat) : M Unit := do
  setC1 false
  let a ← stOperand 0
  match a, b with
  | some a, some b =>
      match badOperands a.x b.x with
      | some (.nan _ false) => unordered (if quiet then pure true else invalid) pops
      | some _ => unordered invalid pops
      | none => do
          denormalIf (a.den || b.den)
          match extCmp a.x b.x with
          | .gt => setCodes false false false
          | .lt => setCodes false false true
          | .eq => setCodes true false false
          popTimes pops
  | _, _ => unordered (stackFault false) pops

/-- Comparison with ST(i) (R662 to R664, R668 to R670). -/
def compareSt (quiet : Bool) (i : BitVec 3) (pops : Nat) : M Unit := numeric do
  let b ← stOperand i
  compareWith quiet b pops

/-- Comparison with a real operand in memory. -/
def compareReal (f : Fmt) (m : MemOp) (pops : Nat) : M Unit := numericMem m do
  let b ← realOperand f m
  compareWith false b pops

/-- Comparison with an integer operand in memory (R665, R666). -/
def compareInt (n : Nat) (m : MemOp) (pops : Nat) : M Unit := numericMem m do
  let b ← intOperand n m
  compareWith false b pops

/-- FTST (R667). -/
def testZero : M Unit := numeric (compareWith false (some { x := extZero false, den := false }) 0)

/-- The class codes C3, C2, C0 of FXAM (R671). -/
def classCodes (empty : Bool) (x : Ext) : Bool × Bool × Bool :=
  if empty then (true, false, true)
  else match extCls x with
    | .unsupported => (false, false, false)
    | .qnan => (false, false, true)
    | .snan => (false, false, true)
    | .normal => (false, true, false)
    | .infinity => (false, true, true)
    | .zero => (true, false, false)
    | .denormal => (true, true, false)

/-- FXAM (R671). -/
def examine : M Unit := numeric do
  let f ← getFpu
  let (c3, c2, c0) := classCodes (f.empty 0) (f.st 0)
  setCodes c3 c2 c0
  setC1 (extNeg (f.st 0))

/-! ### The instructions -/

/-- FADD m32fp: `D8 /0` (46_x87_a.md R636). -/
def execFaddM32 (m : MemOp) (s : State) : Host.Outcome State Fault Refusal :=
  runInstr (arithReal .add fmtSingle m) s

/-- FADD m64fp: `DC /0` (46_x87_a.md R636). -/
def execFaddM64 (m : MemOp) (s : State) : Host.Outcome State Fault Refusal :=
  runInstr (arithReal .add fmtDouble m) s

/-- FADD ST(0),ST(i): `D8 C0+i` (46_x87_a.md R636). -/
def execFaddSt0Sti (i : BitVec 3) (s : State) : Host.Outcome State Fault Refusal :=
  runInstr (arithRegs .add 0 i false) s

/-- FADD ST(i),ST(0): `DC C0+i` (46_x87_a.md R636). -/
def execFaddStiSt0 (i : BitVec 3) (s : State) : Host.Outcome State Fault Refusal :=
  runInstr (arithRegs .add i 0 false) s

/-- FADDP ST(i),ST(0): `DE C0+i` (46_x87_a.md R637). -/
def execFaddpStiSt0 (i : BitVec 3) (s : State) : Host.Outcome State Fault Refusal :=
  runInstr (arithRegs .add i 0 true) s

/-- FIADD m32int: `DA /0` (46_x87_a.md R638). -/
def execFiaddM32 (m : MemOp) (s : State) : Host.Outcome State Fault Refusal :=
  runInstr (arithInt .add 4 m) s

/-- FIADD m16int: `DE /0` (46_x87_a.md R638). -/
def execFiaddM16 (m : MemOp) (s : State) : Host.Outcome State Fault Refusal :=
  runInstr (arithInt .add 2 m) s

/-- FMUL m32fp: `D8 /1` (46_x87_a.md R645). -/
def execFmulM32 (m : MemOp) (s : State) : Host.Outcome State Fault Refusal :=
  runInstr (arithReal .mul fmtSingle m) s

/-- FMUL m64fp: `DC /1` (46_x87_a.md R645). -/
def execFmulM64 (m : MemOp) (s : State) : Host.Outcome State Fault Refusal :=
  runInstr (arithReal .mul fmtDouble m) s

/-- FMUL ST(0),ST(i): `D8 C8+i` (46_x87_a.md R645). -/
def execFmulSt0Sti (i : BitVec 3) (s : State) : Host.Outcome State Fault Refusal :=
  runInstr (arithRegs .mul 0 i false) s

/-- FMUL ST(i),ST(0): `DC C8+i` (46_x87_a.md R645). -/
def execFmulStiSt0 (i : BitVec 3) (s : State) : Host.Outcome State Fault Refusal :=
  runInstr (arithRegs .mul i 0 false) s

/-- FMULP ST(i),ST(0): `DE C8+i` (46_x87_a.md R646). -/
def execFmulpStiSt0 (i : BitVec 3) (s : State) : Host.Outcome State Fault Refusal :=
  runInstr (arithRegs .mul i 0 true) s

/-- FIMUL m32int: `DA /1` (46_x87_a.md R647). -/
def execFimulM32 (m : MemOp) (s : State) : Host.Outcome State Fault Refusal :=
  runInstr (arithInt .mul 4 m) s

/-- FIMUL m16int: `DE /1` (46_x87_a.md R647). -/
def execFimulM16 (m : MemOp) (s : State) : Host.Outcome State Fault Refusal :=
  runInstr (arithInt .mul 2 m) s

/-- FSUB m32fp: `D8 /4` (46_x87_a.md R639). -/
def execFsubM32 (m : MemOp) (s : State) : Host.Outcome State Fault Refusal :=
  runInstr (arithReal .sub fmtSingle m) s

/-- FSUB m64fp: `DC /4` (46_x87_a.md R639). -/
def execFsubM64 (m : MemOp) (s : State) : Host.Outcome State Fault Refusal :=
  runInstr (arithReal .sub fmtDouble m) s

/-- FSUB ST(0),ST(i): `D8 E0+i` (46_x87_a.md R639). -/
def execFsubSt0Sti (i : BitVec 3) (s : State) : Host.Outcome State Fault Refusal :=
  runInstr (arithRegs .sub 0 i false) s

/-- FSUB ST(i),ST(0): `DC E8+i` (46_x87_a.md R639). -/
def execFsubStiSt0 (i : BitVec 3) (s : State) : Host.Outcome State Fault Refusal :=
  runInstr (arithRegs .sub i 0 false) s

/-- FSUBP ST(i),ST(0): `DE E8+i` (46_x87_a.md R640). -/
def execFsubpStiSt0 (i : BitVec 3) (s : State) : Host.Outcome State Fault Refusal :=
  runInstr (arithRegs .sub i 0 true) s

/-- FISUB m32int: `DA /4` (46_x87_a.md R641). -/
def execFisubM32 (m : MemOp) (s : State) : Host.Outcome State Fault Refusal :=
  runInstr (arithInt .sub 4 m) s

/-- FISUB m16int: `DE /4` (46_x87_a.md R641). -/
def execFisubM16 (m : MemOp) (s : State) : Host.Outcome State Fault Refusal :=
  runInstr (arithInt .sub 2 m) s

/-- FSUBR m32fp: `D8 /5` (46_x87_a.md R642). -/
def execFsubrM32 (m : MemOp) (s : State) : Host.Outcome State Fault Refusal :=
  runInstr (arithReal .subr fmtSingle m) s

/-- FSUBR m64fp: `DC /5` (46_x87_a.md R642). -/
def execFsubrM64 (m : MemOp) (s : State) : Host.Outcome State Fault Refusal :=
  runInstr (arithReal .subr fmtDouble m) s

/-- FSUBR ST(0),ST(i): `D8 E8+i` (46_x87_a.md R642). -/
def execFsubrSt0Sti (i : BitVec 3) (s : State) : Host.Outcome State Fault Refusal :=
  runInstr (arithRegs .subr 0 i false) s

/-- FSUBR ST(i),ST(0): `DC E0+i` (46_x87_a.md R642). -/
def execFsubrStiSt0 (i : BitVec 3) (s : State) : Host.Outcome State Fault Refusal :=
  runInstr (arithRegs .subr i 0 false) s

/-- FSUBRP ST(i),ST(0): `DE E0+i` (46_x87_a.md R643). -/
def execFsubrpStiSt0 (i : BitVec 3) (s : State) : Host.Outcome State Fault Refusal :=
  runInstr (arithRegs .subr i 0 true) s

/-- FISUBR m32int: `DA /5` (46_x87_a.md R644). -/
def execFisubrM32 (m : MemOp) (s : State) : Host.Outcome State Fault Refusal :=
  runInstr (arithInt .subr 4 m) s

/-- FISUBR m16int: `DE /5` (46_x87_a.md R644). -/
def execFisubrM16 (m : MemOp) (s : State) : Host.Outcome State Fault Refusal :=
  runInstr (arithInt .subr 2 m) s

/-- FDIV m32fp: `D8 /6` (46_x87_a.md R648). -/
def execFdivM32 (m : MemOp) (s : State) : Host.Outcome State Fault Refusal :=
  runInstr (arithReal .div fmtSingle m) s

/-- FDIV m64fp: `DC /6` (46_x87_a.md R648). -/
def execFdivM64 (m : MemOp) (s : State) : Host.Outcome State Fault Refusal :=
  runInstr (arithReal .div fmtDouble m) s

/-- FDIV ST(0),ST(i): `D8 F0+i` (46_x87_a.md R648). -/
def execFdivSt0Sti (i : BitVec 3) (s : State) : Host.Outcome State Fault Refusal :=
  runInstr (arithRegs .div 0 i false) s

/-- FDIV ST(i),ST(0): `DC F8+i` (46_x87_a.md R648). -/
def execFdivStiSt0 (i : BitVec 3) (s : State) : Host.Outcome State Fault Refusal :=
  runInstr (arithRegs .div i 0 false) s

/-- FDIVP ST(i),ST(0): `DE F8+i` (46_x87_a.md R649). -/
def execFdivpStiSt0 (i : BitVec 3) (s : State) : Host.Outcome State Fault Refusal :=
  runInstr (arithRegs .div i 0 true) s

/-- FIDIV m32int: `DA /6` (46_x87_a.md R650). -/
def execFidivM32 (m : MemOp) (s : State) : Host.Outcome State Fault Refusal :=
  runInstr (arithInt .div 4 m) s

/-- FIDIV m16int: `DE /6` (46_x87_a.md R650). -/
def execFidivM16 (m : MemOp) (s : State) : Host.Outcome State Fault Refusal :=
  runInstr (arithInt .div 2 m) s

/-- FDIVR m32fp: `D8 /7` (46_x87_a.md R651). -/
def execFdivrM32 (m : MemOp) (s : State) : Host.Outcome State Fault Refusal :=
  runInstr (arithReal .divr fmtSingle m) s

/-- FDIVR m64fp: `DC /7` (46_x87_a.md R651). -/
def execFdivrM64 (m : MemOp) (s : State) : Host.Outcome State Fault Refusal :=
  runInstr (arithReal .divr fmtDouble m) s

/-- FDIVR ST(0),ST(i): `D8 F8+i` (46_x87_a.md R651). -/
def execFdivrSt0Sti (i : BitVec 3) (s : State) : Host.Outcome State Fault Refusal :=
  runInstr (arithRegs .divr 0 i false) s

/-- FDIVR ST(i),ST(0): `DC F0+i` (46_x87_a.md R651). -/
def execFdivrStiSt0 (i : BitVec 3) (s : State) : Host.Outcome State Fault Refusal :=
  runInstr (arithRegs .divr i 0 false) s

/-- FDIVRP ST(i),ST(0): `DE F0+i` (46_x87_a.md R652). -/
def execFdivrpStiSt0 (i : BitVec 3) (s : State) : Host.Outcome State Fault Refusal :=
  runInstr (arithRegs .divr i 0 true) s

/-- FIDIVR m32int: `DA /7` (46_x87_a.md R653). -/
def execFidivrM32 (m : MemOp) (s : State) : Host.Outcome State Fault Refusal :=
  runInstr (arithInt .divr 4 m) s

/-- FIDIVR m16int: `DE /7` (46_x87_a.md R653). -/
def execFidivrM16 (m : MemOp) (s : State) : Host.Outcome State Fault Refusal :=
  runInstr (arithInt .divr 2 m) s

/-- FSQRT: `D9 FA` (46_x87_a.md R654). -/
def execFsqrt (s : State) : Host.Outcome State Fault Refusal :=
  runInstr (squareRoot) s

/-- FSCALE: `D9 FD` (46_x87_a.md R655). -/
def execFscale (s : State) : Host.Outcome State Fault Refusal :=
  runInstr (scale) s

/-- FPREM: `D9 F8` (46_x87_a.md R656). -/
def execFprem (s : State) : Host.Outcome State Fault Refusal :=
  runInstr (partialRem false) s

/-- FPREM1: `D9 F5` (46_x87_a.md R657). -/
def execFprem1 (s : State) : Host.Outcome State Fault Refusal :=
  runInstr (partialRem true) s

/-- FRNDINT: `D9 FC` (46_x87_a.md R658). -/
def execFrndint (s : State) : Host.Outcome State Fault Refusal :=
  runInstr (roundToInt) s

/-- FXTRACT: `D9 F4` (46_x87_a.md R659). -/
def execFxtract (s : State) : Host.Outcome State Fault Refusal :=
  runInstr (extract) s

/-- FABS: `D9 E1` (47_x87_b.md R660). -/
def execFabs (s : State) : Host.Outcome State Fault Refusal :=
  runInstr (onSign absolute) s

/-- FCHS: `D9 E0` (47_x87_b.md R661). -/
def execFchs (s : State) : Host.Outcome State Fault Refusal :=
  runInstr (onSign negated) s

/-- FCOM m32fp: `D8 /2` (47_x87_b.md R662). -/
def execFcomM32 (m : MemOp) (s : State) : Host.Outcome State Fault Refusal :=
  runInstr (compareReal fmtSingle m 0) s

/-- FCOM m64fp: `DC /2` (47_x87_b.md R662). -/
def execFcomM64 (m : MemOp) (s : State) : Host.Outcome State Fault Refusal :=
  runInstr (compareReal fmtDouble m 0) s

/-- FCOM ST(i): `D8 D0+i` (47_x87_b.md R662). -/
def execFcomSt (i : BitVec 3) (s : State) : Host.Outcome State Fault Refusal :=
  runInstr (compareSt false i 0) s

/-- FCOMP m32fp: `D8 /3` (47_x87_b.md R663). -/
def execFcompM32 (m : MemOp) (s : State) : Host.Outcome State Fault Refusal :=
  runInstr (compareReal fmtSingle m 1) s

/-- FCOMP m64fp: `DC /3` (47_x87_b.md R663). -/
def execFcompM64 (m : MemOp) (s : State) : Host.Outcome State Fault Refusal :=
  runInstr (compareReal fmtDouble m 1) s

/-- FCOMP ST(i): `D8 D8+i` (47_x87_b.md R663). -/
def execFcompSt (i : BitVec 3) (s : State) : Host.Outcome State Fault Refusal :=
  runInstr (compareSt false i 1) s

/-- FCOMPP: `DE D9` (47_x87_b.md R664). -/
def execFcompp (s : State) : Host.Outcome State Fault Refusal :=
  runInstr (compareSt false 1 2) s

/-- FICOM m16int: `DE /2` (47_x87_b.md R665). -/
def execFicomM16 (m : MemOp) (s : State) : Host.Outcome State Fault Refusal :=
  runInstr (compareInt 2 m 0) s

/-- FICOM m32int: `DA /2` (47_x87_b.md R665). -/
def execFicomM32 (m : MemOp) (s : State) : Host.Outcome State Fault Refusal :=
  runInstr (compareInt 4 m 0) s

/-- FICOMP m16int: `DE /3` (47_x87_b.md R666). -/
def execFicompM16 (m : MemOp) (s : State) : Host.Outcome State Fault Refusal :=
  runInstr (compareInt 2 m 1) s

/-- FICOMP m32int: `DA /3` (47_x87_b.md R666). -/
def execFicompM32 (m : MemOp) (s : State) : Host.Outcome State Fault Refusal :=
  runInstr (compareInt 4 m 1) s

/-- FTST: `D9 E4` (47_x87_b.md R667). -/
def execFtst (s : State) : Host.Outcome State Fault Refusal :=
  runInstr (testZero) s

/-- FUCOM ST(i): `DD E0+i` (47_x87_b.md R668). -/
def execFucomSt (i : BitVec 3) (s : State) : Host.Outcome State Fault Refusal :=
  runInstr (compareSt true i 0) s

/-- FUCOMP ST(i): `DD E8+i` (47_x87_b.md R669). -/
def execFucompSt (i : BitVec 3) (s : State) : Host.Outcome State Fault Refusal :=
  runInstr (compareSt true i 1) s

/-- FUCOMPP: `DA E9` (47_x87_b.md R670). -/
def execFucompp (s : State) : Host.Outcome State Fault Refusal :=
  runInstr (compareSt true 1 2) s

/-- FXAM: `D9 E5` (47_x87_b.md R671). -/
def execFxam (s : State) : Host.Outcome State Fault Refusal :=
  runInstr (examine) s

end Sys2Proof.Machine
end

