-- ==== Sys2Proof/Machine/FpuControl.lean ====
section
/-!
DEFINITION. Control instructions of the coprocessor and the images of its state in memory (47_x87_b.md R681 to R697,
44_control.md R517).
-/

namespace Sys2Proof.Machine

/-- FNINIT (R681): the registers keep their contents and the pointers stay (R681, 90_conflicts.md C20). -/
def Fpu.initialised (f : Fpu) : Fpu :=
  { f with fcw := 0x037F, fsw := Fpu.reset.fsw, tags := Oct.all .empty }

/-- FNINIT (R681). -/
def fpuInit : M Unit := noWait (updFpu Fpu.initialised)

/-- FNCLEX (R682). -/
def fpuClear : M Unit := noWait do
  updFsw fun w => { w with ie := false, de := false, ze := false, oe := false, ue := false, pe := false, sf := false }
  drawAllCodes

/-- FLDCW (R683). -/
def loadControl (m : MemOp) : M Unit := waiting do
  let v ← readMem m 2
  updFpu fun f => { f with fcw := BitVec.ofNat 16 v }
  drawAllCodes

/-- FNSTCW (R684): the status word stays (D3; log 30). -/
def storeControl (m : MemOp) : M Unit := noWait do
  let f ← getFpu
  writeMem m 2 f.fcw.toNat

/-- FNSTSW to memory (R686): the status word itself stays (D3; log 30). -/
def storeStatus (m : MemOp) : M Unit := noWait do
  let f ← getFpu
  writeMem m 2 f.fswWord.toNat

/-- FNSTSW AX (R686). -/
def storeStatusAx : M Unit := noWait do
  let f ← getFpu
  setReg16 .eax f.fswWord

/-! ### Images (R685) -/

/-- A tag's two bits (R605). -/
def tagBits : Tag → Nat
  | .valid => 0
  | .zero => 1
  | .special => 2
  | .empty => 3

/-- The tag of two bits. -/
def tagOfBits (n : Nat) : Tag :=
  match n % 4 with
  | 0 => .valid
  | 1 => .zero
  | 2 => .special
  | _ => .empty

/-- The tag word (R605). -/
def Fpu.ftw (f : Fpu) : Nat :=
  tagBits f.tags.x0 + 4 * tagBits f.tags.x1 + 16 * tagBits f.tags.x2 + 64 * tagBits f.tags.x3 + 256 * tagBits f.tags.x4
    + 1024 * tagBits f.tags.x5 + 4096 * tagBits f.tags.x6 + 16384 * tagBits f.tags.x7

/-- The tags of a tag word. -/
def tagsOf (w : Nat) : Oct Tag :=
  ⟨tagOfBits w, tagOfBits (w / 4), tagOfBits (w / 16), tagOfBits (w / 64), tagOfBits (w / 256), tagOfBits (w / 1024),
    tagOfBits (w / 4096), tagOfBits (w / 16384)⟩

/-- The four formats: whether the operand size is 32, and whether protected mode is in force (R685). -/
structure ImageFmt where
  wide : Bool
  prot : Bool
  deriving DecidableEq, Repr

/-- The format in force. -/
def State.imageFmt (s : State) : ImageFmt := { wide := decide (s.opSize = .s32), prot := s.protectedMode }

/-- The length of the environment. -/
def ImageFmt.envBytes (k : ImageFmt) : Nat := if k.wide then 28 else 14

/-- A pointer as a linear address: selector * 16 + offset. -/
def FpuPtr.linearAddr : FpuPtr → Nat
  | .far sel off => (sel.setWidth 32 * 16 + off).toNat
  | .linear a => a.toNat

/-- A pointer as selector and offset; a linear one has none, a draw (D5). -/
def farParts : FpuPtr → M (Nat × Nat)
  | .far sel off => pure (sel.toNat, off.toNat)
  | .linear _ => do
      let sel ← drawWord
      let off ← drawWord
      pure (sel.toNat % 65536, off.toNat)

/-- A 16-bit field with 16 unspecified bits above it (93_implementation_defined.md U6). -/
def padded (v : Nat) : M Nat := do
  let u ← drawWord
  pure (v % 65536 + 65536 * (u.toNat % 65536))

/-- Fields of an image, each (bytes, value), the first at the lowest address. -/
def packFields : List (Nat × Nat) → Nat
  | [] => 0
  | (n, v) :: l => v % 256 ^ n + 256 ^ n * packFields l

/-- The environment image (R685). -/
def envImage (k : ImageFmt) : M Nat := do
  let f ← getFpu
  if k.prot then do
    let (cs, ip) ← farParts f.fip
    let (ds, dp) ← farParts f.fdp
    if k.wide then do
      let cw ← padded f.fcw.toNat
      let sw ← padded f.fswWord.toNat
      let tw ← padded f.ftw
      let dsw ← padded ds
      pure (packFields [(4, cw), (4, sw), (4, tw), (4, ip), (2, cs), (2, f.fop.toNat), (4, dp), (4, dsw)])
    else pure (packFields [(2, f.fcw.toNat), (2, f.fswWord.toNat), (2, f.ftw), (2, ip), (2, cs), (2, dp), (2, ds)])
  else do
    let ip := f.fip.linearAddr
    let dp := f.fdp.linearAddr
    if k.wide then do
      let cw ← padded f.fcw.toNat
      let sw ← padded f.fswWord.toNat
      let tw ← padded f.ftw
      let ipl ← padded ip
      let dpl ← padded dp
      pure (packFields [(4, cw), (4, sw), (4, tw), (4, ipl), (4, f.fop.toNat + 4096 * (ip / 65536)), (4, dpl),
        (4, 4096 * (dp / 65536))])
    else pure (packFields [(2, f.fcw.toNat), (2, f.fswWord.toNat), (2, f.ftw), (2, ip),
      (2, f.fop.toNat + 4096 * (ip / 65536 % 16)), (2, dp), (2, 4096 * (dp / 65536 % 16))])

/-- `n` bytes of an image at an offset. -/
def imageField (v off n : Nat) : Nat := v / 256 ^ off % 256 ^ n

/-- The pointers and the opcode of an image (R685): a 16-bit protected image has no opcode, which stays. -/
def Fpu.loadPointers (f : Fpu) (k : ImageFmt) (v : Nat) : Fpu :=
  if k.prot then
    if k.wide then
      { f with fip := .far (BitVec.ofNat 16 (imageField v 16 2)) (BitVec.ofNat 32 (imageField v 12 4)),
               fop := BitVec.ofNat 11 (imageField v 18 2),
               fdp := .far (BitVec.ofNat 16 (imageField v 24 2)) (BitVec.ofNat 32 (imageField v 20 4)) }
    else
      { f with fip := .far (BitVec.ofNat 16 (imageField v 8 2)) (BitVec.ofNat 32 (imageField v 6 2)),
               fdp := .far (BitVec.ofNat 16 (imageField v 12 2)) (BitVec.ofNat 32 (imageField v 10 2)) }
  else if k.wide then
    { f with fip := .linear (BitVec.ofNat 32 (imageField v 12 2 + 65536 * (imageField v 16 4 / 4096 % 65536))),
             fop := BitVec.ofNat 11 (imageField v 16 4),
             fdp := .linear (BitVec.ofNat 32 (imageField v 20 2 + 65536 * (imageField v 24 4 / 4096 % 65536))) }
  else
    { f with fip := .linear (BitVec.ofNat 32 (imageField v 6 2 + 65536 * (imageField v 8 2 / 4096))),
             fop := BitVec.ofNat 11 (imageField v 8 2),
             fdp := .linear (BitVec.ofNat 32 (imageField v 10 2 + 65536 * (imageField v 12 2 / 4096))) }

/-- The coprocessor with an environment loaded (R687). -/
def Fpu.loadEnv (f : Fpu) (k : ImageFmt) (v : Nat) : Fpu :=
  let step := if k.wide then 4 else 2
  { f.loadPointers k v with
    fcw := BitVec.ofNat 16 (imageField v 0 2), fsw := Fsw.ofWord (BitVec.ofNat 16 (imageField v step 2)),
    tags := tagsOf (imageField v (2 * step) 2) }

/-- FLDENV (R687). -/
def loadEnvironment (m : MemOp) : M Unit := waiting do
  let s ← getS
  let v ← readMem m s.imageFmt.envBytes
  updFpu fun f => f.loadEnv s.imageFmt v

/-- FNSTENV (R688): then all exceptions are masked. -/
def storeEnvironment (m : MemOp) : M Unit := noWait do
  let s ← getS
  let v ← envImage s.imageFmt
  writeMem m s.imageFmt.envBytes v
  updFpu fun f => { f with fcw := f.fcw ||| 0x3F }
  drawAllCodes

/-- The register image: ST(0) first (R685). -/
def Fpu.regImage (f : Fpu) : Nat :=
  packFields [(10, (f.st 0).toNat), (10, (f.st 1).toNat), (10, (f.st 2).toNat), (10, (f.st 3).toNat),
    (10, (f.st 4).toNat), (10, (f.st 5).toNat), (10, (f.st 6).toNat), (10, (f.st 7).toNat)]

/-- FNSAVE (R689): environment and registers in one write, then as FNINIT. -/
def saveState (m : MemOp) : M Unit := noWait do
  let s ← getS
  let v ← envImage s.imageFmt
  let n := s.imageFmt.envBytes
  writeMem m (n + 80) (v + 256 ^ n * s.fpu.regImage)
  updFpu Fpu.initialised

/-- The registers of an image, ST(i) by the TOP in force; tags stay (R690). -/
def Fpu.loadRegs (f : Fpu) (v : Nat) : (k : Nat) → Fpu
  | 0 => f
  | k + 1 =>
      let g := f.loadRegs v k
      { g with fpr := g.fpr.set (g.phys (BitVec.ofNat 3 k)) (BitVec.ofNat 80 (imageField v (10 * k) 10)) }

/-- FRSTOR (R690). -/
def restoreState (m : MemOp) : M Unit := waiting do
  let s ← getS
  let n := s.imageFmt.envBytes
  let v ← readMem m (n + 80)
  updFpu fun f => (f.loadEnv s.imageFmt v).loadRegs (v / 256 ^ n) 8

/-! ### The stack pointer and the tags (R691 to R695) -/

/-- FINCSTP and FDECSTP (R691, R692). -/
def moveTop (d : BitVec 3) : M Unit := numeric do
  drawCodes
  updFpu fun f => f.setTop (f.fsw.top + d)

/-- FFREE (R693). -/
def freeSt (i : BitVec 3) : M Unit := numeric do
  updFpu fun f => { f with tags := f.tags.set (f.phys i) .empty }
  drawAllCodes

/-- WAIT (44_control.md R517): without a coprocessor nothing is pending. -/
def waitInstr : M Unit := do
  let s ← getS
  check (!(s.cr0.mp && s.cr0.ts)) raiseNM
  onlyIf s.cfg.hasX87 (do
    reportPending
    drawAllCodes)

/-! ### The instructions -/

/-- WAIT_FWAIT: `9B` (44_control.md R517). -/
def execWait (s : State) : Host.Outcome State Fault Refusal :=
  runInstr (waitInstr) s

/-- FNINIT: `DB E3` (47_x87_b.md R681). -/
def execFninit (s : State) : Host.Outcome State Fault Refusal :=
  runInstr (fpuInit) s

/-- FNCLEX: `DB E2` (47_x87_b.md R682). -/
def execFnclex (s : State) : Host.Outcome State Fault Refusal :=
  runInstr (fpuClear) s

/-- FLDCW m2byte: `D9 /5` (47_x87_b.md R683). -/
def execFldcwM16 (m : MemOp) (s : State) : Host.Outcome State Fault Refusal :=
  runInstr (loadControl m) s

/-- FNSTCW m2byte: `D9 /7` (47_x87_b.md R684). -/
def execFnstcwM16 (m : MemOp) (s : State) : Host.Outcome State Fault Refusal :=
  runInstr (storeControl m) s

/-- FNSTSW m2byte: `DD /7` (47_x87_b.md R686). -/
def execFnstswM16 (m : MemOp) (s : State) : Host.Outcome State Fault Refusal :=
  runInstr (storeStatus m) s

/-- FNSTSW AX: `DF E0` (47_x87_b.md R686). -/
def execFnstswAx (s : State) : Host.Outcome State Fault Refusal :=
  runInstr (storeStatusAx) s

/-- FLDENV m14/28byte: `D9 /4` (47_x87_b.md R687). -/
def execFldenvEnv (m : MemOp) (s : State) : Host.Outcome State Fault Refusal :=
  runInstr (loadEnvironment m) s

/-- FNSTENV m14/28byte: `D9 /6` (47_x87_b.md R688). -/
def execFnstenvEnv (m : MemOp) (s : State) : Host.Outcome State Fault Refusal :=
  runInstr (storeEnvironment m) s

/-- FNSAVE m94/108byte: `DD /6` (47_x87_b.md R689). -/
def execFnsaveFull (m : MemOp) (s : State) : Host.Outcome State Fault Refusal :=
  runInstr (saveState m) s

/-- FRSTOR m94/108byte: `DD /4` (47_x87_b.md R690). -/
def execFrstorFull (m : MemOp) (s : State) : Host.Outcome State Fault Refusal :=
  runInstr (restoreState m) s

/-- FINCSTP: `D9 F7` (47_x87_b.md R691). -/
def execFincstp (s : State) : Host.Outcome State Fault Refusal :=
  runInstr (moveTop 1) s

/-- FDECSTP: `D9 F6` (47_x87_b.md R692). -/
def execFdecstp (s : State) : Host.Outcome State Fault Refusal :=
  runInstr (moveTop 7) s

/-- FFREE ST(i): `DD C0+i` (47_x87_b.md R693). -/
def execFfreeSt (i : BitVec 3) (s : State) : Host.Outcome State Fault Refusal :=
  runInstr (freeSt i) s

/-- FNOP: `D9 D0` (47_x87_b.md R695). -/
def execFnop (s : State) : Host.Outcome State Fault Refusal :=
  runInstr (numeric drawAllCodes) s

/-- FENI: `DB E0` (47_x87_b.md R694). -/
def execFeni (s : State) : Host.Outcome State Fault Refusal :=
  runInstr (noWait skip) s

/-- FDISI: `DB E1` (47_x87_b.md R694). -/
def execFdisi (s : State) : Host.Outcome State Fault Refusal :=
  runInstr (noWait skip) s

/-- FSETPM: `DB E4` (47_x87_b.md R694). -/
def execFsetpm (s : State) : Host.Outcome State Fault Refusal :=
  runInstr (noWait skip) s

end Sys2Proof.Machine
end

