-- ==== Sys2Proof/Machine/FpuMove.lean ====
section
/-!
DEFINITION. Data transfer of the coprocessor (46_x87_a.md R620 to R635).
-/

namespace Sys2Proof.Machine

/-! ### Loads -/

/-- FLD of single or double precision (R620): #IS before #IA before #D. -/
def loadReal (f : Fmt) (m : MemOp) : M Unit := numericMem m do
  let v ← readMem m f.bytes
  let x := f.decode v
  drawCodes
  let p ← getFpu
  if p.empty 7 && decide (extCls x.x = .snan) then do
    let go ← invalid
    onlyIf go (fpuPush (quieted x.x))
  else do
    denormalIf (p.empty 7 && x.den)
    fpuPush x.x

/-- FLD m80fp (R620): bit for bit. -/
def loadExt (m : MemOp) : M Unit := numericMem m do
  let v ← readMem m 10
  drawCodes
  fpuPush (BitVec.ofNat 80 v)

/-- FLD ST(i) (R620): read before TOP moves. DESIGN CHOICE (log 38): where ST(i) is empty and the register below TOP is not, the
underflow alone is reported, and masked that register receives the indefinite. -/
def loadSt (i : BitVec 3) : M Unit := numeric do
  drawCodes
  let v ← stOperand i
  match v with
  | none => do
      let go ← stackFault false
      onlyIf go (updFpu fun f => f.pushed indefinite)
  | some v => fpuPush v.x

/-- The constants (R621 to R627), by RC. -/
def loadConst (c : Rc → Ext) : M Unit := numeric do
  drawCodes
  let rc ← roundingControl
  fpuPush (c rc)

/-- log2(10) (R622). -/
def constL2T : Rc → Ext
  | .up => 0x4000D49A784BCD1B8AFF
  | _ => 0x4000D49A784BCD1B8AFE

/-- A constant whose nearest value is the upper of two neighbours (R623 to R626). -/
def constUpper (lower : Ext) : Rc → Ext
  | .nearest => lower + 1
  | .up => lower + 1
  | .down => lower
  | .zero => lower

/-- log2(e) (R623). -/
def constL2E : Rc → Ext := constUpper 0x3FFFB8AA3B295C17F0BB

/-- π (R624). -/
def constPi : Rc → Ext := constUpper 0x4000C90FDAA22168C234

/-- log10(2) (R625). -/
def constLg2 : Rc → Ext := constUpper 0x3FFD9A209A84FBCFF798

/-- ln(2) (R626). -/
def constLn2 : Rc → Ext := constUpper 0x3FFEB17217F7D1CF79AB

/-- FILD (R630): exact. -/
def loadInt (n : Nat) (m : MemOp) : M Unit := numericMem m do
  let v ← readMem m n
  drawCodes
  fpuPush (intToExt (signedBytes n v))

/-- FBLD (R633): an invalid digit makes the value free. -/
def loadBcd (m : MemOp) : M Unit := numericMem m do
  let v ← readMem m 10
  drawCodes
  match bcdDigits 18 (v % 2 ^ 72) with
  | some n => fpuPush (encodeExt (decide (v / 2 ^ 79 % 2 = 1)) n 0)
  | none => do
      let x ← drawExt
      fpuPush x

/-! ### Stores -/

/-- A finite number as single or double precision (R628, R611); none when an unmasked #O or #U stops the store. DEDUCED (log
37): such a stop sets OE or UE alone, and C1 stays 0: no rounded result is delivered whose direction #P could tell. -/
def numImage (f : Fmt) (n : Num) : M (Option Nat) := do
  let rc ← roundingControl
  let r := roundPrec f.prec rc n
  if f.overflows r then do
    let m ← masked 3
    updFsw fun w => { w with oe := true }
    onlyIf m (inexactIf true (overflowToInf rc n.neg))
    pure (if !m then none
      else some (if overflowToInf rc n.neg then f.special n.neg 0 else f.encode n.neg f.largest.1 f.largest.2))
  else if f.tiny r then do
    let m ← masked 4
    let d := roundAt rc n f.quantum
    onlyIf (!m || d.inexact) (updFsw fun w => { w with ue := true })
    onlyIf m (inexactIf d.inexact d.up)
    pure (if m then some (f.encode n.neg d.mant d.exp) else none)
  else do
    inexactIf r.inexact r.up
    pure (some (f.encode n.neg r.mant r.exp))

/-- The real indefinite of a format (R608). -/
def Fmt.indefinite (f : Fmt) : Nat := f.special true (2 ^ (f.prec - 2))

/-- #IA or #IS of a store: what is stored if it is masked. -/
def ifMasked (m : M Bool) (v : Nat) : M (Option Nat) := do
  let go ← m
  pure (if go then some v else none)

/-- FromExt (R628): the image of ST(0) in a format; none when nothing is stored. -/
def realImage (f : Fmt) : Option FVal → M (Option Nat)
  | none => ifMasked (stackFault false) f.indefinite
  | some v =>
      match extCls v.x with
      | .zero => pure (some (f.encode (extNeg v.x) 0 0))
      | .infinity => pure (some (f.special (extNeg v.x) 0))
      | .qnan => pure (some (f.special (extNeg v.x) (f.nanFrac v.x)))
      | .snan => ifMasked invalid (f.special (extNeg v.x) (f.nanFrac (quieted v.x)))
      | .unsupported => ifMasked invalid f.indefinite
      | .normal => numImage f (numOf v.x)
      | .denormal => numImage f (numOf v.x)

/-- Store `n` bytes made of ST(0), and pop when something was stored (R628, R629): the operand is checked first (R617). DESIGN
CHOICE (log 18): for a data breakpoint it is written also where an unmasked exception stores nothing. -/
def storeImage (n : Nat) (m : MemOp) (pops : Bool) (image : Option FVal → M (Option Nat)) : M Unit := numericMem m do
  let as ← accessMem m n true
  drawCodes
  let v ← stOperand 0
  let r ← image v
  match r with
  | none => skip
  | some b => do
      storeAt as b
      popIf pops

/-- FST and FSTP of single and double precision (R628, R629). -/
def storeReal (f : Fmt) (m : MemOp) (pops : Bool) : M Unit := storeImage f.bytes m pops (realImage f)

/-- FSTP m80fp (R629): bit for bit. -/
def storeExt (m : MemOp) : M Unit := storeImage 10 m true fun v =>
  match v with
  | none => ifMasked (stackFault false) indefinite.toNat
  | some v => pure (some v.x.toNat)

/-- FST ST(i) and FSTP ST(i) (R628, R629): the value and the tag are copied, then the pop. -/
def storeSt (i : BitVec 3) (pops : Bool) : M Unit := numeric do
  drawCodes
  let f ← getFpu
  if f.empty 0 then do
    let go ← underflowTo i
    popIf (go && pops)
  else do
    updFpu fun f => { f with fpr := f.fpr.set (f.phys i) (f.st 0),
                             tags := f.tags.set (f.phys i) (f.tags.get (f.phys 0)) }
    popIf pops

/-- ExtToInt (R619, R631): the image of ST(0) in `n` bytes. -/
def intImage (n : Nat) : Option FVal → M (Option Nat)
  | none => ifMasked (stackFault false) (2 ^ (8 * n - 1))
  | some v => do
      let rc ← roundingControl
      let c := extCls v.x
      let (mag, inexact, up) := toIntegral rc (numOf v.x)
      let neg := extNeg v.x
      if c = .infinity ∨ c = .qnan ∨ c = .snan ∨ c = .unsupported then ifMasked invalid (2 ^ (8 * n - 1))
      else if (if neg then 2 ^ (8 * n - 1) < mag else 2 ^ (8 * n - 1) ≤ mag) then ifMasked invalid (2 ^ (8 * n - 1))
      else do
        inexactIf inexact up
        pure (some (if neg then (2 ^ (8 * n) - mag) % 2 ^ (8 * n) else mag))

/-- FIST and FISTP (R631, R632). -/
def storeInt (n : Nat) (m : MemOp) (pops : Bool) : M Unit := storeImage n m pops (intImage n)

/-- The packed BCD image of ST(0) (R634). -/
def bcdImage : Option FVal → M (Option Nat)
  | none => ifMasked (stackFault false) indefinite.toNat
  | some v => do
      let rc ← roundingControl
      let c := extCls v.x
      let (mag, inexact, up) := toIntegral rc (numOf v.x)
      if c = .infinity ∨ c = .qnan ∨ c = .snan ∨ c = .unsupported ∨ 10 ^ 18 ≤ mag then
        ifMasked invalid indefinite.toNat
      else do
        inexactIf inexact up
        pure (some ((extNeg v.x).toNat * 2 ^ 79 + toBcd 18 mag))

/-- FBSTP (R634). -/
def storeBcd (m : MemOp) : M Unit := storeImage 10 m true bcdImage

/-! ### FXCH (R635) -/

/-- Exchange ST(0) and ST(i) with their tags. -/
def Fpu.exchange (f : Fpu) (i : BitVec 3) : Fpu :=
  { f with fpr := (f.fpr.set (f.phys 0) (f.st i)).set (f.phys i) (f.st 0),
           tags := (f.tags.set (f.phys 0) (f.tags.get (f.phys i))).set (f.phys i) (f.tags.get (f.phys 0)) }

/-- Give an empty register the real indefinite. -/
def Fpu.filled (f : Fpu) (i : BitVec 3) : Fpu := if f.empty i then f.setSt i indefinite else f

/-- The exchange of ST(0) and ST(i); an empty one is #IS (R635). -/
def exchangeRegs (i : BitVec 3) : M Unit := do
  let f ← getFpu
  if f.empty 0 || f.empty i then do
    let go ← stackFault false
    onlyIf go (updFpu fun f => ((f.filled 0).filled i).exchange i)
  else updFpu fun f => f.exchange i

/-- FXCH (R635): of ST(0) with itself it changes nothing but FIP, FOP and C1; of an empty one too it keeps C0, C2, C3 and FDP
(DEDUCED, log 38). -/
def fxchRegs (i : BitVec 3) : M Unit :=
  if i = 0 then waiting do
    notePointer
    setC1 false
    exchangeRegs 0
  else numeric do
    drawCodes
    exchangeRegs i

/-! ### The instructions -/

/-- FLD m32fp: `D9 /0` (46_x87_a.md R620). -/
def execFldM32 (m : MemOp) (s : State) : Host.Outcome State Fault Refusal :=
  runInstr (loadReal fmtSingle m) s

/-- FLD m64fp: `DD /0` (46_x87_a.md R620). -/
def execFldM64 (m : MemOp) (s : State) : Host.Outcome State Fault Refusal :=
  runInstr (loadReal fmtDouble m) s

/-- FLD m80fp: `DB /5` (46_x87_a.md R620). -/
def execFldM80 (m : MemOp) (s : State) : Host.Outcome State Fault Refusal :=
  runInstr (loadExt m) s

/-- FLD ST(i): `D9 C0+i` (46_x87_a.md R620). -/
def execFldSt (i : BitVec 3) (s : State) : Host.Outcome State Fault Refusal :=
  runInstr (loadSt i) s

/-- FLD1: `D9 E8` (46_x87_a.md R621). -/
def execFld1 (s : State) : Host.Outcome State Fault Refusal :=
  runInstr (loadConst (fun _ => extOne)) s

/-- FLDL2T: `D9 E9` (46_x87_a.md R622). -/
def execFldl2t (s : State) : Host.Outcome State Fault Refusal :=
  runInstr (loadConst constL2T) s

/-- FLDL2E: `D9 EA` (46_x87_a.md R623). -/
def execFldl2e (s : State) : Host.Outcome State Fault Refusal :=
  runInstr (loadConst constL2E) s

/-- FLDPI: `D9 EB` (46_x87_a.md R624). -/
def execFldpi (s : State) : Host.Outcome State Fault Refusal :=
  runInstr (loadConst constPi) s

/-- FLDLG2: `D9 EC` (46_x87_a.md R625). -/
def execFldlg2 (s : State) : Host.Outcome State Fault Refusal :=
  runInstr (loadConst constLg2) s

/-- FLDLN2: `D9 ED` (46_x87_a.md R626). -/
def execFldln2 (s : State) : Host.Outcome State Fault Refusal :=
  runInstr (loadConst constLn2) s

/-- FLDZ: `D9 EE` (46_x87_a.md R627). -/
def execFldz (s : State) : Host.Outcome State Fault Refusal :=
  runInstr (loadConst (fun _ => extZero false)) s

/-- FST m32fp: `D9 /2` (46_x87_a.md R628). -/
def execFstM32 (m : MemOp) (s : State) : Host.Outcome State Fault Refusal :=
  runInstr (storeReal fmtSingle m false) s

/-- FST m64fp: `DD /2` (46_x87_a.md R628). -/
def execFstM64 (m : MemOp) (s : State) : Host.Outcome State Fault Refusal :=
  runInstr (storeReal fmtDouble m false) s

/-- FST ST(i): `DD D0+i` (46_x87_a.md R628). -/
def execFstSt (i : BitVec 3) (s : State) : Host.Outcome State Fault Refusal :=
  runInstr (storeSt i false) s

/-- FSTP m32fp: `D9 /3` (46_x87_a.md R629). -/
def execFstpM32 (m : MemOp) (s : State) : Host.Outcome State Fault Refusal :=
  runInstr (storeReal fmtSingle m true) s

/-- FSTP m64fp: `DD /3` (46_x87_a.md R629). -/
def execFstpM64 (m : MemOp) (s : State) : Host.Outcome State Fault Refusal :=
  runInstr (storeReal fmtDouble m true) s

/-- FSTP m80fp: `DB /7` (46_x87_a.md R629). -/
def execFstpM80 (m : MemOp) (s : State) : Host.Outcome State Fault Refusal :=
  runInstr (storeExt m) s

/-- FSTP ST(i): `DD D8+i` (46_x87_a.md R629). -/
def execFstpSt (i : BitVec 3) (s : State) : Host.Outcome State Fault Refusal :=
  runInstr (storeSt i true) s

/-- FILD m16int: `DF /0` (46_x87_a.md R630). -/
def execFildM16 (m : MemOp) (s : State) : Host.Outcome State Fault Refusal :=
  runInstr (loadInt 2 m) s

/-- FILD m32int: `DB /0` (46_x87_a.md R630). -/
def execFildM32 (m : MemOp) (s : State) : Host.Outcome State Fault Refusal :=
  runInstr (loadInt 4 m) s

/-- FILD m64int: `DF /5` (46_x87_a.md R630). -/
def execFildM64 (m : MemOp) (s : State) : Host.Outcome State Fault Refusal :=
  runInstr (loadInt 8 m) s

/-- FIST m16int: `DF /2` (46_x87_a.md R631). -/
def execFistM16 (m : MemOp) (s : State) : Host.Outcome State Fault Refusal :=
  runInstr (storeInt 2 m false) s

/-- FIST m32int: `DB /2` (46_x87_a.md R631). -/
def execFistM32 (m : MemOp) (s : State) : Host.Outcome State Fault Refusal :=
  runInstr (storeInt 4 m false) s

/-- FISTP m16int: `DF /3` (46_x87_a.md R632). -/
def execFistpM16 (m : MemOp) (s : State) : Host.Outcome State Fault Refusal :=
  runInstr (storeInt 2 m true) s

/-- FISTP m32int: `DB /3` (46_x87_a.md R632). -/
def execFistpM32 (m : MemOp) (s : State) : Host.Outcome State Fault Refusal :=
  runInstr (storeInt 4 m true) s

/-- FISTP m64int: `DF /7` (46_x87_a.md R632). -/
def execFistpM64 (m : MemOp) (s : State) : Host.Outcome State Fault Refusal :=
  runInstr (storeInt 8 m true) s

/-- FBLD m80bcd: `DF /4` (46_x87_a.md R633). -/
def execFbldM80 (m : MemOp) (s : State) : Host.Outcome State Fault Refusal :=
  runInstr (loadBcd m) s

/-- FBSTP m80bcd: `DF /6` (46_x87_a.md R634). -/
def execFbstpM80 (m : MemOp) (s : State) : Host.Outcome State Fault Refusal :=
  runInstr (storeBcd m) s

/-- FXCH ST(i): `D9 C8+i` (46_x87_a.md R635). -/
def execFxchSt (i : BitVec 3) (s : State) : Host.Outcome State Fault Refusal :=
  runInstr (fxchRegs i) s

end Sys2Proof.Machine
end

