-- ==== Sys2Proof/Machine/FpuTrans.lean ====
section
/-!
DEFINITION. The transcendental instructions (47_x87_b.md R672 to R680). What their functions give for the operands is X87_FN,
which the step evaluates when the instruction starts (`x87Answers` of FpuExact.lean, log 20): within one unit in the last
place of the exact result, monotonic. The spec's special operands, signs and ranges are explicit here.
-/

namespace Sys2Proof.Machine

/-! ### Approximations (R672) -/

/-- The bits of a magnitude: exponent field and significand, in numerical order. -/
def extMag (x : Ext) : Nat := extExp x * 2 ^ 64 + extSig x

/-- The least normal magnitude. -/
def extMinNormal : Ext := mkExt false 1 (2 ^ 63)

/-- The largest finite magnitude. -/
def extMax : Ext := mkExt false 0x7FFE (2 ^ 64 - 1)

/-- What X87_FN gives for the operands of this instruction (R672). -/
def x87Given : M X87Answers := fun s => .ok s.ins.x87 s

/-- A result with the sign that the spec states. -/
def Approx.withSign (a : Approx) (neg : Bool) : Approx := { a with neg := neg }

/-- A result with the magnitude of a finite value. -/
def Approx.withMag (a : Approx) (x : Ext) : Approx :=
  { a with sig := BitVec.ofNat 64 (extSig x), exp := (numOf x).exp }

/-- A result's magnitude. -/
def Approx.mag (a : Approx) : Num := { neg := false, mant := a.sig.toNat, exp := a.exp }

/-- A result whose magnitude is held within the range that the spec states. -/
def Approx.within (a : Approx) (lo hi : Ext) : Approx :=
  if a.mag.cmp (numOf lo) = .lt then a.withMag lo
  else if a.mag.cmp (numOf hi) = .gt then a.withMag hi
  else a

/-- A result's magnitude as a number already rounded to 64 bits. -/
def Approx.rounded (a : Approx) : Rounded := { mant := a.sig.toNat, exp := a.exp, inexact := a.inexact, up := a.up }

/-- A result's magnitude as a denormal: what the second rounding adds to its flags (log 20). -/
def Approx.denormal (a : Approx) (rc : Rc) : Rounded :=
  let d := roundAt rc { a.mag with neg := a.neg } (fmtExt 64).quantum
  { d with inexact := a.inexact || d.inexact, up := if d.inexact then d.up else a.up }

/-- The value of a sign and magnitude. -/
def magExt (neg : Bool) (mag : Nat) : Ext := BitVec.ofNat 80 (neg.toNat * 2 ^ 79 + mag)

/-- Deliver a transcendental result to ST(i) (R672, R611). -/
def deliverApprox (i : BitVec 3) (a : Approx) : M Unit := do
  let rc ← roundingControl
  deliverRounded i (fmtExt 64) a.neg a.rounded (a.denormal rc)

/-- The outcome of a function whose operand is outside its domain (R672, 93_implementation_defined.md U7): the result,
C1, SF and the exception flags are draws. DESIGN CHOICE (log 20): the result is written, and FYL2XP1 pops, whichever of the
flags drawn are unmasked. -/
def undefinedResult (i : BitVec 3) : M Unit := do
  let x ← drawExt
  setSt i x
  let ie ← drawBit
  let de ← drawBit
  let ze ← drawBit
  let oe ← drawBit
  let ue ← drawBit
  let pe ← drawBit
  let sf ← drawBit
  let c1 ← drawBit
  updFsw fun w => { w with ie := w.ie || ie, de := w.de || de, ze := w.ze || ze, oe := w.oe || oe, ue := w.ue || ue,
                           pe := w.pe || pe, sf := w.sf || sf, c1 := c1 }

/-- One half. -/
def extHalf : Ext := 0x3FFE8000000000000000

/-! ### F2XM1 (R673) -/

/-- F2XM1. -/
def exp2m1 : M Unit := unary fun v => do
  let given ← x87Given
  let neg := extNeg v.x
  match badOperand v.x with
  | some c => deliver0 64 false c
  | none =>
      if extCls v.x = .zero then deliver0 64 false (.special v.x)
      else if extMag extOne < extMag v.x then undefinedResult 0
      else if extMag v.x = extMag extOne then deliver0 64 false (.special (if neg then magExt true (extMag extHalf) else extOne))
      else do
        denormalIf v.den
        deliverApprox 0 ((given.f2xm1.withSign neg).within (extZero false) (if neg then extHalf else extOne))

/-! ### Logarithms (R674, R675) -/

/-- An operation on x = ST(0) and y = ST(1) whose result replaces y, and pops. `f` says whether it completes. -/
def binaryPop (f : FVal → FVal → M Bool) : M Unit := numeric do
  drawCodes
  let a ← stOperand 0
  let b ← stOperand 1
  match a, b with
  | some a, some b => do
      let go ← f a b
      popIf go
  | _, _ => do
      let go ← underflowTo 1
      popIf go

/-- The special operands of FYL2X (R674); none elsewhere. -/
def specialLog (x y : Ext) : Option Calc :=
  match badOperands x y with
  | some c => some c
  | none =>
      let order := extCmp x extOne
      if extCls x = .zero then some (if extCls y = .zero then .ia else .zdiv (!extNeg y))
      else if extNeg x then some .ia
      else if extCls x = .infinity then some (if extCls y = .zero then .ia else .special (extInf (extNeg y)))
      else if order = .eq then some (if extCls y = .infinity then .ia else .special (extZero (extNeg y)))
      else if extCls y = .infinity then some (.special (extInf (extNeg y ^^ decide (order = .lt))))
      else if extCls y = .zero then some (.special (extZero (extNeg y ^^ decide (order = .lt))))
      else none

/-- FYL2X (R674). -/
def log2Mul : M Unit := binaryPop fun x y => do
  let given ← x87Given
  match specialLog x.x y.x with
  | some c => deliverCalc 1 64 (x.den || y.den) c
  | none => do
      denormalIf (x.den || y.den)
      deliverApprox 1 (given.fyl2x.withSign (extNeg y.x ^^ decide (extCmp x.x extOne = .lt)))
      pure true

/-- A finite value within ±(1 - √2/2) (R675), by an exact comparison of squares. -/
def log1Range (x : Ext) : Bool :=
  let n := numOf x
  let k := (-n.exp).toNat
  decide (n.top < 0) && decide (2 ^ (2 * k) ≤ 2 * (2 ^ k - n.mant) * (2 ^ k - n.mant))

/-- The special operands of FYL2XP1 within its range (R675); none elsewhere. -/
def specialLog1 (x y : Ext) : Option Calc :=
  let neg := extNeg x ^^ extNeg y
  if extCls x = .zero then some (if extCls y = .infinity then .ia else .special (extZero neg))
  else if extCls y = .infinity then some (.special (extInf neg))
  else if extCls y = .zero then some (.special (extZero neg))
  else none

/-- FYL2XP1 (R675). DESIGN CHOICE (log 20): a NaN or unsupported ST(1) is answered as such also where ST(0) is out of range. -/
def log2p1Mul : M Unit := binaryPop fun x y => do
  let given ← x87Given
  match badOperands x.x y.x with
  | some c => deliverCalc 1 64 false c
  | none =>
      if extCls x.x = .infinity ∨ (extCls x.x ≠ .zero ∧ !log1Range x.x) then do
        undefinedResult 1
        pure true
      else match specialLog1 x.x y.x with
        | some c => deliverCalc 1 64 (x.den || y.den) c
        | none => do
            denormalIf (x.den || y.den)
            deliverApprox 1 (given.fyl2xp1.withSign (extNeg x.x ^^ extNeg y.x))
            pure true

/-! ### Trigonometric functions (R676, R678 to R680) -/

/-- A finite value of magnitude 2^63 or more: C2 is set and nothing else happens. -/
def outOfRange (x : Ext) : Bool :=
  (decide (extCls x = .normal) || decide (extCls x = .denormal)) && decide (63 ≤ (numOf x).top)

/-- The sine (R678): a denormal gives itself; of another operand it is no underflow, which R678 does not list (log 20). -/
def sineOf (given : X87Answers) (x : FVal) : Approx :=
  if x.den then (given.fsin.withSign (extNeg x.x)).withMag x.x else given.fsin.within extMinNormal extOne

/-- The cosine (R679): never an underflow, which R679 does not list (log 20). -/
def cosineOf (given : X87Answers) (_ : FVal) : Approx := given.fcos.within extMinNormal extOne

/-- FSIN and FCOS (R678, R679): `atZero` is the value at ±0. C2 is 0 after an invalid operand too (log 38). -/
def trig (f : X87Answers → FVal → Approx) (atZero : Ext → Ext) : M Unit := unary fun v => do
  let given ← x87Given
  if outOfRange v.x then do
    let c1 ← drawBit
    setC1 c1
    setC2 true
  else do
    setC2 false
    match badOperand v.x with
    | some c => deliver0 64 false c
    | none =>
        match extCls v.x with
        | .infinity => deliver0 64 false .ia
        | .zero => deliver0 64 false (.special (atZero v.x))
        | _ => do
            denormalIf v.den
            deliverApprox 0 (f given v)

/-- An instruction that replaces ST(0) and pushes, with the range of the trigonometric functions: out of range only C2
is set (R676, R680). The range is tested before the overflow of the stack, and C2 is 0 after an invalid operand and after a
stack fault (log 38). -/
def trigPush (f : FVal → M Unit) : M Unit := numeric do
  drawCodes
  let v ← stOperand 0
  if v.any fun v => outOfRange v.x then setC2 true
  else do
    setC2 false
    extracting f

/-- An invalid operand of such an instruction: the values it leaves if the exception is masked. -/
def invalidPair (ia : Bool) (x y : Ext) : M Unit := do
  let go ← if ia then invalid else pure true
  onlyIf go (replaceAndPush x y)

/-- FPTAN (R676): the tangent, then 1.0. DESIGN CHOICE (log 38): 1.0 is pushed above a NaN and above the indefinite too. -/
def tangent : M Unit := trigPush fun v => do
  let given ← x87Given
  match badOperand v.x with
  | some (.nan x ia) => invalidPair ia x extOne
  | some _ => invalidPair true indefinite extOne
  | none =>
      match extCls v.x with
      | .infinity => invalidPair true indefinite extOne
      | .zero => replaceAndPush v.x extOne
      | _ => do
          denormalIf v.den
          deliverApprox 0 (given.ftan.within (extZero false) extMax)
          updFpu fun f => f.pushed extOne

/-- FSINCOS (R680): the sine, then the cosine; C1 is the cosine's. DESIGN CHOICE (log 38): a NaN or a masked #IA of an
unsupported operand leaves the quiet NaN or the indefinite in both. -/
def sineCosine : M Unit := trigPush fun v => do
  let given ← x87Given
  match badOperand v.x with
  | some (.nan x ia) => invalidPair ia x x
  | some _ => invalidPair true indefinite indefinite
  | none =>
      match extCls v.x with
      | .infinity => invalidPair true indefinite indefinite
      | .zero => replaceAndPush v.x extOne
      | _ => do
          denormalIf v.den
          deliverApprox 0 (sineOf given v)
          updFpu fun f => f.pushed extOne
          setC1 false
          deliverApprox 0 (cosineOf given v)

/-! ### FPATAN (R677) -/

/-- π/2, rounded by RC. -/
def halfPi (rc : Rc) : Ext := constPi rc - BitVec.twoPow 80 64

/-- π/4, rounded by RC. -/
def quarterPi (rc : Rc) : Ext := constPi rc - BitVec.twoPow 80 65

/-- 3π/4, rounded by RC. -/
def threeQuarterPi : Rc → Ext := constUpper 0x400096CBE3F9990E91A7

/-- A special angle with the sign of Y. -/
def signedAngle (y a : Ext) : Calc := .special (magExt (extNeg y) (extMag a))

/-- The special operands of FPATAN with X = `x` and Y = `y` (R677); none elsewhere. -/
def specialAngle (rc : Rc) (x y : Ext) : Option Calc :=
  match badOperands x y with
  | some c => some c
  | none =>
      match extCls y, extCls x, extNeg x with
      | .zero, _, false => some (signedAngle y (extZero false))
      | .zero, _, true => some (signedAngle y (constPi rc))
      | .infinity, .infinity, false => some (signedAngle y (quarterPi rc))
      | .infinity, .infinity, true => some (signedAngle y (threeQuarterPi rc))
      | .infinity, _, _ => some (signedAngle y (halfPi rc))
      | _, .zero, _ => some (signedAngle y (halfPi rc))
      | _, .infinity, false => some (signedAngle y (extZero false))
      | _, .infinity, true => some (signedAngle y (constPi rc))
      | _, _, _ => none

/-- FPATAN (R677): the sign of Y, below π/2 for positive X and between π/2 and π for negative X. -/
def arctangent : M Unit := binaryPop fun x y => do
  let rc ← roundingControl
  let given ← x87Given
  match specialAngle rc x.x y.x with
  | some c => deliverCalc 1 64 (x.den || y.den) c
  | none => do
      denormalIf (x.den || y.den)
      deliverApprox 1 ((given.fatan.withSign (extNeg y.x)).within (if extNeg x.x then halfPi rc else extZero false)
        (if extNeg x.x then constPi .zero else halfPi rc))
      pure true

/-! ### The instructions -/

/-- F2XM1: `D9 F0` (47_x87_b.md R673). -/
def execF2xm1 (s : State) : Host.Outcome State Fault Refusal :=
  runInstr (exp2m1) s

/-- FYL2X: `D9 F1` (47_x87_b.md R674). -/
def execFyl2x (s : State) : Host.Outcome State Fault Refusal :=
  runInstr (log2Mul) s

/-- FYL2XP1: `D9 F9` (47_x87_b.md R675). -/
def execFyl2xp1 (s : State) : Host.Outcome State Fault Refusal :=
  runInstr (log2p1Mul) s

/-- FPTAN: `D9 F2` (47_x87_b.md R676). -/
def execFptan (s : State) : Host.Outcome State Fault Refusal :=
  runInstr (tangent) s

/-- FPATAN: `D9 F3` (47_x87_b.md R677). -/
def execFpatan (s : State) : Host.Outcome State Fault Refusal :=
  runInstr (arctangent) s

/-- FSIN: `D9 FE` (47_x87_b.md R678). -/
def execFsin (s : State) : Host.Outcome State Fault Refusal :=
  runInstr (trig sineOf id) s

/-- FCOS: `D9 FF` (47_x87_b.md R679). -/
def execFcos (s : State) : Host.Outcome State Fault Refusal :=
  runInstr (trig cosineOf fun _ => extOne) s

/-- FSINCOS: `D9 FB` (47_x87_b.md R680). -/
def execFsincos (s : State) : Host.Outcome State Fault Refusal :=
  runInstr (sineCosine) s

end Sys2Proof.Machine
end

