-- ==== Sys2Proof/Machine/Prefix.lean ====
section
/-!
DEFINITION. The prefixes (30_encoding.md R160, R170 to R176, 44_control.md R516): each is recorded for the instruction in
progress. The illegal uses of LOCK are refused where the instruction is fetched (R175).
-/

namespace Sys2Proof.Machine

/-- Record a prefix. -/
def notePrefix (f : Ins → Ins) (s : State) : Host.Outcome State Fault Refusal := .next { s with ins := f s.ins }

/-! ### The instructions -/

/-- REP_REPE_REPZ prefix: `F3` (43_string_io.md R431). -/
def execRep (s : State) : Host.Outcome State Fault Refusal :=
  notePrefix (fun i => { i with rep := some .rep }) s

/-- REPNE_REPNZ prefix: `F2` (43_string_io.md R433). -/
def execRepne (s : State) : Host.Outcome State Fault Refusal :=
  notePrefix (fun i => { i with rep := some .repne }) s

/-- LOCK prefix: `F0` (44_control.md R516). -/
def execLock (s : State) : Host.Outcome State Fault Refusal :=
  notePrefix (fun i => { i with lock := true }) s

/-- REPE_REPZ prefix: `F3` (43_string_io.md R432). -/
def execRepe (s : State) : Host.Outcome State Fault Refusal :=
  notePrefix (fun i => { i with rep := some .rep }) s

/-- ES: prefix: `26` (30_encoding.md R172). -/
def execSegEs (s : State) : Host.Outcome State Fault Refusal :=
  notePrefix (fun i => { i with seg := some .es }) s

/-- CS: prefix: `2E` (30_encoding.md R172). -/
def execSegCs (s : State) : Host.Outcome State Fault Refusal :=
  notePrefix (fun i => { i with seg := some .cs }) s

/-- SS: prefix: `36` (30_encoding.md R172). -/
def execSegSs (s : State) : Host.Outcome State Fault Refusal :=
  notePrefix (fun i => { i with seg := some .ss }) s

/-- DS: prefix: `3E` (30_encoding.md R172). -/
def execSegDs (s : State) : Host.Outcome State Fault Refusal :=
  notePrefix (fun i => { i with seg := some .ds }) s

/-- FS: prefix: `64` (30_encoding.md R172). -/
def execSegFs (s : State) : Host.Outcome State Fault Refusal :=
  notePrefix (fun i => { i with seg := some .fs }) s

/-- GS: prefix: `65` (30_encoding.md R172). -/
def execSegGs (s : State) : Host.Outcome State Fault Refusal :=
  notePrefix (fun i => { i with seg := some .gs }) s

/-- OPSIZE prefix: `66` (30_encoding.md R170). -/
def execOpsize (s : State) : Host.Outcome State Fault Refusal :=
  notePrefix (fun i => { i with opsize := true }) s

/-- ADSIZE prefix: `67` (30_encoding.md R171). -/
def execAdsize (s : State) : Host.Outcome State Fault Refusal :=
  notePrefix (fun i => { i with adsize := true }) s

end Sys2Proof.Machine
end

