-- ==== Sys2Proof/Machine/Shift.lean ====
section
/-!
DEFINITION. Shifts, rotates, double shifts, bit tests, bit scans and SETcc (41_logic_shift_bit.md R295 to R313).
-/

namespace Sys2Proof.Machine

/-- The operations of the shift group (R295, R299). -/
inductive ShiftOp
  | rol | ror | rcl | rcr | shl | shr | sar
  deriving DecidableEq, Repr

/-- Rotate CF:value left, `c` times (R302). -/
def rclBits {n : Nat} : Nat → BitVec n × Bool → BitVec n × Bool
  | 0, x => x
  | c + 1, (a, cf) => rclBits c ((a <<< 1) ||| BitVec.ofNat n cf.toNat, a.msb)

/-- Rotate value:CF right, `c` times (R303). -/
def rcrBits {n : Nat} : Nat → BitVec n × Bool → BitVec n × Bool
  | 0, x => x
  | c + 1, (a, cf) => rcrBits c ((a >>> 1) ||| (BitVec.ofNat n cf.toNat <<< (n - 1)), a.getLsbD 0)

/-- The effective count of RCL and RCR for the masked count `m` (R299). -/
def rcCount (n m : Nat) : Nat := if n < 32 then m % (n + 1) else m

/-- A flag that is defined only for a count of 1 (R296 to R305). -/
def ifOne (m : Nat) (b : Bool) : M Bool := if m = 1 then pure b else drawBit

/-- The flags of a shift: CF and OF as given, AF a draw, the rest from the result (R296 to R298). -/
def flagsAfterShift {n : Nat} (r : BitVec n) (cf of : Bool) : M Unit := do
  let af ← drawBit
  updFlags fun f => { f.szp r with cf := cf, of := of, af := af }

/-- The flags of a rotate: CF and OF (R299). -/
def flagsAfterRotate (cf of : Bool) : M Unit := updFlags fun f => { f with cf := cf, of := of }

/-- An operation by the masked count `m`, which is not 0 (R296 to R303). -/
def shiftBits {n : Nat} (op : ShiftOp) (a : BitVec n) (m : Nat) : M (BitVec n) := do
  let s ← getS
  match op with
  | .rol => do
      let r := a.rotateLeft (m % n)
      let cf := r.getLsbD 0
      let of ← ifOne m (r.msb ^^ cf)
      flagsAfterRotate cf of
      pure r
  | .ror => do
      let r := a.rotateRight (m % n)
      let of ← ifOne m (r.msb ^^ r.getMsbD 1)
      flagsAfterRotate r.msb of
      pure r
  | .rcl => do
      let (r, cf) := rclBits (rcCount n m) (a, s.flags.cf)
      let of ← ifOne m (r.msb ^^ cf)
      flagsAfterRotate cf of
      pure r
  | .rcr => do
      let of ← ifOne m (a.msb ^^ s.flags.cf)
      let (r, cf) := rcrBits (rcCount n m) (a, s.flags.cf)
      flagsAfterRotate cf of
      pure r
  | .shl => do
      let r := a <<< m
      let cf ← if m < n then pure (a.getLsbD (n - m)) else drawBit
      let of ← ifOne m (r.msb ^^ cf)
      flagsAfterShift r cf of
      pure r
  | .shr => do
      let r := a >>> m
      let cf ← if m < n then pure (a.getLsbD (m - 1)) else drawBit
      let of ← ifOne m a.msb
      flagsAfterShift r cf of
      pure r
  | .sar => do
      let r := a.sshiftRight m
      let cf := if m ≤ n then a.getLsbD (m - 1) else a.msb
      let of ← ifOne m false
      flagsAfterShift r cf of
      pure r

/-- A shift or rotate: with a masked count of 0 nothing is written, though the access is checked (R295, R299; log 27). -/
def shift (op : ShiftOp) (w : Width) (d : Opnd) (count : Byte) : M Unit := modify w d fun a =>
  if count.toNat % 32 = 0 then pure none
  else do
    let r ← shiftBits op a (count.toNat % 32)
    pure (some r)

/-- The count in CL. -/
def withCl (f : Byte → M Unit) : M Unit := fun s => f (s.regs.get8 .cl) s

/-- The result and CF of a double shift by `c`, 0 < c ≤ n (R304, R305). -/
def doubleBits {n : Nat} (left : Bool) (a s : BitVec n) (c : Nat) : BitVec n × Bool :=
  if left then ((a <<< c) ||| (s >>> (n - c)), a.getLsbD (n - c))
  else ((a >>> c) ||| (s <<< (n - c)), a.getLsbD (c - 1))

/-- SHLD, SHRD (R304, R305): a count above the width leaves the result and the flags undefined (U13). -/
def doubleShift (left : Bool) (w : Width) (d : Opnd) (src : Reg) (count : Byte) : M Unit := do
  let b ← readOp w (.reg src)
  let c := count.toNat % 32
  modify w d fun a =>
    if c = 0 then pure none
    else if w.bits < c then do
      let r ← drawWord
      drawAllFlags
      pure (some (r.setWidth w.bits))
    else do
      let (r, cf) := doubleBits left a b c
      let of ← ifOne c (r.msb != a.msb)
      flagsAfterShift r cf of
      pure (some r)

/-! ### Bits -/

/-- What a bit instruction does to the bit (R307 to R310). -/
inductive BitOp
  | test | set | reset | complement
  deriving DecidableEq, Repr

/-- CF is the bit; OF, SF, AF and PF are draws; ZF is unchanged (R307). -/
def flagsAfterBit (b : Bool) : M Unit := do
  let of ← drawBit
  let sf ← drawBit
  let af ← drawBit
  let pf ← drawBit
  updFlags fun f => { f with cf := b, of := of, sf := sf, af := af, pf := pf }

/-- The value with bit `i` changed (R308 to R310). -/
def bitChanged {n : Nat} (op : BitOp) (a : BitVec n) (i : Nat) : BitVec n :=
  match op with
  | .test => a
  | .set => a ||| BitVec.twoPow n i
  | .reset => a &&& ~~~BitVec.twoPow n i
  | .complement => a ^^^ BitVec.twoPow n i

/-- Test bit `i` of the word at the segment and offset, and change it (R306). -/
def bitInMem (op : BitOp) (w : Width) (seg : SReg) (off : Word) (i : Nat) : M Unit := do
  let as ← access seg off w.bytes (decide (op ≠ .test))
  let v ← loadAt as
  let a : BitVec w.bits := BitVec.ofNat w.bits v
  onlyIf (decide (op ≠ .test)) (storeAt as (bitChanged op a i).toNat)
  flagsAfterBit (a.getLsbD i)

/-- Test a register's bit and change it (R306 (a)). -/
def bitInReg (op : BitOp) (w : Width) (r : Reg) (i : Nat) : M Unit := do
  let a ← readOp w (.reg r)
  onlyIf (decide (op ≠ .test)) (writeReg w r (bitChanged op a i))
  flagsAfterBit (a.getLsbD i)

/-- The address size of a memory operand's form. -/
def sizeOf : MemOp → Size
  | .a16 _ _ => .s16
  | .a32 _ _ _ => .s32

/-- The distance in bytes to the word that holds a signed bit offset (R306 (c)). -/
def bitWordOffset (w : Width) (off : Int) : Word := BitVec.ofInt 32 (off / w.bits * w.bytes)

/-- BT, BTS, BTR, BTC with a register bit offset (R306 (a), (c)). -/
def bitByReg (op : BitOp) (w : Width) (d : RM) (r : Reg) : M Unit := do
  let off ← readOp w (.reg r)
  match d with
  | .reg q => bitInReg op w q (off.toNat % w.bits)
  | .mem m => do
      let s ← getS
      bitInMem op w (s.segFor m) (sizeTrunc (sizeOf m) (ea s.regs m + bitWordOffset w off.toInt)) (off.toNat % w.bits)

/-- BT, BTS, BTR, BTC with an immediate bit offset (R306 (a), (b)). -/
def bitByImm (op : BitOp) (w : Width) (d : RM) (i : Byte) : M Unit :=
  match d with
  | .reg q => bitInReg op w q (i.toNat % w.bits)
  | .mem m => do
      let s ← getS
      bitInMem op w (s.segFor m) (ea s.regs m) (i.toNat % w.bits)

/-- The index of the least significant 1 bit (R311). -/
def lowestSet {n : Nat} (a : BitVec n) : Nat := ((List.range n).find? a.getLsbD).getD 0

/-- The index of the most significant 1 bit (R312). -/
def highestSet {n : Nat} (a : BitVec n) : Nat := ((List.range n).reverse.find? a.getLsbD).getD 0

/-- ZF as given; the other status flags are draws (R311). -/
def flagsAfterScan (zf : Bool) : M Unit := do
  drawAllFlags
  updFlags fun f => { f with zf := zf }

/-- BSF, BSR (R311, R312): a source of 0 leaves the destination undefined (U14). -/
def scan (up : Bool) (w : Width) (r : Reg) (src : Opnd) : M Unit := do
  let a ← readOp w src
  if a = 0 then do
    let u ← drawWord
    writeReg w r (u.setWidth w.bits)
    flagsAfterScan true
  else do
    writeReg w r (BitVec.ofNat w.bits (if up then lowestSet a else highestSet a))
    flagsAfterScan false

/-- SETcc (R313). -/
def setcc (c : Cond) (d : Opnd) : M Unit := do
  let f ← getFlags
  writeOp .w8 d (if cond f c then 1 else 0)

/-! ### The instructions -/

/-- ROL r/m8,1: `D0 /0` (41_logic_shift_bit.md R300). -/
def execRolRm8One (d : RM8) (s : State) : Host.Outcome State Fault Refusal :=
  runInstr (shift .rol .w8 (rm8Op d) 1) s

/-- ROL r/m8,CL: `D2 /0` (41_logic_shift_bit.md R300). -/
def execRolRm8Cl (d : RM8) (s : State) : Host.Outcome State Fault Refusal :=
  runInstr (withCl fun c => shift .rol .w8 (rm8Op d) c) s

/-- ROL r/m8,imm8: `C0 /0 ib` (41_logic_shift_bit.md R300). -/
def execRolRm8Imm8 (d : RM8) (i : BitVec 8) (s : State) : Host.Outcome State Fault Refusal :=
  runInstr (shift .rol .w8 (rm8Op d) i) s

/-- ROL r/m16/32,1: `D1 /0` (41_logic_shift_bit.md R300). -/
def execRolRmOne (d : RM) (s : State) : Host.Outcome State Fault Refusal :=
  runInstr (atSize fun w => shift .rol w (rmOp d) 1) s

/-- ROL r/m16/32,CL: `D3 /0` (41_logic_shift_bit.md R300). -/
def execRolRmCl (d : RM) (s : State) : Host.Outcome State Fault Refusal :=
  runInstr (atSize fun w => withCl fun c => shift .rol w (rmOp d) c) s

/-- ROL r/m16/32,imm8: `C1 /0 ib` (41_logic_shift_bit.md R300). -/
def execRolRmImm8 (d : RM) (i : BitVec 8) (s : State) : Host.Outcome State Fault Refusal :=
  runInstr (atSize fun w => shift .rol w (rmOp d) i) s

/-- ROR r/m8,1: `D0 /1` (41_logic_shift_bit.md R301). -/
def execRorRm8One (d : RM8) (s : State) : Host.Outcome State Fault Refusal :=
  runInstr (shift .ror .w8 (rm8Op d) 1) s

/-- ROR r/m8,CL: `D2 /1` (41_logic_shift_bit.md R301). -/
def execRorRm8Cl (d : RM8) (s : State) : Host.Outcome State Fault Refusal :=
  runInstr (withCl fun c => shift .ror .w8 (rm8Op d) c) s

/-- ROR r/m8,imm8: `C0 /1 ib` (41_logic_shift_bit.md R301). -/
def execRorRm8Imm8 (d : RM8) (i : BitVec 8) (s : State) : Host.Outcome State Fault Refusal :=
  runInstr (shift .ror .w8 (rm8Op d) i) s

/-- ROR r/m16/32,1: `D1 /1` (41_logic_shift_bit.md R301). -/
def execRorRmOne (d : RM) (s : State) : Host.Outcome State Fault Refusal :=
  runInstr (atSize fun w => shift .ror w (rmOp d) 1) s

/-- ROR r/m16/32,CL: `D3 /1` (41_logic_shift_bit.md R301). -/
def execRorRmCl (d : RM) (s : State) : Host.Outcome State Fault Refusal :=
  runInstr (atSize fun w => withCl fun c => shift .ror w (rmOp d) c) s

/-- ROR r/m16/32,imm8: `C1 /1 ib` (41_logic_shift_bit.md R301). -/
def execRorRmImm8 (d : RM) (i : BitVec 8) (s : State) : Host.Outcome State Fault Refusal :=
  runInstr (atSize fun w => shift .ror w (rmOp d) i) s

/-- RCL r/m8,1: `D0 /2` (41_logic_shift_bit.md R302). -/
def execRclRm8One (d : RM8) (s : State) : Host.Outcome State Fault Refusal :=
  runInstr (shift .rcl .w8 (rm8Op d) 1) s

/-- RCL r/m8,CL: `D2 /2` (41_logic_shift_bit.md R302). -/
def execRclRm8Cl (d : RM8) (s : State) : Host.Outcome State Fault Refusal :=
  runInstr (withCl fun c => shift .rcl .w8 (rm8Op d) c) s

/-- RCL r/m8,imm8: `C0 /2 ib` (41_logic_shift_bit.md R302). -/
def execRclRm8Imm8 (d : RM8) (i : BitVec 8) (s : State) : Host.Outcome State Fault Refusal :=
  runInstr (shift .rcl .w8 (rm8Op d) i) s

/-- RCL r/m16/32,1: `D1 /2` (41_logic_shift_bit.md R302). -/
def execRclRmOne (d : RM) (s : State) : Host.Outcome State Fault Refusal :=
  runInstr (atSize fun w => shift .rcl w (rmOp d) 1) s

/-- RCL r/m16/32,CL: `D3 /2` (41_logic_shift_bit.md R302). -/
def execRclRmCl (d : RM) (s : State) : Host.Outcome State Fault Refusal :=
  runInstr (atSize fun w => withCl fun c => shift .rcl w (rmOp d) c) s

/-- RCL r/m16/32,imm8: `C1 /2 ib` (41_logic_shift_bit.md R302). -/
def execRclRmImm8 (d : RM) (i : BitVec 8) (s : State) : Host.Outcome State Fault Refusal :=
  runInstr (atSize fun w => shift .rcl w (rmOp d) i) s

/-- RCR r/m8,1: `D0 /3` (41_logic_shift_bit.md R303). -/
def execRcrRm8One (d : RM8) (s : State) : Host.Outcome State Fault Refusal :=
  runInstr (shift .rcr .w8 (rm8Op d) 1) s

/-- RCR r/m8,CL: `D2 /3` (41_logic_shift_bit.md R303). -/
def execRcrRm8Cl (d : RM8) (s : State) : Host.Outcome State Fault Refusal :=
  runInstr (withCl fun c => shift .rcr .w8 (rm8Op d) c) s

/-- RCR r/m8,imm8: `C0 /3 ib` (41_logic_shift_bit.md R303). -/
def execRcrRm8Imm8 (d : RM8) (i : BitVec 8) (s : State) : Host.Outcome State Fault Refusal :=
  runInstr (shift .rcr .w8 (rm8Op d) i) s

/-- RCR r/m16/32,1: `D1 /3` (41_logic_shift_bit.md R303). -/
def execRcrRmOne (d : RM) (s : State) : Host.Outcome State Fault Refusal :=
  runInstr (atSize fun w => shift .rcr w (rmOp d) 1) s

/-- RCR r/m16/32,CL: `D3 /3` (41_logic_shift_bit.md R303). -/
def execRcrRmCl (d : RM) (s : State) : Host.Outcome State Fault Refusal :=
  runInstr (atSize fun w => withCl fun c => shift .rcr w (rmOp d) c) s

/-- RCR r/m16/32,imm8: `C1 /3 ib` (41_logic_shift_bit.md R303). -/
def execRcrRmImm8 (d : RM) (i : BitVec 8) (s : State) : Host.Outcome State Fault Refusal :=
  runInstr (atSize fun w => shift .rcr w (rmOp d) i) s

/-- SAL_SHL r/m8,1: `D0 /4` (41_logic_shift_bit.md R296). -/
def execSalRm8One (d : RM8) (s : State) : Host.Outcome State Fault Refusal :=
  runInstr (shift .shl .w8 (rm8Op d) 1) s

/-- SAL_SHL r/m8,CL: `D2 /4` (41_logic_shift_bit.md R296). -/
def execSalRm8Cl (d : RM8) (s : State) : Host.Outcome State Fault Refusal :=
  runInstr (withCl fun c => shift .shl .w8 (rm8Op d) c) s

/-- SAL_SHL r/m8,imm8: `C0 /4 ib` (41_logic_shift_bit.md R296). -/
def execSalRm8Imm8 (d : RM8) (i : BitVec 8) (s : State) : Host.Outcome State Fault Refusal :=
  runInstr (shift .shl .w8 (rm8Op d) i) s

/-- SAL_SHL r/m16/32,1: `D1 /4` (41_logic_shift_bit.md R296). -/
def execSalRmOne (d : RM) (s : State) : Host.Outcome State Fault Refusal :=
  runInstr (atSize fun w => shift .shl w (rmOp d) 1) s

/-- SAL_SHL r/m16/32,CL: `D3 /4` (41_logic_shift_bit.md R296). -/
def execSalRmCl (d : RM) (s : State) : Host.Outcome State Fault Refusal :=
  runInstr (atSize fun w => withCl fun c => shift .shl w (rmOp d) c) s

/-- SAL_SHL r/m16/32,imm8: `C1 /4 ib` (41_logic_shift_bit.md R296). -/
def execSalRmImm8 (d : RM) (i : BitVec 8) (s : State) : Host.Outcome State Fault Refusal :=
  runInstr (atSize fun w => shift .shl w (rmOp d) i) s

/-- SHR r/m8,1: `D0 /5` (41_logic_shift_bit.md R297). -/
def execShrRm8One (d : RM8) (s : State) : Host.Outcome State Fault Refusal :=
  runInstr (shift .shr .w8 (rm8Op d) 1) s

/-- SHR r/m8,CL: `D2 /5` (41_logic_shift_bit.md R297). -/
def execShrRm8Cl (d : RM8) (s : State) : Host.Outcome State Fault Refusal :=
  runInstr (withCl fun c => shift .shr .w8 (rm8Op d) c) s

/-- SHR r/m8,imm8: `C0 /5 ib` (41_logic_shift_bit.md R297). -/
def execShrRm8Imm8 (d : RM8) (i : BitVec 8) (s : State) : Host.Outcome State Fault Refusal :=
  runInstr (shift .shr .w8 (rm8Op d) i) s

/-- SHR r/m16/32,1: `D1 /5` (41_logic_shift_bit.md R297). -/
def execShrRmOne (d : RM) (s : State) : Host.Outcome State Fault Refusal :=
  runInstr (atSize fun w => shift .shr w (rmOp d) 1) s

/-- SHR r/m16/32,CL: `D3 /5` (41_logic_shift_bit.md R297). -/
def execShrRmCl (d : RM) (s : State) : Host.Outcome State Fault Refusal :=
  runInstr (atSize fun w => withCl fun c => shift .shr w (rmOp d) c) s

/-- SHR r/m16/32,imm8: `C1 /5 ib` (41_logic_shift_bit.md R297). -/
def execShrRmImm8 (d : RM) (i : BitVec 8) (s : State) : Host.Outcome State Fault Refusal :=
  runInstr (atSize fun w => shift .shr w (rmOp d) i) s

/-- SAR r/m8,1: `D0 /7` (41_logic_shift_bit.md R298). -/
def execSarRm8One (d : RM8) (s : State) : Host.Outcome State Fault Refusal :=
  runInstr (shift .sar .w8 (rm8Op d) 1) s

/-- SAR r/m8,CL: `D2 /7` (41_logic_shift_bit.md R298). -/
def execSarRm8Cl (d : RM8) (s : State) : Host.Outcome State Fault Refusal :=
  runInstr (withCl fun c => shift .sar .w8 (rm8Op d) c) s

/-- SAR r/m8,imm8: `C0 /7 ib` (41_logic_shift_bit.md R298). -/
def execSarRm8Imm8 (d : RM8) (i : BitVec 8) (s : State) : Host.Outcome State Fault Refusal :=
  runInstr (shift .sar .w8 (rm8Op d) i) s

/-- SAR r/m16/32,1: `D1 /7` (41_logic_shift_bit.md R298). -/
def execSarRmOne (d : RM) (s : State) : Host.Outcome State Fault Refusal :=
  runInstr (atSize fun w => shift .sar w (rmOp d) 1) s

/-- SAR r/m16/32,CL: `D3 /7` (41_logic_shift_bit.md R298). -/
def execSarRmCl (d : RM) (s : State) : Host.Outcome State Fault Refusal :=
  runInstr (atSize fun w => withCl fun c => shift .sar w (rmOp d) c) s

/-- SAR r/m16/32,imm8: `C1 /7 ib` (41_logic_shift_bit.md R298). -/
def execSarRmImm8 (d : RM) (i : BitVec 8) (s : State) : Host.Outcome State Fault Refusal :=
  runInstr (atSize fun w => shift .sar w (rmOp d) i) s

/-- SHLD r/m16/32,r16/32,imm8: `0F A4 /r ib` (41_logic_shift_bit.md R304). -/
def execShldRmRImm8 (d : RM) (r : Reg) (i : BitVec 8) (s : State) : Host.Outcome State Fault Refusal :=
  runInstr (atSize fun w => doubleShift true w (rmOp d) r i) s

/-- SHLD r/m16/32,r16/32,CL: `0F A5 /r` (41_logic_shift_bit.md R304). -/
def execShldRmRCl (d : RM) (r : Reg) (s : State) : Host.Outcome State Fault Refusal :=
  runInstr (atSize fun w => withCl fun c => doubleShift true w (rmOp d) r c) s

/-- SHRD r/m16/32,r16/32,imm8: `0F AC /r ib` (41_logic_shift_bit.md R305). -/
def execShrdRmRImm8 (d : RM) (r : Reg) (i : BitVec 8) (s : State) : Host.Outcome State Fault Refusal :=
  runInstr (atSize fun w => doubleShift false w (rmOp d) r i) s

/-- SHRD r/m16/32,r16/32,CL: `0F AD /r` (41_logic_shift_bit.md R305). -/
def execShrdRmRCl (d : RM) (r : Reg) (s : State) : Host.Outcome State Fault Refusal :=
  runInstr (atSize fun w => withCl fun c => doubleShift false w (rmOp d) r c) s

/-- BT r/m16/32,r16/32: `0F A3 /r` (41_logic_shift_bit.md R307). -/
def execBtRmR (d : RM) (r : Reg) (s : State) : Host.Outcome State Fault Refusal :=
  runInstr (atSize fun w => bitByReg .test w d r) s

/-- BT r/m16/32,imm8: `0F BA /4 ib` (41_logic_shift_bit.md R307). -/
def execBtRmImm8 (d : RM) (i : BitVec 8) (s : State) : Host.Outcome State Fault Refusal :=
  runInstr (atSize fun w => bitByImm .test w d i) s

/-- BTS r/m16/32,r16/32: `0F AB /r` (41_logic_shift_bit.md R308). -/
def execBtsRmR (d : RM) (r : Reg) (s : State) : Host.Outcome State Fault Refusal :=
  runInstr (atSize fun w => bitByReg .set w d r) s

/-- BTS r/m16/32,imm8: `0F BA /5 ib` (41_logic_shift_bit.md R308). -/
def execBtsRmImm8 (d : RM) (i : BitVec 8) (s : State) : Host.Outcome State Fault Refusal :=
  runInstr (atSize fun w => bitByImm .set w d i) s

/-- BTR r/m16/32,r16/32: `0F B3 /r` (41_logic_shift_bit.md R309). -/
def execBtrRmR (d : RM) (r : Reg) (s : State) : Host.Outcome State Fault Refusal :=
  runInstr (atSize fun w => bitByReg .reset w d r) s

/-- BTR r/m16/32,imm8: `0F BA /6 ib` (41_logic_shift_bit.md R309). -/
def execBtrRmImm8 (d : RM) (i : BitVec 8) (s : State) : Host.Outcome State Fault Refusal :=
  runInstr (atSize fun w => bitByImm .reset w d i) s

/-- BTC r/m16/32,r16/32: `0F BB /r` (41_logic_shift_bit.md R310). -/
def execBtcRmR (d : RM) (r : Reg) (s : State) : Host.Outcome State Fault Refusal :=
  runInstr (atSize fun w => bitByReg .complement w d r) s

/-- BTC r/m16/32,imm8: `0F BA /7 ib` (41_logic_shift_bit.md R310). -/
def execBtcRmImm8 (d : RM) (i : BitVec 8) (s : State) : Host.Outcome State Fault Refusal :=
  runInstr (atSize fun w => bitByImm .complement w d i) s

/-- BSF r16/32,r/m16/32: `0F BC /r` (41_logic_shift_bit.md R311). -/
def execBsfRRm (r : Reg) (m : RM) (s : State) : Host.Outcome State Fault Refusal :=
  runInstr (atSize fun w => scan true w r (rmOp m)) s

/-- BSR r16/32,r/m16/32: `0F BD /r` (41_logic_shift_bit.md R312). -/
def execBsrRRm (r : Reg) (m : RM) (s : State) : Host.Outcome State Fault Refusal :=
  runInstr (atSize fun w => scan false w r (rmOp m)) s

/-- SETO r/m8: `0F 90 /r` (41_logic_shift_bit.md R313). -/
def execSetoRm8 (d : RM8) (s : State) : Host.Outcome State Fault Refusal :=
  runInstr (setcc .o (rm8Op d)) s

/-- SETNO r/m8: `0F 91 /r` (41_logic_shift_bit.md R313). -/
def execSetnoRm8 (d : RM8) (s : State) : Host.Outcome State Fault Refusal :=
  runInstr (setcc .no (rm8Op d)) s

/-- SETB_SETC_SETNAE r/m8: `0F 92 /r` (41_logic_shift_bit.md R313). -/
def execSetbRm8 (d : RM8) (s : State) : Host.Outcome State Fault Refusal :=
  runInstr (setcc .b (rm8Op d)) s

/-- SETAE_SETNB_SETNC r/m8: `0F 93 /r` (41_logic_shift_bit.md R313). -/
def execSetaeRm8 (d : RM8) (s : State) : Host.Outcome State Fault Refusal :=
  runInstr (setcc .ae (rm8Op d)) s

/-- SETE_SETZ r/m8: `0F 94 /r` (41_logic_shift_bit.md R313). -/
def execSeteRm8 (d : RM8) (s : State) : Host.Outcome State Fault Refusal :=
  runInstr (setcc .e (rm8Op d)) s

/-- SETNE_SETNZ r/m8: `0F 95 /r` (41_logic_shift_bit.md R313). -/
def execSetneRm8 (d : RM8) (s : State) : Host.Outcome State Fault Refusal :=
  runInstr (setcc .ne (rm8Op d)) s

/-- SETBE_SETNA r/m8: `0F 96 /r` (41_logic_shift_bit.md R313). -/
def execSetbeRm8 (d : RM8) (s : State) : Host.Outcome State Fault Refusal :=
  runInstr (setcc .be (rm8Op d)) s

/-- SETA_SETNBE r/m8: `0F 97 /r` (41_logic_shift_bit.md R313). -/
def execSetaRm8 (d : RM8) (s : State) : Host.Outcome State Fault Refusal :=
  runInstr (setcc .a (rm8Op d)) s

/-- SETS r/m8: `0F 98 /r` (41_logic_shift_bit.md R313). -/
def execSetsRm8 (d : RM8) (s : State) : Host.Outcome State Fault Refusal :=
  runInstr (setcc .s (rm8Op d)) s

/-- SETNS r/m8: `0F 99 /r` (41_logic_shift_bit.md R313). -/
def execSetnsRm8 (d : RM8) (s : State) : Host.Outcome State Fault Refusal :=
  runInstr (setcc .ns (rm8Op d)) s

/-- SETP_SETPE r/m8: `0F 9A /r` (41_logic_shift_bit.md R313). -/
def execSetpRm8 (d : RM8) (s : State) : Host.Outcome State Fault Refusal :=
  runInstr (setcc .p (rm8Op d)) s

/-- SETNP_SETPO r/m8: `0F 9B /r` (41_logic_shift_bit.md R313). -/
def execSetnpRm8 (d : RM8) (s : State) : Host.Outcome State Fault Refusal :=
  runInstr (setcc .np (rm8Op d)) s

/-- SETL_SETNGE r/m8: `0F 9C /r` (41_logic_shift_bit.md R313). -/
def execSetlRm8 (d : RM8) (s : State) : Host.Outcome State Fault Refusal :=
  runInstr (setcc .l (rm8Op d)) s

/-- SETGE_SETNL r/m8: `0F 9D /r` (41_logic_shift_bit.md R313). -/
def execSetgeRm8 (d : RM8) (s : State) : Host.Outcome State Fault Refusal :=
  runInstr (setcc .ge (rm8Op d)) s

/-- SETLE_SETNG r/m8: `0F 9E /r` (41_logic_shift_bit.md R313). -/
def execSetleRm8 (d : RM8) (s : State) : Host.Outcome State Fault Refusal :=
  runInstr (setcc .le (rm8Op d)) s

/-- SETG_SETNLE r/m8: `0F 9F /r` (41_logic_shift_bit.md R313). -/
def execSetgRm8 (d : RM8) (s : State) : Host.Outcome State Fault Refusal :=
  runInstr (setcc .g (rm8Op d)) s

end Sys2Proof.Machine
end

