-- ==== Sys2Proof/Machine/StringIo.lean ====
section
/-!
DEFINITION. String instructions, the repeat prefixes and the I/O instructions (43_string_io.md R420 to R434, 20_memory.md
R150 to R152).
-/

namespace Sys2Proof.Machine

/-! ### Ports -/

/-- The ports of an access of `n` bytes (20_memory.md R150): one past port FFFFH wraps to port 0 (D37). -/
def portsFrom (port : Half) : (n : Nat) → List Half
  | 0 => []
  | n + 1 => port :: portsFrom (port + 1) n

/-- IORead (20_memory.md R150): one access, whose value the platform gives (log 10). -/
def ioRead (port : Half) (n : Nat) : M Nat := fun s =>
  .ok ((Config.portRead s.draws (portsFrom port n)).toNat % 256 ^ n)
    { s with draws := s.draws + 1, io := .read (portsFrom port n) :: s.io }

/-- IOWrite (20_memory.md R150). -/
def ioWrite (port : Half) (n : Nat) (v : Word) : M Unit := upd fun s =>
  { s with io := .write (portsFrom port n) v :: s.io }

/-- The I/O permission bits of the current TSS allow the access (20_memory.md R152, R150: no port above FFFFH). DESIGN
CHOICE (log 10): an access running past FFFFH is refused before the two bytes of the map are read. -/
def checkIoMap (port : Half) (n : Nat) : M Unit := do
  let s ← getS
  check (s.tr.type.getLsbD 3 && decide (0x67 ≤ s.tr.limit.toNat)) (raiseGP 0)
  let map ← linRead (s.tr.base + 0x66) 2
  let at_ := map + port.toNat / 8
  check (decide (at_ + 1 ≤ s.tr.limit.toNat) && decide (port.toNat + n ≤ 65536)) (raiseGP 0)
  let bits ← linRead (s.tr.base + BitVec.ofNat 32 at_) 2
  check (decide (bits / 2 ^ (port.toNat % 8) % 2 ^ n = 0)) (raiseGP 0)

/-- IOAllowed (R426). -/
def ioAllowed (port : Half) (n : Nat) : M Unit := do
  let s ← getS
  onlyIf (s.cr0.pe && (decide (s.flags.iopl < s.cpl) || s.flags.vm)) (checkIoMap port n)

/-- IN (R427). -/
def portIn (w : Width) (port : Half) : M Unit := do
  ioAllowed port w.bytes
  let v ← ioRead port w.bytes
  writeOp w (accOp w) (BitVec.ofNat w.bits v)

/-- OUT (R428). -/
def portOut (w : Width) (port : Half) : M Unit := do
  ioAllowed port w.bytes
  let v ← readOp w (accOp w)
  ioWrite port w.bytes (v.setWidth 32)

/-- The port number in DX. -/
def withDx (f : Half → M Unit) : M Unit := fun s => f (s.regs.get16 .edx) s

/-! ### String elements -/

/-- The distance to the next element (R420): modulo the address size. -/
def State.delta (s : State) (w : Width) : Word :=
  if s.flags.df then 0 - BitVec.ofNat 32 w.bytes else BitVec.ofNat 32 w.bytes

/-- Move an index register to the next element (R420). -/
def advance (w : Width) (r : Reg) : M Unit := do
  let s ← getS
  setRegV s.adSize r (s.regs.getV s.adSize r + s.delta w)

/-- Read the source element (R420). -/
def readSource (w : Width) : M (BitVec w.bits) := do
  let s ← getS
  let v ← memRead s.dsSeg (s.regs.getV s.adSize .esi) w.bytes
  pure (BitVec.ofNat w.bits v)

/-- Read the destination element, in ES (R420). -/
def readDest (w : Width) : M (BitVec w.bits) := do
  let s ← getS
  let v ← memRead .es (s.regs.getV s.adSize .edi) w.bytes
  pure (BitVec.ofNat w.bits v)

/-- Write the destination element, in ES (R420). -/
def writeDest (w : Width) (v : BitVec w.bits) : M Unit := do
  let s ← getS
  memWrite .es (s.regs.getV s.adSize .edi) w.bytes v.toNat

/-- MOVS, one element (R421). -/
def movs (w : Width) : M Unit := do
  let v ← readSource w
  writeDest w v
  advance w .esi
  advance w .edi

/-- CMPS, one element (R422). -/
def cmps (w : Width) : M Unit := do
  let a ← readSource w
  let b ← readDest w
  updFlags fun f => f.afterSub a b false (a - b)
  advance w .esi
  advance w .edi

/-- SCAS, one element (R423). -/
def scas (w : Width) : M Unit := do
  let a ← readOp w (accOp w)
  let b ← readDest w
  updFlags fun f => f.afterSub a b false (a - b)
  advance w .edi

/-- LODS, one element (R424). -/
def lods (w : Width) : M Unit := do
  let v ← readSource w
  writeOp w (accOp w) v
  advance w .esi

/-- STOS, one element (R425). -/
def stos (w : Width) : M Unit := do
  let v ← readOp w (accOp w)
  writeDest w v
  advance w .edi

/-- INS, one element (R429): the destination is checked before the port is read (D11). -/
def insElement (w : Width) : M Unit := withDx fun port => do
  ioAllowed port w.bytes
  let s ← getS
  let as ← access .es (s.regs.getV s.adSize .edi) w.bytes true
  let v ← ioRead port w.bytes
  storeAt as v
  advance w .edi

/-- OUTS, one element (R430). -/
def outsElement (w : Width) : M Unit := withDx fun port => do
  ioAllowed port w.bytes
  let v ← readSource w
  ioWrite port w.bytes (v.setWidth 32)
  advance w .esi

/-! ### Repetition (R431 to R433) -/

/-- Whether the loop ends after an element that left CountReg = `count`: CMPS and SCAS (`cmp`) test ZF too. -/
def repEnds (cmp : Bool) (p : Rep) (count : Word) (zf : Bool) : Bool :=
  decide (count = 0) || (cmp && (zf == decide (p = .repne)))

/-- A string instruction under its repeat prefix: one iteration is one step; with iterations left EIP stays at the
instruction (R431). -/
def repeated (cmp : Bool) (element : M Unit) : M Unit := do
  let s ← getS
  match s.ins.rep with
  | none => element
  | some p =>
      let a := s.adSize
      if s.regs.getV a .ecx = 0 then skip
      else do
        element
        let t ← getS
        let count := sizeTrunc a (t.regs.getV a .ecx - 1)
        setRegV a .ecx count
        onlyIf (!repEnds cmp p count t.flags.zf) (upd fun u => { u with eip := u.ins.curEip, inRep := true })

/-! ### The instructions -/

/-- MOVSB: `A4` (43_string_io.md R421). -/
def execMovsb (s : State) : Host.Outcome State Fault Refusal :=
  runInstr (repeated false (movs .w8)) s

/-- MOVSW_MOVSD: `A5` (43_string_io.md R421). -/
def execMovswMovsd (s : State) : Host.Outcome State Fault Refusal :=
  runInstr (repeated false (atSize fun w => movs w)) s

/-- CMPSB: `A6` (43_string_io.md R422). -/
def execCmpsb (s : State) : Host.Outcome State Fault Refusal :=
  runInstr (repeated true (cmps .w8)) s

/-- CMPSW_CMPSD: `A7` (43_string_io.md R422). -/
def execCmpswCmpsd (s : State) : Host.Outcome State Fault Refusal :=
  runInstr (repeated true (atSize fun w => cmps w)) s

/-- STOSB: `AA` (43_string_io.md R425). -/
def execStosb (s : State) : Host.Outcome State Fault Refusal :=
  runInstr (repeated false (stos .w8)) s

/-- STOSW_STOSD: `AB` (43_string_io.md R425). -/
def execStoswStosd (s : State) : Host.Outcome State Fault Refusal :=
  runInstr (repeated false (atSize fun w => stos w)) s

/-- LODSB: `AC` (43_string_io.md R424). -/
def execLodsb (s : State) : Host.Outcome State Fault Refusal :=
  runInstr (repeated false (lods .w8)) s

/-- LODSW_LODSD: `AD` (43_string_io.md R424). -/
def execLodswLodsd (s : State) : Host.Outcome State Fault Refusal :=
  runInstr (repeated false (atSize fun w => lods w)) s

/-- SCASB: `AE` (43_string_io.md R423). -/
def execScasb (s : State) : Host.Outcome State Fault Refusal :=
  runInstr (repeated true (scas .w8)) s

/-- SCASW_SCASD: `AF` (43_string_io.md R423). -/
def execScaswScasd (s : State) : Host.Outcome State Fault Refusal :=
  runInstr (repeated true (atSize fun w => scas w)) s

/-- INSB: `6C` (43_string_io.md R429). -/
def execInsb (s : State) : Host.Outcome State Fault Refusal :=
  runInstr (repeated false (insElement .w8)) s

/-- INSW_INSD: `6D` (43_string_io.md R429). -/
def execInswInsd (s : State) : Host.Outcome State Fault Refusal :=
  runInstr (repeated false (atSize fun w => insElement w)) s

/-- OUTSB: `6E` (43_string_io.md R430). -/
def execOutsb (s : State) : Host.Outcome State Fault Refusal :=
  runInstr (repeated false (outsElement .w8)) s

/-- OUTSW_OUTSD: `6F` (43_string_io.md R430). -/
def execOutswOutsd (s : State) : Host.Outcome State Fault Refusal :=
  runInstr (repeated false (atSize fun w => outsElement w)) s

/-- IN AL,imm8: `E4 ib` (43_string_io.md R427). -/
def execInAlImm8 (i : BitVec 8) (s : State) : Host.Outcome State Fault Refusal :=
  runInstr (portIn .w8 (i.setWidth 16)) s

/-- IN eAX,imm8: `E5 ib` (43_string_io.md R427). -/
def execInEaxImm8 (i : BitVec 8) (s : State) : Host.Outcome State Fault Refusal :=
  runInstr (atSize fun w => portIn w (i.setWidth 16)) s

/-- IN AL,DX: `EC` (43_string_io.md R427). -/
def execInAlDx (s : State) : Host.Outcome State Fault Refusal :=
  runInstr (withDx fun p => portIn .w8 p) s

/-- IN eAX,DX: `ED` (43_string_io.md R427). -/
def execInEaxDx (s : State) : Host.Outcome State Fault Refusal :=
  runInstr (atSize fun w => withDx fun p => portIn w p) s

/-- OUT imm8,AL: `E6 ib` (43_string_io.md R428). -/
def execOutImm8Al (i : BitVec 8) (s : State) : Host.Outcome State Fault Refusal :=
  runInstr (portOut .w8 (i.setWidth 16)) s

/-- OUT imm8,eAX: `E7 ib` (43_string_io.md R428). -/
def execOutImm8Eax (i : BitVec 8) (s : State) : Host.Outcome State Fault Refusal :=
  runInstr (atSize fun w => portOut w (i.setWidth 16)) s

/-- OUT DX,AL: `EE` (43_string_io.md R428). -/
def execOutDxAl (s : State) : Host.Outcome State Fault Refusal :=
  runInstr (withDx fun p => portOut .w8 p) s

/-- OUT DX,eAX: `EF` (43_string_io.md R428). -/
def execOutDxEax (s : State) : Host.Outcome State Fault Refusal :=
  runInstr (atSize fun w => withDx fun p => portOut w p) s

end Sys2Proof.Machine
end

