-- ==== Sys2Proof/Machine/System.lean ====
section
/-!
DEFINITION. System instructions (45_system.md R540 to R577): descriptor table registers, machine status word, control and
debug registers, verification of selectors, the interrupt flag.
-/

namespace Sys2Proof.Machine

/-- Not recognized outside protected mode: #UD (R540). -/
def protectedOnly : M Unit := do
  let s ← getS
  check s.protectedMode raiseUD

/-- Allowed in real-address mode and at CPL 0 in protected mode, else #GP(0) (R540). -/
def privileged : M Unit := do
  let s ← getS
  check (!s.cr0.pe || (decide (s.cpl = 0) && !s.flags.vm)) (raiseGP 0)

/-! ### Descriptor table registers -/

/-- The operand of LGDT and LIDT (R541): a 16-bit operand size gives a base of 24 bits. -/
def readTableReg (o : Size) (m : MemOp) : M TableReg := do
  let v ← readMem m 6
  let base : Word := BitVec.ofNat 32 (v / 65536)
  pure { limit := BitVec.ofNat 16 v, base := if o = .s16 then base &&& 0x00FFFFFF else base }

/-- LGDT (R541). -/
def loadGdt (m : MemOp) : M Unit := atOpSize fun o => do
  privileged
  let t ← readTableReg o m
  upd fun s => { s with gdtr := t }

/-- LIDT (R542). -/
def loadIdt (m : MemOp) : M Unit := atOpSize fun o => do
  privileged
  let t ← readTableReg o m
  upd fun s => { s with idtr := t }

/-- SGDT and SIDT (R543, R544): limit and full base, for both operand sizes. -/
def storeTable (t : State → TableReg) (m : MemOp) : M Unit := do
  let s ← getS
  writeMem m 6 ((t s).limit.toNat + 65536 * (t s).base.toNat)

/-- LLDT (R545). -/
def loadLdt (src : RM) : M Unit := do
  protectedOnly
  privileged
  let sel ← readOp .w16 (rmOp src)
  if selNull sel then upd fun s => { s with ldtr := { s.ldtr with selector := sel, valid := false } }
  else do
    check (!selLocal sel) (raiseGP (selCode sel))
    let d ← readDesc sel (raiseGP (selCode sel))
    check (d.isSystem [2]) (raiseGP (selCode sel))
    check d.p (raiseNP (selCode sel))
    upd fun s => { s with ldtr := { selector := sel, valid := true, base := d.base, limit := d.limit, type := d.type } }

/-- SLDT (R546). -/
def storeLdt (d : RM) : M Unit := atOpSize fun o => do
  protectedOnly
  let s ← getS
  storeHalf o d s.ldtr.selector

/-- LTR (R547): the task is marked busy, no switch occurs. DEDUCED (log 42): TR holds the busy type, as the descriptor does
now. -/
def loadTask (src : RM) : M Unit := do
  protectedOnly
  privileged
  let sel ← readOp .w16 (rmOp src)
  check (!selNull sel) (raiseGP 0)
  check (!selLocal sel) (raiseGP (selCode sel))
  let d ← readDesc sel (raiseGP (selCode sel))
  check (d.isSystem [1, 9]) (raiseGP (selCode sel))
  check d.p (raiseNP (selCode sel))
  setBusy sel d
  upd fun s => { s with tr := { selector := sel, valid := true, base := d.base, limit := d.limit, type := d.type ||| 2 } }

/-- STR (R548): a 32-bit register gets zeros above. -/
def storeTask (d : RM) : M Unit := atOpSize fun o => do
  protectedOnly
  let s ← getS
  match d with
  | .mem m => writeMem m 2 s.tr.selector.toNat
  | .reg r => setRegV o r (s.tr.selector.setWidth 32)

/-! ### Control registers -/

/-- Write CR0; a change of PE or PG empties the TLB (R557, D19). -/
def setCr0 (c : Cr0) : M Unit := upd fun s =>
  { s with cr0 := c, tlb := if c.pe = s.cr0.pe ∧ c.pg = s.cr0.pg then s.tlb else [] }

/-- LMSW (R549). -/
def loadMsw (src : RM) : M Unit := do
  privileged
  let v ← readOp .w16 (rmOp src)
  let s ← getS
  setCr0 { s.cr0 with mp := v.getLsbD 1, em := v.getLsbD 2, ts := v.getLsbD 3, pe := s.cr0.pe || v.getLsbD 0 }

/-- SMSW (R550). -/
def storeMsw (d : RM) : M Unit := atOpSize fun o => do
  let s ← getS
  storeHalf o d (s.cr0.toWord.setWidth 16)

/-- CLTS (R551). -/
def clearTs : M Unit := do
  privileged
  upd fun s => { s with cr0 := { s.cr0 with ts := false } }

/-- MOV from a control register (R556). -/
def moveFromCr (r : Reg) (c : CReg) : M Unit := do
  privileged
  let s ← getS
  setReg r (match c with
    | .cr0 => s.cr0.toWord
    | .cr2 => s.cr2
    | .cr3 => s.cr3)
  drawAllFlags

/-- The value MOV gives CR0 (R557, 10_state.md R64): ET and the reserved bits are not written. -/
def Cr0.written (c : Cr0) (v : Word) : Cr0 :=
  { c with pe := v.getLsbD 0, mp := v.getLsbD 1, em := v.getLsbD 2, ts := v.getLsbD 3, pg := v.getLsbD 31 }

/-- MOV to a control register (R557). -/
def moveToCr (c : CReg) (r : Reg) : M Unit := do
  privileged
  let v ← reg r
  match c with
  | .cr0 => do
      check (!v.getLsbD 31 || v.getLsbD 0) (raiseGP 0)
      let s ← getS
      setCr0 (s.cr0.written v)
  | .cr2 => upd fun s => { s with cr2 := v }
  | .cr3 => upd fun s => { s with cr3 := v &&& 0xFFFFF000, tlb := [] }
  drawAllFlags

/-! ### Debug registers -/

/-- General detect (60_exceptions.md R761 (e)). -/
def Exn.generalDetect : Exn := { Exn.plain 1 none with dr6 := 0x2000, clearGd := true }

/-- The checks of a MOV to or from a debug register (R558). -/
def debugAccess : M Unit := do
  privileged
  let s ← getS
  check (!s.dbg.dr7.getLsbD 13) (raise .generalDetect)

/-- MOV from a debug register (R558): the reserved bits of DR6 are free (10_state.md R67; log 31). -/
def moveFromDr (r : Reg) (n : BitVec 3) : M Unit := do
  debugAccess
  let s ← getS
  if n = 4 ∨ n = 6 then do
    let u ← drawWord
    setReg r (if s.cfg.hasDebugRegs then s.dbg.dr6 ||| (u &&& ~~~dr6Mask) else s.dbg.dr6)
  else if n = 5 ∨ n = 7 then setReg r s.dbg.dr7
  else setReg r (s.dbg.addr n.toNat)
  drawAllFlags

/-- Write debug register `n` (R559). -/
def DebugRegs.set (d : DebugRegs) (functioning : Bool) (n : BitVec 3) (v : Word) : DebugRegs :=
  match n.toNat with
  | 0 => { d with dr0 := v }
  | 1 => { d with dr1 := v }
  | 2 => { d with dr2 := v }
  | 3 => { d with dr3 := v }
  | 4 => { d with dr6 := if functioning then v &&& dr6Mask else v }
  | 6 => { d with dr6 := if functioning then v &&& dr6Mask else v }
  | _ => { d with dr7 := v }

/-- MOV to a debug register (R559). -/
def moveToDr (n : BitVec 3) (r : Reg) : M Unit := do
  debugAccess
  let v ← reg r
  upd fun s => { s with dbg := s.dbg.set s.cfg.hasDebugRegs n v }
  drawAllFlags

/-! ### Verification of selectors -/

/-- The descriptor of a selector as LAR, LSL, VERR and VERW see it (R565): none for a NULL selector, one outside its
table, or one the privilege level may not see. Nothing faults but the table read itself. -/
def visibleDesc (sel : Half) : M (Option Desc) := do
  let s ← getS
  match if selNull sel then none else s.descAddr sel with
  | none => pure none
  | some a => do
      let v ← linRead a 8
      let d : Desc := BitVec.ofNat 64 v
      pure (if d.conforming || (decide (s.cpl ≤ d.dpl) && decide (selRpl sel ≤ d.dpl)) then some d else none)

/-- ZF alone. -/
def setZf (z : Bool) : M Unit := updFlags fun f => { f with zf := z }

/-- LAR and LSL: a valid descriptor gives the register a value and sets ZF, any other clears ZF (R565, R566). -/
def describe (w : Width) (r : Reg) (src : RM) (types : List (BitVec 4)) (value : Desc → Word) : M Unit := do
  protectedOnly
  let sel ← readOp .w16 (rmOp src)
  let d ← visibleDesc sel
  match d.filter fun d => d.s || d.isSystem types with
  | none => setZf false
  | some d => do
      writeReg w r ((value d).setWidth w.bits)
      setZf true

/-- The access rights LAR gives (R565). -/
def accessRights (d : Desc) : Word := d.extractLsb' 32 32 &&& 0x00F0FF00

/-- The system descriptor types LAR accepts (R565). -/
def larTypes : List (BitVec 4) := [1, 2, 3, 4, 5, 9, 11, 12]

/-- The system descriptor types LSL accepts (R566). -/
def lslTypes : List (BitVec 4) := [1, 2, 3, 9, 11]

/-- VERR and VERW (R567, R568). -/
def verify (ok : Desc → Bool) (src : RM) : M Unit := do
  protectedOnly
  let sel ← readOp .w16 (rmOp src)
  let d ← visibleDesc sel
  setZf (d.any ok)

/-- ARPL (R572): a memory destination is checked for writing even when it is not written; a data breakpoint on writes sees
the check (DESIGN CHOICE, log 27). -/
def adjustRpl (d : RM) (r : Reg) : M Unit := do
  protectedOnly
  let s ← getS
  let rpl := selRpl (s.regs.get16 r)
  modify .w16 (rmOp d) fun (a : Half) => do
    setZf (decide (selRpl a < rpl))
    pure (if selRpl a < rpl then some (withRpl a rpl) else none)

/-! ### The interrupt flag -/

/-- The IOPL test of CLI and STI (R576). -/
def ioplOk : M Unit := do
  let s ← getS
  check (!s.cr0.pe || decide (s.cpl ≤ s.flags.iopl)) (raiseGP 0)

/-- CLI (R576). -/
def clearIf : M Unit := do
  ioplOk
  updFlags fun f => { f with ifl := false }

/-- STI (R577): with IF = 0 before, interrupts wait one boundary. -/
def setIf : M Unit := do
  ioplOk
  upd fun s => { s with flags := { s.flags with ifl := true }, shadow := if s.flags.ifl then s.shadow else .sti }

/-! ### The instructions -/

/-- SLDT r/m16: `0F 00 /0` (45_system.md R546). -/
def execSldtRm16 (d : RM) (s : State) : Host.Outcome State Fault Refusal :=
  runInstr (storeLdt d) s

/-- STR r/m16: `0F 00 /1` (45_system.md R548). -/
def execStrRm16 (d : RM) (s : State) : Host.Outcome State Fault Refusal :=
  runInstr (storeTask d) s

/-- LLDT r/m16: `0F 00 /2` (45_system.md R545). -/
def execLldtRm16 (d : RM) (s : State) : Host.Outcome State Fault Refusal :=
  runInstr (loadLdt d) s

/-- LTR r/m16: `0F 00 /3` (45_system.md R547). -/
def execLtrRm16 (d : RM) (s : State) : Host.Outcome State Fault Refusal :=
  runInstr (loadTask d) s

/-- VERR r/m16: `0F 00 /4` (45_system.md R567). -/
def execVerrRm16 (d : RM) (s : State) : Host.Outcome State Fault Refusal :=
  runInstr (verify (fun d => d.readable) d) s

/-- VERW r/m16: `0F 00 /5` (45_system.md R568). -/
def execVerwRm16 (d : RM) (s : State) : Host.Outcome State Fault Refusal :=
  runInstr (verify (fun d => d.writableData) d) s

/-- SGDT m: `0F 01 /0` (45_system.md R543). -/
def execSgdtM (m : MemOp) (s : State) : Host.Outcome State Fault Refusal :=
  runInstr (storeTable (fun s => s.gdtr) m) s

/-- SIDT m: `0F 01 /1` (45_system.md R544). -/
def execSidtM (m : MemOp) (s : State) : Host.Outcome State Fault Refusal :=
  runInstr (storeTable (fun s => s.idtr) m) s

/-- LGDT m16&32: `0F 01 /2` (45_system.md R541). -/
def execLgdtM (m : MemOp) (s : State) : Host.Outcome State Fault Refusal :=
  runInstr (loadGdt m) s

/-- LIDT m16&32: `0F 01 /3` (45_system.md R542). -/
def execLidtM (m : MemOp) (s : State) : Host.Outcome State Fault Refusal :=
  runInstr (loadIdt m) s

/-- SMSW r/m16: `0F 01 /4` (45_system.md R550). -/
def execSmswRm16 (d : RM) (s : State) : Host.Outcome State Fault Refusal :=
  runInstr (storeMsw d) s

/-- LMSW r/m16: `0F 01 /6` (45_system.md R549). -/
def execLmswRm16 (d : RM) (s : State) : Host.Outcome State Fault Refusal :=
  runInstr (loadMsw d) s

/-- LAR r16/32,r/m16: `0F 02 /r` (45_system.md R565). -/
def execLarRRm16 (r : Reg) (m : RM) (s : State) : Host.Outcome State Fault Refusal :=
  runInstr (atSize fun w => describe w r m larTypes accessRights) s

/-- LSL r16/32,r/m16: `0F 03 /r` (45_system.md R566). -/
def execLslRRm16 (r : Reg) (m : RM) (s : State) : Host.Outcome State Fault Refusal :=
  runInstr (atSize fun w => describe w r m lslTypes Desc.limit) s

/-- CLTS: `0F 06` (45_system.md R551). -/
def execClts (s : State) : Host.Outcome State Fault Refusal :=
  runInstr (clearTs) s

/-- MOV r32,CRn: `0F 20 /r` (45_system.md R556). -/
def execMovRCr (r : Reg) (c : CReg) (s : State) : Host.Outcome State Fault Refusal :=
  runInstr (moveFromCr r c) s

/-- MOV CRn,r32: `0F 22 /r` (45_system.md R557). -/
def execMovCrR (c : CReg) (r : Reg) (s : State) : Host.Outcome State Fault Refusal :=
  runInstr (moveToCr c r) s

/-- MOV r32,DRn: `0F 21 /r` (45_system.md R558). -/
def execMovRDr (r : Reg) (n : BitVec 3) (s : State) : Host.Outcome State Fault Refusal :=
  runInstr (moveFromDr r n) s

/-- MOV DRn,r32: `0F 23 /r` (45_system.md R559). -/
def execMovDrR (n : BitVec 3) (r : Reg) (s : State) : Host.Outcome State Fault Refusal :=
  runInstr (moveToDr n r) s

/-- ARPL r/m16,r16: `63 /r` (45_system.md R572). -/
def execArplRm16R16 (d : RM) (r : Reg) (s : State) : Host.Outcome State Fault Refusal :=
  runInstr (adjustRpl d r) s

/-- CLI: `FA` (45_system.md R576). -/
def execCli (s : State) : Host.Outcome State Fault Refusal :=
  runInstr (clearIf) s

/-- STI: `FB` (45_system.md R577). -/
def execSti (s : State) : Host.Outcome State Fault Refusal :=
  runInstr (setIf) s

end Sys2Proof.Machine
end

