-- ==== Sys2Proof/Machine/Dispatch.lean ====
section
/-!
DEFINITION. The dispatch: one arm per constructor of `Instr`, each one call of that instruction's meaning.
-/

namespace Sys2Proof.Machine

def exec (i : Instr) (s : State) : Host.Outcome State Fault Refusal :=
  match i with
  | .addRm8R8 d r => Sys2Proof.Machine.execAddRm8R8 d r s
  | .addRmR d r => Sys2Proof.Machine.execAddRmR d r s
  | .addR8Rm8 r m => Sys2Proof.Machine.execAddR8Rm8 r m s
  | .addRRm r m => Sys2Proof.Machine.execAddRRm r m s
  | .addAlImm8 imm => Sys2Proof.Machine.execAddAlImm8 imm s
  | .addEaxImm imm => Sys2Proof.Machine.execAddEaxImm imm s
  | .addRm8Imm8 d imm => Sys2Proof.Machine.execAddRm8Imm8 d imm s
  | .addRmImm d imm => Sys2Proof.Machine.execAddRmImm d imm s
  | .addRmImm8 d imm => Sys2Proof.Machine.execAddRmImm8 d imm s
  | .orRm8R8 d r => Sys2Proof.Machine.execOrRm8R8 d r s
  | .orRmR d r => Sys2Proof.Machine.execOrRmR d r s
  | .orR8Rm8 r m => Sys2Proof.Machine.execOrR8Rm8 r m s
  | .orRRm r m => Sys2Proof.Machine.execOrRRm r m s
  | .orAlImm8 imm => Sys2Proof.Machine.execOrAlImm8 imm s
  | .orEaxImm imm => Sys2Proof.Machine.execOrEaxImm imm s
  | .orRm8Imm8 d imm => Sys2Proof.Machine.execOrRm8Imm8 d imm s
  | .orRmImm d imm => Sys2Proof.Machine.execOrRmImm d imm s
  | .orRmImm8 d imm => Sys2Proof.Machine.execOrRmImm8 d imm s
  | .adcRm8R8 d r => Sys2Proof.Machine.execAdcRm8R8 d r s
  | .adcRmR d r => Sys2Proof.Machine.execAdcRmR d r s
  | .adcR8Rm8 r m => Sys2Proof.Machine.execAdcR8Rm8 r m s
  | .adcRRm r m => Sys2Proof.Machine.execAdcRRm r m s
  | .adcAlImm8 imm => Sys2Proof.Machine.execAdcAlImm8 imm s
  | .adcEaxImm imm => Sys2Proof.Machine.execAdcEaxImm imm s
  | .adcRm8Imm8 d imm => Sys2Proof.Machine.execAdcRm8Imm8 d imm s
  | .adcRmImm d imm => Sys2Proof.Machine.execAdcRmImm d imm s
  | .adcRmImm8 d imm => Sys2Proof.Machine.execAdcRmImm8 d imm s
  | .sbbRm8R8 d r => Sys2Proof.Machine.execSbbRm8R8 d r s
  | .sbbRmR d r => Sys2Proof.Machine.execSbbRmR d r s
  | .sbbR8Rm8 r m => Sys2Proof.Machine.execSbbR8Rm8 r m s
  | .sbbRRm r m => Sys2Proof.Machine.execSbbRRm r m s
  | .sbbAlImm8 imm => Sys2Proof.Machine.execSbbAlImm8 imm s
  | .sbbEaxImm imm => Sys2Proof.Machine.execSbbEaxImm imm s
  | .sbbRm8Imm8 d imm => Sys2Proof.Machine.execSbbRm8Imm8 d imm s
  | .sbbRmImm d imm => Sys2Proof.Machine.execSbbRmImm d imm s
  | .sbbRmImm8 d imm => Sys2Proof.Machine.execSbbRmImm8 d imm s
  | .andRm8R8 d r => Sys2Proof.Machine.execAndRm8R8 d r s
  | .andRmR d r => Sys2Proof.Machine.execAndRmR d r s
  | .andR8Rm8 r m => Sys2Proof.Machine.execAndR8Rm8 r m s
  | .andRRm r m => Sys2Proof.Machine.execAndRRm r m s
  | .andAlImm8 imm => Sys2Proof.Machine.execAndAlImm8 imm s
  | .andEaxImm imm => Sys2Proof.Machine.execAndEaxImm imm s
  | .andRm8Imm8 d imm => Sys2Proof.Machine.execAndRm8Imm8 d imm s
  | .andRmImm d imm => Sys2Proof.Machine.execAndRmImm d imm s
  | .andRmImm8 d imm => Sys2Proof.Machine.execAndRmImm8 d imm s
  | .subRm8R8 d r => Sys2Proof.Machine.execSubRm8R8 d r s
  | .subRmR d r => Sys2Proof.Machine.execSubRmR d r s
  | .subR8Rm8 r m => Sys2Proof.Machine.execSubR8Rm8 r m s
  | .subRRm r m => Sys2Proof.Machine.execSubRRm r m s
  | .subAlImm8 imm => Sys2Proof.Machine.execSubAlImm8 imm s
  | .subEaxImm imm => Sys2Proof.Machine.execSubEaxImm imm s
  | .subRm8Imm8 d imm => Sys2Proof.Machine.execSubRm8Imm8 d imm s
  | .subRmImm d imm => Sys2Proof.Machine.execSubRmImm d imm s
  | .subRmImm8 d imm => Sys2Proof.Machine.execSubRmImm8 d imm s
  | .xorRm8R8 d r => Sys2Proof.Machine.execXorRm8R8 d r s
  | .xorRmR d r => Sys2Proof.Machine.execXorRmR d r s
  | .xorR8Rm8 r m => Sys2Proof.Machine.execXorR8Rm8 r m s
  | .xorRRm r m => Sys2Proof.Machine.execXorRRm r m s
  | .xorAlImm8 imm => Sys2Proof.Machine.execXorAlImm8 imm s
  | .xorEaxImm imm => Sys2Proof.Machine.execXorEaxImm imm s
  | .xorRm8Imm8 d imm => Sys2Proof.Machine.execXorRm8Imm8 d imm s
  | .xorRmImm d imm => Sys2Proof.Machine.execXorRmImm d imm s
  | .xorRmImm8 d imm => Sys2Proof.Machine.execXorRmImm8 d imm s
  | .cmpRm8R8 d r => Sys2Proof.Machine.execCmpRm8R8 d r s
  | .cmpRmR d r => Sys2Proof.Machine.execCmpRmR d r s
  | .cmpR8Rm8 r m => Sys2Proof.Machine.execCmpR8Rm8 r m s
  | .cmpRRm r m => Sys2Proof.Machine.execCmpRRm r m s
  | .cmpAlImm8 imm => Sys2Proof.Machine.execCmpAlImm8 imm s
  | .cmpEaxImm imm => Sys2Proof.Machine.execCmpEaxImm imm s
  | .cmpRm8Imm8 d imm => Sys2Proof.Machine.execCmpRm8Imm8 d imm s
  | .cmpRmImm d imm => Sys2Proof.Machine.execCmpRmImm d imm s
  | .cmpRmImm8 d imm => Sys2Proof.Machine.execCmpRmImm8 d imm s
  | .incRm8 d => Sys2Proof.Machine.execIncRm8 d s
  | .incRm d => Sys2Proof.Machine.execIncRm d s
  | .incR r => Sys2Proof.Machine.execIncR r s
  | .decRm8 d => Sys2Proof.Machine.execDecRm8 d s
  | .decRm d => Sys2Proof.Machine.execDecRm d s
  | .decR r => Sys2Proof.Machine.execDecR r s
  | .notRm8 d => Sys2Proof.Machine.execNotRm8 d s
  | .notRm d => Sys2Proof.Machine.execNotRm d s
  | .negRm8 d => Sys2Proof.Machine.execNegRm8 d s
  | .negRm d => Sys2Proof.Machine.execNegRm d s
  | .mulRm8 d => Sys2Proof.Machine.execMulRm8 d s
  | .mulRm d => Sys2Proof.Machine.execMulRm d s
  | .imulRm8 d => Sys2Proof.Machine.execImulRm8 d s
  | .imulRm d => Sys2Proof.Machine.execImulRm d s
  | .divRm8 d => Sys2Proof.Machine.execDivRm8 d s
  | .divRm d => Sys2Proof.Machine.execDivRm d s
  | .idivRm8 d => Sys2Proof.Machine.execIdivRm8 d s
  | .idivRm d => Sys2Proof.Machine.execIdivRm d s
  | .imulRRm r m => Sys2Proof.Machine.execImulRRm r m s
  | .imulRRmImm8 r m imm => Sys2Proof.Machine.execImulRRmImm8 r m imm s
  | .imulRRmImm r m imm => Sys2Proof.Machine.execImulRRmImm r m imm s
  | .cbwCwde => Sys2Proof.Machine.execCbwCwde s
  | .cwdCdq => Sys2Proof.Machine.execCwdCdq s
  | .aaa => Sys2Proof.Machine.execAaa s
  | .aas => Sys2Proof.Machine.execAas s
  | .aamImm8 imm => Sys2Proof.Machine.execAamImm8 imm s
  | .aadImm8 imm => Sys2Proof.Machine.execAadImm8 imm s
  | .daa => Sys2Proof.Machine.execDaa s
  | .das => Sys2Proof.Machine.execDas s
  | .testAlImm8 imm => Sys2Proof.Machine.execTestAlImm8 imm s
  | .testEaxImm imm => Sys2Proof.Machine.execTestEaxImm imm s
  | .testRm8Imm8 d imm => Sys2Proof.Machine.execTestRm8Imm8 d imm s
  | .testRmImm d imm => Sys2Proof.Machine.execTestRmImm d imm s
  | .testRm8R8 d r => Sys2Proof.Machine.execTestRm8R8 d r s
  | .testRmR d r => Sys2Proof.Machine.execTestRmR d r s
  | .rolRm8One d => Sys2Proof.Machine.execRolRm8One d s
  | .rolRm8Cl d => Sys2Proof.Machine.execRolRm8Cl d s
  | .rolRm8Imm8 d imm => Sys2Proof.Machine.execRolRm8Imm8 d imm s
  | .rolRmOne d => Sys2Proof.Machine.execRolRmOne d s
  | .rolRmCl d => Sys2Proof.Machine.execRolRmCl d s
  | .rolRmImm8 d imm => Sys2Proof.Machine.execRolRmImm8 d imm s
  | .rorRm8One d => Sys2Proof.Machine.execRorRm8One d s
  | .rorRm8Cl d => Sys2Proof.Machine.execRorRm8Cl d s
  | .rorRm8Imm8 d imm => Sys2Proof.Machine.execRorRm8Imm8 d imm s
  | .rorRmOne d => Sys2Proof.Machine.execRorRmOne d s
  | .rorRmCl d => Sys2Proof.Machine.execRorRmCl d s
  | .rorRmImm8 d imm => Sys2Proof.Machine.execRorRmImm8 d imm s
  | .rclRm8One d => Sys2Proof.Machine.execRclRm8One d s
  | .rclRm8Cl d => Sys2Proof.Machine.execRclRm8Cl d s
  | .rclRm8Imm8 d imm => Sys2Proof.Machine.execRclRm8Imm8 d imm s
  | .rclRmOne d => Sys2Proof.Machine.execRclRmOne d s
  | .rclRmCl d => Sys2Proof.Machine.execRclRmCl d s
  | .rclRmImm8 d imm => Sys2Proof.Machine.execRclRmImm8 d imm s
  | .rcrRm8One d => Sys2Proof.Machine.execRcrRm8One d s
  | .rcrRm8Cl d => Sys2Proof.Machine.execRcrRm8Cl d s
  | .rcrRm8Imm8 d imm => Sys2Proof.Machine.execRcrRm8Imm8 d imm s
  | .rcrRmOne d => Sys2Proof.Machine.execRcrRmOne d s
  | .rcrRmCl d => Sys2Proof.Machine.execRcrRmCl d s
  | .rcrRmImm8 d imm => Sys2Proof.Machine.execRcrRmImm8 d imm s
  | .salRm8One d => Sys2Proof.Machine.execSalRm8One d s
  | .salRm8Cl d => Sys2Proof.Machine.execSalRm8Cl d s
  | .salRm8Imm8 d imm => Sys2Proof.Machine.execSalRm8Imm8 d imm s
  | .salRmOne d => Sys2Proof.Machine.execSalRmOne d s
  | .salRmCl d => Sys2Proof.Machine.execSalRmCl d s
  | .salRmImm8 d imm => Sys2Proof.Machine.execSalRmImm8 d imm s
  | .shrRm8One d => Sys2Proof.Machine.execShrRm8One d s
  | .shrRm8Cl d => Sys2Proof.Machine.execShrRm8Cl d s
  | .shrRm8Imm8 d imm => Sys2Proof.Machine.execShrRm8Imm8 d imm s
  | .shrRmOne d => Sys2Proof.Machine.execShrRmOne d s
  | .shrRmCl d => Sys2Proof.Machine.execShrRmCl d s
  | .shrRmImm8 d imm => Sys2Proof.Machine.execShrRmImm8 d imm s
  | .sarRm8One d => Sys2Proof.Machine.execSarRm8One d s
  | .sarRm8Cl d => Sys2Proof.Machine.execSarRm8Cl d s
  | .sarRm8Imm8 d imm => Sys2Proof.Machine.execSarRm8Imm8 d imm s
  | .sarRmOne d => Sys2Proof.Machine.execSarRmOne d s
  | .sarRmCl d => Sys2Proof.Machine.execSarRmCl d s
  | .sarRmImm8 d imm => Sys2Proof.Machine.execSarRmImm8 d imm s
  | .shldRmRImm8 d r imm => Sys2Proof.Machine.execShldRmRImm8 d r imm s
  | .shldRmRCl d r => Sys2Proof.Machine.execShldRmRCl d r s
  | .shrdRmRImm8 d r imm => Sys2Proof.Machine.execShrdRmRImm8 d r imm s
  | .shrdRmRCl d r => Sys2Proof.Machine.execShrdRmRCl d r s
  | .btRmR d r => Sys2Proof.Machine.execBtRmR d r s
  | .btRmImm8 d imm => Sys2Proof.Machine.execBtRmImm8 d imm s
  | .btsRmR d r => Sys2Proof.Machine.execBtsRmR d r s
  | .btsRmImm8 d imm => Sys2Proof.Machine.execBtsRmImm8 d imm s
  | .btrRmR d r => Sys2Proof.Machine.execBtrRmR d r s
  | .btrRmImm8 d imm => Sys2Proof.Machine.execBtrRmImm8 d imm s
  | .btcRmR d r => Sys2Proof.Machine.execBtcRmR d r s
  | .btcRmImm8 d imm => Sys2Proof.Machine.execBtcRmImm8 d imm s
  | .bsfRRm r m => Sys2Proof.Machine.execBsfRRm r m s
  | .bsrRRm r m => Sys2Proof.Machine.execBsrRRm r m s
  | .setoRm8 d => Sys2Proof.Machine.execSetoRm8 d s
  | .setnoRm8 d => Sys2Proof.Machine.execSetnoRm8 d s
  | .setbRm8 d => Sys2Proof.Machine.execSetbRm8 d s
  | .setaeRm8 d => Sys2Proof.Machine.execSetaeRm8 d s
  | .seteRm8 d => Sys2Proof.Machine.execSeteRm8 d s
  | .setneRm8 d => Sys2Proof.Machine.execSetneRm8 d s
  | .setbeRm8 d => Sys2Proof.Machine.execSetbeRm8 d s
  | .setaRm8 d => Sys2Proof.Machine.execSetaRm8 d s
  | .setsRm8 d => Sys2Proof.Machine.execSetsRm8 d s
  | .setnsRm8 d => Sys2Proof.Machine.execSetnsRm8 d s
  | .setpRm8 d => Sys2Proof.Machine.execSetpRm8 d s
  | .setnpRm8 d => Sys2Proof.Machine.execSetnpRm8 d s
  | .setlRm8 d => Sys2Proof.Machine.execSetlRm8 d s
  | .setgeRm8 d => Sys2Proof.Machine.execSetgeRm8 d s
  | .setleRm8 d => Sys2Proof.Machine.execSetleRm8 d s
  | .setgRm8 d => Sys2Proof.Machine.execSetgRm8 d s
  | .movRm8R8 d r => Sys2Proof.Machine.execMovRm8R8 d r s
  | .movRmR d r => Sys2Proof.Machine.execMovRmR d r s
  | .movR8Rm8 r m => Sys2Proof.Machine.execMovR8Rm8 r m s
  | .movRRm r m => Sys2Proof.Machine.execMovRRm r m s
  | .movR8Imm8 r imm => Sys2Proof.Machine.execMovR8Imm8 r imm s
  | .movRImm r imm => Sys2Proof.Machine.execMovRImm r imm s
  | .movRm8Imm8 d imm => Sys2Proof.Machine.execMovRm8Imm8 d imm s
  | .movRmImm d imm => Sys2Proof.Machine.execMovRmImm d imm s
  | .movAlMoffs off => Sys2Proof.Machine.execMovAlMoffs off s
  | .movEaxMoffs off => Sys2Proof.Machine.execMovEaxMoffs off s
  | .movMoffsAl off => Sys2Proof.Machine.execMovMoffsAl off s
  | .movMoffsEax off => Sys2Proof.Machine.execMovMoffsEax off s
  | .movRmSreg d sr => Sys2Proof.Machine.execMovRmSreg d sr s
  | .movSregRm sr m => Sys2Proof.Machine.execMovSregRm sr m s
  | .movsxRRm8 r m => Sys2Proof.Machine.execMovsxRRm8 r m s
  | .movsxRRm16 r m => Sys2Proof.Machine.execMovsxRRm16 r m s
  | .movzxRRm8 r m => Sys2Proof.Machine.execMovzxRRm8 r m s
  | .movzxRRm16 r m => Sys2Proof.Machine.execMovzxRRm16 r m s
  | .xchgEaxR r => Sys2Proof.Machine.execXchgEaxR r s
  | .xchgRm8R8 d r => Sys2Proof.Machine.execXchgRm8R8 d r s
  | .xchgRmR d r => Sys2Proof.Machine.execXchgRmR d r s
  | .leaRM r m => Sys2Proof.Machine.execLeaRM r m s
  | .xlat => Sys2Proof.Machine.execXlat s
  | .pushRm d => Sys2Proof.Machine.execPushRm d s
  | .pushR r => Sys2Proof.Machine.execPushR r s
  | .pushImm8 imm => Sys2Proof.Machine.execPushImm8 imm s
  | .pushImm imm => Sys2Proof.Machine.execPushImm imm s
  | .pushEs => Sys2Proof.Machine.execPushEs s
  | .pushCs => Sys2Proof.Machine.execPushCs s
  | .pushSs => Sys2Proof.Machine.execPushSs s
  | .pushDs => Sys2Proof.Machine.execPushDs s
  | .pushFs => Sys2Proof.Machine.execPushFs s
  | .pushGs => Sys2Proof.Machine.execPushGs s
  | .popRm d => Sys2Proof.Machine.execPopRm d s
  | .popR r => Sys2Proof.Machine.execPopR r s
  | .popEs => Sys2Proof.Machine.execPopEs s
  | .popSs => Sys2Proof.Machine.execPopSs s
  | .popDs => Sys2Proof.Machine.execPopDs s
  | .popFs => Sys2Proof.Machine.execPopFs s
  | .popGs => Sys2Proof.Machine.execPopGs s
  | .pusha => Sys2Proof.Machine.execPusha s
  | .popa => Sys2Proof.Machine.execPopa s
  | .pushf => Sys2Proof.Machine.execPushf s
  | .popf => Sys2Proof.Machine.execPopf s
  | .lahf => Sys2Proof.Machine.execLahf s
  | .sahf => Sys2Proof.Machine.execSahf s
  | .ldsRM r m => Sys2Proof.Machine.execLdsRM r m s
  | .lesRM r m => Sys2Proof.Machine.execLesRM r m s
  | .lfsRM r m => Sys2Proof.Machine.execLfsRM r m s
  | .lgsRM r m => Sys2Proof.Machine.execLgsRM r m s
  | .lssRM r m => Sys2Proof.Machine.execLssRM r m s
  | .clc => Sys2Proof.Machine.execClc s
  | .cld => Sys2Proof.Machine.execCld s
  | .cmc => Sys2Proof.Machine.execCmc s
  | .stc => Sys2Proof.Machine.execStc s
  | .std => Sys2Proof.Machine.execStd s
  | .movsb => Sys2Proof.Machine.execMovsb s
  | .movswMovsd => Sys2Proof.Machine.execMovswMovsd s
  | .cmpsb => Sys2Proof.Machine.execCmpsb s
  | .cmpswCmpsd => Sys2Proof.Machine.execCmpswCmpsd s
  | .stosb => Sys2Proof.Machine.execStosb s
  | .stoswStosd => Sys2Proof.Machine.execStoswStosd s
  | .lodsb => Sys2Proof.Machine.execLodsb s
  | .lodswLodsd => Sys2Proof.Machine.execLodswLodsd s
  | .scasb => Sys2Proof.Machine.execScasb s
  | .scaswScasd => Sys2Proof.Machine.execScaswScasd s
  | .insb => Sys2Proof.Machine.execInsb s
  | .inswInsd => Sys2Proof.Machine.execInswInsd s
  | .outsb => Sys2Proof.Machine.execOutsb s
  | .outswOutsd => Sys2Proof.Machine.execOutswOutsd s
  | .inAlImm8 imm => Sys2Proof.Machine.execInAlImm8 imm s
  | .inEaxImm8 imm => Sys2Proof.Machine.execInEaxImm8 imm s
  | .inAlDx => Sys2Proof.Machine.execInAlDx s
  | .inEaxDx => Sys2Proof.Machine.execInEaxDx s
  | .outImm8Al imm => Sys2Proof.Machine.execOutImm8Al imm s
  | .outImm8Eax imm => Sys2Proof.Machine.execOutImm8Eax imm s
  | .outDxAl => Sys2Proof.Machine.execOutDxAl s
  | .outDxEax => Sys2Proof.Machine.execOutDxEax s
  | .rep => Sys2Proof.Machine.execRep s
  | .repne => Sys2Proof.Machine.execRepne s
  | .jmpRel8 imm => Sys2Proof.Machine.execJmpRel8 imm s
  | .jmpRel imm => Sys2Proof.Machine.execJmpRel imm s
  | .jmpRm d => Sys2Proof.Machine.execJmpRm d s
  | .jmpPtr sel off => Sys2Proof.Machine.execJmpPtr sel off s
  | .jmpMFar m => Sys2Proof.Machine.execJmpMFar m s
  | .joRel8 imm => Sys2Proof.Machine.execJoRel8 imm s
  | .joRel imm => Sys2Proof.Machine.execJoRel imm s
  | .jnoRel8 imm => Sys2Proof.Machine.execJnoRel8 imm s
  | .jnoRel imm => Sys2Proof.Machine.execJnoRel imm s
  | .jbRel8 imm => Sys2Proof.Machine.execJbRel8 imm s
  | .jbRel imm => Sys2Proof.Machine.execJbRel imm s
  | .jaeRel8 imm => Sys2Proof.Machine.execJaeRel8 imm s
  | .jaeRel imm => Sys2Proof.Machine.execJaeRel imm s
  | .jeRel8 imm => Sys2Proof.Machine.execJeRel8 imm s
  | .jeRel imm => Sys2Proof.Machine.execJeRel imm s
  | .jneRel8 imm => Sys2Proof.Machine.execJneRel8 imm s
  | .jneRel imm => Sys2Proof.Machine.execJneRel imm s
  | .jbeRel8 imm => Sys2Proof.Machine.execJbeRel8 imm s
  | .jbeRel imm => Sys2Proof.Machine.execJbeRel imm s
  | .jaRel8 imm => Sys2Proof.Machine.execJaRel8 imm s
  | .jaRel imm => Sys2Proof.Machine.execJaRel imm s
  | .jsRel8 imm => Sys2Proof.Machine.execJsRel8 imm s
  | .jsRel imm => Sys2Proof.Machine.execJsRel imm s
  | .jnsRel8 imm => Sys2Proof.Machine.execJnsRel8 imm s
  | .jnsRel imm => Sys2Proof.Machine.execJnsRel imm s
  | .jpRel8 imm => Sys2Proof.Machine.execJpRel8 imm s
  | .jpRel imm => Sys2Proof.Machine.execJpRel imm s
  | .jnpRel8 imm => Sys2Proof.Machine.execJnpRel8 imm s
  | .jnpRel imm => Sys2Proof.Machine.execJnpRel imm s
  | .jlRel8 imm => Sys2Proof.Machine.execJlRel8 imm s
  | .jlRel imm => Sys2Proof.Machine.execJlRel imm s
  | .jgeRel8 imm => Sys2Proof.Machine.execJgeRel8 imm s
  | .jgeRel imm => Sys2Proof.Machine.execJgeRel imm s
  | .jleRel8 imm => Sys2Proof.Machine.execJleRel8 imm s
  | .jleRel imm => Sys2Proof.Machine.execJleRel imm s
  | .jgRel8 imm => Sys2Proof.Machine.execJgRel8 imm s
  | .jgRel imm => Sys2Proof.Machine.execJgRel imm s
  | .jcxzRel8 imm => Sys2Proof.Machine.execJcxzRel8 imm s
  | .loopRel8 imm => Sys2Proof.Machine.execLoopRel8 imm s
  | .loopeRel8 imm => Sys2Proof.Machine.execLoopeRel8 imm s
  | .loopneRel8 imm => Sys2Proof.Machine.execLoopneRel8 imm s
  | .callRel imm => Sys2Proof.Machine.execCallRel imm s
  | .callRm d => Sys2Proof.Machine.execCallRm d s
  | .callPtr sel off => Sys2Proof.Machine.execCallPtr sel off s
  | .callMFar m => Sys2Proof.Machine.execCallMFar m s
  | .retNear => Sys2Proof.Machine.execRetNear s
  | .retNearImm16 imm => Sys2Proof.Machine.execRetNearImm16 imm s
  | .retFar => Sys2Proof.Machine.execRetFar s
  | .retFarImm16 imm => Sys2Proof.Machine.execRetFarImm16 imm s
  | .intImm8 imm => Sys2Proof.Machine.execIntImm8 imm s
  | .int3 => Sys2Proof.Machine.execInt3 s
  | .into => Sys2Proof.Machine.execInto s
  | .int1 => Sys2Proof.Machine.execInt1 s
  | .iret => Sys2Proof.Machine.execIret s
  | .enter size level => Sys2Proof.Machine.execEnter size level s
  | .leave => Sys2Proof.Machine.execLeave s
  | .boundRM r m => Sys2Proof.Machine.execBoundRM r m s
  | .hlt => Sys2Proof.Machine.execHlt s
  | .lock => Sys2Proof.Machine.execLock s
  | .wait => Sys2Proof.Machine.execWait s
  | .nop => Sys2Proof.Machine.execNop s
  | .sldtRm16 d => Sys2Proof.Machine.execSldtRm16 d s
  | .strRm16 d => Sys2Proof.Machine.execStrRm16 d s
  | .lldtRm16 d => Sys2Proof.Machine.execLldtRm16 d s
  | .ltrRm16 d => Sys2Proof.Machine.execLtrRm16 d s
  | .verrRm16 d => Sys2Proof.Machine.execVerrRm16 d s
  | .verwRm16 d => Sys2Proof.Machine.execVerwRm16 d s
  | .sgdtM m => Sys2Proof.Machine.execSgdtM m s
  | .sidtM m => Sys2Proof.Machine.execSidtM m s
  | .lgdtM m => Sys2Proof.Machine.execLgdtM m s
  | .lidtM m => Sys2Proof.Machine.execLidtM m s
  | .smswRm16 d => Sys2Proof.Machine.execSmswRm16 d s
  | .lmswRm16 d => Sys2Proof.Machine.execLmswRm16 d s
  | .larRRm16 r m => Sys2Proof.Machine.execLarRRm16 r m s
  | .lslRRm16 r m => Sys2Proof.Machine.execLslRRm16 r m s
  | .clts => Sys2Proof.Machine.execClts s
  | .movRCr r c => Sys2Proof.Machine.execMovRCr r c s
  | .movCrR c r => Sys2Proof.Machine.execMovCrR c r s
  | .movRDr r n => Sys2Proof.Machine.execMovRDr r n s
  | .movDrR n r => Sys2Proof.Machine.execMovDrR n r s
  | .arplRm16R16 d r => Sys2Proof.Machine.execArplRm16R16 d r s
  | .cli => Sys2Proof.Machine.execCli s
  | .sti => Sys2Proof.Machine.execSti s
  | .fldM32 m => Sys2Proof.Machine.execFldM32 m s
  | .fldM64 m => Sys2Proof.Machine.execFldM64 m s
  | .fldM80 m => Sys2Proof.Machine.execFldM80 m s
  | .fldSt imm => Sys2Proof.Machine.execFldSt imm s
  | .fld1 => Sys2Proof.Machine.execFld1 s
  | .fldl2t => Sys2Proof.Machine.execFldl2t s
  | .fldl2e => Sys2Proof.Machine.execFldl2e s
  | .fldpi => Sys2Proof.Machine.execFldpi s
  | .fldlg2 => Sys2Proof.Machine.execFldlg2 s
  | .fldln2 => Sys2Proof.Machine.execFldln2 s
  | .fldz => Sys2Proof.Machine.execFldz s
  | .fstM32 m => Sys2Proof.Machine.execFstM32 m s
  | .fstM64 m => Sys2Proof.Machine.execFstM64 m s
  | .fstSt imm => Sys2Proof.Machine.execFstSt imm s
  | .fstpM32 m => Sys2Proof.Machine.execFstpM32 m s
  | .fstpM64 m => Sys2Proof.Machine.execFstpM64 m s
  | .fstpM80 m => Sys2Proof.Machine.execFstpM80 m s
  | .fstpSt imm => Sys2Proof.Machine.execFstpSt imm s
  | .fildM16 m => Sys2Proof.Machine.execFildM16 m s
  | .fildM32 m => Sys2Proof.Machine.execFildM32 m s
  | .fildM64 m => Sys2Proof.Machine.execFildM64 m s
  | .fistM16 m => Sys2Proof.Machine.execFistM16 m s
  | .fistM32 m => Sys2Proof.Machine.execFistM32 m s
  | .fistpM16 m => Sys2Proof.Machine.execFistpM16 m s
  | .fistpM32 m => Sys2Proof.Machine.execFistpM32 m s
  | .fistpM64 m => Sys2Proof.Machine.execFistpM64 m s
  | .fbldM80 m => Sys2Proof.Machine.execFbldM80 m s
  | .fbstpM80 m => Sys2Proof.Machine.execFbstpM80 m s
  | .fxchSt imm => Sys2Proof.Machine.execFxchSt imm s
  | .faddM32 m => Sys2Proof.Machine.execFaddM32 m s
  | .faddM64 m => Sys2Proof.Machine.execFaddM64 m s
  | .faddSt0Sti imm => Sys2Proof.Machine.execFaddSt0Sti imm s
  | .faddStiSt0 imm => Sys2Proof.Machine.execFaddStiSt0 imm s
  | .faddpStiSt0 imm => Sys2Proof.Machine.execFaddpStiSt0 imm s
  | .fiaddM32 m => Sys2Proof.Machine.execFiaddM32 m s
  | .fiaddM16 m => Sys2Proof.Machine.execFiaddM16 m s
  | .fmulM32 m => Sys2Proof.Machine.execFmulM32 m s
  | .fmulM64 m => Sys2Proof.Machine.execFmulM64 m s
  | .fmulSt0Sti imm => Sys2Proof.Machine.execFmulSt0Sti imm s
  | .fmulStiSt0 imm => Sys2Proof.Machine.execFmulStiSt0 imm s
  | .fmulpStiSt0 imm => Sys2Proof.Machine.execFmulpStiSt0 imm s
  | .fimulM32 m => Sys2Proof.Machine.execFimulM32 m s
  | .fimulM16 m => Sys2Proof.Machine.execFimulM16 m s
  | .fsubM32 m => Sys2Proof.Machine.execFsubM32 m s
  | .fsubM64 m => Sys2Proof.Machine.execFsubM64 m s
  | .fsubSt0Sti imm => Sys2Proof.Machine.execFsubSt0Sti imm s
  | .fsubStiSt0 imm => Sys2Proof.Machine.execFsubStiSt0 imm s
  | .fsubpStiSt0 imm => Sys2Proof.Machine.execFsubpStiSt0 imm s
  | .fisubM32 m => Sys2Proof.Machine.execFisubM32 m s
  | .fisubM16 m => Sys2Proof.Machine.execFisubM16 m s
  | .fsubrM32 m => Sys2Proof.Machine.execFsubrM32 m s
  | .fsubrM64 m => Sys2Proof.Machine.execFsubrM64 m s
  | .fsubrSt0Sti imm => Sys2Proof.Machine.execFsubrSt0Sti imm s
  | .fsubrStiSt0 imm => Sys2Proof.Machine.execFsubrStiSt0 imm s
  | .fsubrpStiSt0 imm => Sys2Proof.Machine.execFsubrpStiSt0 imm s
  | .fisubrM32 m => Sys2Proof.Machine.execFisubrM32 m s
  | .fisubrM16 m => Sys2Proof.Machine.execFisubrM16 m s
  | .fdivM32 m => Sys2Proof.Machine.execFdivM32 m s
  | .fdivM64 m => Sys2Proof.Machine.execFdivM64 m s
  | .fdivSt0Sti imm => Sys2Proof.Machine.execFdivSt0Sti imm s
  | .fdivStiSt0 imm => Sys2Proof.Machine.execFdivStiSt0 imm s
  | .fdivpStiSt0 imm => Sys2Proof.Machine.execFdivpStiSt0 imm s
  | .fidivM32 m => Sys2Proof.Machine.execFidivM32 m s
  | .fidivM16 m => Sys2Proof.Machine.execFidivM16 m s
  | .fdivrM32 m => Sys2Proof.Machine.execFdivrM32 m s
  | .fdivrM64 m => Sys2Proof.Machine.execFdivrM64 m s
  | .fdivrSt0Sti imm => Sys2Proof.Machine.execFdivrSt0Sti imm s
  | .fdivrStiSt0 imm => Sys2Proof.Machine.execFdivrStiSt0 imm s
  | .fdivrpStiSt0 imm => Sys2Proof.Machine.execFdivrpStiSt0 imm s
  | .fidivrM32 m => Sys2Proof.Machine.execFidivrM32 m s
  | .fidivrM16 m => Sys2Proof.Machine.execFidivrM16 m s
  | .fsqrt => Sys2Proof.Machine.execFsqrt s
  | .fscale => Sys2Proof.Machine.execFscale s
  | .fprem => Sys2Proof.Machine.execFprem s
  | .fprem1 => Sys2Proof.Machine.execFprem1 s
  | .frndint => Sys2Proof.Machine.execFrndint s
  | .fxtract => Sys2Proof.Machine.execFxtract s
  | .fabs => Sys2Proof.Machine.execFabs s
  | .fchs => Sys2Proof.Machine.execFchs s
  | .fcomM32 m => Sys2Proof.Machine.execFcomM32 m s
  | .fcomM64 m => Sys2Proof.Machine.execFcomM64 m s
  | .fcomSt imm => Sys2Proof.Machine.execFcomSt imm s
  | .fcompM32 m => Sys2Proof.Machine.execFcompM32 m s
  | .fcompM64 m => Sys2Proof.Machine.execFcompM64 m s
  | .fcompSt imm => Sys2Proof.Machine.execFcompSt imm s
  | .fcompp => Sys2Proof.Machine.execFcompp s
  | .ficomM16 m => Sys2Proof.Machine.execFicomM16 m s
  | .ficomM32 m => Sys2Proof.Machine.execFicomM32 m s
  | .ficompM16 m => Sys2Proof.Machine.execFicompM16 m s
  | .ficompM32 m => Sys2Proof.Machine.execFicompM32 m s
  | .ftst => Sys2Proof.Machine.execFtst s
  | .fucomSt imm => Sys2Proof.Machine.execFucomSt imm s
  | .fucompSt imm => Sys2Proof.Machine.execFucompSt imm s
  | .fucompp => Sys2Proof.Machine.execFucompp s
  | .fxam => Sys2Proof.Machine.execFxam s
  | .f2xm1 => Sys2Proof.Machine.execF2xm1 s
  | .fyl2x => Sys2Proof.Machine.execFyl2x s
  | .fyl2xp1 => Sys2Proof.Machine.execFyl2xp1 s
  | .fptan => Sys2Proof.Machine.execFptan s
  | .fpatan => Sys2Proof.Machine.execFpatan s
  | .fsin => Sys2Proof.Machine.execFsin s
  | .fcos => Sys2Proof.Machine.execFcos s
  | .fsincos => Sys2Proof.Machine.execFsincos s
  | .fninit => Sys2Proof.Machine.execFninit s
  | .fnclex => Sys2Proof.Machine.execFnclex s
  | .fldcwM16 m => Sys2Proof.Machine.execFldcwM16 m s
  | .fnstcwM16 m => Sys2Proof.Machine.execFnstcwM16 m s
  | .fnstswM16 m => Sys2Proof.Machine.execFnstswM16 m s
  | .fnstswAx => Sys2Proof.Machine.execFnstswAx s
  | .fldenvEnv m => Sys2Proof.Machine.execFldenvEnv m s
  | .fnstenvEnv m => Sys2Proof.Machine.execFnstenvEnv m s
  | .fnsaveFull m => Sys2Proof.Machine.execFnsaveFull m s
  | .frstorFull m => Sys2Proof.Machine.execFrstorFull m s
  | .fincstp => Sys2Proof.Machine.execFincstp s
  | .fdecstp => Sys2Proof.Machine.execFdecstp s
  | .ffreeSt imm => Sys2Proof.Machine.execFfreeSt imm s
  | .fnop => Sys2Proof.Machine.execFnop s
  | .feni => Sys2Proof.Machine.execFeni s
  | .fdisi => Sys2Proof.Machine.execFdisi s
  | .fsetpm => Sys2Proof.Machine.execFsetpm s
  | .repe => Sys2Proof.Machine.execRepe s
  | .segEs => Sys2Proof.Machine.execSegEs s
  | .segCs => Sys2Proof.Machine.execSegCs s
  | .segSs => Sys2Proof.Machine.execSegSs s
  | .segDs => Sys2Proof.Machine.execSegDs s
  | .segFs => Sys2Proof.Machine.execSegFs s
  | .segGs => Sys2Proof.Machine.execSegGs s
  | .opsize => Sys2Proof.Machine.execOpsize s
  | .adsize => Sys2Proof.Machine.execAdsize s

end Sys2Proof.Machine
end

