-- ==== Sys2Proof/Machine/Fetch.lean ====
section
/-!
DEFINITION. Fetching and decoding the next instruction (30_encoding.md R160, R161, R175, R205, 20_memory.md R123), and
placing one where the next step fetches it. (The decoder is noncomputable, see Decode.lean.)
-/

noncomputable section

namespace Sys2Proof.Machine

/-- Fetch the byte `k` bytes after EIP (20_memory.md R123): no instruction crosses the top of a 4-GB segment (10_state.md
R47). -/
def fetchByte (k : Nat) : M Byte := do
  let s ← getS
  let off := s.eip + BitVec.ofNat 32 k
  check (s.segs.cs.inLimit off 1 && decide (s.eip.toNat + k < 2 ^ 32)) (raiseGP 0)
  let as ← physOf (s.segs.cs.base + off) 1 false s.user
  let v ← loadAt as
  pure (BitVec.ofNat 8 v)

/-- An instruction as it was fetched: its prefixes, the instruction, its length, and the opcode bits an escape instruction
records (46_x87_a.md R614). -/
structure Fetched where
  prefixes : List Instr
  instr : Instr
  length : Nat
  fop : BitVec 11

/-- The opcode bits of R614: bits 2:0 of the first byte after the prefixes, and the byte after it. -/
def fopOf : List Byte → BitVec 11
  | a :: b :: _ => a.extractLsb' 0 3 ++ b
  | _ => 0

/-- What the bytes fetched so far spell, in a code segment of default size `d`. -/
def decodeBytes (d : Size) (bs : List Byte) : Except DecErr Fetched :=
  let r := takePrefixes bs
  match decode (opSize d r.1) (adSize d r.1) r.2 with
  | .ok (i, _) => .ok { prefixes := r.1, instr := i, length := bs.length, fop := fopOf r.2 }
  | .error e => .error e

/-- The opcodes that are not recognized outside protected mode: refused after their ModRM byte (R205 item 8). DESIGN CHOICE (log
13): so too after LOCK, where item 7 would have the rest of the bytes fetched first. -/
def protectedOpcode : List Byte → Bool
  | a :: b :: rest => decide (a = 0x63) ||
      (decide (a = 0x0F) && (decide (b = 0x00) || decide (b = 0x02) || decide (b = 0x03)) && !rest.isEmpty)
  | _ => false

/-- The decode faults of a whole instruction (R205 items 1 and 7, R175). -/
def checkLegal (f : Fetched) : M Unit := do
  let s ← getS
  check (s.cfg.hasInt1 || decide (f.instr ≠ .int1)) raiseUD
  check (!f.prefixes.contains .lock || f.instr.lockLegal) raiseUD

/-- An undefined escape encoding (47_x87_b.md R696): LOCK is #UD, then #NM as for any escape instruction; else the step is
refused. -/
def undefinedEscape {α : Type} (bs : List Byte) : M α := do
  let s ← getS
  check (!(takePrefixes bs).1.contains .lock) raiseUD
  check (!s.cr0.em && !s.cr0.ts) raiseNM
  stop (.refuse .undefinedEscape)

/-- Fetch on, byte by byte, until the bytes are an instruction or a fault (R160); `bs` are the bytes so far, `fuel` how
many more an instruction may have: the sixteenth byte is #GP(0) (R161). -/
def fetchMore : (fuel : Nat) → (bs : List Byte) → M Fetched
  | 0, _ => raiseGP 0
  | fuel + 1, bs => do
      let b ← fetchByte bs.length
      let bs := bs ++ [b]
      let s ← getS
      match decodeBytes (.ofBit s.segs.cs.db) bs with
      | .ok f => do
          checkLegal f
          pure f
      | .error .undefined => raiseUD
      | .error .undefinedEsc => undefinedEscape bs
      | .error .more =>
          if !s.protectedMode && protectedOpcode (takePrefixes bs).2 then raiseUD else fetchMore fuel bs

/-- Fetch the instruction at CS:EIP. -/
def fetch : M Fetched := fetchMore 15 []

/-! ### Instruction breakpoints (60_exceptions.md R761 (a)) -/

/-- The instruction at the linear address meets the condition of breakpoint `i`, which DR7 may enable or not. -/
def execMet (d : DebugRegs) (la : Word) (i : Nat) : Bool :=
  decide (bpRw d.dr7 i = 0) && decide (bpLen d.dr7 i = 0) && decide (d.addr i = la)

/-- Breakpoint `i` is one on the execution of the instruction at the linear address. -/
def execHit (d : DebugRegs) (la : Word) (i : Nat) : Bool := bpEnabled d.dr7 i && execMet d la i

/-- The instruction breakpoints whose condition the next instruction meets and which DR7 does not enable (R761, log 19). -/
def State.execLoose (s : State) : BitVec 4 :=
  let la := s.segs.cs.base + s.eip
  if s.cfg.hasDebugRegs then eachBp fun i => !bpEnabled s.dbg.dr7 i && execMet s.dbg la i else 0

/-- The DR6 bits of the instruction breakpoints on the next instruction; 0 while RF = 1 (R734). -/
def State.execHits (s : State) : Word :=
  let la := s.segs.cs.base + s.eip
  if s.cfg.hasDebugRegs && !s.flags.rf then
    bitAt (execHit s.dbg la 0) 0 ||| bitAt (execHit s.dbg la 1) 1 ||| bitAt (execHit s.dbg la 2) 2
      ||| bitAt (execHit s.dbg la 3) 3
  else 0

/-- The fault of an instruction breakpoint: the pushed image has RF as it is (R734). -/
def Exn.breakpoint (hits : Word) : Exn := { Exn.plain 1 none with dr6 := hits, pushRf := false }

/-! ### Placing an instruction (log 3) -/

/-- The state with bytes stored where the next instruction is fetched, running, with no event to be served first. -/
def placeBytes (s : State) (bs : List Byte) : State :=
  let mem := match physOf (s.segs.cs.base + s.eip) bs.length false s.user s with
    | .ok as _ => as.zip bs |>.foldl (fun m x => Memory.write m x.1.toNat x.2) s.mem
    | .error _ _ => s.mem
  { s with mem := mem, run := .running, pending := .none, nmiPending := false, intr := false, resetIn := none,
           flags := if s.execHits = 0 then s.flags else { s.flags with rf := true } }

end Sys2Proof.Machine

end
end

