-- ==== Sys2Proof/Machine/FpuExact.lean ====
section
/-!
DEFINITION. X87_FN, the family of functions that the transcendental instructions compute (00_scope.md R17, 47_x87_b.md R672,
93_implementation_defined.md U7; assumption log 20): the exact functions over the reals, what R672 (c) asks of an
approximation of them, and a free choice among all the families that give it. The step evaluates the chosen family at the
operands of the instruction it starts.
-/

noncomputable section

namespace Sys2Proof.Machine

/-- The real number. -/
def Num.real (n : Num) : ℝ := (if n.neg then -1 else 1) * ((n.mant : ℝ) * (2 : ℝ) ^ n.exp)

/-- The number of a function's result. -/
def Approx.num (a : Approx) : Num := { neg := a.neg, mant := a.sig.toNat, exp := a.exp }

/-- The exact functions of R673 to R680, x being ST(0) and y being ST(1); those of one operand do not look at y. -/
def exactFn : X87Fn → ℝ → ℝ → ℝ
  | .f2xm1, x, _ => (2 : ℝ) ^ x - 1
  | .fyl2x, x, y => y * Real.logb 2 x
  | .fyl2xp1, x, y => y * Real.logb 2 (x + 1)
  | .ftan, x, _ => Real.tan x
  | .fatan, x, y => Complex.arg ⟨x, y⟩
  | .fsin, x, _ => Real.sin x
  | .fcos, x, _ => Real.cos x

/-- One unit in the last place of a 64-bit significand, at the magnitude of `e` (R672 (c)). -/
def ulp (e : ℝ) : ℝ := (2 : ℝ) ^ (Int.log 2 |e| - 63)

/-- A family of functions in the shape of X87_FN (R672): for a function, the operands ST(0) and ST(1), and RC. -/
abbrev X87Family := X87Fn → Ext → Ext → Rc → Approx

/-- The number a family gives. -/
def X87Family.value (f : X87Family) (fn : X87Fn) (rc : Rc) (x y : Ext) : ℝ := (f fn x y rc).num.real

/-- What R672 (c) asks of a family: a significand of 64 bits, within one unit in its last place of the exact result, and
monotonic in each operand wherever the exact function is. -/
structure X87Family.Good (f : X87Family) : Prop where
  normal : ∀ fn x y rc, (f fn x y rc).sig = 0 ∨ (f fn x y rc).sig.getLsbD 63 = true
  close : ∀ fn x y rc,
    |f.value fn rc x y - exactFn fn (numOf x).real (numOf y).real| ≤ ulp (exactFn fn (numOf x).real (numOf y).real)
  rising : ∀ fn rc y x x', (numOf x).real ≤ (numOf x').real →
    MonotoneOn (fun t => exactFn fn t (numOf y).real) (Set.Icc (numOf x).real (numOf x').real) →
    f.value fn rc x y ≤ f.value fn rc x' y
  falling : ∀ fn rc y x x', (numOf x).real ≤ (numOf x').real →
    AntitoneOn (fun t => exactFn fn t (numOf y).real) (Set.Icc (numOf x).real (numOf x').real) →
    f.value fn rc x' y ≤ f.value fn rc x y
  rising2 : ∀ fn rc x y y', (numOf y).real ≤ (numOf y').real →
    MonotoneOn (fun t => exactFn fn (numOf x).real t) (Set.Icc (numOf y).real (numOf y').real) →
    f.value fn rc x y ≤ f.value fn rc x y'
  falling2 : ∀ fn rc x y y', (numOf y).real ≤ (numOf y').real →
    AntitoneOn (fun t => exactFn fn (numOf x).real t) (Set.Icc (numOf y).real (numOf y').real) →
    f.value fn rc x y' ≤ f.value fn rc x y

/-- A family with what R672 (c) asks of it. -/
structure X87Model where
  family : X87Family
  good : family.Good

/-! ### Such families exist: the exact result, cut off after 64 bits -/

/-- The significand of a magnitude, cut off after 64 bits. -/
def cutSig (a : ℝ) : ℕ := ⌊a * (2 : ℝ) ^ (63 - Int.log 2 a)⌋₊

/-- A magnitude, cut off after 64 bits. -/
def cutMag (a : ℝ) : ℝ := cutSig a * (2 : ℝ) ^ (Int.log 2 a - 63)

/-- A real number, cut off after 64 bits. -/
def cutOff (e : ℝ) : Approx :=
  { neg := decide (e < 0), sig := BitVec.ofNat 64 (cutSig |e|), exp := Int.log 2 |e| - 63, inexact := false, up := false }

theorem cutSig_zero : cutSig 0 = 0 := by simp [cutSig]

theorem scaled_bounds {a : ℝ} (h : 0 < a) :
    (2 : ℝ) ^ (63 : ℤ) ≤ a * (2 : ℝ) ^ (63 - Int.log 2 a) ∧ a * (2 : ℝ) ^ (63 - Int.log 2 a) < (2 : ℝ) ^ (64 : ℤ) := by
  have h1 : (2 : ℝ) ^ Int.log 2 a ≤ a := by exact_mod_cast Int.zpow_log_le_self (b := 2) (by norm_num) h
  have h2 : a < (2 : ℝ) ^ (Int.log 2 a + 1) := by exact_mod_cast Int.lt_zpow_succ_log_self (b := 2) (by norm_num) a
  have hp : (0 : ℝ) < (2 : ℝ) ^ (63 - Int.log 2 a) := by positivity
  constructor
  · calc (2 : ℝ) ^ (63 : ℤ) = (2 : ℝ) ^ Int.log 2 a * (2 : ℝ) ^ (63 - Int.log 2 a) := by
          rw [← zpow_add₀ (by norm_num)]; congr 1; ring
      _ ≤ _ := by gcongr
  · calc a * (2 : ℝ) ^ (63 - Int.log 2 a) < (2 : ℝ) ^ (Int.log 2 a + 1) * (2 : ℝ) ^ (63 - Int.log 2 a) := by gcongr
      _ = _ := by rw [← zpow_add₀ (by norm_num)]; congr 1; ring

theorem cutSig_bounds {a : ℝ} (h : 0 < a) : 2 ^ 63 ≤ cutSig a ∧ cutSig a < 2 ^ 64 := by
  have hb := scaled_bounds h
  constructor
  · apply Nat.le_floor; push_cast; exact_mod_cast hb.1
  · rw [cutSig, Nat.floor_lt (by positivity)]; push_cast; exact_mod_cast hb.2

theorem cutMag_le {a : ℝ} (h : 0 ≤ a) : cutMag a ≤ a ∧ a - cutMag a ≤ (2 : ℝ) ^ (Int.log 2 a - 63) := by
  have hp : (0 : ℝ) < (2 : ℝ) ^ (Int.log 2 a - 63) := by positivity
  have e : a * (2 : ℝ) ^ (63 - Int.log 2 a) * (2 : ℝ) ^ (Int.log 2 a - 63) = a := by
    rw [mul_assoc, ← zpow_add₀ (by norm_num)]; simp
  have f1 : (cutSig a : ℝ) ≤ a * (2 : ℝ) ^ (63 - Int.log 2 a) := Nat.floor_le (by positivity)
  have f2 : a * (2 : ℝ) ^ (63 - Int.log 2 a) < cutSig a + 1 := Nat.lt_floor_add_one _
  have g1 := mul_le_mul_of_nonneg_right f1 hp.le
  have g2 := mul_lt_mul_of_pos_right f2 hp
  rw [e] at g1 g2
  unfold cutMag
  constructor <;> linarith

theorem cutMag_mono {a b : ℝ} (h0 : 0 ≤ a) (h : a ≤ b) : cutMag a ≤ cutMag b := by
  rcases h0.eq_or_lt with rfl | ha
  · simp only [cutMag, cutSig_zero]; simp; positivity
  · have hb := ha.trans_le h
    have hl : Int.log 2 a ≤ Int.log 2 b := Int.log_mono_right ha h
    rcases hl.eq_or_lt with e | lt
    · unfold cutMag cutSig
      rw [e]
      gcongr
    · have h2 : a < (2 : ℝ) ^ (Int.log 2 a + 1) := by exact_mod_cast Int.lt_zpow_succ_log_self (b := 2) (by norm_num) a
      have h3 : (2 : ℝ) ^ (Int.log 2 a + 1) ≤ (2 : ℝ) ^ Int.log 2 b := zpow_le_zpow_right₀ (by norm_num) (by omega)
      have h4 : (2 : ℝ) ^ (63 : ℤ) ≤ cutSig b := by exact_mod_cast (cutSig_bounds hb).1
      have h5 : (2 : ℝ) ^ Int.log 2 b = (2 : ℝ) ^ (63 : ℤ) * (2 : ℝ) ^ (Int.log 2 b - 63) := by
        rw [← zpow_add₀ (by norm_num)]; congr 1; ring
      have h6 : (2 : ℝ) ^ Int.log 2 b ≤ cutMag b := by
        rw [h5, cutMag]; gcongr
      linarith [(cutMag_le h0).1]

theorem cutSig_lt {a : ℝ} (h : 0 ≤ a) : cutSig a < 2 ^ 64 := by
  rcases h.eq_or_lt with rfl | h
  · rw [cutSig_zero]; norm_num
  · exact (cutSig_bounds h).2

theorem cutOff_real (e : ℝ) : (cutOff e).num.real = if e < 0 then -cutMag |e| else cutMag |e| := by
  have h := cutSig_lt (abs_nonneg e)
  simp only [Num.real, Approx.num, cutOff, BitVec.toNat_ofNat, Nat.mod_eq_of_lt h, cutMag, decide_eq_true_eq]
  split <;> ring

theorem cutOff_close (e : ℝ) : |(cutOff e).num.real - e| ≤ ulp e := by
  have h := cutMag_le (abs_nonneg e)
  rw [cutOff_real, ulp]
  split
  · rename_i hn
    rw [abs_of_neg hn] at *
    rw [abs_le]; constructor <;> linarith
  · rename_i hn
    rw [abs_of_nonneg (not_lt.mp hn)] at *
    rw [abs_le]; constructor <;> linarith

theorem cutOff_mono {a b : ℝ} (h : a ≤ b) : (cutOff a).num.real ≤ (cutOff b).num.real := by
  have nn : ∀ x : ℝ, 0 ≤ cutMag |x| := fun x => by unfold cutMag; positivity
  rw [cutOff_real, cutOff_real]
  split <;> split
  · rename_i ha hb
    rw [abs_of_neg ha, abs_of_neg hb]
    linarith [cutMag_mono (by linarith : 0 ≤ -b) (by linarith : -b ≤ -a)]
  · linarith [nn a, nn b]
  · linarith
  · rename_i ha hb
    rw [abs_of_nonneg (not_lt.mp ha), abs_of_nonneg (not_lt.mp hb)]
    exact cutMag_mono (not_lt.mp ha) h

theorem cutOff_normal (e : ℝ) : (cutOff e).sig = 0 ∨ (cutOff e).sig.getLsbD 63 = true := by
  rcases eq_or_ne e 0 with rfl | h
  · left; simp [cutOff, cutSig_zero]
  · right
    have hb := cutSig_bounds (abs_pos.mpr h)
    simp only [cutOff]
    generalize cutSig |e| = n at *
    rw [BitVec.getLsbD_ofNat]
    have : n.testBit 63 = true := by
      rw [Nat.testBit_eq_decide_div_mod_eq]
      simp; omega
    simp [this]

/-- A family as R672 (c) asks for exists. -/
theorem x87Model_exists : Nonempty X87Model :=
  ⟨{ family := fun fn x y _ => cutOff (exactFn fn (numOf x).real (numOf y).real)
     good := {
       normal := fun _ _ _ _ => cutOff_normal _
       close := fun _ _ _ _ => cutOff_close _
       rising := fun _ _ _ _ _ h m => cutOff_mono (m ⟨le_refl _, h⟩ ⟨h, le_refl _⟩ h)
       falling := fun _ _ _ _ _ h m => cutOff_mono (m ⟨le_refl _, h⟩ ⟨h, le_refl _⟩ h)
       rising2 := fun _ _ _ _ _ h m => cutOff_mono (m ⟨le_refl _, h⟩ ⟨h, le_refl _⟩ h)
       falling2 := fun _ _ _ _ _ h m => cutOff_mono (m ⟨le_refl _, h⟩ ⟨h, le_refl _⟩ h) } }⟩

end Sys2Proof.Machine

namespace Sys2Proof

/-- X87_FN: any family that R672 (c) admits, as there is one (assumption log 20). A free value: nothing else is known of it. -/
opaque Config.x87 [Nonempty Machine.X87Model] : Machine.X87Model

end Sys2Proof

namespace Sys2Proof.Machine

/-- X87_FN of this machine (R672). -/
def x87Fn (fn : X87Fn) (x y : Ext) (rc : Rc) : Approx := (@Config.x87 x87Model_exists).family fn x y rc

/-- X87_FN at the operands that a transcendental instruction begun now would have: ST(0), ST(1) and RC. -/
def x87Answers (f : Fpu) : X87Answers :=
  let at_ := fun fn => x87Fn fn (f.st 0) (f.st 1) (rcOf f.fcw)
  { f2xm1 := at_ .f2xm1, fyl2x := at_ .fyl2x, fyl2xp1 := at_ .fyl2xp1, ftan := at_ .ftan, fatan := at_ .fatan,
    fsin := at_ .fsin, fcos := at_ .fcos }

end Sys2Proof.Machine

end
end

