-- ==== Sys2Proof/Machine/Cycle.lean ====
section
/-!
DEFINITION. One step in its order (60_exceptions.md R732 to R739, 70_reset_and_hazards.md R820): the events of the
instruction boundary, then one instruction or one iteration of a repeated string instruction.
-/

noncomputable section

namespace Sys2Proof.Machine

/-! ### Events at a boundary (R736) -/

/-- The end of an event's delivery: all it leaves pending is the trap of the T bit of a task it entered (44_control.md R496
(8), R761 (d)). -/
def State.delivered (t : State) : State :=
  { t with
    pending := if t.ins.taskTrap ∧ t.run ≠ .shutdown then
        { Pending.none with task := true, cs := t.segs.cs.selector, eip := t.eip } else .none,
    ins := .none }

/-- Deliver an event that is no exception; an exception of its delivery is delivered as itself (R740), to return to
`back`. -/
def takeEvent (d : Delivery) (back : FarPtr) (s : State) : State :=
  let s := { s with ins := .none, inRep := false }
  State.delivered (match deliver d s with
    | .ok _ t => t
    | .error (.exc b committed) t =>
        if committed then takeExn nesting b t.here t else takeExn nesting b back (rollback s t)
    | .error _ t => t.shutDown)

/-- A trap of the last instruction is pending. -/
def Pending.any (p : Pending) : Bool := p.step || p.task || decide (p.data ≠ 0)

/-- The DR6 bits of the pending traps (R761): BS, BT and B0 to B3. -/
def Pending.dr6 (p : Pending) : Word := bitAt p.step 14 ||| bitAt p.task 15 ||| p.data.setWidth 32

/-- #DB for the pending traps: if its delivery fails the instruction that caused them is returned to (R723). -/
def takeTrap (s : State) : State :=
  takeEvent { vec := 1, kind := .trap, ec := none, ret := s.here, rf := false } { sel := s.pending.cs, off := s.pending.eip }
    (State.reportDebug { s with pending := .none } s.pending.dr6 s.pending.loose)

/-- NMI may be taken (R735 (c), R737): after STI by STI_SHADOW_BLOCKS_NMI, after a load of SS by that
parameter (R17, U24) or never (R735 (c)), as the model's parameter says (log 4). -/
def State.nmiReady (s : State) : Bool :=
  s.nmiPending && !s.nmiBlocked && match s.shadow with
    | .none => true
    | .ssLoad => !(s.cfg.stiShadowBlocksNmi || s.cfg.ssShadowBlocksNmi)
    | .sti => !s.cfg.stiShadowBlocksNmi

/-- Take NMI (R737); a processor in shutdown stays there if the delivery fails (R742). DESIGN CHOICE (log 28): nothing of the
failed delivery remains then, not even of a task switch it had completed. -/
def takeNmi (s : State) : State :=
  let d : Delivery := { vec := 2, kind := .nmi, ec := none, ret := s.here, rf := s.inRep }
  let s := { s with nmiPending := false, nmiBlocked := true }
  if s.run = .shutdown then
    match deliver d { s with ins := .none, inRep := false } with
    | .ok _ t => t.delivered
    | .error _ _ => s
  else takeEvent d s.here s

/-- INTR may be taken (R738). -/
def State.intrReady (s : State) : Bool :=
  s.intr && s.flags.ifl && decide (s.shadow = .none) && decide (s.run ≠ .shutdown)

/-- Acknowledge and take INTR (R738): the platform answers the vector. -/
def takeIntr (s : State) : State :=
  takeEvent { vec := Config.intAck s.draws, kind := .intr, ec := none, ret := s.here, rf := s.inRep } s.here
    { s with draws := s.draws + 1 }

/-- The first event that is due at the boundary, delivered (R736); none when none is. Reset comes before all others, in any
run state (70_reset_and_hazards.md R800). -/
def boundary (s : State) : Option State :=
  if let some p := s.resetIn then some (s.resetBy p)
  else if s.pending.any && decide (s.run ≠ .shutdown) then some (takeTrap s)
  else if s.nmiReady then some (takeNmi s)
  else if s.intrReady then some (takeIntr s)
  else none

/-! ### One instruction -/

/-- Run a list of instructions one after another: the prefixes of an instruction, then itself. -/
def runAll : List Instr → State → Host.Outcome State Fault Refusal
  | [], s => .next s
  | i :: is, s =>
      match exec i s with
      | .next t => runAll is t
      | .fault f => .fault f
      | .refused r => .refused r

/-- The state in which an instruction starts: the shadow and the repetition of the one before are over. -/
def State.starting (s : State) : State :=
  { s with ins := { Ins.none with curEip := s.eip, loose := s.execLoose }, inRep := false, shadow := .none }

/-- What the instruction that began at `s` leaves pending (R731, R761); a fault and a software interrupt leave no
single-step trap (R733). DESIGN CHOICE (log 25): the trap of a TSS with T = 1 stays where the task just entered faults on its
selectors. -/
def pendingAfter (s t : State) : Pending :=
  { step := s.flags.tf && decide (t.ins.event = .none), task := t.ins.taskTrap,
    data := if t.ins.event = .fault then 0 else t.ins.hits,
    loose := if t.ins.event = .fault then 0 else t.ins.loose, cs := s.segs.cs.selector, eip := s.eip }

/-- The end of the instruction that began at `s` and reached `t`: RF is cleared on completion (R734), a second shadow in
a row is not made (R735 (d)), a load of SS discards the traps pending (R735 (c)), shutdown has none. -/
def settle (s t : State) : State :=
  let shadow := if s.shadow = .none then t.shadow else .none
  { t with
    flags := if t.ins.event = .none && !t.ins.keepRf && !t.inRep then { t.flags with rf := false } else t.flags,
    shadow := shadow,
    pending := if shadow = .ssLoad ∨ t.run = .shutdown then .none else pendingAfter s t,
    ins := .none }

/-- The end of an instruction, for each outcome. -/
def settleOutcome (s : State) : Host.Outcome State Fault Refusal → Host.Outcome State Fault Refusal
  | .next t => .next (settle s t)
  | .fault f => .fault f
  | .refused r => .refused r

/-- The state in which the fetched instruction is executed. -/
def Fetched.entry (f : Fetched) (t : State) : State :=
  { t with ins := { t.ins with nextEip := t.eip + BitVec.ofNat 32 f.length, fop := f.fop, sysLog := [],
                               x87 := x87Answers t.fpu } }

/-- The instructions a fetched one stands for: its prefixes, then itself. -/
def Fetched.all (f : Fetched) : List Instr := f.prefixes.map (prefixInstr f.instr) ++ [f.instr]

/-- Fetch and run one instruction (R736 (4) to (9)). -/
def runOne (s : State) : Host.Outcome State Fault Refusal :=
  let s0 := s.starting
  if s.execHits ≠ 0 then .next (settle s (takeFault (.breakpoint s.execHits) false s0 s0))
  else match fetch s0 with
    | .ok f t => settleOutcome s (runAll f.all (f.entry t))
    | .error (.exc e committed) t => .next (settle s (takeFault e committed s0 t))
    | .error .wait t => .next t
    | .error (.refuse r) _ => .refused r

/-- The machine's step: a boundary event, or one instruction when the machine runs (70_reset_and_hazards.md R820). -/
def cycle (s : State) : Host.Outcome State Fault Refusal :=
  match boundary s with
  | some t => .next t
  | none => if s.run = .running then runOne s else .next s

end Sys2Proof.Machine

end
end

