-- ==== Sys2Proof/Machine/Step.lean ====
section
/-!
DEFINITION. The step function (70_reset_and_hazards.md R820), and where the host places an instruction to be run.
-/

noncomputable section

namespace Sys2Proof.Machine

/-- One step of the machine. -/
def step (s : State) : Host.Outcome State Fault Refusal := cycle s

/-- The state with a table word stored where the next step fetches (assumption log 3). -/
def State.withFetchWord (s : State) (nbits w : Nat) : State := placeBytes s (tableBytes nbits w)

end Sys2Proof.Machine

end
end

