-- ==== Sys2Proof/Safety.lean ====
section
/-!
DEFINITION. What statements call a safe run: the machine goes on, and its state stays well formed.
-/

namespace Sys2Proof

open Machine

/-- The outcome is a next state. -/
def goesOn (o : Host.Outcome State Fault Refusal) : Bool :=
  match o with
  | .next _ => true
  | .fault _ => false
  | .refused _ => false

/-- The log of table bytes holds addresses of 32 bits only. -/
def logWf (l : List Host.Cell) : Bool := l.all fun c => decide (c.1 < 2 ^ 32)

/-- The invariant of memory: it is in canonical form, and so is every byte the log may write again. -/
def memoryInv (s : State) : Bool := Memory.wf s.mem && logWf s.ins.sysLog

end Sys2Proof
end

