-- ==== Sys2Proof/Safety/Forms.lean ====
section
/-!
DEFINITION. The forms that statements speak of: each table lists the instructions of one shape with the operands, as the
opcode table of the spec gives them. A width without a size of its own is that of the operand-size attribute `o`.
-/

namespace Sys2Proof.Claims

open Machine

/-- The two-operand forms: operation, width, destination and source (40_arith.md R230 to R234, 41_logic_shift_bit.md
R290 to R292). -/
inductive AluForm (o : Size) : Instr → AluOp → Width → Opnd → Opnd → Prop
  | addRm8R8 (d : RM8) (r : Reg8) : AluForm o (.addRm8R8 d r) .add .w8 (rm8Op d) (.reg8 r)
  | addRmR (d : RM) (r : Reg) : AluForm o (.addRmR d r) .add (widthOf o) (rmOp d) (.reg r)
  | addR8Rm8 (r : Reg8) (m : RM8) : AluForm o (.addR8Rm8 r m) .add .w8 (.reg8 r) (rm8Op m)
  | addRRm (r : Reg) (m : RM) : AluForm o (.addRRm r m) .add (widthOf o) (.reg r) (rmOp m)
  | addAlImm8 (i : BitVec 8) : AluForm o (.addAlImm8 i) .add .w8 (accOp .w8) (.imm (sext i))
  | addEaxImm (i : BitVec 32) : AluForm o (.addEaxImm i) .add (widthOf o) (accOp (widthOf o)) (.imm i)
  | addRm8Imm8 (d : RM8) (i : BitVec 8) : AluForm o (.addRm8Imm8 d i) .add .w8 (rm8Op d) (.imm (sext i))
  | addRmImm (d : RM) (i : BitVec 32) : AluForm o (.addRmImm d i) .add (widthOf o) (rmOp d) (.imm i)
  | addRmImm8 (d : RM) (i : BitVec 8) : AluForm o (.addRmImm8 d i) .add (widthOf o) (rmOp d) (.imm (sext i))
  | orRm8R8 (d : RM8) (r : Reg8) : AluForm o (.orRm8R8 d r) .or .w8 (rm8Op d) (.reg8 r)
  | orRmR (d : RM) (r : Reg) : AluForm o (.orRmR d r) .or (widthOf o) (rmOp d) (.reg r)
  | orR8Rm8 (r : Reg8) (m : RM8) : AluForm o (.orR8Rm8 r m) .or .w8 (.reg8 r) (rm8Op m)
  | orRRm (r : Reg) (m : RM) : AluForm o (.orRRm r m) .or (widthOf o) (.reg r) (rmOp m)
  | orAlImm8 (i : BitVec 8) : AluForm o (.orAlImm8 i) .or .w8 (accOp .w8) (.imm (sext i))
  | orEaxImm (i : BitVec 32) : AluForm o (.orEaxImm i) .or (widthOf o) (accOp (widthOf o)) (.imm i)
  | orRm8Imm8 (d : RM8) (i : BitVec 8) : AluForm o (.orRm8Imm8 d i) .or .w8 (rm8Op d) (.imm (sext i))
  | orRmImm (d : RM) (i : BitVec 32) : AluForm o (.orRmImm d i) .or (widthOf o) (rmOp d) (.imm i)
  | orRmImm8 (d : RM) (i : BitVec 8) : AluForm o (.orRmImm8 d i) .or (widthOf o) (rmOp d) (.imm (sext i))
  | adcRm8R8 (d : RM8) (r : Reg8) : AluForm o (.adcRm8R8 d r) .adc .w8 (rm8Op d) (.reg8 r)
  | adcRmR (d : RM) (r : Reg) : AluForm o (.adcRmR d r) .adc (widthOf o) (rmOp d) (.reg r)
  | adcR8Rm8 (r : Reg8) (m : RM8) : AluForm o (.adcR8Rm8 r m) .adc .w8 (.reg8 r) (rm8Op m)
  | adcRRm (r : Reg) (m : RM) : AluForm o (.adcRRm r m) .adc (widthOf o) (.reg r) (rmOp m)
  | adcAlImm8 (i : BitVec 8) : AluForm o (.adcAlImm8 i) .adc .w8 (accOp .w8) (.imm (sext i))
  | adcEaxImm (i : BitVec 32) : AluForm o (.adcEaxImm i) .adc (widthOf o) (accOp (widthOf o)) (.imm i)
  | adcRm8Imm8 (d : RM8) (i : BitVec 8) : AluForm o (.adcRm8Imm8 d i) .adc .w8 (rm8Op d) (.imm (sext i))
  | adcRmImm (d : RM) (i : BitVec 32) : AluForm o (.adcRmImm d i) .adc (widthOf o) (rmOp d) (.imm i)
  | adcRmImm8 (d : RM) (i : BitVec 8) : AluForm o (.adcRmImm8 d i) .adc (widthOf o) (rmOp d) (.imm (sext i))
  | sbbRm8R8 (d : RM8) (r : Reg8) : AluForm o (.sbbRm8R8 d r) .sbb .w8 (rm8Op d) (.reg8 r)
  | sbbRmR (d : RM) (r : Reg) : AluForm o (.sbbRmR d r) .sbb (widthOf o) (rmOp d) (.reg r)
  | sbbR8Rm8 (r : Reg8) (m : RM8) : AluForm o (.sbbR8Rm8 r m) .sbb .w8 (.reg8 r) (rm8Op m)
  | sbbRRm (r : Reg) (m : RM) : AluForm o (.sbbRRm r m) .sbb (widthOf o) (.reg r) (rmOp m)
  | sbbAlImm8 (i : BitVec 8) : AluForm o (.sbbAlImm8 i) .sbb .w8 (accOp .w8) (.imm (sext i))
  | sbbEaxImm (i : BitVec 32) : AluForm o (.sbbEaxImm i) .sbb (widthOf o) (accOp (widthOf o)) (.imm i)
  | sbbRm8Imm8 (d : RM8) (i : BitVec 8) : AluForm o (.sbbRm8Imm8 d i) .sbb .w8 (rm8Op d) (.imm (sext i))
  | sbbRmImm (d : RM) (i : BitVec 32) : AluForm o (.sbbRmImm d i) .sbb (widthOf o) (rmOp d) (.imm i)
  | sbbRmImm8 (d : RM) (i : BitVec 8) : AluForm o (.sbbRmImm8 d i) .sbb (widthOf o) (rmOp d) (.imm (sext i))
  | andRm8R8 (d : RM8) (r : Reg8) : AluForm o (.andRm8R8 d r) .and .w8 (rm8Op d) (.reg8 r)
  | andRmR (d : RM) (r : Reg) : AluForm o (.andRmR d r) .and (widthOf o) (rmOp d) (.reg r)
  | andR8Rm8 (r : Reg8) (m : RM8) : AluForm o (.andR8Rm8 r m) .and .w8 (.reg8 r) (rm8Op m)
  | andRRm (r : Reg) (m : RM) : AluForm o (.andRRm r m) .and (widthOf o) (.reg r) (rmOp m)
  | andAlImm8 (i : BitVec 8) : AluForm o (.andAlImm8 i) .and .w8 (accOp .w8) (.imm (sext i))
  | andEaxImm (i : BitVec 32) : AluForm o (.andEaxImm i) .and (widthOf o) (accOp (widthOf o)) (.imm i)
  | andRm8Imm8 (d : RM8) (i : BitVec 8) : AluForm o (.andRm8Imm8 d i) .and .w8 (rm8Op d) (.imm (sext i))
  | andRmImm (d : RM) (i : BitVec 32) : AluForm o (.andRmImm d i) .and (widthOf o) (rmOp d) (.imm i)
  | andRmImm8 (d : RM) (i : BitVec 8) : AluForm o (.andRmImm8 d i) .and (widthOf o) (rmOp d) (.imm (sext i))
  | subRm8R8 (d : RM8) (r : Reg8) : AluForm o (.subRm8R8 d r) .sub .w8 (rm8Op d) (.reg8 r)
  | subRmR (d : RM) (r : Reg) : AluForm o (.subRmR d r) .sub (widthOf o) (rmOp d) (.reg r)
  | subR8Rm8 (r : Reg8) (m : RM8) : AluForm o (.subR8Rm8 r m) .sub .w8 (.reg8 r) (rm8Op m)
  | subRRm (r : Reg) (m : RM) : AluForm o (.subRRm r m) .sub (widthOf o) (.reg r) (rmOp m)
  | subAlImm8 (i : BitVec 8) : AluForm o (.subAlImm8 i) .sub .w8 (accOp .w8) (.imm (sext i))
  | subEaxImm (i : BitVec 32) : AluForm o (.subEaxImm i) .sub (widthOf o) (accOp (widthOf o)) (.imm i)
  | subRm8Imm8 (d : RM8) (i : BitVec 8) : AluForm o (.subRm8Imm8 d i) .sub .w8 (rm8Op d) (.imm (sext i))
  | subRmImm (d : RM) (i : BitVec 32) : AluForm o (.subRmImm d i) .sub (widthOf o) (rmOp d) (.imm i)
  | subRmImm8 (d : RM) (i : BitVec 8) : AluForm o (.subRmImm8 d i) .sub (widthOf o) (rmOp d) (.imm (sext i))
  | xorRm8R8 (d : RM8) (r : Reg8) : AluForm o (.xorRm8R8 d r) .xor .w8 (rm8Op d) (.reg8 r)
  | xorRmR (d : RM) (r : Reg) : AluForm o (.xorRmR d r) .xor (widthOf o) (rmOp d) (.reg r)
  | xorR8Rm8 (r : Reg8) (m : RM8) : AluForm o (.xorR8Rm8 r m) .xor .w8 (.reg8 r) (rm8Op m)
  | xorRRm (r : Reg) (m : RM) : AluForm o (.xorRRm r m) .xor (widthOf o) (.reg r) (rmOp m)
  | xorAlImm8 (i : BitVec 8) : AluForm o (.xorAlImm8 i) .xor .w8 (accOp .w8) (.imm (sext i))
  | xorEaxImm (i : BitVec 32) : AluForm o (.xorEaxImm i) .xor (widthOf o) (accOp (widthOf o)) (.imm i)
  | xorRm8Imm8 (d : RM8) (i : BitVec 8) : AluForm o (.xorRm8Imm8 d i) .xor .w8 (rm8Op d) (.imm (sext i))
  | xorRmImm (d : RM) (i : BitVec 32) : AluForm o (.xorRmImm d i) .xor (widthOf o) (rmOp d) (.imm i)
  | xorRmImm8 (d : RM) (i : BitVec 8) : AluForm o (.xorRmImm8 d i) .xor (widthOf o) (rmOp d) (.imm (sext i))
  | cmpRm8R8 (d : RM8) (r : Reg8) : AluForm o (.cmpRm8R8 d r) .cmp .w8 (rm8Op d) (.reg8 r)
  | cmpRmR (d : RM) (r : Reg) : AluForm o (.cmpRmR d r) .cmp (widthOf o) (rmOp d) (.reg r)
  | cmpR8Rm8 (r : Reg8) (m : RM8) : AluForm o (.cmpR8Rm8 r m) .cmp .w8 (.reg8 r) (rm8Op m)
  | cmpRRm (r : Reg) (m : RM) : AluForm o (.cmpRRm r m) .cmp (widthOf o) (.reg r) (rmOp m)
  | cmpAlImm8 (i : BitVec 8) : AluForm o (.cmpAlImm8 i) .cmp .w8 (accOp .w8) (.imm (sext i))
  | cmpEaxImm (i : BitVec 32) : AluForm o (.cmpEaxImm i) .cmp (widthOf o) (accOp (widthOf o)) (.imm i)
  | cmpRm8Imm8 (d : RM8) (i : BitVec 8) : AluForm o (.cmpRm8Imm8 d i) .cmp .w8 (rm8Op d) (.imm (sext i))
  | cmpRmImm (d : RM) (i : BitVec 32) : AluForm o (.cmpRmImm d i) .cmp (widthOf o) (rmOp d) (.imm i)
  | cmpRmImm8 (d : RM) (i : BitVec 8) : AluForm o (.cmpRmImm8 d i) .cmp (widthOf o) (rmOp d) (.imm (sext i))

/-- The forms of TEST: width and operands (R294). -/
inductive TestForm (o : Size) : Instr → Width → Opnd → Opnd → Prop
  | testAlImm8 (i : BitVec 8) : TestForm o (.testAlImm8 i) .w8 (accOp .w8) (.imm (sext i))
  | testEaxImm (i : BitVec 32) : TestForm o (.testEaxImm i) (widthOf o) (accOp (widthOf o)) (.imm i)
  | testRm8Imm8 (d : RM8) (i : BitVec 8) : TestForm o (.testRm8Imm8 d i) .w8 (rm8Op d) (.imm (sext i))
  | testRmImm (d : RM) (i : BitVec 32) : TestForm o (.testRmImm d i) (widthOf o) (rmOp d) (.imm i)
  | testRm8R8 (d : RM8) (r : Reg8) : TestForm o (.testRm8R8 d r) .w8 (rm8Op d) (.reg8 r)
  | testRmR (d : RM) (r : Reg) : TestForm o (.testRmR d r) (widthOf o) (rmOp d) (.reg r)

/-- The one-operand operations. -/
inductive UnaryOp
  | inc | dec | neg | not
  deriving DecidableEq, Repr

/-- The one-operand forms: operation, width, operand (R235 to R237, R293). -/
inductive UnaryForm (o : Size) : Instr → UnaryOp → Width → Opnd → Prop
  | incRm8 (d : RM8) : UnaryForm o (.incRm8 d) .inc .w8 (rm8Op d)
  | incRm (d : RM) : UnaryForm o (.incRm d) .inc (widthOf o) (rmOp d)
  | incR (r : Reg) : UnaryForm o (.incR r) .inc (widthOf o) (.reg r)
  | decRm8 (d : RM8) : UnaryForm o (.decRm8 d) .dec .w8 (rm8Op d)
  | decRm (d : RM) : UnaryForm o (.decRm d) .dec (widthOf o) (rmOp d)
  | decR (r : Reg) : UnaryForm o (.decR r) .dec (widthOf o) (.reg r)
  | negRm8 (d : RM8) : UnaryForm o (.negRm8 d) .neg .w8 (rm8Op d)
  | negRm (d : RM) : UnaryForm o (.negRm d) .neg (widthOf o) (rmOp d)
  | notRm8 (d : RM8) : UnaryForm o (.notRm8 d) .not .w8 (rm8Op d)
  | notRm (d : RM) : UnaryForm o (.notRm d) .not (widthOf o) (rmOp d)

/-- MUL and one-operand IMUL: whether signed, width, source (R238, R239). -/
inductive MulForm (o : Size) : Instr → Bool → Width → Opnd → Prop
  | mulRm8 (d : RM8) : MulForm o (.mulRm8 d) false .w8 (rm8Op d)
  | mulRm (d : RM) : MulForm o (.mulRm d) false (widthOf o) (rmOp d)
  | imulRm8 (d : RM8) : MulForm o (.imulRm8 d) true .w8 (rm8Op d)
  | imulRm (d : RM) : MulForm o (.imulRm d) true (widthOf o) (rmOp d)

/-- IMUL with a destination register: width, destination, the two factors (R240, R241). -/
inductive ImulForm (o : Size) : Instr → Width → Reg → Opnd → Opnd → Prop
  | imulRRm (r : Reg) (m : RM) : ImulForm o (.imulRRm r m) (widthOf o) r (.reg r) (rmOp m)
  | imulRRmImm8 (r : Reg) (m : RM) (i : BitVec 8) : ImulForm o (.imulRRmImm8 r m i) (widthOf o) r (rmOp m) (.imm (sext i))
  | imulRRmImm (r : Reg) (m : RM) (i : BitVec 32) : ImulForm o (.imulRRmImm r m i) (widthOf o) r (rmOp m) (.imm i)

/-- DIV and IDIV: whether signed, width, divisor (R242, R243). -/
inductive DivForm (o : Size) : Instr → Bool → Width → Opnd → Prop
  | divRm8 (d : RM8) : DivForm o (.divRm8 d) false .w8 (rm8Op d)
  | divRm (d : RM) : DivForm o (.divRm d) false (widthOf o) (rmOp d)
  | idivRm8 (d : RM8) : DivForm o (.idivRm8 d) true .w8 (rm8Op d)
  | idivRm (d : RM) : DivForm o (.idivRm d) true (widthOf o) (rmOp d)

/-- Where a shift count comes from. -/
inductive Count
  | one | cl | imm (i : Byte)
  deriving DecidableEq, Repr

/-- The shifts and rotates: operation, width, operand, count (41_logic_shift_bit.md R295 to R303). -/
inductive ShiftForm (o : Size) : Instr → ShiftOp → Width → Opnd → Count → Prop
  | rolRm8One (d : RM8) : ShiftForm o (.rolRm8One d) .rol .w8 (rm8Op d) .one
  | rolRm8Cl (d : RM8) : ShiftForm o (.rolRm8Cl d) .rol .w8 (rm8Op d) .cl
  | rolRm8Imm8 (d : RM8) (i : BitVec 8) : ShiftForm o (.rolRm8Imm8 d i) .rol .w8 (rm8Op d) (.imm i)
  | rolRmOne (d : RM) : ShiftForm o (.rolRmOne d) .rol (widthOf o) (rmOp d) .one
  | rolRmCl (d : RM) : ShiftForm o (.rolRmCl d) .rol (widthOf o) (rmOp d) .cl
  | rolRmImm8 (d : RM) (i : BitVec 8) : ShiftForm o (.rolRmImm8 d i) .rol (widthOf o) (rmOp d) (.imm i)
  | rorRm8One (d : RM8) : ShiftForm o (.rorRm8One d) .ror .w8 (rm8Op d) .one
  | rorRm8Cl (d : RM8) : ShiftForm o (.rorRm8Cl d) .ror .w8 (rm8Op d) .cl
  | rorRm8Imm8 (d : RM8) (i : BitVec 8) : ShiftForm o (.rorRm8Imm8 d i) .ror .w8 (rm8Op d) (.imm i)
  | rorRmOne (d : RM) : ShiftForm o (.rorRmOne d) .ror (widthOf o) (rmOp d) .one
  | rorRmCl (d : RM) : ShiftForm o (.rorRmCl d) .ror (widthOf o) (rmOp d) .cl
  | rorRmImm8 (d : RM) (i : BitVec 8) : ShiftForm o (.rorRmImm8 d i) .ror (widthOf o) (rmOp d) (.imm i)
  | rclRm8One (d : RM8) : ShiftForm o (.rclRm8One d) .rcl .w8 (rm8Op d) .one
  | rclRm8Cl (d : RM8) : ShiftForm o (.rclRm8Cl d) .rcl .w8 (rm8Op d) .cl
  | rclRm8Imm8 (d : RM8) (i : BitVec 8) : ShiftForm o (.rclRm8Imm8 d i) .rcl .w8 (rm8Op d) (.imm i)
  | rclRmOne (d : RM) : ShiftForm o (.rclRmOne d) .rcl (widthOf o) (rmOp d) .one
  | rclRmCl (d : RM) : ShiftForm o (.rclRmCl d) .rcl (widthOf o) (rmOp d) .cl
  | rclRmImm8 (d : RM) (i : BitVec 8) : ShiftForm o (.rclRmImm8 d i) .rcl (widthOf o) (rmOp d) (.imm i)
  | rcrRm8One (d : RM8) : ShiftForm o (.rcrRm8One d) .rcr .w8 (rm8Op d) .one
  | rcrRm8Cl (d : RM8) : ShiftForm o (.rcrRm8Cl d) .rcr .w8 (rm8Op d) .cl
  | rcrRm8Imm8 (d : RM8) (i : BitVec 8) : ShiftForm o (.rcrRm8Imm8 d i) .rcr .w8 (rm8Op d) (.imm i)
  | rcrRmOne (d : RM) : ShiftForm o (.rcrRmOne d) .rcr (widthOf o) (rmOp d) .one
  | rcrRmCl (d : RM) : ShiftForm o (.rcrRmCl d) .rcr (widthOf o) (rmOp d) .cl
  | rcrRmImm8 (d : RM) (i : BitVec 8) : ShiftForm o (.rcrRmImm8 d i) .rcr (widthOf o) (rmOp d) (.imm i)
  | salRm8One (d : RM8) : ShiftForm o (.salRm8One d) .shl .w8 (rm8Op d) .one
  | salRm8Cl (d : RM8) : ShiftForm o (.salRm8Cl d) .shl .w8 (rm8Op d) .cl
  | salRm8Imm8 (d : RM8) (i : BitVec 8) : ShiftForm o (.salRm8Imm8 d i) .shl .w8 (rm8Op d) (.imm i)
  | salRmOne (d : RM) : ShiftForm o (.salRmOne d) .shl (widthOf o) (rmOp d) .one
  | salRmCl (d : RM) : ShiftForm o (.salRmCl d) .shl (widthOf o) (rmOp d) .cl
  | salRmImm8 (d : RM) (i : BitVec 8) : ShiftForm o (.salRmImm8 d i) .shl (widthOf o) (rmOp d) (.imm i)
  | shrRm8One (d : RM8) : ShiftForm o (.shrRm8One d) .shr .w8 (rm8Op d) .one
  | shrRm8Cl (d : RM8) : ShiftForm o (.shrRm8Cl d) .shr .w8 (rm8Op d) .cl
  | shrRm8Imm8 (d : RM8) (i : BitVec 8) : ShiftForm o (.shrRm8Imm8 d i) .shr .w8 (rm8Op d) (.imm i)
  | shrRmOne (d : RM) : ShiftForm o (.shrRmOne d) .shr (widthOf o) (rmOp d) .one
  | shrRmCl (d : RM) : ShiftForm o (.shrRmCl d) .shr (widthOf o) (rmOp d) .cl
  | shrRmImm8 (d : RM) (i : BitVec 8) : ShiftForm o (.shrRmImm8 d i) .shr (widthOf o) (rmOp d) (.imm i)
  | sarRm8One (d : RM8) : ShiftForm o (.sarRm8One d) .sar .w8 (rm8Op d) .one
  | sarRm8Cl (d : RM8) : ShiftForm o (.sarRm8Cl d) .sar .w8 (rm8Op d) .cl
  | sarRm8Imm8 (d : RM8) (i : BitVec 8) : ShiftForm o (.sarRm8Imm8 d i) .sar .w8 (rm8Op d) (.imm i)
  | sarRmOne (d : RM) : ShiftForm o (.sarRmOne d) .sar (widthOf o) (rmOp d) .one
  | sarRmCl (d : RM) : ShiftForm o (.sarRmCl d) .sar (widthOf o) (rmOp d) .cl
  | sarRmImm8 (d : RM) (i : BitVec 8) : ShiftForm o (.sarRmImm8 d i) .sar (widthOf o) (rmOp d) (.imm i)

/-- SHLD (left) and SHRD: width, destination, source register, count (R304, R305). -/
inductive DoubleForm (o : Size) : Instr → Bool → Width → Opnd → Reg → Count → Prop
  | shldRmRImm8 (d : RM) (r : Reg) (i : BitVec 8) : DoubleForm o (.shldRmRImm8 d r i) true (widthOf o) (rmOp d) r (.imm i)
  | shldRmRCl (d : RM) (r : Reg) : DoubleForm o (.shldRmRCl d r) true (widthOf o) (rmOp d) r .cl
  | shrdRmRImm8 (d : RM) (r : Reg) (i : BitVec 8) : DoubleForm o (.shrdRmRImm8 d r i) false (widthOf o) (rmOp d) r (.imm i)
  | shrdRmRCl (d : RM) (r : Reg) : DoubleForm o (.shrdRmRCl d r) false (widthOf o) (rmOp d) r .cl

/-- Where a bit offset comes from. -/
inductive BitIndex
  | reg (r : Reg) | imm (i : Byte)
  deriving DecidableEq, Repr

/-- BT, BTS, BTR, BTC: operation, operand, bit offset (R306 to R310). -/
inductive BitForm : Instr → BitOp → RM → BitIndex → Prop
  | btRmR (d : RM) (r : Reg) : BitForm (.btRmR d r) .test d (.reg r)
  | btRmImm8 (d : RM) (i : BitVec 8) : BitForm (.btRmImm8 d i) .test d (.imm i)
  | btsRmR (d : RM) (r : Reg) : BitForm (.btsRmR d r) .set d (.reg r)
  | btsRmImm8 (d : RM) (i : BitVec 8) : BitForm (.btsRmImm8 d i) .set d (.imm i)
  | btrRmR (d : RM) (r : Reg) : BitForm (.btrRmR d r) .reset d (.reg r)
  | btrRmImm8 (d : RM) (i : BitVec 8) : BitForm (.btrRmImm8 d i) .reset d (.imm i)
  | btcRmR (d : RM) (r : Reg) : BitForm (.btcRmR d r) .complement d (.reg r)
  | btcRmImm8 (d : RM) (i : BitVec 8) : BitForm (.btcRmImm8 d i) .complement d (.imm i)

/-- SETcc: condition and operand (R313). -/
inductive SetForm : Instr → Cond → RM8 → Prop
  | setoRm8 (d : RM8) : SetForm (.setoRm8 d) .o d
  | setnoRm8 (d : RM8) : SetForm (.setnoRm8 d) .no d
  | setbRm8 (d : RM8) : SetForm (.setbRm8 d) .b d
  | setaeRm8 (d : RM8) : SetForm (.setaeRm8 d) .ae d
  | seteRm8 (d : RM8) : SetForm (.seteRm8 d) .e d
  | setneRm8 (d : RM8) : SetForm (.setneRm8 d) .ne d
  | setbeRm8 (d : RM8) : SetForm (.setbeRm8 d) .be d
  | setaRm8 (d : RM8) : SetForm (.setaRm8 d) .a d
  | setsRm8 (d : RM8) : SetForm (.setsRm8 d) .s d
  | setnsRm8 (d : RM8) : SetForm (.setnsRm8 d) .ns d
  | setpRm8 (d : RM8) : SetForm (.setpRm8 d) .p d
  | setnpRm8 (d : RM8) : SetForm (.setnpRm8 d) .np d
  | setlRm8 (d : RM8) : SetForm (.setlRm8 d) .l d
  | setgeRm8 (d : RM8) : SetForm (.setgeRm8 d) .ge d
  | setleRm8 (d : RM8) : SetForm (.setleRm8 d) .le d
  | setgRm8 (d : RM8) : SetForm (.setgRm8 d) .g d

/-- MOV between registers, memory and immediates: width, destination, source (42_data_move.md R350). -/
inductive MoveForm (o : Size) : Instr → Width → Opnd → Opnd → Prop
  | movRm8R8 (d : RM8) (r : Reg8) : MoveForm o (.movRm8R8 d r) .w8 (rm8Op d) (.reg8 r)
  | movR8Rm8 (r : Reg8) (m : RM8) : MoveForm o (.movR8Rm8 r m) .w8 (.reg8 r) (rm8Op m)
  | movR8Imm8 (r : Reg8) (i : BitVec 8) : MoveForm o (.movR8Imm8 r i) .w8 (.reg8 r) (.imm (zext i))
  | movRm8Imm8 (d : RM8) (i : BitVec 8) : MoveForm o (.movRm8Imm8 d i) .w8 (rm8Op d) (.imm (zext i))
  | movRmR (d : RM) (r : Reg) : MoveForm o (.movRmR d r) (widthOf o) (rmOp d) (.reg r)
  | movRRm (r : Reg) (m : RM) : MoveForm o (.movRRm r m) (widthOf o) (.reg r) (rmOp m)
  | movRImm (r : Reg) (i : BitVec 32) : MoveForm o (.movRImm r i) (widthOf o) (.reg r) (.imm i)
  | movRmImm (d : RM) (i : BitVec 32) : MoveForm o (.movRmImm d i) (widthOf o) (rmOp d) (.imm i)

/-- MOVSX (signed) and MOVZX: the narrow width, the destination, the source (R356, R357). -/
inductive ExtendForm : Instr → Bool → Width → Reg → Opnd → Prop
  | movsxRRm8 (r : Reg) (m : RM8) : ExtendForm (.movsxRRm8 r m) true .w8 r (rm8Op m)
  | movsxRRm16 (r : Reg) (m : RM) : ExtendForm (.movsxRRm16 r m) true .w16 r (rmOp m)
  | movzxRRm8 (r : Reg) (m : RM8) : ExtendForm (.movzxRRm8 r m) false .w8 r (rm8Op m)
  | movzxRRm16 (r : Reg) (m : RM) : ExtendForm (.movzxRRm16 r m) false .w16 r (rmOp m)

/-- XCHG: width, operand, register operand (R358). -/
inductive ExchangeForm (o : Size) : Instr → Width → Opnd → Opnd → Prop
  | xchgEaxR (r : Reg) : ExchangeForm o (.xchgEaxR r) (widthOf o) (.reg .eax) (.reg r)
  | xchgRm8R8 (d : RM8) (r : Reg8) : ExchangeForm o (.xchgRm8R8 d r) .w8 (rm8Op d) (.reg8 r)
  | xchgRmR (d : RM) (r : Reg) : ExchangeForm o (.xchgRmR d r) (widthOf o) (rmOp d) (.reg r)

/-- PUSH of a register, memory or immediate: the source (R362). -/
inductive PushForm : Instr → Opnd → Prop
  | pushRm (d : RM) : PushForm (.pushRm d) (rmOp d)
  | pushR (r : Reg) : PushForm (.pushR r) (.reg r)
  | pushImm8 (i : BitVec 8) : PushForm (.pushImm8 i) (.imm (sext i))
  | pushImm (i : BitVec 32) : PushForm (.pushImm i) (.imm i)

/-- PUSH of a segment register (R363). -/
inductive PushSegForm : Instr → SReg → Prop
  | pushEs : PushSegForm .pushEs .es
  | pushCs : PushSegForm .pushCs .cs
  | pushSs : PushSegForm .pushSs .ss
  | pushDs : PushSegForm .pushDs .ds
  | pushFs : PushSegForm .pushFs .fs
  | pushGs : PushSegForm .pushGs .gs

/-- POP to a register or memory: the destination (R364). -/
inductive PopForm : Instr → Opnd → Prop
  | popRm (d : RM) : PopForm (.popRm d) (rmOp d)
  | popR (r : Reg) : PopForm (.popR r) (.reg r)

/-- POP of a segment register (R365). -/
inductive PopSegForm : Instr → SReg → Prop
  | popEs : PopSegForm .popEs .es
  | popSs : PopSegForm .popSs .ss
  | popDs : PopSegForm .popDs .ds
  | popFs : PopSegForm .popFs .fs
  | popGs : PopSegForm .popGs .gs

/-- LDS, LES, LFS, LGS, LSS: register, segment register, operand (R372 to R376). -/
inductive FarLoadForm : Instr → Reg → SReg → MemOp → Prop
  | ldsRM (r : Reg) (m : MemOp) : FarLoadForm (.ldsRM r m) r .ds m
  | lesRM (r : Reg) (m : MemOp) : FarLoadForm (.lesRM r m) r .es m
  | lfsRM (r : Reg) (m : MemOp) : FarLoadForm (.lfsRM r m) r .fs m
  | lgsRM (r : Reg) (m : MemOp) : FarLoadForm (.lgsRM r m) r .gs m
  | lssRM (r : Reg) (m : MemOp) : FarLoadForm (.lssRM r m) r .ss m

/-- The string operations. -/
inductive StringOp
  | movs | cmps | stos | lods | scas | ins | outs
  deriving DecidableEq, Repr

/-- The string instructions: operation and width (43_string_io.md R421 to R425, R429, R430). -/
inductive StringForm (o : Size) : Instr → StringOp → Width → Prop
  | movsb : StringForm o .movsb .movs .w8
  | movswMovsd : StringForm o .movswMovsd .movs (widthOf o)
  | cmpsb : StringForm o .cmpsb .cmps .w8
  | cmpswCmpsd : StringForm o .cmpswCmpsd .cmps (widthOf o)
  | stosb : StringForm o .stosb .stos .w8
  | stoswStosd : StringForm o .stoswStosd .stos (widthOf o)
  | lodsb : StringForm o .lodsb .lods .w8
  | lodswLodsd : StringForm o .lodswLodsd .lods (widthOf o)
  | scasb : StringForm o .scasb .scas .w8
  | scaswScasd : StringForm o .scaswScasd .scas (widthOf o)
  | insb : StringForm o .insb .ins .w8
  | inswInsd : StringForm o .inswInsd .ins (widthOf o)
  | outsb : StringForm o .outsb .outs .w8
  | outswOutsd : StringForm o .outswOutsd .outs (widthOf o)

/-- Where a port number comes from. -/
inductive Port
  | dx | imm (i : Byte)
  deriving DecidableEq, Repr

/-- IN: width and port (43_string_io.md R427). -/
inductive InForm (o : Size) : Instr → Width → Port → Prop
  | inAlImm8 (i : BitVec 8) : InForm o (.inAlImm8 i) .w8 (.imm i)
  | inEaxImm8 (i : BitVec 8) : InForm o (.inEaxImm8 i) (widthOf o) (.imm i)
  | inAlDx : InForm o .inAlDx .w8 .dx
  | inEaxDx : InForm o .inEaxDx (widthOf o) .dx

/-- OUT: width and port (R428). -/
inductive OutForm (o : Size) : Instr → Width → Port → Prop
  | outImm8Al (i : BitVec 8) : OutForm o (.outImm8Al i) .w8 (.imm i)
  | outImm8Eax (i : BitVec 8) : OutForm o (.outImm8Eax i) (widthOf o) (.imm i)
  | outDxAl : OutForm o .outDxAl .w8 .dx
  | outDxEax : OutForm o .outDxEax (widthOf o) .dx

/-- Jcc: condition and displacement (44_control.md R472). -/
inductive JccForm : Instr → Cond → Word → Prop
  | joRel8 (i : BitVec 8) : JccForm (.joRel8 i) .o (sext i)
  | joRel (i : BitVec 32) : JccForm (.joRel i) .o i
  | jnoRel8 (i : BitVec 8) : JccForm (.jnoRel8 i) .no (sext i)
  | jnoRel (i : BitVec 32) : JccForm (.jnoRel i) .no i
  | jbRel8 (i : BitVec 8) : JccForm (.jbRel8 i) .b (sext i)
  | jbRel (i : BitVec 32) : JccForm (.jbRel i) .b i
  | jaeRel8 (i : BitVec 8) : JccForm (.jaeRel8 i) .ae (sext i)
  | jaeRel (i : BitVec 32) : JccForm (.jaeRel i) .ae i
  | jeRel8 (i : BitVec 8) : JccForm (.jeRel8 i) .e (sext i)
  | jeRel (i : BitVec 32) : JccForm (.jeRel i) .e i
  | jneRel8 (i : BitVec 8) : JccForm (.jneRel8 i) .ne (sext i)
  | jneRel (i : BitVec 32) : JccForm (.jneRel i) .ne i
  | jbeRel8 (i : BitVec 8) : JccForm (.jbeRel8 i) .be (sext i)
  | jbeRel (i : BitVec 32) : JccForm (.jbeRel i) .be i
  | jaRel8 (i : BitVec 8) : JccForm (.jaRel8 i) .a (sext i)
  | jaRel (i : BitVec 32) : JccForm (.jaRel i) .a i
  | jsRel8 (i : BitVec 8) : JccForm (.jsRel8 i) .s (sext i)
  | jsRel (i : BitVec 32) : JccForm (.jsRel i) .s i
  | jnsRel8 (i : BitVec 8) : JccForm (.jnsRel8 i) .ns (sext i)
  | jnsRel (i : BitVec 32) : JccForm (.jnsRel i) .ns i
  | jpRel8 (i : BitVec 8) : JccForm (.jpRel8 i) .p (sext i)
  | jpRel (i : BitVec 32) : JccForm (.jpRel i) .p i
  | jnpRel8 (i : BitVec 8) : JccForm (.jnpRel8 i) .np (sext i)
  | jnpRel (i : BitVec 32) : JccForm (.jnpRel i) .np i
  | jlRel8 (i : BitVec 8) : JccForm (.jlRel8 i) .l (sext i)
  | jlRel (i : BitVec 32) : JccForm (.jlRel i) .l i
  | jgeRel8 (i : BitVec 8) : JccForm (.jgeRel8 i) .ge (sext i)
  | jgeRel (i : BitVec 32) : JccForm (.jgeRel i) .ge i
  | jleRel8 (i : BitVec 8) : JccForm (.jleRel8 i) .le (sext i)
  | jleRel (i : BitVec 32) : JccForm (.jleRel i) .le i
  | jgRel8 (i : BitVec 8) : JccForm (.jgRel8 i) .g (sext i)
  | jgRel (i : BitVec 32) : JccForm (.jgRel i) .g i

/-- LOOP, LOOPE, LOOPNE: what ZF must be, and the displacement (R475 to R477). -/
inductive LoopForm : Instr → Option Bool → Word → Prop
  | loopRel8 (i : BitVec 8) : LoopForm (.loopRel8 i) none (sext i)
  | loopeRel8 (i : BitVec 8) : LoopForm (.loopeRel8 i) (some true) (sext i)
  | loopneRel8 (i : BitVec 8) : LoopForm (.loopneRel8 i) (some false) (sext i)

/-- JMP near: relative by a displacement, or to an operand (R470, R471). -/
inductive JumpForm : Instr → Word ⊕ Opnd → Prop
  | jmpRel8 (i : BitVec 8) : JumpForm (.jmpRel8 i) (.inl (sext i))
  | jmpRel (i : BitVec 32) : JumpForm (.jmpRel i) (.inl i)
  | jmpRm (d : RM) : JumpForm (.jmpRm d) (.inr (rmOp d))

/-- CALL near: relative by a displacement, or to an operand (R478). -/
inductive CallForm : Instr → Word ⊕ Opnd → Prop
  | callRel (i : BitVec 32) : CallForm (.callRel i) (.inl i)
  | callRm (d : RM) : CallForm (.callRm d) (.inr (rmOp d))

/-- RET near: the bytes released (R479). -/
inductive RetForm : Instr → Half → Prop
  | retNear : RetForm .retNear 0
  | retNearImm16 (i : BitVec 16) : RetForm (.retNearImm16 i) i

/-- JMP and CALL far to an immediate pointer (R482, R487). -/
inductive FarForm : Instr → FarKind → Half → Word → Prop
  | jmpPtr (sel : BitVec 16) (off : BitVec 32) : FarForm (.jmpPtr sel off) .jmp sel off
  | callPtr (sel : BitVec 16) (off : BitVec 32) : FarForm (.callPtr sel off) .call sel off

/-- JMP and CALL far through a pointer in memory (R474). -/
inductive FarMemForm : Instr → FarKind → MemOp → Prop
  | jmpMFar (m : MemOp) : FarMemForm (.jmpMFar m) .jmp m
  | callMFar (m : MemOp) : FarMemForm (.callMFar m) .call m

/-- RET far: the bytes released (R493). -/
inductive RetFarForm : Instr → Half → Prop
  | retFar : RetFarForm .retFar 0
  | retFarImm16 (i : BitVec 16) : RetFarForm (.retFarImm16 i) i

/-- The prefixes, and what each records of the instruction in progress (30_encoding.md R160, R170 to R176). -/
inductive PrefixForm : Instr → (Ins → Ins) → Prop
  | rep : PrefixForm .rep (fun i => { i with rep := some .rep })
  | repe : PrefixForm .repe (fun i => { i with rep := some .rep })
  | repne : PrefixForm .repne (fun i => { i with rep := some .repne })
  | lock : PrefixForm .lock (fun i => { i with lock := true })
  | segEs : PrefixForm .segEs (fun i => { i with seg := some .es })
  | segCs : PrefixForm .segCs (fun i => { i with seg := some .cs })
  | segSs : PrefixForm .segSs (fun i => { i with seg := some .ss })
  | segDs : PrefixForm .segDs (fun i => { i with seg := some .ds })
  | segFs : PrefixForm .segFs (fun i => { i with seg := some .fs })
  | segGs : PrefixForm .segGs (fun i => { i with seg := some .gs })
  | opsize : PrefixForm .opsize (fun i => { i with opsize := true })
  | adsize : PrefixForm .adsize (fun i => { i with adsize := true })

/-- The instructions allowed in real-address mode and at CPL 0 only (45_system.md R540, 44_control.md R515). -/
inductive PrivilegedForm : Instr → Prop
  | lgdtM (m : MemOp) : PrivilegedForm (.lgdtM m)
  | lidtM (m : MemOp) : PrivilegedForm (.lidtM m)
  | lmswRm16 (d : RM) : PrivilegedForm (.lmswRm16 d)
  | clts : PrivilegedForm .clts
  | movRCr (r : Reg) (c : CReg) : PrivilegedForm (.movRCr r c)
  | movCrR (c : CReg) (r : Reg) : PrivilegedForm (.movCrR c r)
  | movRDr (r : Reg) (n : BitVec 3) : PrivilegedForm (.movRDr r n)
  | movDrR (n : BitVec 3) (r : Reg) : PrivilegedForm (.movDrR n r)
  | hlt : PrivilegedForm .hlt

/-- The instructions not recognized outside protected mode (R540). -/
inductive ProtectedForm : Instr → Prop
  | sldtRm16 (d : RM) : ProtectedForm (.sldtRm16 d)
  | strRm16 (d : RM) : ProtectedForm (.strRm16 d)
  | lldtRm16 (d : RM) : ProtectedForm (.lldtRm16 d)
  | ltrRm16 (d : RM) : ProtectedForm (.ltrRm16 d)
  | verrRm16 (d : RM) : ProtectedForm (.verrRm16 d)
  | verwRm16 (d : RM) : ProtectedForm (.verwRm16 d)
  | larRRm16 (r : Reg) (m : RM) : ProtectedForm (.larRRm16 r m)
  | lslRRm16 (r : Reg) (m : RM) : ProtectedForm (.lslRRm16 r m)
  | arplRm16R16 (d : RM) (r : Reg) : ProtectedForm (.arplRm16R16 d r)

/-- The constant loads: the value by RC (46_x87_a.md R621 to R627). -/
inductive ConstForm : Instr → (Rc → Ext) → Prop
  | fld1 : ConstForm .fld1 (fun _ => extOne)
  | fldl2t : ConstForm .fldl2t constL2T
  | fldl2e : ConstForm .fldl2e constL2E
  | fldpi : ConstForm .fldpi constPi
  | fldlg2 : ConstForm .fldlg2 constLg2
  | fldln2 : ConstForm .fldln2 constLn2
  | fldz : ConstForm .fldz (fun _ => extZero false)

/-- What a load from memory takes its value from. -/
inductive LoadFmt
  | real (f : Fmt) | ext | int (n : Nat) | bcd
  deriving DecidableEq, Repr

/-- The loads from memory: format and operand (R620, R630, R633). -/
inductive FldForm : Instr → LoadFmt → MemOp → Prop
  | fldM32 (m : MemOp) : FldForm (.fldM32 m) (.real fmtSingle) m
  | fldM64 (m : MemOp) : FldForm (.fldM64 m) (.real fmtDouble) m
  | fldM80 (m : MemOp) : FldForm (.fldM80 m) .ext m
  | fildM16 (m : MemOp) : FldForm (.fildM16 m) (.int 2) m
  | fildM32 (m : MemOp) : FldForm (.fildM32 m) (.int 4) m
  | fildM64 (m : MemOp) : FldForm (.fildM64 m) (.int 8) m
  | fbldM80 (m : MemOp) : FldForm (.fbldM80 m) .bcd m

/-- The stores to memory: format, operand, and whether ST(0) is popped (R628 to R634). -/
inductive FstForm : Instr → LoadFmt → MemOp → Bool → Prop
  | fstM32 (m : MemOp) : FstForm (.fstM32 m) (.real fmtSingle) m false
  | fstM64 (m : MemOp) : FstForm (.fstM64 m) (.real fmtDouble) m false
  | fstpM32 (m : MemOp) : FstForm (.fstpM32 m) (.real fmtSingle) m true
  | fstpM64 (m : MemOp) : FstForm (.fstpM64 m) (.real fmtDouble) m true
  | fstpM80 (m : MemOp) : FstForm (.fstpM80 m) .ext m true
  | fistM16 (m : MemOp) : FstForm (.fistM16 m) (.int 2) m false
  | fistM32 (m : MemOp) : FstForm (.fistM32 m) (.int 4) m false
  | fistpM16 (m : MemOp) : FstForm (.fistpM16 m) (.int 2) m true
  | fistpM32 (m : MemOp) : FstForm (.fistpM32 m) (.int 4) m true
  | fistpM64 (m : MemOp) : FstForm (.fistpM64 m) (.int 8) m true
  | fbstpM80 (m : MemOp) : FstForm (.fbstpM80 m) .bcd m true

/-- FST and FSTP to a register (R628, R629). -/
inductive FstStForm : Instr → BitVec 3 → Bool → Prop
  | fstSt (i : BitVec 3) : FstStForm (.fstSt i) i false
  | fstpSt (i : BitVec 3) : FstStForm (.fstpSt i) i true

/-- Arithmetic on registers: operation, destination, source, whether ST(0) is popped (R636 to R653). -/
inductive ArithStForm : Instr → FOp → BitVec 3 → BitVec 3 → Bool → Prop
  | faddSt0Sti (i : BitVec 3) : ArithStForm (.faddSt0Sti i) .add 0 i false
  | faddStiSt0 (i : BitVec 3) : ArithStForm (.faddStiSt0 i) .add i 0 false
  | faddpStiSt0 (i : BitVec 3) : ArithStForm (.faddpStiSt0 i) .add i 0 true
  | fsubSt0Sti (i : BitVec 3) : ArithStForm (.fsubSt0Sti i) .sub 0 i false
  | fsubStiSt0 (i : BitVec 3) : ArithStForm (.fsubStiSt0 i) .sub i 0 false
  | fsubpStiSt0 (i : BitVec 3) : ArithStForm (.fsubpStiSt0 i) .sub i 0 true
  | fsubrSt0Sti (i : BitVec 3) : ArithStForm (.fsubrSt0Sti i) .subr 0 i false
  | fsubrStiSt0 (i : BitVec 3) : ArithStForm (.fsubrStiSt0 i) .subr i 0 false
  | fsubrpStiSt0 (i : BitVec 3) : ArithStForm (.fsubrpStiSt0 i) .subr i 0 true
  | fmulSt0Sti (i : BitVec 3) : ArithStForm (.fmulSt0Sti i) .mul 0 i false
  | fmulStiSt0 (i : BitVec 3) : ArithStForm (.fmulStiSt0 i) .mul i 0 false
  | fmulpStiSt0 (i : BitVec 3) : ArithStForm (.fmulpStiSt0 i) .mul i 0 true
  | fdivSt0Sti (i : BitVec 3) : ArithStForm (.fdivSt0Sti i) .div 0 i false
  | fdivStiSt0 (i : BitVec 3) : ArithStForm (.fdivStiSt0 i) .div i 0 false
  | fdivpStiSt0 (i : BitVec 3) : ArithStForm (.fdivpStiSt0 i) .div i 0 true
  | fdivrSt0Sti (i : BitVec 3) : ArithStForm (.fdivrSt0Sti i) .divr 0 i false
  | fdivrStiSt0 (i : BitVec 3) : ArithStForm (.fdivrStiSt0 i) .divr i 0 false
  | fdivrpStiSt0 (i : BitVec 3) : ArithStForm (.fdivrpStiSt0 i) .divr i 0 true

/-- Arithmetic with a memory operand: operation, format, operand (R636 to R653). -/
inductive ArithMemForm : Instr → FOp → LoadFmt → MemOp → Prop
  | faddM32 (m : MemOp) : ArithMemForm (.faddM32 m) .add (.real fmtSingle) m
  | faddM64 (m : MemOp) : ArithMemForm (.faddM64 m) .add (.real fmtDouble) m
  | fiaddM32 (m : MemOp) : ArithMemForm (.fiaddM32 m) .add (.int 4) m
  | fiaddM16 (m : MemOp) : ArithMemForm (.fiaddM16 m) .add (.int 2) m
  | fsubM32 (m : MemOp) : ArithMemForm (.fsubM32 m) .sub (.real fmtSingle) m
  | fsubM64 (m : MemOp) : ArithMemForm (.fsubM64 m) .sub (.real fmtDouble) m
  | fisubM32 (m : MemOp) : ArithMemForm (.fisubM32 m) .sub (.int 4) m
  | fisubM16 (m : MemOp) : ArithMemForm (.fisubM16 m) .sub (.int 2) m
  | fsubrM32 (m : MemOp) : ArithMemForm (.fsubrM32 m) .subr (.real fmtSingle) m
  | fsubrM64 (m : MemOp) : ArithMemForm (.fsubrM64 m) .subr (.real fmtDouble) m
  | fisubrM32 (m : MemOp) : ArithMemForm (.fisubrM32 m) .subr (.int 4) m
  | fisubrM16 (m : MemOp) : ArithMemForm (.fisubrM16 m) .subr (.int 2) m
  | fmulM32 (m : MemOp) : ArithMemForm (.fmulM32 m) .mul (.real fmtSingle) m
  | fmulM64 (m : MemOp) : ArithMemForm (.fmulM64 m) .mul (.real fmtDouble) m
  | fimulM32 (m : MemOp) : ArithMemForm (.fimulM32 m) .mul (.int 4) m
  | fimulM16 (m : MemOp) : ArithMemForm (.fimulM16 m) .mul (.int 2) m
  | fdivM32 (m : MemOp) : ArithMemForm (.fdivM32 m) .div (.real fmtSingle) m
  | fdivM64 (m : MemOp) : ArithMemForm (.fdivM64 m) .div (.real fmtDouble) m
  | fidivM32 (m : MemOp) : ArithMemForm (.fidivM32 m) .div (.int 4) m
  | fidivM16 (m : MemOp) : ArithMemForm (.fidivM16 m) .div (.int 2) m
  | fdivrM32 (m : MemOp) : ArithMemForm (.fdivrM32 m) .divr (.real fmtSingle) m
  | fdivrM64 (m : MemOp) : ArithMemForm (.fdivrM64 m) .divr (.real fmtDouble) m
  | fidivrM32 (m : MemOp) : ArithMemForm (.fidivrM32 m) .divr (.int 4) m
  | fidivrM16 (m : MemOp) : ArithMemForm (.fidivrM16 m) .divr (.int 2) m

/-- Comparisons with a register: whether quiet, the register, the pops (47_x87_b.md R662 to R670). -/
inductive CompareStForm : Instr → Bool → BitVec 3 → Nat → Prop
  | fcomSt (i : BitVec 3) : CompareStForm (.fcomSt i) false i 0
  | fcompSt (i : BitVec 3) : CompareStForm (.fcompSt i) false i 1
  | fcompp : CompareStForm .fcompp false 1 2
  | fucomSt (i : BitVec 3) : CompareStForm (.fucomSt i) true i 0
  | fucompSt (i : BitVec 3) : CompareStForm (.fucompSt i) true i 1
  | fucompp : CompareStForm .fucompp true 1 2

/-- Comparisons with a memory operand: format, operand, pops (R662 to R666). -/
inductive CompareMemForm : Instr → LoadFmt → MemOp → Nat → Prop
  | fcomM32 (m : MemOp) : CompareMemForm (.fcomM32 m) (.real fmtSingle) m 0
  | fcomM64 (m : MemOp) : CompareMemForm (.fcomM64 m) (.real fmtDouble) m 0
  | fcompM32 (m : MemOp) : CompareMemForm (.fcompM32 m) (.real fmtSingle) m 1
  | fcompM64 (m : MemOp) : CompareMemForm (.fcompM64 m) (.real fmtDouble) m 1
  | ficomM16 (m : MemOp) : CompareMemForm (.ficomM16 m) (.int 2) m 0
  | ficomM32 (m : MemOp) : CompareMemForm (.ficomM32 m) (.int 4) m 0
  | ficompM16 (m : MemOp) : CompareMemForm (.ficompM16 m) (.int 2) m 1
  | ficompM32 (m : MemOp) : CompareMemForm (.ficompM32 m) (.int 4) m 1

/-- The no-wait control instructions, which do not report a pending exception (46_x87_a.md R606). -/
inductive NoWaitForm : Instr → Prop
  | fninit : NoWaitForm .fninit
  | fnclex : NoWaitForm .fnclex
  | fnstcwM16 (m : MemOp) : NoWaitForm (.fnstcwM16 m)
  | fnstswM16 (m : MemOp) : NoWaitForm (.fnstswM16 m)
  | fnstswAx : NoWaitForm .fnstswAx
  | fnstenvEnv (m : MemOp) : NoWaitForm (.fnstenvEnv m)
  | fnsaveFull (m : MemOp) : NoWaitForm (.fnsaveFull m)
  | feni : NoWaitForm .feni
  | fdisi : NoWaitForm .fdisi
  | fsetpm : NoWaitForm .fsetpm

/-- The other escape instructions, which report a pending exception first (R606). -/
inductive WaitingForm : Instr → Prop
  | fldM32 (m : MemOp) : WaitingForm (.fldM32 m)
  | fldM64 (m : MemOp) : WaitingForm (.fldM64 m)
  | fldM80 (m : MemOp) : WaitingForm (.fldM80 m)
  | fldSt (i : BitVec 3) : WaitingForm (.fldSt i)
  | fld1 : WaitingForm .fld1
  | fldl2t : WaitingForm .fldl2t
  | fldl2e : WaitingForm .fldl2e
  | fldpi : WaitingForm .fldpi
  | fldlg2 : WaitingForm .fldlg2
  | fldln2 : WaitingForm .fldln2
  | fldz : WaitingForm .fldz
  | fstM32 (m : MemOp) : WaitingForm (.fstM32 m)
  | fstM64 (m : MemOp) : WaitingForm (.fstM64 m)
  | fstSt (i : BitVec 3) : WaitingForm (.fstSt i)
  | fstpM32 (m : MemOp) : WaitingForm (.fstpM32 m)
  | fstpM64 (m : MemOp) : WaitingForm (.fstpM64 m)
  | fstpM80 (m : MemOp) : WaitingForm (.fstpM80 m)
  | fstpSt (i : BitVec 3) : WaitingForm (.fstpSt i)
  | fildM16 (m : MemOp) : WaitingForm (.fildM16 m)
  | fildM32 (m : MemOp) : WaitingForm (.fildM32 m)
  | fildM64 (m : MemOp) : WaitingForm (.fildM64 m)
  | fistM16 (m : MemOp) : WaitingForm (.fistM16 m)
  | fistM32 (m : MemOp) : WaitingForm (.fistM32 m)
  | fistpM16 (m : MemOp) : WaitingForm (.fistpM16 m)
  | fistpM32 (m : MemOp) : WaitingForm (.fistpM32 m)
  | fistpM64 (m : MemOp) : WaitingForm (.fistpM64 m)
  | fbldM80 (m : MemOp) : WaitingForm (.fbldM80 m)
  | fbstpM80 (m : MemOp) : WaitingForm (.fbstpM80 m)
  | fxchSt (i : BitVec 3) : WaitingForm (.fxchSt i)
  | faddM32 (m : MemOp) : WaitingForm (.faddM32 m)
  | faddM64 (m : MemOp) : WaitingForm (.faddM64 m)
  | faddSt0Sti (i : BitVec 3) : WaitingForm (.faddSt0Sti i)
  | faddStiSt0 (i : BitVec 3) : WaitingForm (.faddStiSt0 i)
  | faddpStiSt0 (i : BitVec 3) : WaitingForm (.faddpStiSt0 i)
  | fiaddM32 (m : MemOp) : WaitingForm (.fiaddM32 m)
  | fiaddM16 (m : MemOp) : WaitingForm (.fiaddM16 m)
  | fmulM32 (m : MemOp) : WaitingForm (.fmulM32 m)
  | fmulM64 (m : MemOp) : WaitingForm (.fmulM64 m)
  | fmulSt0Sti (i : BitVec 3) : WaitingForm (.fmulSt0Sti i)
  | fmulStiSt0 (i : BitVec 3) : WaitingForm (.fmulStiSt0 i)
  | fmulpStiSt0 (i : BitVec 3) : WaitingForm (.fmulpStiSt0 i)
  | fimulM32 (m : MemOp) : WaitingForm (.fimulM32 m)
  | fimulM16 (m : MemOp) : WaitingForm (.fimulM16 m)
  | fsubM32 (m : MemOp) : WaitingForm (.fsubM32 m)
  | fsubM64 (m : MemOp) : WaitingForm (.fsubM64 m)
  | fsubSt0Sti (i : BitVec 3) : WaitingForm (.fsubSt0Sti i)
  | fsubStiSt0 (i : BitVec 3) : WaitingForm (.fsubStiSt0 i)
  | fsubpStiSt0 (i : BitVec 3) : WaitingForm (.fsubpStiSt0 i)
  | fisubM32 (m : MemOp) : WaitingForm (.fisubM32 m)
  | fisubM16 (m : MemOp) : WaitingForm (.fisubM16 m)
  | fsubrM32 (m : MemOp) : WaitingForm (.fsubrM32 m)
  | fsubrM64 (m : MemOp) : WaitingForm (.fsubrM64 m)
  | fsubrSt0Sti (i : BitVec 3) : WaitingForm (.fsubrSt0Sti i)
  | fsubrStiSt0 (i : BitVec 3) : WaitingForm (.fsubrStiSt0 i)
  | fsubrpStiSt0 (i : BitVec 3) : WaitingForm (.fsubrpStiSt0 i)
  | fisubrM32 (m : MemOp) : WaitingForm (.fisubrM32 m)
  | fisubrM16 (m : MemOp) : WaitingForm (.fisubrM16 m)
  | fdivM32 (m : MemOp) : WaitingForm (.fdivM32 m)
  | fdivM64 (m : MemOp) : WaitingForm (.fdivM64 m)
  | fdivSt0Sti (i : BitVec 3) : WaitingForm (.fdivSt0Sti i)
  | fdivStiSt0 (i : BitVec 3) : WaitingForm (.fdivStiSt0 i)
  | fdivpStiSt0 (i : BitVec 3) : WaitingForm (.fdivpStiSt0 i)
  | fidivM32 (m : MemOp) : WaitingForm (.fidivM32 m)
  | fidivM16 (m : MemOp) : WaitingForm (.fidivM16 m)
  | fdivrM32 (m : MemOp) : WaitingForm (.fdivrM32 m)
  | fdivrM64 (m : MemOp) : WaitingForm (.fdivrM64 m)
  | fdivrSt0Sti (i : BitVec 3) : WaitingForm (.fdivrSt0Sti i)
  | fdivrStiSt0 (i : BitVec 3) : WaitingForm (.fdivrStiSt0 i)
  | fdivrpStiSt0 (i : BitVec 3) : WaitingForm (.fdivrpStiSt0 i)
  | fidivrM32 (m : MemOp) : WaitingForm (.fidivrM32 m)
  | fidivrM16 (m : MemOp) : WaitingForm (.fidivrM16 m)
  | fsqrt : WaitingForm .fsqrt
  | fscale : WaitingForm .fscale
  | fprem : WaitingForm .fprem
  | fprem1 : WaitingForm .fprem1
  | frndint : WaitingForm .frndint
  | fxtract : WaitingForm .fxtract
  | fabs : WaitingForm .fabs
  | fchs : WaitingForm .fchs
  | fcomM32 (m : MemOp) : WaitingForm (.fcomM32 m)
  | fcomM64 (m : MemOp) : WaitingForm (.fcomM64 m)
  | fcomSt (i : BitVec 3) : WaitingForm (.fcomSt i)
  | fcompM32 (m : MemOp) : WaitingForm (.fcompM32 m)
  | fcompM64 (m : MemOp) : WaitingForm (.fcompM64 m)
  | fcompSt (i : BitVec 3) : WaitingForm (.fcompSt i)
  | fcompp : WaitingForm .fcompp
  | ficomM16 (m : MemOp) : WaitingForm (.ficomM16 m)
  | ficomM32 (m : MemOp) : WaitingForm (.ficomM32 m)
  | ficompM16 (m : MemOp) : WaitingForm (.ficompM16 m)
  | ficompM32 (m : MemOp) : WaitingForm (.ficompM32 m)
  | ftst : WaitingForm .ftst
  | fucomSt (i : BitVec 3) : WaitingForm (.fucomSt i)
  | fucompSt (i : BitVec 3) : WaitingForm (.fucompSt i)
  | fucompp : WaitingForm .fucompp
  | fxam : WaitingForm .fxam
  | f2xm1 : WaitingForm .f2xm1
  | fyl2x : WaitingForm .fyl2x
  | fyl2xp1 : WaitingForm .fyl2xp1
  | fptan : WaitingForm .fptan
  | fpatan : WaitingForm .fpatan
  | fsin : WaitingForm .fsin
  | fcos : WaitingForm .fcos
  | fsincos : WaitingForm .fsincos
  | fldcwM16 (m : MemOp) : WaitingForm (.fldcwM16 m)
  | fldenvEnv (m : MemOp) : WaitingForm (.fldenvEnv m)
  | frstorFull (m : MemOp) : WaitingForm (.frstorFull m)
  | fincstp : WaitingForm .fincstp
  | fdecstp : WaitingForm .fdecstp
  | ffreeSt (i : BitVec 3) : WaitingForm (.ffreeSt i)
  | fnop : WaitingForm .fnop

end Sys2Proof.Claims
end

