-- ==== Sys2Proof/Safety/Spec.lean ====
section
/-!
DEFINITION. The words of the statements: where an instruction's effect starts, the operand it opens and what it puts
there, and the spec's flag functions, conditions and results said by integers and single bits.
-/

namespace Sys2Proof.Claims

open Machine

/-- The state in which an instruction's effect starts: EIP is past the instruction (10_state.md R46). -/
def past (s : State) : State := { s with eip := s.ins.nextEip }

/-- The outcome of a fault `e` of the instruction at `s`, which stopped at `t` (60_exceptions.md R723, R730). -/
def faults (i : Instr) (s : State) (e : Exn) (t : State) : Prop := exec i s = .next (takeFault e false s t)

/-! ### Operands -/

/-- Open an operand that is to be written: a memory operand passes the checks of a write and gives its physical addresses
(20_memory.md R121); a register needs none. -/
def openDest (w : Width) : Opnd → M (List Word)
  | .mem m => accessMem m w.bytes true
  | _ => pure []

/-- The value of an operand opened at the addresses `as`. -/
def destValue (w : Width) (d : Opnd) (as : List Word) (s : State) : BitVec w.bits :=
  match d with
  | .mem _ => BitVec.ofNat w.bits (Memory.load s.mem as)
  | .reg8 r => (s.regs.get8 r).setWidth w.bits
  | .reg r => (s.regs.get r).setWidth w.bits
  | .imm v => v.setWidth w.bits

/-- A register of a width written (10_state.md R42). -/
def putReg (w : Width) (g : Regs) (r : Reg) (v : BitVec w.bits) : Regs :=
  match w with
  | .w8 => g.set8 .al (v.setWidth 8)
  | .w16 => g.set16 r (v.setWidth 16)
  | .w32 => g.set r (v.setWidth 32)

/-- The state with an operand opened at `as` written, and nothing else changed. -/
def putDest (w : Width) (d : Opnd) (as : List Word) (v : BitVec w.bits) (s : State) : State :=
  match d with
  | .mem _ => { s with mem := Memory.store s.mem as v.toNat }
  | .reg8 r => { s with regs := s.regs.set8 r (v.setWidth 8) }
  | .reg r => { s with regs := putReg w s.regs r v }
  | .imm _ => s

/-! ### Flags and results by integers (10_state.md R60) -/

/-- The low byte has an even number of 1 bits. -/
def evenOnes {n : Nat} (r : BitVec n) : Bool := decide ((List.range 8).countP (fun j => r.getLsbD j) % 2 = 0)

/-- SF, ZF and PF of a result. -/
def signZeroParity {n : Nat} (f : Flags) (r : BitVec n) : Flags :=
  { f with sf := decide (r.toInt < 0), zf := decide (r.toNat = 0), pf := evenOnes r }

/-- The value of a carry. -/
def carry (c : Bool) : Int := if c then 1 else 0

/-- The sum with carry, modulo 2^n. -/
def sumOf {n : Nat} (a b : BitVec n) (c : Bool) : BitVec n := BitVec.ofInt n (a.toNat + b.toNat + carry c)

/-- The difference with borrow, modulo 2^n. -/
def diffOf {n : Nat} (a b : BitVec n) (c : Bool) : BitVec n := BitVec.ofInt n (a.toNat - b.toNat - carry c)

/-- The flags of a sum: CF a carry out of the width, OF a signed sum outside the width, AF a carry into bit 4. -/
def sumFlags {n : Nat} (f : Flags) (a b : BitVec n) (c : Bool) : Flags :=
  let r := sumOf a b c
  { signZeroParity f r with
    cf := decide (2 ^ n ≤ (a.toNat + b.toNat + carry c : Int)),
    of := decide (a.toInt + b.toInt + carry c ≠ r.toInt),
    af := (a ^^^ b ^^^ r).getLsbD 4 }

/-- The flags of a difference: CF a borrow, OF a signed difference outside the width, AF a borrow out of bit 4. -/
def diffFlags {n : Nat} (f : Flags) (a b : BitVec n) (c : Bool) : Flags :=
  let r := diffOf a b c
  { signZeroParity f r with
    cf := decide ((a.toNat - b.toNat - carry c : Int) < 0),
    of := decide (a.toInt - b.toInt - carry c ≠ r.toInt),
    af := (a ^^^ b ^^^ r).getLsbD 4 }

/-- The flags of a logical result: CF and OF clear, AF any value. -/
def logicFlags {n : Nat} (f : Flags) (r : BitVec n) (af : Bool) : Flags :=
  { signZeroParity f r with cf := false, of := false, af := af }

/-! ### Modes, code bytes, segments, pages -/

/-- The modes that the spec allows (60_exceptions.md R780 to R783, 45_system.md R557). -/
def modesLegal (s : State) : Prop :=
  (s.cr0.pg = true → s.cr0.pe = true) ∧ (s.flags.vm = true → s.cr0.pe = true ∧ s.cpl = 3) ∧ (s.cr0.pe = false → s.cpl = 0)

/-- The bytes spell the instruction, and no shorter piece of them does. -/
def Spells (s : State) (bs : List Byte) (f : Fetched) : Prop :=
  decodeBytes (.ofBit s.segs.cs.db) bs = .ok f ∧
  ∀ k, 0 < k → k < bs.length → decodeBytes (.ofBit s.segs.cs.db) (bs.take k) = .error .more ∧
    (s.protectedMode = true ∨ protectedOpcode (takePrefixes (bs.take k)).2 = false)

/-- The bytes are at CS:EIP, within the segment and below the top of the address space (20_memory.md R123). -/
def InCode (s : State) (bs : List Byte) : Prop :=
  ∀ k, (h : k < bs.length) → s.segs.cs.inLimit (s.eip + BitVec.ofNat 32 k) 1 = true ∧ s.eip.toNat + k < 2 ^ 32 ∧
    Memory.read s.mem (s.segs.cs.base + (s.eip + BitVec.ofNat 32 k)).toNat = bs[k]

/-- The instruction is one this processor has, and a LOCK prefix is legal (30_encoding.md R175, R205). -/
def LegalHere (s : State) (f : Fetched) : Prop :=
  (s.cfg.hasInt1 = true ∨ f.instr ≠ .int1) ∧ (.lock ∉ f.prefixes ∨ f.instr.lockLegal = true)

/-- `n` bytes at `off` lie within the segment (20_memory.md R111). -/
def Within (g : SegReg) (off : Word) (n : Nat) : Prop :=
  if g.expandDown then g.limit.toNat < off.toNat ∧ off.toNat + n ≤ (if g.db then 2 ^ 32 else 2 ^ 16)
  else off.toNat + n ≤ g.limit.toNat + 1

/-- #PF (60_exceptions.md R727, R774). -/
def pageFault (present write user : Bool) (la : Word) : Exn :=
  { Exn.plain 14 (some ((if present then 1 else 0) ||| (if write then 2 else 0) ||| (if user then 4 else 0))) with
    cr2 := some la }

/-! ### Results of single instructions -/

/-- A bit of AND, OR and XOR (41_logic_shift_bit.md R290 to R292). -/
def logicBit (op : AluOp) (x y : Bool) : Bool :=
  match op with
  | .and => x && y
  | .or => x || y
  | _ => x ^^ y

/-- An operand's value, signed or unsigned. -/
def valueOf {n : Nat} (signed : Bool) (a : BitVec n) : Int := if signed then a.toInt else a.toNat

/-- The least value of `n` bits. -/
def least (signed : Bool) (n : Nat) : Int := if signed then -(2 ^ (n - 1)) else 0

/-- The greatest value of `n` bits. -/
def greatest (signed : Bool) (n : Nat) : Int := if signed then 2 ^ (n - 1) - 1 else 2 ^ n - 1

/-- A value that `n` bits hold. -/
abbrev InRange (signed : Bool) (n : Nat) (p : Int) : Prop := least signed n ≤ p ∧ p ≤ greatest signed n

/-- The double-width register pair of a multiplication (40_arith.md R238). -/
def putPair (w : Width) (g : Regs) (p : Int) : Regs :=
  match w with
  | .w8 => g.set16 .eax (BitVec.ofInt 16 p)
  | .w16 => (g.set16 .eax (BitVec.ofInt 16 p)).set16 .edx (BitVec.ofInt 16 (p / 2 ^ 16))
  | .w32 => (g.set .eax (BitVec.ofInt 32 p)).set .edx (BitVec.ofInt 32 (p / 2 ^ 32))

/-- The dividend: AX, DX:AX or EDX:EAX (40_arith.md R242, R243). -/
def dividend (signed : Bool) (w : Width) (g : Regs) : Int :=
  match w with
  | .w8 => valueOf signed (g.get16 .eax)
  | .w16 => valueOf signed (g.get16 .edx) * 2 ^ 16 + (g.get16 .eax).toNat
  | .w32 => valueOf signed g.edx * 2 ^ 32 + g.eax.toNat

/-- The quotient and the remainder in their registers (40_arith.md R242, R243). -/
def putQuotient (w : Width) (g : Regs) (q r : Int) : Regs :=
  match w with
  | .w8 => (g.set8 .al (BitVec.ofInt 8 q)).set8 .ah (BitVec.ofInt 8 r)
  | .w16 => (g.set16 .eax (BitVec.ofInt 16 q)).set16 .edx (BitVec.ofInt 16 r)
  | .w32 => (g.set .eax (BitVec.ofInt 32 q)).set .edx (BitVec.ofInt 32 r)

/-- The masked count of a shift (41_logic_shift_bit.md R295). -/
def countOf (s : State) : Count → Nat
  | .one => 1
  | .cl => (s.regs.get8 .cl).toNat % 32
  | .imm i => i.toNat % 32

/-- A bit of the ring that the operand makes with CF at its top (41_logic_shift_bit.md R302). -/
def ringBit {n : Nat} (a : BitVec n) (cf : Bool) (j : Nat) : Bool := if j = n then cf else a.getLsbD j

/-- The bit offset of a bit instruction: a register's value is signed, an immediate is not (41_logic_shift_bit.md R306). -/
def bitOffset (s : State) : BitIndex → Int
  | .imm i => i.toNat
  | .reg r => (destValue s.width (.reg r) [] s).toInt

/-- The bit a bit instruction leaves (41_logic_shift_bit.md R307 to R310). -/
def bitAfter (op : BitOp) (b : Bool) : Bool :=
  match op with
  | .test => b
  | .set => true
  | .reset => false
  | .complement => !b

/-- When a condition holds (10_state.md R62). -/
def Holds (c : Cond) (f : Flags) : Prop :=
  match c with
  | .o => f.of = true
  | .no => f.of = false
  | .b => f.cf = true
  | .ae => f.cf = false
  | .e => f.zf = true
  | .ne => f.zf = false
  | .be => f.cf = true ∨ f.zf = true
  | .a => f.cf = false ∧ f.zf = false
  | .s => f.sf = true
  | .ns => f.sf = false
  | .p => f.pf = true
  | .np => f.pf = false
  | .l => f.sf ≠ f.of
  | .ge => f.sf = f.of
  | .le => f.zf = true ∨ f.sf ≠ f.of
  | .g => f.zf = false ∧ f.sf = f.of

/-- The conditions by their numbers, from 0 (10_state.md R62). -/
def conditions : List Cond := [.o, .no, .b, .ae, .e, .ne, .be, .a, .s, .ns, .p, .np, .l, .ge, .le, .g]

/-! ### Descriptors, the stack, strings, ports -/

/-- The linear address of the descriptor that a selector names, in a table that holds all of it (20_memory.md R125). -/
def descriptorAt (s : State) (sel : Half) : Option Word :=
  let off := sel.toNat / 8 * 8
  if sel.toNat / 4 % 2 = 1 then
    if s.ldtr.valid = true ∧ off + 7 ≤ s.ldtr.limit.toNat then some (s.ldtr.base + BitVec.ofNat 32 off) else none
  else if off + 7 ≤ s.gdtr.limit.toNat then some (s.gdtr.base + BitVec.ofNat 32 off) else none

/-- The segment register a descriptor gives, by the places of its fields (20_memory.md R126, 10_state.md R56). -/
def segmentOf (sel : Half) (d : Desc) : SegReg :=
  let v := d.toNat
  let limit := v % 2 ^ 16 + v / 2 ^ 48 % 16 * 2 ^ 16
  { selector := sel, valid := true, base := BitVec.ofNat 32 (v / 2 ^ 16 % 2 ^ 24 + v / 2 ^ 56 * 2 ^ 24),
    limit := BitVec.ofNat 32 (if v.testBit 55 then limit * 4096 + 4095 else limit),
    type := BitVec.ofNat 4 (v / 2 ^ 40) ||| 1, s := v.testBit 44, dpl := BitVec.ofNat 2 (v / 2 ^ 45), p := v.testBit 47,
    db := v.testBit 54, g := v.testBit 55 }

/-- Paging is off and no breakpoint watches data: every R/W field of DR7 is 00 or 10 (10_state.md R67). -/
def quiet (s : State) : Prop := s.cr0.pg = false ∧ s.dbg.dr7 &&& 0x11110000 = 0

/-- A selector that is not NULL names the descriptor `d`, at `a`; unpaged (20_memory.md R124, R125). -/
def Names (s : State) (sel : Half) (a : Word) (d : Desc) : Prop :=
  sel.toNat / 4 ≠ 0 ∧ descriptorAt s sel = some a ∧ d = BitVec.ofNat 64 (Memory.load s.mem (addrs a 8))

/-- The Accessed bit of the descriptor `d` at `a` set if it is clear; unpaged (20_memory.md R129). No fault undoes it. -/
def touched (a : Word) (d : Desc) (s : State) : State :=
  if d.getLsbD 40 then s
  else
    let at_ := (a + 5).toNat
    let v : Byte := d.extractLsb' 40 8 ||| 1
    { s with mem := Memory.write s.mem at_ v, ins := { s.ins with sysLog := s.ins.sysLog ++ [(at_, v)] } }

/-- A present code segment that a transfer of level `n` may enter without a change of level (44_control.md R481, R493 (2)). -/
def CodeOf (d : Desc) (n : Nat) : Prop :=
  d.isCode = true ∧ d.p = true ∧ if d.conforming then d.dpl.toNat ≤ n else d.dpl.toNat = n

/-- A selector and its descriptor that SS may hold at level `n` (42_data_move.md R355, 44_control.md R490 (2), R495 (2)). -/
def StackOf (sel : Half) (d : Desc) (n : Nat) : Prop :=
  sel.toNat % 4 = n ∧ d.writableData = true ∧ d.dpl.toNat = n ∧ d.p = true

/-- The stack that the current TSS, of either size, holds for level `n`; unpaged (44_control.md R492). -/
def TssStack (s : State) (n : Nat) (ss : Half) (esp : Word) : Prop :=
  let field := fun off k => Memory.load s.mem (addrs (s.tr.base + BitVec.ofNat 32 off) k)
  if s.tr.type.getLsbD 3 then
    n * 8 + 9 ≤ s.tr.limit.toNat ∧ esp = BitVec.ofNat 32 (field (n * 8 + 4) 4) ∧ ss = BitVec.ofNat 16 (field (n * 8 + 8) 2)
  else
    n * 4 + 5 ≤ s.tr.limit.toNat ∧ esp = BitVec.ofNat 32 (field (n * 4 + 2) 2) ∧ ss = BitVec.ofNat 16 (field (n * 4 + 4) 2)

/-- The state on another stack. -/
def onStack (ss : Half) (d : Desc) (esp : Word) (s : State) : State :=
  { s with segs := s.segs.set .ss (segmentOf ss d), regs := { s.regs with esp := esp } }

/-- A segment register of virtual-8086 mode (10_state.md R56, 44_control.md R510). -/
def seg86 (sel : Half) : SegReg :=
  { selector := sel, valid := true, base := BitVec.ofNat 32 (sel.toNat * 16), limit := 0xFFFF, type := 3, s := true, dpl := 3,
    p := true, db := false, g := false }

/-- A segment register made NULL and unusable. -/
def nullSeg (g : SegReg) : SegReg := { g with selector := 0, valid := false }

/-- The data segment registers after a return to the outer level `n` (44_control.md R497). -/
def outerSegs (g : Segs) (n : Nat) : Segs :=
  let keep := fun x : SegReg =>
    if x.selector.toNat / 4 = 0 ∨ (x.dpl.toNat < n ∧ ¬(x.type.getLsbD 3 = true ∧ x.type.getLsbD 2 = true)) then nullSeg x else x
  { g with es := keep g.es, fs := keep g.fs, gs := keep g.gs, ds := keep g.ds }

/-- The offset `n` bytes above the stack pointer, modulo the stack size (10_state.md R45). -/
def slotAbove (s : State) (n : Nat) : Word := sizeTrunc s.stackSize (s.sp + BitVec.ofNat 32 n)

/-- The `n` bytes at `k` bytes above the stack pointer, unpaged. -/
def stackLoad (s : State) (k n : Nat) : Nat := Memory.load s.mem (addrs (s.segs.ss.base + slotAbove s k) n)

/-- There is room for `k` items of `n` bytes below the stack pointer (20_memory.md R122). -/
def Room (s : State) (n k : Nat) : Prop := ∀ j, j < k → Within s.segs.ss (below s.stackSize s.sp n (j + 1)) n

/-- Memory after the values are stored below the stack pointer, the `k`-th slot first, unpaged. -/
def pushMem (s : State) (n : Nat) : Nat → List Nat → Memory → Memory
  | _, [], m => m
  | k, v :: vs, m =>
      pushMem s n (k + 1) vs (Memory.store m (addrs (s.segs.ss.base + below s.stackSize s.sp n (k + 1)) n) v)

/-- The state after the values are pushed, `n` bytes each, the first first, unpaged (42_data_move.md R359). -/
def pushed (s : State) (n : Nat) (vs : List Nat) : State :=
  { s with mem := pushMem s n 0 vs s.mem, regs := s.regs.setV s.stackSize .esp (s.sp - BitVec.ofNat 32 (n * vs.length)) }

/-- The `c` lowest parameters on the stack of `old` copied below the stack pointer, the last first, one after another,
unpaged (44_control.md R490 (5)). -/
def copied (old : State) (n : Nat) : Nat → State → State
  | 0, s => s
  | c + 1, s => copied old n c (pushed s n [Memory.load s.mem (addrs (old.segs.ss.base + slotAbove old (n * c)) n)])

/-- An index register moved to the next element (43_string_io.md R420). -/
def nextIndex (s : State) (w : Width) (r : Reg) (g : Regs) : Regs :=
  g.setV s.adSize r
    (if s.flags.df then g.getV s.adSize r - BitVec.ofNat 32 w.bytes else g.getV s.adSize r + BitVec.ofNat 32 w.bytes)

/-- The element of a string instruction. -/
def element (op : StringOp) (w : Width) : M Unit :=
  match op with
  | .movs => movs w
  | .cmps => cmps w
  | .stos => stos w
  | .lods => lods w
  | .scas => scas w
  | .ins => insElement w
  | .outs => outsElement w

/-- The port of an I/O instruction. -/
def portOf (s : State) : Port → Half
  | .dx => s.regs.get16 .edx
  | .imm i => i.setWidth 16

/-! ### Control transfers and events -/

/-- The jump is taken to `t` from `s1` if `t` is within CS; else #GP(0) (44_control.md R470). -/
def JumpsTo (i : Instr) (s s1 : State) (t : Word) : Prop :=
  (t ≤ s.segs.cs.limit → exec i s = .next { s1 with eip := t }) ∧
  (s.segs.cs.limit < t → faults i s (.plain 13 (some 0)) s1)

/-- CS and EIP after a far transfer in real-address or virtual-8086 mode (44_control.md R480). -/
def atRealCs (s : State) (sel : Half) (t : Word) : State :=
  { s with segs := s.segs.set .cs { s.segs.cs with selector := sel, base := BitVec.ofNat 32 (sel.toNat * 16) }, eip := t }

/-- A far JMP or CALL and its target; a pointer in memory is read first, which leaves the state as it is (44_control.md
R474). -/
def FarOperand (s : State) (i : Instr) (k : FarKind) (sel : Half) (off : Word) : Prop :=
  FarForm i k sel off ∨ ∃ m v, FarMemForm i k m ∧ readMem m (s.width.bytes + 2) (past s) = .ok v (past s) ∧
    sel = BitVec.ofNat 16 (v / 256 ^ s.width.bytes) ∧ off = BitVec.ofNat 32 (v % 256 ^ s.width.bytes)

/-- The software interrupts: vector, and whether it is INT1 (44_control.md R500 to R503). -/
inductive SoftForm : Instr → BitVec 8 → Bool → Prop
  | intImm8 (v : BitVec 8) : SoftForm (.intImm8 v) v false
  | int3 : SoftForm .int3 3 false
  | into : SoftForm .into 4 false
  | int1 : SoftForm .int1 1 true

/-- A present interrupt or trap gate in the IDT that the event may use (60_exceptions.md R752). -/
def GateOpen (s : State) (d : Delivery) (g : Desc) : Prop :=
  s.cr0.pe = true ∧ d.vec.toNat * 8 + 7 ≤ s.idtr.limit.toNat ∧
  g = BitVec.ofNat 64 (Memory.load s.mem (addrs (s.idtr.base + BitVec.ofNat 32 (d.vec.toNat * 8)) 8)) ∧
  g.s = false ∧ (g.type = 6 ∨ g.type = 7 ∨ g.type = 14 ∨ g.type = 15) ∧ (d.kind = .soft → s.cpl ≤ g.dpl) ∧ g.p = true

/-! ### Task switches (44_control.md R496), unpaged -/

/-- `n` bytes of the structure at `base`. -/
def fieldOf (m : Memory) (base : Word) (off n : Nat) : Nat := Memory.load m (addrs (base + BitVec.ofNat 32 off) n)

/-- Fields (offset, length, value) stored in the structure at `base`, the first first. -/
def withFields (base : Word) : List (Nat × Nat × Nat) → Memory → Memory
  | [], m => m
  | (off, n, v) :: l, m => withFields base l (Memory.store m (addrs (base + BitVec.ofNat 32 off) n) v)

/-- The general registers in the order of a TSS. -/
def tssRegs : List Reg := [.eax, .ecx, .edx, .ebx, .esp, .ebp, .esi, .edi]

/-- The segment registers in the order of a TSS; a 16-bit one has the first four. -/
def tssSegs : List SReg := [.es, .cs, .ss, .ds, .fs, .gs]

/-- What the outgoing task's TSS receives (R496 (2)). -/
def outgoing (s : State) (ret : FarPtr) (flags : Flags) : List (Nat × Nat × Nat) :=
  let wide := s.tr.type.getLsbD 3
  let step := if wide then 4 else 2
  let start := if wide then 0x20 else 0x0E
  let segs := if wide then tssSegs else tssSegs.take 4
  [(start, step, ret.off.toNat), (start + step, step, flags.toWord.toNat)] ++
    tssRegs.zipIdx.map (fun x => (start + 2 * step + x.2 * step, step, (s.regs.get x.1).toNat)) ++
    segs.zipIdx.map (fun x => (start + 10 * step + x.2 * step, 2,
      (if x.1 = .cs then ret.sel else (s.segs.get x.1).selector).toNat))

/-- Memory with the busy bit of the current task's descriptor cleared, if TR names one (R496 (2)). -/
def idled (s : State) (m : Memory) : Memory :=
  match descriptorAt s s.tr.selector with
  | none => m
  | some b => Memory.write m (b + 5).toNat (Memory.read m (b + 5).toNat &&& 0xFD)

/-- Memory when the incoming task, of the descriptor `td` at `a`, is read (R496 (2) to (4)). -/
def switchMem (s : State) (a : Word) (td : Desc) (kind : SwitchKind) (ret : FarPtr) (flags : Flags) : Memory :=
  let image := if kind = .iret then { flags with nt := false } else flags
  let saved := withFields s.tr.base (outgoing s ret image) s.mem
  let linked := if kind = .call ∨ kind = .int then Memory.store saved (addrs td.base 2) s.tr.selector.toNat else idled s saved
  if kind = .iret then linked else Memory.write linked (a + 5).toNat (td.extractLsb' 40 8 ||| 2)

/-- What the incoming task's TSS holds (R496 (6)): of a 16-bit one the upper halves of the registers are any values, and FS
and GS are NULL. -/
def Incoming (m : Memory) (td : Desc) (i : TaskImage) : Prop :=
  let wide := td.is32
  let step := if wide then 4 else 2
  let start := if wide then 0x20 else 0x0E
  let half := fun off => BitVec.ofNat 16 (fieldOf m td.base off 2)
  let sel := fun k => half (start + 10 * step + k * step)
  i.eip = BitVec.ofNat 32 (fieldOf m td.base start step) ∧
  i.flags = BitVec.ofNat 32 (fieldOf m td.base (start + step) step) ∧
  (∀ k r, tssRegs[k]? = some r →
    (i.regs.get r).toNat % 256 ^ step = fieldOf m td.base (start + 2 * step + k * step) step) ∧
  i.es = sel 0 ∧ i.cs = sel 1 ∧ i.ss = sel 2 ∧ i.ds = sel 3 ∧
  i.fs = (if wide then sel 4 else 0) ∧ i.gs = (if wide then sel 5 else 0) ∧ i.ldt = half (if wide then 0x60 else 0x2A) ∧
  i.cr3 = (if wide then some (BitVec.ofNat 32 (fieldOf m td.base 0x1C 4)) else none) ∧
  (i.trap = true ↔ wide = true ∧ (fieldOf m td.base 0x64 2).testBit 0 = true)

/-- The incoming task before its selectors are validated (R496 (3), (5), (6)). -/
def entered (s : State) (tsel : Half) (td : Desc) (nested : Bool) (m : Memory) (i : TaskImage) : State :=
  let f := Flags.ofWord i.flags
  { s with
    mem := m,
    tr := { selector := tsel, valid := true, base := td.base, limit := td.limit, type := td.type ||| 2 },
    cr0 := { s.cr0 with ts := true },
    eip := i.eip, flags := { f with nt := f.nt || nested }, regs := i.regs,
    cpl := if f.vm then 3 else BitVec.ofNat 2 i.cs.toNat,
    ldtr := { selector := i.ldt, valid := false, base := 0, limit := 0, type := 0 },
    segs := { es := .unloaded i.es, cs := .unloaded i.cs, ss := .unloaded i.ss, ds := .unloaded i.ds,
              fs := .unloaded i.fs, gs := .unloaded i.gs },
    dbg := if s.cfg.hasDebugRegs then { s.dbg with dr7 := s.dbg.dr7 &&& ~~~0x155 } else s.dbg,
    ins := { s.ins with keepRf := true, taskTrap := s.ins.taskTrap || i.trap } }

/-- LDTR of the incoming task, from the selector (R496 (7)). -/
def LdtLoads (s : State) (sel : Half) (l : SysReg) : Prop :=
  (sel.toNat / 4 = 0 ∧ l = s.ldtr) ∨
  ∃ a d, Names s sel a d ∧ sel.toNat / 4 % 2 = 0 ∧ d.s = false ∧ d.type = 2 ∧ d.p = true ∧
    l = { selector := sel, valid := true, base := d.base, limit := d.limit, type := d.type }

/-- A data segment register `g` of the incoming task becomes `h`, from the selector and an accessed descriptor (R496 (7)). -/
def DataLoads (s : State) (sel : Half) (g h : SegReg) : Prop :=
  (sel.toNat / 4 = 0 ∧ h = { g with selector := sel, valid := false }) ∨
  ∃ a d, Names s sel a d ∧ d.readable = true ∧ (d.conforming = true ∨ (sel.toNat % 4 ≤ d.dpl.toNat ∧ s.cpl ≤ d.dpl)) ∧
    d.p = true ∧ d.getLsbD 40 = true ∧ h = segmentOf sel d

/-- A switch ended in `t`: the instruction goes on there, or with #GP(0) of the new task when EIP is beyond the limit of CS
(44_control.md R484, R485, R491, R506). -/
def Switched (i : Instr) (s t : State) : Prop :=
  (t.eip ≤ t.segs.cs.limit → exec i s = .next t) ∧
  (t.segs.cs.limit < t.eip → exec i s = .next (takeFault (.plain 13 (some 0)) true s t))

/-! ### System instructions -/

/-- The values that R801 gives after reset, with the parameters `p` where it leaves one open. -/
def AfterReset (p : ResetParams) (s : State) : Prop :=
  s.eip = 0x0000FFF0 ∧ s.flags.toWord = 0x00000002 ∧
  (s.segs.cs.selector = 0xF000 ∧ s.segs.cs.base = 0xFFFF0000 ∧ s.segs.cs.limit = 0xFFFF ∧ s.segs.cs.p = true ∧
    s.segs.cs.isCode = true ∧ s.segs.cs.readable = true ∧ s.segs.cs.type.getLsbD 0 = true ∧ s.segs.cs.db = false) ∧
  (∀ r : SReg, r ≠ .cs →
    (s.segs.get r).selector = 0 ∧ (s.segs.get r).base = 0 ∧ (s.segs.get r).limit = 0xFFFF ∧ (s.segs.get r).p = true ∧
    (s.segs.get r).s = true ∧ (s.segs.get r).writable = true ∧ (s.segs.get r).expandDown = false ∧
    (s.segs.get r).type.getLsbD 0 = true ∧ (s.segs.get r).db = false) ∧
  s.cpl = 0 ∧
  s.cr0 = { pe := false, mp := false, em := false, ts := false, et := p.et, pg := false } ∧ s.cr2 = p.cr2 ∧
  s.cr3.extractLsb' 12 20 = p.cr3.extractLsb' 12 20 ∧
  (s.regs.eax = p.eax ∧ s.regs.get8 .dh = 3 ∧ s.regs.get8 .dl = p.edx.setWidth 8 ∧
    s.regs.edx >>> 16 = p.edx >>> 16 ∧ s.regs.ecx = p.ecx ∧ s.regs.ebx = p.ebx ∧
    s.regs.esp = p.esp ∧ s.regs.ebp = p.ebp ∧ s.regs.esi = p.esi ∧ s.regs.edi = p.edi) ∧
  s.idtr = { base := 0, limit := 0x03FF } ∧ s.gdtr = p.gdtr ∧
  s.ldtr = { p.ldtr with valid := false } ∧ s.tr = { p.tr with valid := false } ∧
  (s.dbg.dr7 = 0 ∧ s.dbg.dr0 = p.dr0 ∧ s.dbg.dr1 = p.dr1 ∧ s.dbg.dr2 = p.dr2 ∧ s.dbg.dr3 = p.dr3 ∧
    s.dbg.dr6 &&& 0xE00F = p.dr6 &&& 0xE00F) ∧
  s.tlb = [] ∧ s.run = .running ∧ s.nmiBlocked = false ∧ s.shadow = .none ∧ s.nmiPending = false ∧
  (s.fpu.fcw = 0x037F ∧ s.fpu.fswWord = 0 ∧ (∀ i, s.fpu.empty i = true) ∧ s.fpu.fip = .far 0 0 ∧ s.fpu.fdp = .far 0 0 ∧
    s.fpu.fop = 0 ∧ s.fpu.fpr = p.fpr)

/-- The instruction ends in shutdown with nothing changed that it would change (42_data_move.md R359); `t` is where it stopped. -/
def ShutsDown (i : Instr) (s t : State) : Prop :=
  ∃ u, exec i s = .next u ∧ u.run = .shutdown ∧ u.regs = s.regs ∧ u.flags = s.flags ∧ u.segs = s.segs ∧ u.eip = s.eip ∧
    (t.ins.sysLog = [] → u.mem = s.mem)

/-- Privileged instructions are allowed: real-address mode, or CPL 0 of protected mode (45_system.md R540). -/
def MayPrivileged (s : State) : Prop := s.cr0.pe = false ∨ (s.cpl = 0 ∧ s.flags.vm = false)

/-- Only the six status flags may differ. -/
def StatusOnly (f g : Flags) : Prop :=
  { g with cf := f.cf, pf := f.pf, af := f.af, zf := f.zf, sf := f.sf, of := f.of } = f

/-! ### The coprocessor -/

/-- An escape instruction is not refused or trapped at its gate (46_x87_a.md R601). -/
def FpuPresent (s : State) : Prop := s.cr0.em = false ∧ s.cr0.ts = false ∧ s.cfg.hasX87 = true

/-- And no unmasked exception is pending (46_x87_a.md R606). -/
def FpuReady (s : State) : Prop := FpuPresent s ∧ s.fpu.es = false

/-- Every x87 exception is masked. -/
def AllMasked (f : Fpu) : Prop := ∀ j, j < 6 → f.fcw.getLsbD j = true

/-- The precision that PC selects (46_x87_a.md R603). -/
def PrecisionIs (f : Fpu) (p : Nat) : Prop :=
  (f.fcw.extractLsb' 8 2 = 0 ∧ p = 24) ∨ (f.fcw.extractLsb' 8 2 = 2 ∧ p = 53) ∨ (f.fcw.extractLsb' 8 2 = 3 ∧ p = 64)

/-- The pointers and the opcode of a numeric instruction recorded (46_x87_a.md R614). -/
def tracked (s : State) (fdp : FpuPtr) : Fpu :=
  { s.fpu with fip := .far s.segs.cs.selector s.ins.curEip, fop := s.ins.fop, fdp := fdp }

/-- The state in which a numeric instruction with a memory operand accesses it. -/
def notedMem (s : State) (m : MemOp) : State :=
  { past s with fpu := tracked s (.far (s.segs.get (s.segFor m)).selector (ea s.regs m)) }

/-- The condition codes set. -/
def coded (f : Fpu) (c0 c1 c2 c3 : Bool) : Fpu := { f with fsw := { f.fsw with c0 := c0, c1 := c1, c2 := c2, c3 := c3 } }

/-- IE and DE set where said. -/
def raised (f : Fpu) (ie de : Bool) : Fpu := { f with fsw := { f.fsw with ie := f.fsw.ie || ie, de := f.fsw.de || de } }

/-- ZE set. -/
def zeroFlag (f : Fpu) : Fpu := { f with fsw := { f.fsw with ze := true } }

/-- UE set where said. -/
def underflowFlag (f : Fpu) (ue : Bool) : Fpu := { f with fsw := { f.fsw with ue := f.fsw.ue || ue } }

/-- OE and PE set, C1 telling the direction. -/
def overflowFlag (f : Fpu) (up : Bool) : Fpu := { f with fsw := { f.fsw with oe := true, pe := true, c1 := up } }

/-- #IS: IE, SF, and C1 telling overflow (46_x87_a.md R612). -/
def stackFlag (f : Fpu) (overflow : Bool) : Fpu :=
  { f with fsw := { f.fsw with ie := true, sf := true, c1 := overflow } }

/-- PE and C1 of a rounding (46_x87_a.md R611). -/
def rounded (f : Fpu) (r : Rounded) : Fpu :=
  if r.inexact then { f with fsw := { f.fsw with pe := true, c1 := r.up } } else f

/-- A value on a new top of the register stack, with its tag (46_x87_a.md R602, R605). -/
def stacked (f : Fpu) (v : Ext) : Fpu :=
  { f with fpr := f.fpr.set (f.fsw.top - 1) v, tags := f.tags.set (f.fsw.top - 1) (tagOf v),
           fsw := { f.fsw with top := f.fsw.top - 1 } }

/-- The register stack popped (46_x87_a.md R612). -/
def poppedOff (f : Fpu) : Fpu :=
  { f with tags := f.tags.set f.fsw.top .empty, fsw := { f.fsw with top := f.fsw.top + 1 } }

/-- A push, or the stack overflow of one: masked it pushes the real indefinite (46_x87_a.md R612). -/
def pushOrFault (f : Fpu) (room : Bool) (v : Ext) : Fpu :=
  if room then stacked f v
  else if f.fcw.getLsbD 0 then stacked (stackFlag f true) indefinite else stackFlag f true

/-- The stack underflow of an instruction with destination ST(d) (46_x87_a.md R612). -/
def underflowed (f : Fpu) (d : BitVec 3) (pops : Bool) : Fpu :=
  if f.fcw.getLsbD 0 then
    (if pops then poppedOff ((stackFlag f false).setSt d indefinite) else (stackFlag f false).setSt d indefinite)
  else stackFlag f false

/-- The bytes of a memory format. -/
def LoadFmt.bytes : LoadFmt → Nat
  | .real f => f.bytes
  | .ext => 10
  | .int n => n
  | .bcd => 10

/-- Single or double precision. -/
def LoadFmt.isReal : LoadFmt → Bool
  | .real _ => true
  | _ => false

/-- What a memory operand loads as (46_x87_a.md R620, R630, R633); a BCD operand with a digit above 9 as anything. -/
def LoadFmt.Loads (fmt : LoadFmt) (v : Nat) (x : Ext) : Prop :=
  match fmt with
  | .real f => x = (f.decode v).x
  | .ext => x = BitVec.ofNat 80 v
  | .int n => x = intToExt (signedBytes n v)
  | .bcd => ∀ n, bcdDigits 18 (v % 2 ^ 72) = some n → x = encodeExt (v.testBit 79) n 0

/-- A denormal of single or double precision. -/
def LoadFmt.denormal (fmt : LoadFmt) (v : Nat) : Bool :=
  match fmt with
  | .real f => (f.decode v).den
  | _ => false

/-- The image of ST(0) in a format; none when nothing is stored (46_x87_a.md R628 to R634). -/
def imageOf (fmt : LoadFmt) (v : Option FVal) : M (Option Nat) :=
  match fmt with
  | .real f => realImage f v
  | .ext =>
      match v with
      | none => ifMasked (stackFault false) indefinite.toNat
      | some v => pure (some v.x.toNat)
  | .int n => intImage n v
  | .bcd => bcdImage v

/-- The outcome of an image that an exception of the store stands against: none unless the exception is masked. -/
def imageIf (masked : Bool) (b : Nat) (s : State) : EStateM.Result Stop State (Option Nat) :=
  .ok (if masked then some b else none) s

/-- The number as a rational. -/
def value (n : Machine.Num) : ℚ := (if n.neg then -1 else 1) * n.mant * (2 : ℚ) ^ n.exp

/-- The number is the value, or lies with its last, odd bit strictly between two neighbours around it. -/
def Brackets (n : Machine.Num) (v : ℚ) : Prop :=
  value n = v ∨ (n.mant % 2 = 1 ∧ |value n - v| < (2 : ℚ) ^ n.exp)

/-- The same of a square root, by squares. -/
def BracketsRoot (n : Machine.Num) (v : ℚ) : Prop :=
  value n ^ 2 = v ∨ (n.mant % 2 = 1 ∧ (value n - (2 : ℚ) ^ n.exp) ^ 2 < v ∧ v < (value n + (2 : ℚ) ^ n.exp) ^ 2)

/-- Only the coprocessor, and the count of free values, may differ. -/
def OnlyFpu (s t : State) : Prop := t = { s with fpu := t.fpu, draws := t.draws }

/-- The control word and the registers but for those of the physical numbers listed are unchanged. -/
def KeepsOthers (f g : Fpu) (l : List (BitVec 3)) : Prop :=
  g.fcw = f.fcw ∧ ∀ j, j ∉ l → g.fpr.get j = f.fpr.get j ∧ g.tags.get j = f.tags.get j

/-- Popped a number of times. -/
def poppedTimes : Nat → Fpu → Fpu
  | 0, f => f
  | n + 1, f => poppedTimes n (poppedOff f)

/-- An unordered comparison. -/
def unorderedOf (f : Fpu) (pops : Nat) : Fpu := poppedTimes pops (coded f true false true true)

/-- The coprocessor after comparing `a` with `b` (47_x87_b.md R662, R668). -/
def compared (f : Fpu) (quiet empty : Bool) (a b : Ext) (den : Bool) (pops : Nat) : Fpu :=
  let f := { f with fsw := { f.fsw with c1 := false } }
  let masked := f.fcw.getLsbD 0
  let bad := fun x : Ext => decide (extCls x = .snan) || decide (extCls x = .unsupported)
  let nan := fun x : Ext => decide (extCls x = .qnan)
  if empty then (if masked then unorderedOf (stackFlag f false) pops else stackFlag f false)
  else if bad a || bad b || (!quiet && (nan a || nan b)) then
    (if masked then unorderedOf (raised f true false) pops else raised f true false)
  else if nan a || nan b then unorderedOf f pops
  else poppedTimes pops (match extCmp a b with
    | .gt => coded (raised f false den) false false false false
    | .lt => coded (raised f false den) true false false false
    | .eq => coded (raised f false den) false false false true)

/-- The linear address of an x87 pointer: sixteen times the selector, and the offset (47_x87_b.md R685). -/
def linearOf : FpuPtr → Nat
  | .far sel off => (sel.toNat * 16 + off.toNat) % 2 ^ 32
  | .linear a => a.toNat

/-- `n` bytes of an image, `off` bytes from its start. -/
def imagePart (v off n : Nat) : Nat := v / 256 ^ off % 256 ^ n

/-- The pointers and the opcode as the four formats of an image hold them; a pointer that is a linear address has no
selector and offset to store (47_x87_b.md R685, D5). -/
def PointersStored (f : Fpu) (wide prot : Bool) (v : Nat) : Prop :=
  let part := imagePart v
  if prot then
    (∀ sel off, f.fip = .far sel off →
      if wide then part 12 4 = off.toNat ∧ part 16 2 = sel.toNat else part 6 2 = off.toNat % 2 ^ 16 ∧ part 8 2 = sel.toNat) ∧
    (∀ sel off, f.fdp = .far sel off →
      if wide then part 20 4 = off.toNat ∧ part 24 2 = sel.toNat else part 10 2 = off.toNat % 2 ^ 16 ∧ part 12 2 = sel.toNat) ∧
    (wide = true → part 18 2 = f.fop.toNat)
  else
    let ip := linearOf f.fip
    let dp := linearOf f.fdp
    if wide then
      part 12 2 = ip % 2 ^ 16 ∧ part 16 4 = f.fop.toNat + 2 ^ 12 * (ip / 2 ^ 16) ∧
      part 20 2 = dp % 2 ^ 16 ∧ part 24 4 = 2 ^ 12 * (dp / 2 ^ 16)
    else
      part 6 2 = ip % 2 ^ 16 ∧ part 8 2 = f.fop.toNat + 2 ^ 12 * (ip / 2 ^ 16 % 16) ∧
      part 10 2 = dp % 2 ^ 16 ∧ part 12 2 = 2 ^ 12 * (dp / 2 ^ 16 % 16)

/-- The pointers and the opcode that an image gives; a 16-bit protected-mode one has no opcode, which stays as in `old`
(47_x87_b.md R685, R687). -/
def PointersLoaded (old f : Fpu) (wide prot : Bool) (v : Nat) : Prop :=
  let part := imagePart v
  let far := fun sel off : Nat => FpuPtr.far (BitVec.ofNat 16 sel) (BitVec.ofNat 32 off)
  let linear := fun low high : Nat => FpuPtr.linear (BitVec.ofNat 32 (low + 2 ^ 16 * high))
  match prot, wide with
  | true, true =>
      f.fip = far (part 16 2) (part 12 4) ∧ f.fdp = far (part 24 2) (part 20 4) ∧ f.fop.toNat = part 18 2 % 2 ^ 11
  | true, false => f.fip = far (part 8 2) (part 6 2) ∧ f.fdp = far (part 12 2) (part 10 2) ∧ f.fop = old.fop
  | false, true =>
      f.fip = linear (part 12 2) (part 16 4 / 2 ^ 12 % 2 ^ 16) ∧ f.fdp = linear (part 20 2) (part 24 4 / 2 ^ 12 % 2 ^ 16) ∧
      f.fop.toNat = part 16 4 % 2 ^ 11
  | false, false =>
      f.fip = linear (part 6 2) (part 8 2 / 2 ^ 12) ∧ f.fdp = linear (part 10 2) (part 12 2 / 2 ^ 12) ∧
      f.fop.toNat = part 8 2 % 2 ^ 11

/-- The registers of an image, ST(0) lowest (47_x87_b.md R685). -/
def registerImage (f : Fpu) : Nat :=
  ((List.range 8).map fun j => (f.fpr.get (f.fsw.top + BitVec.ofNat 3 j)).toNat * 2 ^ (80 * j)).sum

/-- The control, status and tag words of an environment image loaded (47_x87_b.md R685, R687). -/
def Environment (f : Fpu) (v step : Nat) : Prop :=
  f.fcw = BitVec.ofNat 16 v ∧ f.fsw = Fsw.ofWord (BitVec.ofNat 16 (v / 256 ^ step)) ∧
  f.ftw = v / 256 ^ (2 * step) % 2 ^ 16

end Sys2Proof.Claims
end

