-- ==== Sys2Proof/Certificates/Slice0/Obligations.lean ====
section
/-!
DEFINITION. The statements for the provers. Each is about one shape of instruction, one shared mechanism or the whole
machine; the forms are the tables of Safety/Forms.lean, and the words are those of Safety/Spec.lean.

A premise such as `readOp w src (past s) = .ok b s1` says that the source operand is readable: it reads `b` and leaves
the state `s1` (a memory operand may set Accessed bits, cache a translation and touch a breakpoint). `openDest` says the
same of an operand to be written and gives its addresses. Where those premises hold is said by `AccessChecks` and
`PageWalk`. A flag or a register that the spec leaves undefined is a value that exists and nothing more is said of it.
-/

section

open Sys2Proof Sys2Proof.Machine Sys2Proof.Claims

/-! ### The machine -/

/-- R801: every value after reset, in the state that the host starts from, for some values of the parameters (logs 5 to 8 say
which), and after a reset with any values for them in any state. CR0.ET is 1 where there is a coprocessor. -/
def Obligations.ResetValues : Prop :=
  (∃ p : ResetParams, p.et = State.reset.cfg.hasX87 ∧ AfterReset p State.reset) ∧
  ∀ (p : ResetParams) (s : State), AfterReset p (s.resetBy p)

/-- The invariants of `StepKeepsMemoryInv` and `StepKeepsModes` hold after reset. -/
def Obligations.ResetInvariants : Prop := memoryInv State.reset = true ∧ modesLegal State.reset

/-- Every step keeps memory in canonical form: rising addresses of 32 bits, no byte listed that reads as an unlisted one.
The form is the model's own. -/
def Obligations.StepKeepsMemoryInv : Prop :=
  ∀ s t : State, memoryInv s = true → step s = .next t → memoryInv t = true

/-- Every step keeps the modes legal: paging needs protected mode, virtual-8086 mode is protected mode at CPL 3, and
real-address mode has CPL 0. It changes no parameter, and only a reset changes CR0.ET. -/
def Obligations.StepKeepsModes : Prop :=
  ∀ s t : State, modesLegal s → step s = .next t →
    modesLegal t ∧ t.cfg = s.cfg ∧ (s.resetIn = none → t.cr0.et = s.cr0.et)

/-- Outside CPL 0 of protected mode no step but a reset changes GDTR, IDTR, CR0 but for TS, or a breakpoint address; and CR3,
LDTR and TR change only in a step that leaves what a task switch leaves: TS set, a valid TR of a busy type whose limit holds
a TSS, and an LDTR that is invalid or names an LDT. -/
def Obligations.UserKeepsSystemRegisters : Prop :=
  ∀ s t : State, s.cr0.pe = true → (s.cpl ≠ 0 ∨ s.flags.vm = true) → s.resetIn = none → step s = .next t →
    ((t.cr3 = s.cr3 ∧ t.ldtr = s.ldtr ∧ t.tr = s.tr) ∨
      (t.cr0.ts = true ∧ t.tr.valid = true ∧ (t.tr.type = 3 ∨ t.tr.type = 11) ∧ 0x2B ≤ t.tr.limit.toNat ∧
        (t.ldtr.valid = true → t.ldtr.type = 2))) ∧
    t.gdtr = s.gdtr ∧ t.idtr = s.idtr ∧ { t.cr0 with ts := s.cr0.ts } = s.cr0 ∧
    t.dbg.dr0 = s.dbg.dr0 ∧ t.dbg.dr1 = s.dbg.dr1 ∧ t.dbg.dr2 = s.dbg.dr2 ∧ t.dbg.dr3 = s.dbg.dr3

/-- Decoding the bytes of a well-formed instruction gives it back, with every operand and whatever follows left over; its
first byte is no prefix. A prefix is one byte that is read as that prefix; REP and REPE share theirs. -/
def Obligations.DecodeEncode : Prop :=
  (∀ (o a : Size) (i : Instr) (rest : List Byte), i.wf o a = true → (¬∃ f, PrefixForm i f) →
    decode o a (encode o a i ++ rest) = .ok (i, rest) ∧
    takePrefixes (encode o a i ++ rest) = ([], encode o a i ++ rest)) ∧
  (∀ (o a : Size) (p : Instr) (f : Ins → Ins) (rest : List Byte), PrefixForm p f →
    takePrefixes (encode o a p ++ rest) =
      ((if p = .repe then .rep else p) :: (takePrefixes rest).1, (takePrefixes rest).2))

/-- Words written out from the spec's encodings decode to their instructions. -/
def Obligations.DecodeWords : Prop :=
  decode .s32 .s32 [0x01, 0xD8] = .ok (.addRmR (.reg .eax) .ebx, []) ∧
  decode .s32 .s32 [0x83, 0xD2, 0x00] = .ok (.adcRmImm8 (.reg .edx) 0, []) ∧
  decode .s32 .s32 [0x0F, 0xAF, 0xC3] = .ok (.imulRRm .eax (.reg .ebx), []) ∧
  decode .s32 .s32 [0xC1, 0xE0, 0x04] = .ok (.salRmImm8 (.reg .eax) 4, []) ∧
  decode .s32 .s32 [0x8B, 0x44, 0xB5, 0x08] =
    .ok (.movRRm .eax (.mem (.a32 (some .ebp) (some (.esi, .x4)) 8)), []) ∧
  decode .s16 .s16 [0x8B, 0x42, 0xFE] = .ok (.movRRm .eax (.mem (.a16 .bpsi 0xFFFE)), []) ∧
  decode .s32 .s32 [0xEA, 0x78, 0x56, 0x34, 0x12, 0x08, 0x00] = .ok (.jmpPtr 0x0008 0x12345678, []) ∧
  decode .s16 .s16 [0xE2, 0xFE] = .ok (.loopRel8 0xFE, []) ∧
  decode .s32 .s32 [0x0F, 0x22, 0xC3] = .ok (.movCrR .cr0 .ebx, []) ∧
  decode .s32 .s32 [0xD8, 0xC1] = .ok (.faddSt0Sti 1, []) ∧
  decode .s32 .s32 [0xA4] = .ok (.movsb, []) ∧
  takePrefixes [0x66, 0xF3, 0x2E, 0xA5] = ([.opsize, .rep, .segCs], [0xA5])

/-- A step runs the instruction that the bytes at CS:EIP spell: nothing is due at the boundary, the bytes are within the
segment, unpaged and in memory, and no shorter piece of them is an instruction. Before `exec` the prefixes are recorded
and the next instruction's address is noted (`entry`); after it the step settles RF, the shadow and the pending traps. Each
prefix is recorded for the instruction that follows, and does nothing else (the model's form, log 13). -/
def Obligations.StepRunsDecoded : Prop :=
  (∀ (s : State) (bs : List Byte) (f : Fetched),
    boundary s = none → s.run = .running → s.execHits = 0 → s.cr0.pg = false →
    bs.length ≤ 15 → Spells s bs f → InCode s bs → LegalHere s f →
    step s = settleOutcome s (runAll f.all (f.entry s.starting)) ∧
    (f.prefixes = [] → step s = settleOutcome s (exec f.instr (f.entry s.starting)))) ∧
  (∀ (s : State) (i : Instr) (f : Ins → Ins), PrefixForm i f → exec i s = .next { s with ins := f s.ins })

/-! ### Memory -/

/-- Multi-byte values are little-endian: a stored value is read back modulo its size, byte `k` lies at address + `k`, and
no other byte changes. Memory keeps its form. -/
def Obligations.StoreThenLoad : Prop :=
  ∀ (m : Memory) (a : Word) (n v : Nat), Memory.wf m = true → n ≤ 2 ^ 32 →
    let m' := Memory.store m (addrs a n) v
    Memory.wf m' = true ∧ Memory.load m' (addrs a n) = v % 256 ^ n ∧
    (∀ k, k < n → Memory.read m' (a + BitVec.ofNat 32 k).toNat = BitVec.ofNat 8 (v / 256 ^ k)) ∧
    (∀ x, (∀ k, k < n → x ≠ (a + BitVec.ofNat 32 k).toNat) → Memory.read m' x = Memory.read m x)

/-- A data access of `n` bytes: the segment's validity and type (in protected mode), then its limit, then the address
base + offset. A failure is #GP(0), or #SS(0) for the limit of SS, and changes nothing. -/
def Obligations.AccessChecks : Prop :=
  ∀ (s : State) (r : SReg) (off : Word) (n : Nat) (write : Bool), 0 < n → n ≤ 2 ^ 16 →
    let g := s.segs.get r
    let refused := s.protectedMode = true ∧ (g.valid = false ∨ (if write then g.writable else g.readable) = false)
    (refused → access r off n write s = .error (.exc (.plain 13 (some 0)) false) s) ∧
    (¬refused → ¬Within g off n →
      access r off n write s = .error (.exc (.plain (if r = .ss then 12 else 13) (some 0)) false) s) ∧
    (¬refused → Within g off n → s.cr0.pg = false →
      ∃ h l, access r off n write s = .ok (addrs (g.base + off) n) { s with ins := { s.ins with hits := h, loose := l } } ∧
        (s.dbg.dr7 &&& 0x11110000 = 0 → h = s.ins.hits ∧ l = s.ins.loose))

/-- The page walk: the entries it reads, the rights of a user access, the page fault's error code and CR2, and the
Accessed and Dirty bits it sets: a walk that finds no table entry has set the directory entry's Accessed bit. That, that an
access refused by its rights leaves every Accessed bit as it is, and the form of the cached translation, are the model's
choice (log 12). -/
def Obligations.PageWalk : Prop :=
  ∀ (s : State) (la : Word) (write user : Bool), Memory.wf s.mem = true →
    let pdeAddr : Word := BitVec.ofNat 32 (s.cr3.toNat / 4096 * 4096 + la.toNat / 2 ^ 22 * 4)
    let pde : Word := BitVec.ofNat 32 (Memory.load s.mem (addrs pdeAddr 4))
    let pteAddr : Word := BitVec.ofNat 32 (pde.toNat / 4096 * 4096 + la.toNat / 4096 % 1024 * 4)
    let pte : Word := BitVec.ofNat 32 (Memory.load s.mem (addrs pteAddr 4))
    let allowed := user = false ∨ (pde.getLsbD 2 = true ∧ pte.getLsbD 2 = true ∧
      (write = true → pde.getLsbD 1 = true ∧ pte.getLsbD 1 = true))
    (pde.getLsbD 0 = false → walk la write user s = .error (.exc (pageFault false write user la) false) s) ∧
    (pde.getLsbD 0 = true → pte.getLsbD 0 = false →
      ∃ t, walk la write user s = .error (.exc (pageFault false write user la) false) t ∧
        t = { s with mem := t.mem, ins := { s.ins with sysLog := t.ins.sysLog } } ∧
        ∀ x, Memory.read t.mem x = if x = pdeAddr.toNat then Memory.read s.mem x ||| 0x20 else Memory.read s.mem x) ∧
    (pde.getLsbD 0 = true → pte.getLsbD 0 = true → ¬allowed →
      walk la write user s = .error (.exc (pageFault true write user la) false) s) ∧
    (pde.getLsbD 0 = true → pte.getLsbD 0 = true → allowed →
      ∃ t, walk la write user s = .ok (pte.extractLsb' 12 20) t ∧
        t = { s with mem := t.mem, tlb := t.tlb, ins := { s.ins with sysLog := t.ins.sysLog } } ∧
        (∀ x, Memory.read t.mem x =
          if x = pteAddr.toNat then Memory.read s.mem x ||| (if write then 0x60 else 0x20)
          else if x = pdeAddr.toNat then Memory.read s.mem x ||| 0x20 else Memory.read s.mem x) ∧
        t.tlb.head? = some { page := la.extractLsb' 12 20, frame := pte.extractLsb' 12 20,
                             user := pde.getLsbD 2 && pte.getLsbD 2, writable := pde.getLsbD 1 && pte.getLsbD 1,
                             dirty := write || pte.getLsbD 6 })

/-! ### Arithmetic and logic -/

/-- ADD, ADC, SUB, SBB: the destination is the sum or difference modulo the width, the six status flags say what it
was, and nothing else changes. INC and DEC leave CF alone; NEG is the difference from zero; NOT changes no flag. -/
def Obligations.AddSubtract : Prop :=
  (∀ (s : State) (i : Instr) (op : AluOp) (w : Width) (d src : Opnd), AluForm s.opSize i op w d src →
     ∀ (b : BitVec w.bits) (as : List Word) (s1 s2 : State),
       readOp w src (past s) = .ok b s1 → openDest w d s1 = .ok as s2 →
       let a := destValue w d as s2
       let f := s.flags
       (op = .add → exec i s = .next { putDest w d as (sumOf a b false) s2 with flags := sumFlags f a b false }) ∧
       (op = .adc → exec i s = .next { putDest w d as (sumOf a b f.cf) s2 with flags := sumFlags f a b f.cf }) ∧
       (op = .sub → exec i s = .next { putDest w d as (diffOf a b false) s2 with flags := diffFlags f a b false }) ∧
       (op = .sbb → exec i s = .next { putDest w d as (diffOf a b f.cf) s2 with flags := diffFlags f a b f.cf })) ∧
  (∀ (s : State) (i : Instr) (op : UnaryOp) (w : Width) (d : Opnd), UnaryForm s.opSize i op w d →
     ∀ (as : List Word) (s1 : State), openDest w d (past s) = .ok as s1 →
       let a := destValue w d as s1
       let f := s.flags
       (op = .inc → exec i s =
         .next { putDest w d as (sumOf a 1 false) s1 with flags := { sumFlags f a 1 false with cf := f.cf } }) ∧
       (op = .dec → exec i s =
         .next { putDest w d as (diffOf a 1 false) s1 with flags := { diffFlags f a 1 false with cf := f.cf } }) ∧
       (op = .neg → exec i s = .next { putDest w d as (diffOf 0 a false) s1 with flags := diffFlags f 0 a false }) ∧
       (op = .not → exec i s = .next (putDest w d as (BitVec.ofNat w.bits (2 ^ w.bits - 1 - a.toNat)) s1)))

/-- AND, OR, XOR: each bit of the destination; CF and OF are cleared, AF is any value. CMP and TEST set the flags of
the difference and of the conjunction, and write nothing else. -/
def Obligations.LogicAndCompare : Prop :=
  (∀ (s : State) (i : Instr) (op : AluOp) (w : Width) (d src : Opnd), AluForm s.opSize i op w d src →
     op = .and ∨ op = .or ∨ op = .xor →
     ∀ (b : BitVec w.bits) (as : List Word) (s1 s2 : State),
       readOp w src (past s) = .ok b s1 → openDest w d s1 = .ok as s2 →
       ∃ (r : BitVec w.bits) (af : Bool) (k : Nat),
         exec i s = .next { putDest w d as r s2 with flags := logicFlags s.flags r af, draws := k } ∧
         ∀ j, j < w.bits → r.getLsbD j = logicBit op ((destValue w d as s2).getLsbD j) (b.getLsbD j)) ∧
  ((∀ (s : State) (i : Instr) (w : Width) (d src : Opnd), AluForm s.opSize i .cmp w d src →
     ∀ (a b : BitVec w.bits) (s1 s2 : State), readOp w src (past s) = .ok b s1 → readOp w d s1 = .ok a s2 →
       exec i s = .next { s2 with flags := diffFlags s.flags a b false }) ∧
   (∀ (s : State) (i : Instr) (w : Width) (d src : Opnd), TestForm s.opSize i w d src →
     ∀ (a b : BitVec w.bits) (s1 s2 : State), readOp w src (past s) = .ok b s1 → readOp w d s1 = .ok a s2 →
       ∃ (af : Bool) (k : Nat), exec i s = .next { s2 with flags := logicFlags s.flags (a &&& b) af, draws := k }))

/-- MUL and the three forms of IMUL: the exact product, cut to the destination; CF and OF tell whether the cut lost
anything; SF, ZF, AF and PF are any values. -/
def Obligations.Multiply : Prop :=
  (∀ (s : State) (i : Instr) (signed : Bool) (w : Width) (src : Opnd), MulForm s.opSize i signed w src →
    ∀ (b : BitVec w.bits) (s1 : State), readOp w src (past s) = .ok b s1 →
      let a := destValue w (accOp w) [] s1
      let p := valueOf signed a * valueOf signed b
      ∃ (sf zf af pf : Bool) (k : Nat), exec i s =
        .next { s1 with regs := putPair w s1.regs p, draws := k,
                        flags := { s.flags with cf := decide (¬InRange signed w.bits p),
                                                of := decide (¬InRange signed w.bits p),
                                                sf := sf, zf := zf, af := af, pf := pf } }) ∧
  (∀ (s : State) (i : Instr) (w : Width) (r : Reg) (x y : Opnd), ImulForm s.opSize i w r x y →
    ∀ (a b : BitVec w.bits) (s1 s2 : State), readOp w x (past s) = .ok a s1 → readOp w y s1 = .ok b s2 →
      let p := a.toInt * b.toInt
      ∃ (sf zf af pf : Bool) (k : Nat), exec i s =
        .next { s2 with regs := putReg w s2.regs r (BitVec.ofInt w.bits p), draws := k,
                        flags := { s.flags with cf := decide (¬InRange true w.bits p),
                                                of := decide (¬InRange true w.bits p),
                                                sf := sf, zf := zf, af := af, pf := pf } })

/-- DIV and IDIV: the quotient toward zero and the remainder with the sign of the dividend, when the quotient fits; else,
and for a divisor of zero, #DE. The status flags are any values. -/
def Obligations.Divide : Prop :=
  ∀ (s : State) (i : Instr) (signed : Bool) (w : Width) (src : Opnd), DivForm s.opSize i signed w src →
    ∀ (b : BitVec w.bits) (s1 : State), readOp w src (past s) = .ok b s1 →
      let n := dividend signed w s1.regs
      let d := valueOf signed b
      (∀ q r : Int, n = q * d + r → r.natAbs < d.natAbs → 0 ≤ r * n → InRange signed w.bits q →
        ∃ (cf pf af zf sf of : Bool) (k : Nat), exec i s =
          .next { s1 with regs := putQuotient w s1.regs q r, draws := k,
                          flags := { s.flags with cf := cf, pf := pf, af := af, zf := zf, sf := sf, of := of } }) ∧
      ((¬∃ q r : Int, n = q * d + r ∧ r.natAbs < d.natAbs ∧ 0 ≤ r * n ∧ InRange signed w.bits q) →
        faults i s (.plain 0 none) s1)

/-- CBW, CWDE, CWD and CDQ extend the sign of the accumulator; AAM and AAD convert between a byte and two digits, AAM
by zero being #DE; flags said undefined are any values. AAA, AAS, DAA and DAS by the digits of AL; flags said undefined
are any values. -/
def Obligations.AccumulatorAdjust : Prop :=
  (∀ s : State,
     let g := s.regs
     let al := g.get8 .al
     let ah := g.get8 .ah
     exec .cbwCwde s = .next { past s with regs := match s.opSize with
       | .s16 => g.set16 .eax (BitVec.ofInt 16 al.toInt)
       | .s32 => g.set .eax (BitVec.ofInt 32 (g.get16 .eax).toInt) } ∧
     exec .cwdCdq s = .next { past s with regs := match s.opSize with
       | .s16 => g.set16 .edx (BitVec.ofInt 16 ((g.get16 .eax).toInt / 2 ^ 16))
       | .s32 => g.set .edx (BitVec.ofInt 32 (g.eax.toInt / 2 ^ 32)) } ∧
     (∀ b : Byte, b ≠ 0 → ∃ (of af cf : Bool) (k : Nat),
       let q := BitVec.ofNat 8 (al.toNat / b.toNat)
       let r := BitVec.ofNat 8 (al.toNat % b.toNat)
       exec (.aamImm8 b) s = .next { past s with
         regs := (g.set8 .ah q).set8 .al r, draws := k,
         flags := { signZeroParity s.flags r with of := of, af := af, cf := cf } }) ∧
     faults (.aamImm8 0) s (.plain 0 none) (past s) ∧
     (∀ b : Byte, ∃ (of af cf : Bool) (k : Nat),
       let r := BitVec.ofNat 8 (al.toNat + ah.toNat * b.toNat)
       exec (.aadImm8 b) s = .next { past s with
         regs := (g.set8 .al r).set8 .ah 0, draws := k,
         flags := { signZeroParity s.flags r with of := of, af := af, cf := cf } })) ∧
  (∀ s : State,
     let g := s.regs
     let f := s.flags
     let al := (g.get8 .al).toNat
     let ah := (g.get8 .ah).toNat
     let low := decide (9 < al % 16) || f.af
     let high := decide (0x99 < al) || f.cf
     (∃ (of sf zf pf : Bool) (k : Nat), exec .aaa s = .next { past s with
       regs := (g.set8 .al (BitVec.ofNat 8 ((al + if low then 6 else 0) % 16))).set8 .ah
         (BitVec.ofNat 8 (ah + if low then 1 + (al + 6) / 256 else 0)), draws := k,
       flags := { f with cf := low, af := low, of := of, sf := sf, zf := zf, pf := pf } }) ∧
     (∃ (of sf zf pf : Bool) (k : Nat), exec .aas s = .next { past s with
       regs := (g.set8 .al (BitVec.ofInt 8 ((al - (if low then 6 else 0) : Int) % 16))).set8 .ah
         (BitVec.ofInt 8 (ah - if low then (if al < 6 then 2 else 1) else 0)), draws := k,
       flags := { f with cf := low, af := low, of := of, sf := sf, zf := zf, pf := pf } }) ∧
     (∃ (of : Bool) (k : Nat),
       let r := BitVec.ofNat 8 (al + (if low then 6 else 0) + if high then 0x60 else 0)
       exec .daa s = .next { past s with
         regs := g.set8 .al r, draws := k,
         flags := { signZeroParity f r with cf := high, af := low, of := of } }) ∧
     (∃ (of : Bool) (k : Nat),
       let r := BitVec.ofInt 8 (al - (if low then 6 else 0) - if high then 0x60 else 0)
       exec .das s = .next { past s with
         regs := g.set8 .al r, draws := k,
         flags := { signZeroParity f r with cf := high || (low && decide (al < 6)), af := low, of := of } }))

/-! ### Shifts and bits -/

/-- SHL, SHR and SAR multiply and divide by a power of two, the count taken modulo 32; CF is the last bit shifted out,
where the spec defines it, and OF is defined for a count of 1. A count of zero changes nothing; that its check for writing
counts as a write for a breakpoint is the model's choice (log 27). -/
def Obligations.Shifts : Prop :=
  ∀ (s : State) (i : Instr) (op : ShiftOp) (w : Width) (d : Opnd) (c : Count), ShiftForm s.opSize i op w d c →
    op = .shl ∨ op = .shr ∨ op = .sar →
    ∀ (as : List Word) (s1 : State), openDest w d (past s) = .ok as s1 →
      let a := destValue w d as s1
      let m := countOf s c
      (m = 0 → exec i s = .next s1) ∧
      (m ≠ 0 → ∃ (r : BitVec w.bits) (cf of af : Bool) (k : Nat),
        exec i s = .next { putDest w d as r s1 with
          flags := { signZeroParity s.flags r with cf := cf, of := of, af := af }, draws := k } ∧
        (op = .shl → r.toNat = a.toNat * 2 ^ m % 2 ^ w.bits ∧
          (m < w.bits → cf = decide (a.toNat / 2 ^ (w.bits - m) % 2 = 1)) ∧ (m = 1 → of = (r.msb ^^ cf))) ∧
        (op = .shr → r.toNat = a.toNat / 2 ^ m ∧
          (m < w.bits → cf = decide (a.toNat / 2 ^ (m - 1) % 2 = 1)) ∧ (m = 1 → of = a.msb)) ∧
        (op = .sar → r.toInt = a.toInt / 2 ^ m ∧ cf = decide (a.toInt / 2 ^ (m - 1) % 2 = 1) ∧ (m = 1 → of = false)))

/-- ROL and ROR turn the bits of the operand in a ring; RCL and RCR those of the operand with CF above it. CF and OF are
the only flags written, OF defined for a count of 1. A masked count of zero changes nothing; that its check for writing counts
as a write for a breakpoint is the model's choice (log 27). -/
def Obligations.Rotates : Prop :=
  ∀ (s : State) (i : Instr) (op : ShiftOp) (w : Width) (d : Opnd) (c : Count), ShiftForm s.opSize i op w d c →
    op = .rol ∨ op = .ror ∨ op = .rcl ∨ op = .rcr →
    ∀ (as : List Word) (s1 : State), openDest w d (past s) = .ok as s1 →
      let a := destValue w d as s1
      let m := countOf s c
      let n := w.bits
      (m = 0 → exec i s = .next s1) ∧
      (m ≠ 0 → ∃ (r : BitVec w.bits) (cf of : Bool) (k : Nat),
        exec i s = .next { putDest w d as r s1 with flags := { s.flags with cf := cf, of := of }, draws := k } ∧
        (op = .rol → (∀ j, j < n → r.getLsbD ((j + m) % n) = a.getLsbD j) ∧ cf = r.getLsbD 0 ∧
          (m = 1 → of = (r.msb ^^ cf))) ∧
        (op = .ror → (∀ j, j < n → r.getLsbD j = a.getLsbD ((j + m) % n)) ∧ cf = r.msb ∧
          (m = 1 → of = (r.getLsbD (n - 1) ^^ r.getLsbD (n - 2)))) ∧
        (op = .rcl → (∀ j, j ≤ n → ringBit r cf ((j + m) % (n + 1)) = ringBit a s.flags.cf j) ∧
          (m = 1 → of = (r.msb ^^ cf))) ∧
        (op = .rcr → (∀ j, j ≤ n → ringBit r cf j = ringBit a s.flags.cf ((j + m) % (n + 1))) ∧
          (m = 1 → of = (a.msb ^^ s.flags.cf))))

/-- SHLD and SHRD shift the operand with the bits of the register coming in. A count of zero changes nothing (its check for
writing counts as a write for a breakpoint, the model's choice: log 27); above the width the result and the flags are any
values. -/
def Obligations.DoubleShifts : Prop :=
  ∀ (s : State) (i : Instr) (left : Bool) (w : Width) (d : Opnd) (src : Reg) (c : Count),
    DoubleForm s.opSize i left w d src c →
    ∀ (as : List Word) (s1 : State), openDest w d (past s) = .ok as s1 →
      let a := destValue w d as s1
      let b := destValue w (.reg src) [] s
      let m := countOf s c
      (m = 0 → exec i s = .next s1) ∧
      (0 < m → m ≤ w.bits → ∃ (r : BitVec w.bits) (cf of af : Bool) (k : Nat),
        exec i s = .next { putDest w d as r s1 with
          flags := { signZeroParity s.flags r with cf := cf, of := of, af := af }, draws := k } ∧
        (left = true → r.toNat = (a.toNat * 2 ^ w.bits + b.toNat) * 2 ^ m / 2 ^ w.bits % 2 ^ w.bits ∧
          cf = decide (a.toNat / 2 ^ (w.bits - m) % 2 = 1)) ∧
        (left = false → r.toNat = (b.toNat * 2 ^ w.bits + a.toNat) / 2 ^ m % 2 ^ w.bits ∧
          cf = decide (a.toNat / 2 ^ (m - 1) % 2 = 1)) ∧
        (m = 1 → of = (r.msb ^^ a.msb))) ∧
      (w.bits < m → ∃ (r : BitVec w.bits) (cf pf af zf sf of : Bool) (k : Nat),
        exec i s = .next { putDest w d as r s1 with
          flags := { s.flags with cf := cf, pf := pf, af := af, zf := zf, sf := sf, of := of }, draws := k })

/-- BT, BTS, BTR and BTC: CF takes the bit; the others change it alone. In a register the offset counts modulo the
width; in memory a register's offset, signed, selects the word it lies in. ZF is unchanged. BSF and BSR give the index
of the lowest and of the highest 1 bit and clear ZF; for a source of zero ZF is set and the destination is any value.
The other status flags are any values. -/
def Obligations.BitInstructions : Prop :=
  (∀ (s : State) (i : Instr) (op : BitOp) (d : RM) (x : BitIndex), BitForm i op d x →
     let w := s.width
     let off := bitOffset s x
     let j := (off % w.bits).toNat
     (∀ q : Reg, d = .reg q → ∃ (r : BitVec w.bits) (of sf af pf : Bool) (k : Nat),
       let a := destValue w (.reg q) [] s
       exec i s = .next { past s with
         regs := if op = .test then s.regs else putReg w s.regs q r, draws := k,
         flags := { s.flags with cf := a.getLsbD j, of := of, sf := sf, af := af, pf := pf } } ∧
       ∀ y, y < w.bits → r.getLsbD y = if y = j then bitAfter op (a.getLsbD j) else a.getLsbD y) ∧
     (∀ m : MemOp, d = .mem m →
       let start := match x with
         | .imm _ => ea s.regs m
         | .reg _ => sizeTrunc (sizeOf m) (ea s.regs m + BitVec.ofInt 32 (off / w.bits * w.bytes))
       ∀ (as : List Word) (s1 : State),
         access (s.segFor m) start w.bytes (decide (op ≠ .test)) (past s) = .ok as s1 →
         ∃ (r : BitVec w.bits) (of sf af pf : Bool) (k : Nat),
           let a : BitVec w.bits := BitVec.ofNat w.bits (Memory.load s1.mem as)
           exec i s = .next { s1 with
             mem := if op = .test then s1.mem else Memory.store s1.mem as r.toNat, draws := k,
             flags := { s.flags with cf := a.getLsbD j, of := of, sf := sf, af := af, pf := pf } } ∧
           ∀ y, y < w.bits → r.getLsbD y = if y = j then bitAfter op (a.getLsbD j) else a.getLsbD y)) ∧
  (∀ (s : State) (i : Instr) (r : Reg) (m : RM), i = .bsfRRm r m ∨ i = .bsrRRm r m →
     let w := s.width
     ∀ (a : BitVec w.bits) (s1 : State), readOp w (rmOp m) (past s) = .ok a s1 →
       ∃ (v : BitVec w.bits) (cf pf af sf of : Bool) (k : Nat),
         exec i s = .next { s1 with
           regs := putReg w s1.regs r v, draws := k,
           flags := { s.flags with cf := cf, pf := pf, af := af, zf := decide (a = 0), sf := sf, of := of } } ∧
         (a ≠ 0 → a.getLsbD v.toNat = true ∧
           (i = .bsfRRm r m → ∀ j, j < v.toNat → a.getLsbD j = false) ∧
           (i = .bsrRRm r m → ∀ j, v.toNat < j → a.getLsbD j = false)))

/-- The condition codes of R62: SETcc writes 1 when its condition holds and 0 when it does not, an odd number is the
negation of the number before it, and the low four bits of the opcodes 70+cc, 0F 80+cc and 0F 90+cc are the number. What
Jcc does with its condition is said by `NearTransfers`. -/
def Obligations.ConditionCodes : Prop :=
  (∀ (s : State) (i : Instr) (c : Cond) (d : RM8), SetForm i c d →
    ∀ (as : List Word) (s1 : State), openDest .w8 (rm8Op d) (past s) = .ok as s1 →
      (Holds c s.flags → exec i s = .next (putDest .w8 (rm8Op d) as 1 s1)) ∧
      (¬Holds c s.flags → exec i s = .next (putDest .w8 (rm8Op d) as 0 s1))) ∧
  (∀ f : Flags, (Holds .no f ↔ ¬Holds .o f) ∧ (Holds .ae f ↔ ¬Holds .b f) ∧ (Holds .ne f ↔ ¬Holds .e f) ∧
    (Holds .a f ↔ ¬Holds .be f) ∧ (Holds .ns f ↔ ¬Holds .s f) ∧ (Holds .np f ↔ ¬Holds .p f) ∧
    (Holds .ge f ↔ ¬Holds .l f) ∧ (Holds .g f ↔ ¬Holds .le f)) ∧
  (∀ (o a : Size) (k : Nat) (c : Cond), conditions[k]? = some c →
    (∀ b : Byte, ∃ i, decode o a [BitVec.ofNat 8 (0x70 + k), b] = .ok (i, []) ∧ JccForm i c (sext b)) ∧
    (∀ v : Nat, v < 256 ^ sizeBytes o → ∃ i rel, JccForm i c rel ∧ (sizeTrunc o rel).toNat = v ∧
      decode o a (0x0F :: BitVec.ofNat 8 (0x80 + k) ::
        (List.range (sizeBytes o)).map fun j => BitVec.ofNat 8 (v / 256 ^ j)) = .ok (i, [])) ∧
    (∃ i, decode o a [0x0F, BitVec.ofNat 8 (0x90 + k), 0xC0] = .ok (i, []) ∧ SetForm i c (.reg .al)))


/-! ### Data movement -/

/-- MOV, MOVSX, MOVZX and the direct-offset forms copy the source, extended with its sign or with zeros. XCHG exchanges its
operands; LEA stores the effective address without an access; XLAT reads DS:(E)BX + AL. -/
def Obligations.Moves : Prop :=
  (∀ (s : State) (i : Instr) (w : Width) (d src : Opnd), MoveForm s.opSize i w d src →
    ∀ (v : BitVec w.bits) (as : List Word) (s1 s2 : State),
      readOp w src (past s) = .ok v s1 → openDest w d s1 = .ok as s2 → exec i s = .next (putDest w d as v s2)) ∧
  (∀ (s : State) (i : Instr) (signed : Bool) (narrow : Width) (r : Reg) (src : Opnd), ExtendForm i signed narrow r src →
    ∀ (v : BitVec narrow.bits) (s1 : State), readOp narrow src (past s) = .ok v s1 →
      exec i s = .next { s1 with regs := putReg s.width s1.regs r (BitVec.ofInt s.width.bits (valueOf signed v)) }) ∧
  (∀ (s : State) (off : Word) (v : Nat) (s1 : State), memRead s.dsSeg off 1 (past s) = .ok v s1 →
    exec (.movAlMoffs off) s = .next { s1 with regs := s1.regs.set8 .al (BitVec.ofNat 8 v) }) ∧
  (∀ (s : State) (off : Word) (v : Nat) (s1 : State), memRead s.dsSeg off s.width.bytes (past s) = .ok v s1 →
    exec (.movEaxMoffs off) s =
      .next { s1 with regs := putReg s.width s1.regs .eax (BitVec.ofNat s.width.bits v) }) ∧
  (∀ (s : State) (off : Word) (as : List Word) (s1 : State), access s.dsSeg off 1 true (past s) = .ok as s1 →
    exec (.movMoffsAl off) s = .next { s1 with mem := Memory.store s1.mem as (s.regs.get8 .al).toNat }) ∧
  (∀ (s : State) (off : Word) (as : List Word) (s1 : State),
    access s.dsSeg off s.width.bytes true (past s) = .ok as s1 →
    exec (.movMoffsEax off) s =
      .next { s1 with mem := Memory.store s1.mem as (destValue s.width (.reg .eax) [] s).toNat }) ∧
  (∀ (s : State) (i : Instr) (w : Width) (d src : Opnd), ExchangeForm s.opSize i w d src →
    ∀ (as : List Word) (s1 : State), openDest w d (past s) = .ok as s1 →
      exec i s = .next (putDest w d as (destValue w src [] s1) (putDest w src [] (destValue w d as s1) s1))) ∧
  (∀ (s : State) (r : Reg) (m : MemOp),
    exec (.leaRM r m) s =
      .next { past s with regs := putReg s.width s.regs r (BitVec.ofNat s.width.bits (ea s.regs m).toNat) }) ∧
  (∀ (s : State) (v : Nat) (s1 : State),
    memRead s.dsSeg (sizeTrunc s.adSize (s.regs.ebx + zext (s.regs.get8 .al))) 1 (past s) = .ok v s1 →
    exec .xlat s = .next { s1 with regs := s1.regs.set8 .al (BitVec.ofNat 8 v) })

/-- MOV from a segment register stores 16 bits in memory or in a 16-bit register; of a 32-bit register the upper half
is any value. MOV to a segment register loads it, and a load of SS makes the interrupt shadow; MOV to CS is #UD. LDS,
LES, LFS, LGS and LSS read the offset and, above it, the selector, load the segment register and then the register. -/
def Obligations.SegmentMoves : Prop :=
  ((∀ (s : State) (m : MemOp) (r : SReg) (as : List Word) (s1 : State), accessMem m 2 true (past s) = .ok as s1 →
     exec (.movRmSreg (.mem m) r) s = .next { s1 with mem := Memory.store s1.mem as (s.segs.get r).selector.toNat }) ∧
   (∀ (s : State) (q : Reg) (r : SReg), s.opSize = .s16 →
     exec (.movRmSreg (.reg q) r) s = .next { past s with regs := s.regs.set16 q (s.segs.get r).selector }) ∧
   (∀ (s : State) (q : Reg) (r : SReg), s.opSize = .s32 → ∃ (upper : Half) (k : Nat),
     exec (.movRmSreg (.reg q) r) s =
       .next { past s with regs := s.regs.set q (upper ++ (s.segs.get r).selector), draws := k }) ∧
   (∀ (s : State) (r : SReg) (m : RM) (v : Half) (s1 s2 : State), r ≠ .cs →
     readOp .w16 (rmOp m) (past s) = .ok v s1 → loadSreg r v s1 = .ok () s2 →
     exec (.movSregRm r m) s = .next { s2 with shadow := if r = .ss then .ssLoad else s.shadow }) ∧
   (∀ (s : State) (m : RM), faults (.movSregRm .cs m) s (.plain 6 none) (past s))) ∧
  (∀ (s : State) (i : Instr) (r : Reg) (g : SReg) (m : MemOp), FarLoadForm i r g m →
     ∀ (v : Nat) (s1 s2 : State), readMem m (s.width.bytes + 2) (past s) = .ok v s1 →
       loadSreg g (BitVec.ofNat 16 (v / 2 ^ s.width.bits)) s1 = .ok () s2 →
       exec i s = .next { s2 with regs := putReg s.width s2.regs r (BitVec.ofNat s.width.bits v) })

/-- Loading a segment register: selector and base in real-address and virtual-8086 mode; in protected mode a NULL
selector, or a descriptor of the right type, privilege and presence, whose Accessed bit is set; else the exception the
spec names, with the selector as its error code. -/
def Obligations.SegmentLoad : Prop :=
  ∀ (s : State) (r : SReg) (sel : Half), r ≠ .cs →
    let null := sel.toNat / 4 = 0
    let code : Half := BitVec.ofNat 16 (sel.toNat / 4 * 4)
    let rpl := sel.toNat % 4
    (s.protectedMode = false → loadSreg r sel s = .ok () { s with
      segs := s.segs.set r { s.segs.get r with selector := sel, base := BitVec.ofNat 32 (sel.toNat * 16) } }) ∧
    (s.protectedMode = true → null → r ≠ .ss → loadSreg r sel s = .ok () { s with
      segs := s.segs.set r { s.segs.get r with selector := sel, valid := false } }) ∧
    (s.protectedMode = true → null → r = .ss → loadSreg r sel s = .error (.exc (.plain 13 (some 0)) false) s) ∧
    (s.protectedMode = true → ¬null → descriptorAt s sel = none →
      loadSreg r sel s = .error (.exc (.plain 13 (some code)) false) s) ∧
    (s.protectedMode = true → ¬null → ∀ (a : Word) (v : Nat) (s1 : State), descriptorAt s sel = some a →
      linRead a 8 s = .ok v s1 →
      let d : Desc := BitVec.ofNat 64 v
      let ok := if r = .ss then rpl = s.cpl.toNat ∧ d.writableData = true ∧ d.dpl = s.cpl
        else d.readable = true ∧ (d.conforming = true ∨ (rpl ≤ d.dpl.toNat ∧ s.cpl ≤ d.dpl))
      (¬ok → loadSreg r sel s = .error (.exc (.plain 13 (some code)) false) s1) ∧
      (ok → d.p = false →
        loadSreg r sel s = .error (.exc (.plain (if r = .ss then 12 else 11) (some code)) false) s1) ∧
      (ok → d.p = true → d.getLsbD 40 = true →
        loadSreg r sel s = .ok () { s1 with segs := s1.segs.set r (segmentOf sel d) }) ∧
      (ok → d.p = true → d.getLsbD 40 = false → ∀ s2,
        linWriteSysByte (a + 5) (d.extractLsb' 40 8 ||| 1) s1 = .ok () s2 →
        loadSreg r sel s = .ok () { s2 with segs := s2.segs.set r (segmentOf sel d) }))

/-- PUSH of an operand, of a segment register and of the flags: the stack pointer moves down by the operand size and the
value is stored there; the operand is read before. A 32-bit push of a selector writes two of its four bytes, unless the
parameter says that it writes zeros above. PUSHF stores VM and RF as 0 and needs IOPL 3 in virtual-8086 mode. A push of four
bytes in real-address mode that finds no room with SP = 1, 2 or 3 ends in shutdown; that this holds for SP = 2 too, where R751
would let the #SS be delivered, is the model's choice (log 32). -/
def Obligations.Pushes : Prop :=
  (∀ (s : State) (i : Instr) (src : Opnd), PushForm i src →
    ∀ (v : BitVec s.width.bits) (as : List Word) (s1 s2 : State), readOp s.width src (past s) = .ok v s1 →
      stackAccess s.segs.ss (below s.stackSize s.sp s.width.bytes 1) s.width.bytes true s.user 0 s1 = .ok as s2 →
      exec i s = .next { s2 with
        mem := Memory.store s2.mem as v.toNat,
        regs := s.regs.setV s.stackSize .esp (s.sp - BitVec.ofNat 32 s.width.bytes) }) ∧
  (∀ (s : State) (i : Instr) (r : SReg), PushSegForm i r →
    ∀ (as : List Word) (s1 : State),
      stackAccess s.segs.ss (below s.stackSize s.sp s.width.bytes 1) s.width.bytes true s.user 0 (past s) = .ok as s1 →
      exec i s = .next { s1 with
        mem := Memory.store s1.mem (if s.cfg.pushSreg32ZeroExt then as else as.take 2) (s.segs.get r).selector.toNat,
        regs := s.regs.setV s.stackSize .esp (s.sp - BitVec.ofNat 32 s.width.bytes) }) ∧
  (∀ s : State, s.v86 = true → s.flags.iopl ≠ 3 → faults .pushf s (.plain 13 (some 0)) (past s)) ∧
  (∀ s : State, s.v86 = false ∨ s.flags.iopl = 3 →
    ∀ (as : List Word) (s1 : State),
      stackAccess s.segs.ss (below s.stackSize s.sp s.width.bytes 1) s.width.bytes true s.user 0 (past s) = .ok as s1 →
      exec .pushf s = .next { s1 with
        mem := Memory.store s1.mem as ({ s.flags with vm := false, rf := false }.toWord.toNat),
        regs := s.regs.setV s.stackSize .esp (s.sp - BitVec.ofNat 32 s.width.bytes) }) ∧
  (∀ s : State, s.cr0.pe = false → s.opSize = .s32 → s.stackSize = .s16 → 1 ≤ s.sp.toNat → s.sp.toNat ≤ 3 →
    ¬Within s.segs.ss (below s.stackSize s.sp 4 1) 4 →
    (∀ (i : Instr) (src : Opnd), PushForm i src → ∀ (v : BitVec s.width.bits) (s1 : State),
      readOp s.width src (past s) = .ok v s1 → ShutsDown i s s1) ∧
    (∀ (i : Instr) (r : SReg), PushSegForm i r → ShutsDown i s (past s)) ∧
    (s.flags.vm = false → ShutsDown .pushf s (past s) ∧ ShutsDown .pusha s (past s)))

/-- POP to an operand, to a segment register and to the flags: the value at the stack pointer, which moves up before the
address of a memory destination is computed; where a 16-bit SP wraps and the address uses ESP, the address is one of two
(log 26). POPF changes IOPL only at CPL 0 and IF only where CPL is at most IOPL; VM
stays and a 32-bit POPF clears RF. -/
def Obligations.Pops : Prop :=
  (∀ (s : State) (i : Instr) (d : Opnd), PopForm i d → popWraps s d s.width.bytes = false →
    ∀ (as bs : List Word) (s1 s2 : State),
      stackAccess s.segs.ss s.sp s.width.bytes false s.user 0 (past s) = .ok as s1 →
      openDest s.width d { s1 with
        regs := s.regs.setV s.stackSize .esp (s.sp + BitVec.ofNat 32 s.width.bytes) } = .ok bs s2 →
      exec i s = .next (putDest s.width d bs (BitVec.ofNat s.width.bits (Memory.load s1.mem as)) s2)) ∧
  (∀ (s : State) (i : Instr) (d : Opnd), PopForm i d → popWraps s d s.width.bytes = true →
    ∀ (as bs : List Word) (s1 s2 : State),
      stackAccess s.segs.ss s.sp s.width.bytes false s.user 0 (past s) = .ok as s1 →
      let n := BitVec.ofNat 32 s.width.bytes
      let wrapped := s.regs.setV s.stackSize .esp (s.sp + n)
      let carried := s.regs.set .esp (s.regs.esp + n)
      openDest s.width d { s1 with regs := if Config.freeBit s1.draws then carried else wrapped, draws := s1.draws + 1 } =
        .ok bs s2 →
      exec i s = .next { s2 with
        mem := Memory.store s2.mem bs (BitVec.ofNat s.width.bits (Memory.load s1.mem as)).toNat, regs := wrapped }) ∧
  (∀ (s : State) (i : Instr) (r : SReg), PopSegForm i r →
    ∀ (as : List Word) (s1 s2 : State),
      stackAccess s.segs.ss s.sp s.width.bytes false s.user 0 (past s) = .ok as s1 →
      loadSreg r (BitVec.ofNat 16 (Memory.load s1.mem as)) s1 = .ok () s2 →
      exec i s = .next { s2 with
        regs := s.regs.setV s2.stackSize .esp (s.regs.getV s2.stackSize .esp + BitVec.ofNat 32 s.width.bytes),
        shadow := if r = .ss then .ssLoad else s.shadow }) ∧
  (∀ s : State, s.v86 = true → s.flags.iopl ≠ 3 → faults .popf s (.plain 13 (some 0)) (past s)) ∧
  (∀ s : State, s.v86 = false ∨ s.flags.iopl = 3 →
    ∀ (as : List Word) (s1 : State),
      stackAccess s.segs.ss s.sp s.width.bytes false s.user 0 (past s) = .ok as s1 →
      let w : Flags := Flags.ofWord (BitVec.ofNat 32 (Memory.load s1.mem as))
      let f := s.flags
      exec .popf s = .next { s1 with
        regs := s.regs.setV s.stackSize .esp (s.sp + BitVec.ofNat 32 s.width.bytes),
        flags := { w with
          ifl := if s.cr0.pe = true ∧ f.vm = false ∧ f.iopl < s.cpl then f.ifl else w.ifl,
          iopl := if s.cr0.pe = true ∧ (f.vm = true ∨ s.cpl ≠ 0) then f.iopl else w.iopl,
          rf := if s.opSize = .s32 then false else f.rf,
          vm := f.vm } })

/-- PUSHA stores the eight registers, SP as it was before, and POPA loads them back but for SP, in an unpaged state where
no breakpoint watches data and all eight slots within the stack segment. In real-address and virtual-8086 mode PUSHA with SP =
7, 9, 11, 13 or 15 is #GP(0), and with SP = 1, 3 or 5 it ends in shutdown (in virtual-8086 mode too, and
whatever the segment limit: log 32). -/
def Obligations.PushaPopa : Prop :=
  (∀ s : State, quiet s → s.protectedMode = true ∨ (s.sp ∉ pushaOdd ∧ s.sp ∉ [1, 3, 5]) → Room s s.width.bytes 8 →
    let v := fun r => (s.regs.getV s.opSize r).toNat
    exec .pusha s = .next (pushed (past s) s.width.bytes
      [v .eax, v .ecx, v .edx, v .ebx, v .esp, v .ebp, v .esi, v .edi])) ∧
  (∀ s : State, s.protectedMode = false → s.sp ∈ pushaOdd → faults .pusha s (.plain 13 (some 0)) (past s)) ∧
  (∀ s : State, s.protectedMode = false → s.sp ∈ [1, 3, 5] → ShutsDown .pusha s (past s)) ∧
  (∀ s : State, quiet s → (∀ k, k < 8 → Within s.segs.ss (slotAbove s (s.width.bytes * k)) s.width.bytes) →
    let v := fun k => BitVec.ofNat 32 (stackLoad s (s.width.bytes * k) s.width.bytes)
    let g := s.regs.setV s.stackSize .esp (s.sp + BitVec.ofNat 32 (8 * s.width.bytes))
    exec .popa s = .next { past s with
      regs := ((((((g.setV s.opSize .edi (v 0)).setV s.opSize .esi (v 1)).setV s.opSize .ebp (v 2)).setV s.opSize .ebx
        (v 4)).setV s.opSize .edx (v 5)).setV s.opSize .ecx (v 6)).setV s.opSize .eax (v 7) })

/-- CLC, STC, CMC, CLD, STD, LAHF and SAHF; CLI and STI where CPL is at most IOPL or in real-address mode, else #GP(0).
STI with IF = 0 before makes the interrupt shadow. -/
def Obligations.FlagInstructions : Prop :=
  ∀ s : State,
    let f := s.flags
    let w := Flags.ofWord (zext (s.regs.get8 .ah))
    let may := s.cr0.pe = false ∨ s.cpl ≤ f.iopl
    exec .clc s = .next { past s with flags := { f with cf := false } } ∧
    exec .stc s = .next { past s with flags := { f with cf := true } } ∧
    exec .cmc s = .next { past s with flags := { f with cf := !f.cf } } ∧
    exec .cld s = .next { past s with flags := { f with df := false } } ∧
    exec .std s = .next { past s with flags := { f with df := true } } ∧
    exec .lahf s = .next { past s with regs := s.regs.set8 .ah (BitVec.ofNat 8
      (128 * f.sf.toNat + 64 * f.zf.toNat + 16 * f.af.toNat + 4 * f.pf.toNat + 2 + f.cf.toNat)) } ∧
    exec .sahf s = .next { past s with
      flags := { f with sf := w.sf, zf := w.zf, af := w.af, pf := w.pf, cf := w.cf } } ∧
    (may → exec .cli s = .next { past s with flags := { f with ifl := false } }) ∧
    (may → exec .sti s = .next { past s with
      flags := { f with ifl := true }, shadow := if f.ifl then s.shadow else .sti }) ∧
    (¬may → faults .cli s (.plain 13 (some 0)) (past s) ∧ faults .sti s (.plain 13 (some 0)) (past s))

/-! ### Strings and ports -/

/-- One element of a string instruction: source at DS:(E)SI, where an override may replace DS, destination at ES:(E)DI;
the index registers move by the element size, down when DF = 1. Without a repeat prefix the instruction is that element. -/
def Obligations.StringElement : Prop :=
  ∀ (s : State) (i : Instr) (op : StringOp) (w : Width), StringForm s.opSize i op w →
    let p := past s
    let si := s.regs.getV s.adSize .esi
    let di := s.regs.getV s.adSize .edi
    let port := s.regs.get16 .edx
    (s.ins.rep = none → ∀ t, element op w p = .ok () t → exec i s = .next t) ∧
    (op = .movs → ∀ v as s1 s2, memRead s.dsSeg si w.bytes p = .ok v s1 → access .es di w.bytes true s1 = .ok as s2 →
      element op w p = .ok () { s2 with
        mem := Memory.store s2.mem as (v % 2 ^ w.bits), regs := nextIndex s w .edi (nextIndex s w .esi s.regs) }) ∧
    (op = .cmps → ∀ v u s1 s2, memRead s.dsSeg si w.bytes p = .ok v s1 → memRead .es di w.bytes s1 = .ok u s2 →
      element op w p = .ok () { s2 with
        flags := diffFlags s.flags (BitVec.ofNat w.bits v) (BitVec.ofNat w.bits u) false,
        regs := nextIndex s w .edi (nextIndex s w .esi s.regs) }) ∧
    (op = .scas → ∀ u s1, memRead .es di w.bytes p = .ok u s1 →
      element op w p = .ok () { s1 with
        flags := diffFlags s.flags (destValue w (accOp w) [] s) (BitVec.ofNat w.bits u) false,
        regs := nextIndex s w .edi s.regs }) ∧
    (op = .lods → ∀ v s1, memRead s.dsSeg si w.bytes p = .ok v s1 →
      element op w p = .ok () { s1 with
        regs := nextIndex s w .esi (putReg w s.regs .eax (BitVec.ofNat w.bits v)) }) ∧
    (op = .stos → ∀ as s1, access .es di w.bytes true p = .ok as s1 →
      element op w p = .ok () { s1 with
        mem := Memory.store s1.mem as (destValue w (accOp w) [] s).toNat, regs := nextIndex s w .edi s.regs }) ∧
    (op = .ins → ∀ as s1 s2, ioAllowed port w.bytes p = .ok () s1 → access .es di w.bytes true s1 = .ok as s2 →
      ∃ v k, v < 2 ^ w.bits ∧ element op w p = .ok () { s2 with
        mem := Memory.store s2.mem as v, regs := nextIndex s w .edi s.regs, draws := k,
        io := .read (portsFrom port w.bytes) :: s.io }) ∧
    (op = .outs → ∀ v s1 s2, ioAllowed port w.bytes p = .ok () s1 → memRead s.dsSeg si w.bytes s1 = .ok v s2 →
      element op w p = .ok () { s2 with
        regs := nextIndex s w .esi s.regs,
        io := .write (portsFrom port w.bytes) (BitVec.ofNat 32 (v % 2 ^ w.bits)) :: s.io })

/-- A repeat prefix: with (E)CX = 0 nothing happens; else one element, (E)CX counts down, and the instruction is run
again by the next step unless the count is zero or, for CMPS and SCAS, ZF ends the loop. -/
def Obligations.RepeatPrefix : Prop :=
  ∀ (s : State) (i : Instr) (op : StringOp) (w : Width) (p : Rep), StringForm s.opSize i op w → s.ins.rep = some p →
    let count := (s.regs.getV s.adSize .ecx).toNat
    (count = 0 → exec i s = .next (past s)) ∧
    (count ≠ 0 → ∀ t, element op w (past s) = .ok () t →
      let ended := decide (count = 1) || (decide (op = .cmps ∨ op = .scas) &&
        (match p with
          | .rep => !t.flags.zf
          | .repne => t.flags.zf))
      exec i s = .next { t with
        regs := t.regs.setV s.adSize .ecx (BitVec.ofNat 32 (count - 1)),
        eip := if ended then s.ins.nextEip else s.ins.curEip, inRep := if ended then s.inRep else true })

/-- IN and OUT: one access of the operand's size to the port and those above it, modulo 2^16; what a read gives is any value
of that size. The access is allowed in real-address mode and where CPL is at most IOPL outside virtual-8086 mode; else the
permission bits of the current 32-bit TSS decide (here unpaged), and #GP(0) refuses it and what runs past FFFFH. -/
def Obligations.Ports : Prop :=
  (∀ (s : State) (i : Instr) (w : Width) (x : Port), InForm s.opSize i w x →
    ∀ s1, ioAllowed (portOf s x) w.bytes (past s) = .ok () s1 →
      ∃ (v : BitVec w.bits) (k : Nat), exec i s = .next { s1 with
        regs := putReg w s1.regs .eax v, draws := k, io := .read (portsFrom (portOf s x) w.bytes) :: s.io }) ∧
  (∀ (s : State) (i : Instr) (w : Width) (x : Port), OutForm s.opSize i w x →
    ∀ s1, ioAllowed (portOf s x) w.bytes (past s) = .ok () s1 →
      exec i s = .next { s1 with
        io := .write (portsFrom (portOf s x) w.bytes) (BitVec.ofNat 32 (destValue w (accOp w) [] s).toNat) :: s.io }) ∧
  (∀ (port : Half) (n k : Nat), k < n →
    (portsFrom port n)[k]? = some (BitVec.ofNat 16 ((port.toNat + k) % 2 ^ 16))) ∧
  (∀ (s : State) (i : Instr) (w : Width) (x : Port), InForm s.opSize i w x ∨ OutForm s.opSize i w x →
    ∀ s1, ioAllowed (portOf s x) w.bytes (past s) = .error (.exc (.plain 13 (some 0)) false) s1 →
      faults i s (.plain 13 (some 0)) s1) ∧
  (∀ (s : State) (port : Half) (n : Nat), n = 1 ∨ n = 2 ∨ n = 4 →
    (s.cr0.pe = false ∨ (s.cpl ≤ s.flags.iopl ∧ s.flags.vm = false) → ioAllowed port n s = .ok () s) ∧
    (s.cr0.pe = true → s.flags.iopl < s.cpl ∨ s.flags.vm = true → s.cr0.pg = false →
      let base := Memory.load s.mem (addrs (s.tr.base + 0x66) 2)
      let at_ := base + port.toNat / 8
      let bits := Memory.load s.mem (addrs (s.tr.base + BitVec.ofNat 32 at_) 2)
      let open_ := s.tr.type.getLsbD 3 = true ∧ 0x67 ≤ s.tr.limit.toNat ∧ at_ + 1 ≤ s.tr.limit.toNat ∧
        port.toNat + n ≤ 65536 ∧ ∀ j, j < n → bits.testBit (port.toNat % 8 + j) = false
      (open_ → ioAllowed port n s = .ok () s) ∧
      (¬open_ → ioAllowed port n s = .error (.exc (.plain 13 (some 0)) false) s)))

/-! ### Control transfers -/

/-- Near jumps: JMP, Jcc by the condition of R62, JCXZ by a count of zero, LOOP by the count after it is counted down and
by ZF. The target is the next instruction plus the displacement, or the operand, cut to the operand size; beyond the
limit of CS it is #GP(0). A jump that is not taken goes on. CALL pushes the address of the next instruction and jumps, when
the target is within CS; RET pops the target and then moves the stack pointer by the immediate. -/
def Obligations.NearTransfers : Prop :=
  (∀ s : State,
    let next := s.ins.nextEip
    let count := s.regs.getV s.adSize .ecx
    let counted : State := { past s with regs := s.regs.setV s.adSize .ecx (count - 1) }
    (∀ (i : Instr) (rel : Word), JumpForm i (.inl rel) → JumpsTo i s (past s) (sizeTrunc s.opSize (next + rel))) ∧
    (∀ (i : Instr) (d : Opnd), JumpForm i (.inr d) → ∀ (t : BitVec s.width.bits) (s1 : State),
      readOp s.width d (past s) = .ok t s1 → JumpsTo i s s1 (BitVec.ofNat 32 t.toNat)) ∧
    (∀ (i : Instr) (c : Cond) (rel : Word), JccForm i c rel →
      (Holds c s.flags → JumpsTo i s (past s) (sizeTrunc s.opSize (next + rel))) ∧
      (¬Holds c s.flags → exec i s = .next (past s))) ∧
    (∀ rel : BitVec 8,
      (count = 0 → JumpsTo (.jcxzRel8 rel) s (past s) (sizeTrunc s.opSize (next + sext rel))) ∧
      (count ≠ 0 → exec (.jcxzRel8 rel) s = .next (past s))) ∧
    (∀ (i : Instr) (want : Option Bool) (rel : Word), LoopForm i want rel →
      (count ≠ 1 ∧ (∀ z, want = some z → s.flags.zf = z) →
        JumpsTo i s counted (sizeTrunc s.opSize (next + rel))) ∧
      (¬(count ≠ 1 ∧ ∀ z, want = some z → s.flags.zf = z) → exec i s = .next counted))) ∧
  (∀ s : State,
    let n := s.width.bytes
    (∀ (i : Instr) (rel : Word) (as : List Word) (s1 : State), CallForm i (.inl rel) →
      let t := sizeTrunc s.opSize (s.ins.nextEip + rel)
      (s.segs.cs.limit < t → faults i s (.plain 13 (some 0)) (past s)) ∧
      (t ≤ s.segs.cs.limit →
        stackAccess s.segs.ss (below s.stackSize s.sp n 1) n true s.user 0 (past s) = .ok as s1 →
        exec i s = .next { s1 with
          mem := Memory.store s1.mem as s.ins.nextEip.toNat, eip := t,
          regs := s.regs.setV s.stackSize .esp (s.sp - BitVec.ofNat 32 n) })) ∧
    (∀ (i : Instr) (d : Opnd) (t : BitVec s.width.bits) (as : List Word) (s1 s2 : State), CallForm i (.inr d) →
      readOp s.width d (past s) = .ok t s1 →
      (s.segs.cs.limit < BitVec.ofNat 32 t.toNat → faults i s (.plain 13 (some 0)) s1) ∧
      (BitVec.ofNat 32 t.toNat ≤ s.segs.cs.limit →
        stackAccess s.segs.ss (below s.stackSize s.sp n 1) n true s.user 0 s1 = .ok as s2 →
        exec i s = .next { s2 with
          mem := Memory.store s2.mem as s.ins.nextEip.toNat, eip := BitVec.ofNat 32 t.toNat,
          regs := s.regs.setV s.stackSize .esp (s.sp - BitVec.ofNat 32 n) })) ∧
    (∀ (i : Instr) (imm : Half) (as : List Word) (s1 : State), RetForm i imm →
      stackAccess s.segs.ss s.sp n false s.user 0 (past s) = .ok as s1 →
      let t := BitVec.ofNat 32 (Memory.load s1.mem as)
      (t ≤ s.segs.cs.limit → exec i s = .next { s1 with
        eip := t,
        regs := s.regs.setV s.stackSize .esp (s.sp + BitVec.ofNat 32 n + BitVec.ofNat 32 imm.toNat) }) ∧
      (s.segs.cs.limit < t → faults i s (.plain 13 (some 0)) { s1 with
        regs := s.regs.setV s.stackSize .esp (s.sp + BitVec.ofNat 32 n) })))

/-- Far JMP, CALL and RET in real-address and virtual-8086 mode: CS takes the selector and sixteen times it as base, the
rest of CS stays; CALL pushes CS and the next instruction's address, RET pops them and releases the immediate. Unpaged,
and no breakpoint watches data. -/
def Obligations.FarTransfersReal : Prop :=
  ∀ s : State, s.protectedMode = false →
    let n := s.width.bytes
    (∀ (i : Instr) (sel : Half) (off : Word), FarForm i .jmp sel off →
      let t := sizeTrunc s.opSize off
      (s.segs.cs.limit < t → faults i s (.plain 13 (some 0)) (past s)) ∧
      (t ≤ s.segs.cs.limit → exec i s = .next (atRealCs (past s) sel t))) ∧
    (∀ (i : Instr) (m : MemOp) (v : Nat) (s1 : State), FarMemForm i .jmp m →
      readMem m (n + 2) (past s) = .ok v s1 →
      let t := BitVec.ofNat 32 (v % 256 ^ n)
      t ≤ s.segs.cs.limit → exec i s = .next (atRealCs s1 (BitVec.ofNat 16 (v / 256 ^ n)) t)) ∧
    (∀ (i : Instr) (sel : Half) (off : Word), FarForm i .call sel off → quiet s → Room s n 2 →
      let t := sizeTrunc s.opSize off
      t ≤ 0xFFFF → t ≤ s.segs.cs.limit →
      exec i s =
        .next (atRealCs (pushed (past s) n [s.segs.cs.selector.toNat, s.ins.nextEip.toNat]) sel t)) ∧
    (∀ (i : Instr) (m : MemOp) (v : Nat) (s1 : State), FarMemForm i .call m → quiet s → Room s n 2 →
      readMem m (n + 2) (past s) = .ok v s1 →
      let t := BitVec.ofNat 32 (v % 256 ^ n)
      t ≤ 0xFFFF → t ≤ s.segs.cs.limit →
      exec i s =
        .next (atRealCs (pushed s1 n [s.segs.cs.selector.toNat, s.ins.nextEip.toNat]) (BitVec.ofNat 16 (v / 256 ^ n)) t)) ∧
    (∀ (i : Instr) (imm : Half), RetFarForm i imm → quiet s →
      Within s.segs.ss (slotAbove s 0) n → Within s.segs.ss (slotAbove s n) n →
      let t := BitVec.ofNat 32 (stackLoad s 0 n)
      t ≤ s.segs.cs.limit →
      exec i s = .next (atRealCs { past s with
        regs := s.regs.setV s.stackSize .esp (s.sp + BitVec.ofNat 32 (2 * n) + BitVec.ofNat 32 imm.toNat) }
        (BitVec.ofNat 16 (stackLoad s n 2)) t))

/-- Far JMP, CALL and RET in protected mode to a present code segment of the current level: CS takes the selector with RPL =
CPL and the descriptor's fields, and the descriptor is marked accessed. A conforming segment may have a smaller DPL. The
far pointer stands in the instruction or in memory. A NULL selector is #GP(0). Unpaged, and no breakpoint watches data. -/
def Obligations.FarTransfersProtected : Prop :=
  (∀ (s : State) (i : Instr) (k : FarKind) (sel : Half) (off : Word),
    s.protectedMode = true → quiet s → FarOperand s i k sel off →
    let n := s.width.bytes
    let t := sizeTrunc s.opSize off
    (sel.toNat / 4 = 0 → faults i s (.plain 13 (some 0)) (past s)) ∧
    (∀ (a : Word) (d : Desc), Names s sel a d → CodeOf d s.cpl.toNat →
      (d.conforming = false → sel.toNat % 4 ≤ s.cpl.toNat) →
      let cs := segmentOf (BitVec.ofNat 16 (sel.toNat / 4 * 4 + s.cpl.toNat)) d
      (k = .jmp → t ≤ d.limit →
        exec i s = .next { touched a d (past s) with segs := s.segs.set .cs cs, eip := t }) ∧
      (k = .jmp → d.limit < t → faults i s (.plain 13 (some 0)) (past s)) ∧
      (k = .call → Room s n 2 → t ≤ d.limit →
        exec i s = .next { touched a d (pushed (past s) n [s.segs.cs.selector.toNat, s.ins.nextEip.toNat]) with
          segs := s.segs.set .cs cs, eip := t }))) ∧
  (∀ (s : State) (i : Instr) (imm : Half), s.protectedMode = true → quiet s → RetFarForm i imm →
    let n := s.width.bytes
    Within s.segs.ss (slotAbove s 0) n → Within s.segs.ss (slotAbove s n) n →
    let sel : Half := BitVec.ofNat 16 (stackLoad s n 2)
    let t := BitVec.ofNat 32 (stackLoad s 0 n)
    sel.toNat % 4 = s.cpl.toNat → ∀ (a : Word) (d : Desc), Names s sel a d → CodeOf d s.cpl.toNat → t ≤ d.limit →
    exec i s = .next { touched a d (past s) with
      segs := s.segs.set .cs (segmentOf sel d), eip := t,
      regs := s.regs.setV s.stackSize .esp (s.sp + BitVec.ofNat 32 (2 * n) + BitVec.ofNat 32 imm.toNat) })

/-- Far JMP and CALL through a call gate: a gate that CPL or RPL may not use is #GP, one not present #NP. JMP, and CALL to
the same level, go to the gate's target, CALL pushing the return address in the gate's size. CALL to an inner level takes
that level's stack from the TSS, pushes the old SS and ESP, the parameters in their order and the return address there, and
CPL becomes that level. Unpaged, and no breakpoint watches data. -/
def Obligations.CallGates : Prop :=
  ∀ (s : State) (i : Instr) (k : FarKind) (sel : Half) (off : Word) (b : Word) (g : Desc),
    s.protectedMode = true → quiet s → FarOperand s i k sel off → Names s sel b g → g.s = false → g.type = 4 ∨ g.type = 12 →
    let code : Half := BitVec.ofNat 16 (sel.toNat / 4 * 4)
    let may := s.cpl ≤ g.dpl ∧ sel.toNat % 4 ≤ g.dpl.toNat
    (¬may → faults i s (.plain 13 (some code)) (past s)) ∧
    (may → g.p = false → faults i s (.plain 11 (some code)) (past s)) ∧
    (may → g.p = true → g.gateSel.toNat / 4 = 0 → faults i s (.plain 13 (some 0)) (past s)) ∧
    (may → g.p = true → ∀ (a : Word) (d : Desc), Names s g.gateSel a d → g.gateOff ≤ d.limit →
      let n := if g.is32 then 4 else 2
      let cs := fun level : Nat => segmentOf (BitVec.ofNat 16 (g.gateSel.toNat / 4 * 4 + level)) d
      let back := [s.segs.cs.selector.toNat, s.ins.nextEip.toNat]
      (k = .jmp → CodeOf d s.cpl.toNat →
        exec i s = .next { touched a d (past s) with segs := s.segs.set .cs (cs s.cpl.toNat), eip := g.gateOff }) ∧
      (k = .call → CodeOf d s.cpl.toNat → Room s n 2 →
        exec i s = .next { touched a d (pushed (past s) n back) with
          segs := s.segs.set .cs (cs s.cpl.toNat), eip := g.gateOff }) ∧
      (k = .call → CodeOf d d.dpl.toNat → d.conforming = false → d.dpl < s.cpl →
        ∀ (ss : Half) (esp : Word) (c : Word) (e : Desc), TssStack s d.dpl.toNat ss esp → Names s ss c e →
        StackOf ss e d.dpl.toNat →
        let inner := onStack ss e esp (past s)
        let count := g.gateCount
        Room inner n (count + 4) → (∀ j, j < count → Within s.segs.ss (slotAbove s (n * j)) n) →
        let filled := pushed (copied s n count (pushed inner n [s.segs.ss.selector.toNat, s.regs.esp.toNat])) n back
        exec i s = .next { touched a d (touched c e filled) with
          segs := inner.segs.set .cs (cs d.dpl.toNat), eip := g.gateOff, cpl := d.dpl }))

/-- Far RET and IRET (with NT = 0) to an outer level: EIP and CS, and above them (and the released bytes, or EFLAGS) the outer
ESP and SS are taken; CPL becomes the RPL of CS; the data segment registers that the outer level may not hold become NULL;
RET releases the bytes on the outer stack too. Unpaged, and no breakpoint watches data. -/
def Obligations.OuterReturns : Prop :=
  ∀ s : State, s.protectedMode = true → quiet s →
    let n := s.width.bytes
    let sel : Half := BitVec.ofNat 16 (stackLoad s n 2)
    let level := sel.toNat % 4
    let t := BitVec.ofNat 32 (stackLoad s 0 n)
    s.cpl.toNat < level → Within s.segs.ss (slotAbove s 0) n → Within s.segs.ss (slotAbove s n) n →
    ∀ (a : Word) (d : Desc), Names s sel a d → CodeOf d level → t ≤ d.limit →
    (∀ (i : Instr) (imm : Half), RetFarForm i imm →
      let m := imm.toNat
      (∀ j, j < m → Within s.segs.ss (slotAbove s (2 * n + j)) 1) →
      Within s.segs.ss (slotAbove s (2 * n + m)) n → Within s.segs.ss (slotAbove s (3 * n + m)) n →
      let ss : Half := BitVec.ofNat 16 (stackLoad s (3 * n + m) 2)
      let esp : Word := BitVec.ofNat 32 (stackLoad s (2 * n + m) n)
      let esp : Word := if s.opSize = .s16 ∧ s.cfg.retf16EspUpper = true
        then BitVec.ofNat 32 (s.regs.esp.toNat / 2 ^ 16 * 2 ^ 16 + esp.toNat) else esp
      ∀ (c : Word) (e : Desc), Names s ss c e → StackOf ss e level →
      let outer := onStack ss e esp (touched c e (touched a d (past s)))
      exec i s = .next { outer with
        segs := outerSegs (outer.segs.set .cs (segmentOf sel d)) level, eip := t, cpl := BitVec.ofNat 2 level,
        regs := outer.regs.setV outer.stackSize .esp (outer.sp + BitVec.ofNat 32 m) }) ∧
    (let f := s.flags
     let w := Flags.ofWord (BitVec.ofNat 32 (stackLoad s (2 * n) n))
     f.nt = false → ¬(s.opSize = .s32 ∧ w.vm = true ∧ s.cpl = 0) →
     (∀ k, k < 5 → Within s.segs.ss (slotAbove s (k * n)) n) →
     let ss : Half := BitVec.ofNat 16 (stackLoad s (4 * n) 2)
     let esp : Word := BitVec.ofNat 32 (stackLoad s (3 * n) n)
     ∀ (c : Word) (e : Desc), Names s ss c e → StackOf ss e level →
     let outer := onStack ss e esp (touched c e (touched a d (past s)))
     exec .iret s = .next { outer with
       nmiBlocked := false,
       segs := outerSegs (outer.segs.set .cs (segmentOf sel d)) level, eip := t, cpl := BitVec.ofNat 2 level,
       flags := { w with
         rf := if s.opSize = .s32 then w.rf else f.rf, vm := f.vm,
         ifl := if s.cpl ≤ f.iopl then w.ifl else f.ifl, iopl := if s.cpl = 0 then w.iopl else f.iopl },
       ins := { outer.ins with keepRf := decide (s.opSize = .s32) } })

/-- IRET to virtual-8086 mode, from nine doublewords, at CPL 0; and in that mode, where it needs IOPL 3 and leaves VM and
IOPL. Unpaged, and no breakpoint watches data. -/
def Obligations.Virtual8086Returns : Prop :=
  (∀ s : State, s.protectedMode = true → quiet s → s.flags.nt = false → s.opSize = .s32 → s.cpl = 0 →
    let long := fun k => BitVec.ofNat 32 (stackLoad s (4 * k) 4)
    let short := fun k => BitVec.ofNat 16 (stackLoad s (4 * k) 4)
    let w := Flags.ofWord (long 2)
    w.vm = true → (∀ k, k < 9 → Within s.segs.ss (slotAbove s (4 * k)) 4) →
    (long 0 ≤ 0xFFFF → exec .iret s = .next { past s with
      nmiBlocked := false, eip := long 0, flags := w, cpl := 3, regs := { s.regs with esp := long 3 },
      segs := { cs := seg86 (short 1), ss := seg86 (short 4), es := seg86 (short 5), ds := seg86 (short 6),
                fs := seg86 (short 7), gs := seg86 (short 8) },
      ins := { s.ins with keepRf := true } }) ∧
    (0xFFFF < long 0 → faults .iret s (.plain 13 (some 0)) { past s with nmiBlocked := false })) ∧
  (∀ s : State, s.v86 = true →
    (s.flags.iopl ≠ 3 → faults .iret s (.plain 13 (some 0)) { past s with nmiBlocked := false }) ∧
    (s.flags.iopl = 3 → quiet s →
      let n := s.width.bytes
      let f := s.flags
      let t := BitVec.ofNat 32 (stackLoad s 0 n)
      let w := Flags.ofWord (BitVec.ofNat 32 (stackLoad s (2 * n) n))
      (∀ k, k < 3 → Within s.segs.ss (slotAbove s (k * n)) n) →
      (t ≤ s.segs.cs.limit →
        exec .iret s = .next { atRealCs { past s with
            regs := s.regs.setV s.stackSize .esp (s.sp + BitVec.ofNat 32 (3 * n)) }
            (BitVec.ofNat 16 (stackLoad s n 2)) t with
          nmiBlocked := false,
          flags := { w with rf := if s.opSize = .s32 then w.rf else f.rf, vm := f.vm, iopl := f.iopl },
          ins := { s.ins with keepRf := decide (s.opSize = .s32) } }) ∧
      (s.segs.cs.limit < t → faults .iret s (.plain 13 (some 0)) { past s with nmiBlocked := false })))

/-- The task switch. The outgoing task's registers go to its TSS, a nested task is linked to it, the busy bits follow, and the
incoming task's TSS gives every register; then its selectors are validated, and a fault of that is the new task's. What
switches: JMP and CALL to an available TSS or through a task gate, IRET with NT = 1 to the task linked, and an event whose
gate is a task gate, which pushes its error code on the new stack; a busy or an available TSS in the wrong place is #GP.
Which bytes are translated first and what is saved where TR was never loaded are the model's choice (logs 25 and 40).
Unpaged, and no breakpoint watches data. -/
def Obligations.TaskSwitches : Prop :=
  (∀ (s : State) (tsel : Half) (a : Word) (td : Desc) (kind : SwitchKind) (ext : Half) (ret : FarPtr) (flags : Flags),
    quiet s → Names s tsel a td → ext = 0 ∨ ext = 1 →
    let least := if td.is32 then 0x67 else 0x2B
    (td.limit.toNat < least → switchTasks tsel td kind ext ret flags s =
      .error (.exc (.plain 10 (some (BitVec.ofNat 16 (tsel.toNat / 4 * 4 + ext.toNat)))) false) s) ∧
    (least ≤ td.limit.toNat → ∃ (i : TaskImage) (k : Nat) (l : List Host.Cell),
      let m := switchMem s a td kind ret flags
      let u := entered s tsel td (decide (kind = .call ∨ kind = .int)) m i
      let u := { u with draws := k, ins := { u.ins with sysLog := l } }
      Incoming m td i ∧
      (∀ t, loadTaskSegs ext i u = .ok () t → switchTasks tsel td kind ext ret flags s = .ok () t) ∧
      (∀ e c t, loadTaskSegs ext i u = .error (.exc e c) t →
        switchTasks tsel td kind ext ret flags s = .error (.exc e true) t))) ∧
  (∀ (s : State) (i : TaskImage) (ext : Half) (l : SysReg), quiet s → LdtLoads s i.ldt l →
    let u := { s with ldtr := l }
    (s.flags.vm = true → loadTaskSegs ext i s = .ok () { u with
      segs := { es := seg86 i.es, cs := seg86 i.cs, ss := seg86 i.ss, ds := seg86 i.ds, fs := seg86 i.fs,
                gs := seg86 i.gs } }) ∧
    (s.flags.vm = false → ∀ (a b : Word) (c d : Desc) (ds es fs gs : SegReg),
      Names u i.cs a c → CodeOf c (i.cs.toNat % 4) → c.getLsbD 40 = true →
      Names u i.ss b d → StackOf i.ss d s.cpl.toNat → d.getLsbD 40 = true →
      DataLoads u i.ds s.segs.ds ds → DataLoads u i.es s.segs.es es → DataLoads u i.fs s.segs.fs fs →
      DataLoads u i.gs s.segs.gs gs →
      loadTaskSegs ext i s = .ok () { u with
        segs := { es := es, cs := segmentOf i.cs c, ss := segmentOf i.ss d, ds := ds, fs := fs, gs := gs } })) ∧
  (∀ (s : State) (i : Instr) (k : FarKind) (sel : Half) (off : Word) (b : Word) (g : Desc),
    s.protectedMode = true → quiet s → FarOperand s i k sel off → Names s sel b g → g.s = false →
    let code : Half := BitVec.ofNat 16 (sel.toNat / 4 * 4)
    let may := s.cpl ≤ g.dpl ∧ sel.toNat % 4 ≤ g.dpl.toNat
    let ret : FarPtr := { sel := s.segs.cs.selector, off := s.ins.nextEip }
    (g.type ∈ [1, 3, 5, 9, 11] → ¬may → faults i s (.plain 13 (some code)) (past s)) ∧
    (g.type = 3 ∨ g.type = 11 → faults i s (.plain 13 (some code)) (past s)) ∧
    (g.type = 1 ∨ g.type = 9 → may → sel.toNat / 4 % 2 = 0 → g.p = true →
      ∀ t, switchTasks sel g k.switch 0 ret s.flags (past s) = .ok () t → Switched i s t) ∧
    (g.type = 5 → may → g.p = true → ∀ (a : Word) (td : Desc), Names s g.gateSel a td → g.gateSel.toNat / 4 % 2 = 0 →
      td.s = false → td.type = 1 ∨ td.type = 9 → td.p = true →
      ∀ t, switchTasks g.gateSel td k.switch 0 ret s.flags (past s) = .ok () t → Switched i s t)) ∧
  (∀ (s : State) (a : Word) (td : Desc), s.protectedMode = true → quiet s → s.flags.nt = true →
    let link : Half := BitVec.ofNat 16 (fieldOf s.mem s.tr.base 0 2)
    let start := { past s with nmiBlocked := false }
    let busy := td.s = false ∧ (td.type = 3 ∨ td.type = 11) ∧ link.toNat / 4 % 2 = 0
    Names s link a td →
    (¬busy → faults .iret s (.plain 13 (some (BitVec.ofNat 16 (link.toNat / 4 * 4)))) start) ∧
    (busy → td.p = true → ∀ t,
      switchTasks link td .iret 0 { sel := s.segs.cs.selector, off := s.ins.nextEip } s.flags start = .ok () t →
      Switched .iret s t)) ∧
  (∀ (s : State) (d : Delivery) (g : Desc) (a : Word) (td : Desc), s.cr0.pe = true → quiet s →
    d.vec.toNat * 8 + 7 ≤ s.idtr.limit.toNat →
    g = BitVec.ofNat 64 (Memory.load s.mem (addrs (s.idtr.base + BitVec.ofNat 32 (d.vec.toNat * 8)) 8)) →
    g.s = false → g.type = 5 → (d.kind = .soft → s.cpl ≤ g.dpl) → g.p = true → Names s g.gateSel a td →
    let ext : Half := if d.kind = .soft then 0 else 1
    let free := td.s = false ∧ (td.type = 1 ∨ td.type = 9) ∧ g.gateSel.toNat / 4 % 2 = 0
    (¬free → deliver d s =
      .error (.exc (.plain 13 (some (BitVec.ofNat 16 (g.gateSel.toNat / 4 * 4 + ext.toNat)))) false) s) ∧
    (free → td.p = true → ∀ t, switchTasks g.gateSel td .int ext d.ret (retFlags d.rf s.flags) s = .ok () t →
      quiet t → t.eip ≤ t.segs.cs.limit →
      let n := if td.is32 then 4 else 2
      Room t n (ecList d.ec).length →
      deliver d s = .ok () { pushed t n (ecList d.ec) with run := .running, shadow := .none }))

/-- Software interrupts in real-address mode: the flags, CS and the next instruction's address are pushed, IF and TF are
cleared (and RF, by log 29), and the vector's far pointer is taken, with no single-step trap to follow (for INT1 by log 28);
INTO without overflow goes on; IRET pops the three again. Unpaged, and no breakpoint watches data. A vector outside the
table is #GP(0). -/
def Obligations.InterruptsReal : Prop :=
  ∀ s : State, s.cr0.pe = false → quiet s →
    let f := s.flags
    (∀ (i : Instr) (v : BitVec 8) (one : Bool), SoftForm i v one → (i = .into → f.of = true) →
      s.idtr.limit.toNat < v.toNat * 4 + 3 → faults i s (.plain 13 (some 0)) (past s)) ∧
    (∀ (i : Instr) (v : BitVec 8) (one : Bool), SoftForm i v one → (i = .into → f.of = true) →
      v.toNat * 4 + 3 ≤ s.idtr.limit.toNat → Room s 2 3 →
      let at_ := s.idtr.base + BitVec.ofNat 32 (v.toNat * 4)
      let p := pushed (past s) 2 [f.toWord.toNat, s.segs.cs.selector.toNat, s.ins.nextEip.toNat]
      exec i s = .next { atRealCs p (BitVec.ofNat 16 (Memory.load s.mem (addrs (at_ + 2) 2)))
          (BitVec.ofNat 32 (Memory.load s.mem (addrs at_ 2))) with
        flags := { f with ifl := false, tf := false, rf := false }, run := .running, shadow := .none,
        ins := { s.ins with event := .soft } }) ∧
    (f.of = false → exec .into s = .next (past s)) ∧
    (let n := s.width.bytes
     let t := BitVec.ofNat 32 (stackLoad s 0 n)
     let w := Flags.ofWord (BitVec.ofNat 32 (stackLoad s (2 * n) n))
     (∀ k, k < 3 → Within s.segs.ss (slotAbove s (k * n)) n) → t ≤ s.segs.cs.limit →
     exec .iret s = .next { atRealCs { past s with
         regs := s.regs.setV s.stackSize .esp (s.sp + BitVec.ofNat 32 (3 * n)) } (BitVec.ofNat 16 (stackLoad s n 2)) t with
       nmiBlocked := false,
       flags := { w with rf := if s.opSize = .s32 then w.rf else f.rf, vm := f.vm },
       ins := { s.ins with keepRf := decide (s.opSize = .s32) } })

/-- The gate of an event in protected mode: outside the IDT, not a gate, or one a software interrupt may not use is
#GP, not present #NP, with the vector's error code (R726); a NULL target selector is #GP(EXT). Unpaged. The
protected-mode forms of the software interrupts deliver their vector with the next instruction as return address; in
virtual-8086 mode INT n needs IOPL 3. An exception of that delivery is the instruction's. No single-step trap follows, for
INT1 by log 28, and the image pushed has RF as it is (log 29). -/
def Obligations.InterruptGates : Prop :=
  (∀ (s : State) (d : Delivery), s.cr0.pe = true → s.cr0.pg = false →
     let ext : Nat := if d.kind = .soft then 0 else 1
     let code : Half := BitVec.ofNat 16 (d.vec.toNat * 8 + 2 + ext)
     let g : Desc := BitVec.ofNat 64 (Memory.load s.mem (addrs (s.idtr.base + BitVec.ofNat 32 (d.vec.toNat * 8)) 8))
     let gate := g.s = false ∧ (g.type = 5 ∨ g.type = 6 ∨ g.type = 7 ∨ g.type = 14 ∨ g.type = 15)
     (s.idtr.limit.toNat < d.vec.toNat * 8 + 7 → deliver d s = .error (.exc (.plain 13 (some code)) false) s) ∧
     (d.vec.toNat * 8 + 7 ≤ s.idtr.limit.toNat →
       (¬gate ∨ (d.kind = .soft ∧ g.dpl < s.cpl) → deliver d s = .error (.exc (.plain 13 (some code)) false) s) ∧
       (gate → ¬(d.kind = .soft ∧ g.dpl < s.cpl) → g.p = false →
         deliver d s = .error (.exc (.plain 11 (some code)) false) s) ∧
       (gate → ¬(d.kind = .soft ∧ g.dpl < s.cpl) → g.p = true → g.type ≠ 5 → g.gateSel.toNat / 4 = 0 →
         deliver d s = .error (.exc (.plain 13 (some (BitVec.ofNat 16 ext))) false) s))) ∧
  (∀ s : State, s.cr0.pe = true →
     ∀ (i : Instr) (v : BitVec 8) (one : Bool), SoftForm i v one → (i = .into → s.flags.of = true) →
       let d : Delivery := { vec := v, kind := if one then .int1 else .soft, ec := none,
                             ret := { sel := s.segs.cs.selector, off := s.ins.nextEip }, rf := false }
       let mayNot := s.flags.vm = true ∧ s.flags.iopl ≠ 3 ∧ i = .intImm8 v
       (mayNot → faults i s (.plain 13 (some 0)) (past s)) ∧
       (¬mayNot → ∀ t, deliver d (past s) = .ok () t → exec i s = .next { t with ins := { t.ins with event := .soft } }) ∧
       (¬mayNot → ∀ e t, deliver d (past s) = .error (.exc e false) t → faults i s e t))

/-- Entry through a present interrupt or trap gate. At the same level EFLAGS, CS, EIP and the error code are pushed, 4 bytes
each for a 32-bit gate and 2 for a 16-bit one. From an outer level, and from virtual-8086 mode to level 0, the new stack comes
from the TSS, the old SS and ESP are pushed before them, and in virtual-8086 mode before those the data segment registers,
which become NULL; CPL becomes the gate's level. CS and EIP come from the gate; TF, NT, RF and VM are cleared, and IF too
by an interrupt gate. Any other target from virtual-8086 mode is #GP. Unpaged, and no breakpoint watches data. -/
def Obligations.GateEntry : Prop :=
  ∀ (s : State) (d : Delivery) (g c : Desc) (a : Word), GateOpen s d g → quiet s → Names s g.gateSel a c →
    let n := if g.is32 then 4 else 2
    let back := [(retFlags d.rf s.flags).toWord.toNat, d.ret.sel.toNat, d.ret.off.toNat] ++ ecList d.ec
    let cs := fun level : Nat => segmentOf (BitVec.ofNat 16 (g.gateSel.toNat / 4 * 4 + level)) c
    let flags := { s.flags with ifl := s.flags.ifl && g.type.getLsbD 0, tf := false, nt := false, rf := false, vm := false }
    (s.flags.vm = false → CodeOf c s.cpl.toNat → g.gateOff ≤ c.limit → Room s n back.length →
      deliver d s = .ok () { touched a c (pushed s n back) with
        segs := s.segs.set .cs (cs s.cpl.toNat), eip := g.gateOff, flags := flags, run := .running, shadow := .none }) ∧
    (CodeOf c c.dpl.toNat → c.conforming = false → c.dpl < s.cpl → (s.flags.vm = true → c.dpl = 0) → g.gateOff ≤ c.limit →
      ∀ (ss : Half) (esp : Word) (b : Word) (e : Desc), TssStack s c.dpl.toNat ss esp → Names s ss b e →
      StackOf ss e c.dpl.toNat →
      let data := if s.flags.vm then
        [s.segs.gs.selector.toNat, s.segs.fs.selector.toNat, s.segs.ds.selector.toNat, s.segs.es.selector.toNat] else []
      let values := data ++ [s.segs.ss.selector.toNat, s.regs.esp.toNat] ++ back
      let inner := onStack ss e esp s
      let segs := inner.segs.set .cs (cs c.dpl.toNat)
      Room inner n values.length →
      deliver d s = .ok () { touched a c (touched b e (pushed inner n values)) with
        segs := if s.flags.vm then { segs with gs := nullSeg segs.gs, fs := nullSeg segs.fs, ds := nullSeg segs.ds,
                                               es := nullSeg segs.es } else segs,
        eip := g.gateOff, cpl := c.dpl, flags := flags, run := .running, shadow := .none }) ∧
    (s.flags.vm = true → c.p = true → ¬(c.isCode = true ∧ c.conforming = false ∧ c.dpl = 0 ∧ s.cpl ≠ 0) →
      let ext : Nat := if d.kind = .soft then 0 else 1
      deliver d s = .error (.exc (.plain 13 (some (BitVec.ofNat 16 (g.gateSel.toNat / 4 * 4 + ext)))) false) s)

/-- IRET in protected mode with NT = 0, to the same level: EIP, CS and EFLAGS are popped; IOPL changes only at CPL 0, IF
only where CPL is at most IOPL, VM not. NMI is unblocked. Unpaged, and no breakpoint watches data. -/
def Obligations.ReturnFromInterrupt : Prop :=
  ∀ s : State, s.protectedMode = true → quiet s → s.flags.nt = false →
    let n := s.width.bytes
    let f := s.flags
    let t := BitVec.ofNat 32 (stackLoad s 0 n)
    let w := Flags.ofWord (BitVec.ofNat 32 (stackLoad s (2 * n) n))
    let sel : Half := BitVec.ofNat 16 (stackLoad s n 2)
    (∀ k, k < 3 → Within s.segs.ss (slotAbove s (k * n)) n) →
    ¬(s.opSize = .s32 ∧ w.vm = true ∧ s.cpl = 0) → sel.toNat % 4 = s.cpl.toNat →
    ∀ (a : Word) (d : Desc), Names s sel a d → CodeOf d s.cpl.toNat → t ≤ d.limit →
    let r := touched a d (past s)
    exec .iret s = .next { r with
      nmiBlocked := false, segs := s.segs.set .cs (segmentOf sel d), eip := t,
      regs := s.regs.setV s.stackSize .esp (s.sp + BitVec.ofNat 32 (3 * n)),
      flags := { w with
        rf := if s.opSize = .s32 then w.rf else f.rf, vm := f.vm,
        ifl := if s.cpl ≤ f.iopl then w.ifl else f.ifl, iopl := if s.cpl = 0 then w.iopl else f.iopl },
      ins := { r.ins with keepRf := decide (s.opSize = .s32) } }

/-- ENTER pushes the frame pointer, copies the display of the outer levels, pushes the new frame's address when the
level is not zero, sets the frame pointer, makes room and tests the new stack pointer; a level of the display is the
next value below the old frame pointer. LEAVE takes the stack pointer from the frame pointer and pops the frame
pointer. BOUND goes on when the signed index is within both bounds and is #BR otherwise; HLT halts in real-address mode
and at CPL 0 and is #GP(0) otherwise; NOP does nothing; WAIT reports a pending x87 exception and is #NM when MP and TS
are set, else only the condition codes become any values. -/
def Obligations.FramesBoundHaltWait : Prop :=
  ((∀ (s : State) (size : Half) (level : Byte) (s1 s2 s3 t : State),
     let o := s.opSize
     let frame := s1.regs.getV o .esp
     push o (s.regs.getV o .ebp) (past s) = .ok () s1 → copyDisplay o (level.toNat % 32 - 1) s1 = .ok () s2 →
     (if level.toNat % 32 = 0 then s3 = s2 else push o frame s2 = .ok () s3) →
     let g := s3.regs.setV o .ebp frame
     probeStack s.width.bytes { s3 with regs := g.setV o .esp (g.getV o .esp - zext size) } = .ok () t →
     exec (.enter size level) s = .next t) ∧
   (∀ (s : State) (k : Nat), quiet s →
     let o := s.opSize
     let n := s.width.bytes
     let down : State := { s with
       regs := s.regs.setV s.stackSize .ebp (s.regs.getV s.stackSize .ebp - BitVec.ofNat 32 n) }
     let at_ := down.regs.getV s.stackSize .ebp
     copyDisplay o 0 s = .ok () s ∧
     (Within s.segs.ss at_ n → Room s n 1 → copyDisplay o (k + 1) s =
       copyDisplay o k (pushed down n [Memory.load s.mem (addrs (s.segs.ss.base + at_) n)])) ∧
     (∀ v : Word, Room s n 1 → push o v s = .ok () (pushed s n [v.toNat])) ∧
     (Within s.segs.ss s.sp n → probeStack n s = .ok () s)) ∧
   (∀ (s : State) (as : List Word) (s1 : State),
     let n := s.width.bytes
     let bp := s.regs.getV s.stackSize .ebp
     stackAccess s.segs.ss bp n false s.user 0 { past s with regs := s.regs.setV s.stackSize .esp bp } = .ok as s1 →
     exec .leave s = .next { s1 with
       regs := (s.regs.setV s.stackSize .esp (bp + BitVec.ofNat 32 n)).setV s.opSize .ebp
         (BitVec.ofNat 32 (Memory.load s1.mem as)) })) ∧
  ((∀ (s : State) (r : Reg) (m : MemOp) (v : Nat) (s1 : State), readMem m (2 * s.width.bytes) (past s) = .ok v s1 →
     let i := (destValue s.width (.reg r) [] s).toInt
     let lower := (BitVec.ofNat s.width.bits v).toInt
     let upper := (BitVec.ofNat s.width.bits (v / 2 ^ s.width.bits)).toInt
     (lower ≤ i ∧ i ≤ upper → exec (.boundRM r m) s = .next s1) ∧
     (¬(lower ≤ i ∧ i ≤ upper) → faults (.boundRM r m) s (.plain 5 none) s1)) ∧
   (∀ s : State, (s.cr0.pe = false ∨ s.cpl = 0 → exec .hlt s = .next { past s with run := .halted }) ∧
     (¬(s.cr0.pe = false ∨ s.cpl = 0) → faults .hlt s (.plain 13 (some 0)) (past s))) ∧
   (∀ s : State, exec .nop s = .next (past s)) ∧
   (∀ s : State, (s.cr0.mp = true ∧ s.cr0.ts = true → faults .wait s (.plain 7 none) (past s)) ∧
     (¬(s.cr0.mp = true ∧ s.cr0.ts = true) →
       (s.cfg.hasX87 = false → exec .wait s = .next (past s)) ∧
       (s.cfg.hasX87 = true → s.fpu.es = true → s.cfg.x87ErrorViaMf = true →
         faults .wait s (.plain 16 none) (past s)) ∧
       (s.cfg.hasX87 = true → s.fpu.es = false → ∃ (c0 c1 c2 c3 : Bool) (k : Nat),
         exec .wait s = .next { past s with
           fpu := { s.fpu with fsw := { s.fpu.fsw with c0 := c0, c1 := c1, c2 := c2, c3 := c3 } }, draws := k }))))


/-! ### System instructions -/

/-- SGDT and SIDT store limit and base; LGDT and LIDT load them, the base cut to 24 bits at operand size 16. SLDT and STR
store the selectors. LLDT with NULL makes the LDT unusable; LLDT and LTR load a descriptor of the right type from the
GDT, LTR marking it busy; that TR then holds the busy type is the model's choice (log 42). -/
def Obligations.TableRegisters : Prop :=
  (∀ (s : State) (m : MemOp) (as : List Word) (s1 : State), accessMem m 6 true (past s) = .ok as s1 →
    exec (.sgdtM m) s =
      .next { s1 with mem := Memory.store s1.mem as (s.gdtr.limit.toNat + 2 ^ 16 * s.gdtr.base.toNat) } ∧
    exec (.sidtM m) s =
      .next { s1 with mem := Memory.store s1.mem as (s.idtr.limit.toNat + 2 ^ 16 * s.idtr.base.toNat) }) ∧
  (∀ (s : State) (m : MemOp) (v : Nat) (s1 : State), MayPrivileged s → readMem m 6 (past s) = .ok v s1 →
    let base := v / 2 ^ 16 % (if s.opSize = .s16 then 2 ^ 24 else 2 ^ 32)
    let t : TableReg := { limit := BitVec.ofNat 16 v, base := BitVec.ofNat 32 base }
    exec (.lgdtM m) s = .next { s1 with gdtr := t } ∧ exec (.lidtM m) s = .next { s1 with idtr := t }) ∧
  (∀ s : State, s.protectedMode = true →
    (∀ (m : MemOp) (as : List Word) (s1 : State), accessMem m 2 true (past s) = .ok as s1 →
      exec (.sldtRm16 (.mem m)) s = .next { s1 with mem := Memory.store s1.mem as s.ldtr.selector.toNat } ∧
      exec (.strRm16 (.mem m)) s = .next { s1 with mem := Memory.store s1.mem as s.tr.selector.toNat }) ∧
    (∀ q : Reg,
      (s.opSize = .s16 →
        exec (.sldtRm16 (.reg q)) s = .next { past s with regs := s.regs.set16 q s.ldtr.selector } ∧
        exec (.strRm16 (.reg q)) s = .next { past s with regs := s.regs.set16 q s.tr.selector }) ∧
      (s.opSize = .s32 →
        (∃ (upper : Half) (k : Nat),
          exec (.sldtRm16 (.reg q)) s = .next { past s with regs := s.regs.set q (upper ++ s.ldtr.selector), draws := k }) ∧
        exec (.strRm16 (.reg q)) s = .next { past s with regs := s.regs.set q (zext s.tr.selector) }))) ∧
  (∀ (s : State) (m : RM) (sel : Half) (s1 : State), s.protectedMode = true → s.cpl = 0 →
    readOp .w16 (rmOp m) (past s) = .ok sel s1 →
    let code : Half := BitVec.ofNat 16 (sel.toNat / 4 * 4)
    let loc := sel.toNat / 4 % 2 = 1
    (sel.toNat / 4 = 0 →
      exec (.lldtRm16 m) s = .next { s1 with ldtr := { s.ldtr with selector := sel, valid := false } } ∧
      faults (.ltrRm16 m) s (.plain 13 (some 0)) s1) ∧
    (sel.toNat / 4 ≠ 0 → loc ∨ descriptorAt s sel = none →
      faults (.lldtRm16 m) s (.plain 13 (some code)) s1 ∧ faults (.ltrRm16 m) s (.plain 13 (some code)) s1) ∧
    (sel.toNat / 4 ≠ 0 → ¬loc → ∀ (a : Word) (v : Nat) (s2 : State), descriptorAt s sel = some a →
      linRead a 8 s1 = .ok v s2 →
      let d : Desc := BitVec.ofNat 64 v
      let reg : SysReg := { selector := sel, valid := true, base := (segmentOf sel d).base,
                            limit := (segmentOf sel d).limit, type := d.type }
      (d.s = false ∧ d.type = 2 → d.p = true → exec (.lldtRm16 m) s = .next { s2 with ldtr := reg }) ∧
      (d.s = false ∧ d.type = 2 → d.p = false → faults (.lldtRm16 m) s (.plain 11 (some code)) s2) ∧
      (¬(d.s = false ∧ d.type = 2) → faults (.lldtRm16 m) s (.plain 13 (some code)) s2) ∧
      (d.s = false ∧ (d.type = 1 ∨ d.type = 9) → d.p = true → ∀ s3,
        linWriteSysByte (a + 5) (d.extractLsb' 40 8 ||| 2) s2 = .ok () s3 →
        exec (.ltrRm16 m) s = .next { s3 with tr := { reg with type := d.type ||| 2 } }) ∧
      (d.s = false ∧ (d.type = 1 ∨ d.type = 9) → d.p = false → faults (.ltrRm16 m) s (.plain 11 (some code)) s2) ∧
      (¬(d.s = false ∧ (d.type = 1 ∨ d.type = 9)) → faults (.ltrRm16 m) s (.plain 13 (some code)) s2)))

/-- LMSW loads PE, MP, EM and TS but never clears PE; SMSW stores the low word of CR0; CLTS clears TS. MOV reads and
writes CR0, CR2 and CR3, where CR0 keeps ET and its reserved bits, PG without PE is #GP(0), and CR3 keeps only the page
number; a change of PE or PG and a write of CR3 empty the TLB. The status flags of MOV are any values. -/
def Obligations.ControlRegisters : Prop :=
  ∀ s : State,
    let c := s.cr0
    let word := c.pe.toNat + 2 * c.mp.toNat + 4 * c.em.toNat + 8 * c.ts.toNat + 16 * c.et.toNat + 2 ^ 31 * c.pg.toNat
    (∀ (m : MemOp) (as : List Word) (s1 : State), accessMem m 2 true (past s) = .ok as s1 →
      exec (.smswRm16 (.mem m)) s = .next { s1 with mem := Memory.store s1.mem as (word % 2 ^ 16) }) ∧
    (∀ q : Reg, s.opSize = .s16 →
      exec (.smswRm16 (.reg q)) s = .next { past s with regs := s.regs.set16 q (BitVec.ofNat 16 word) }) ∧
    (∀ q : Reg, s.opSize = .s32 → ∃ (upper : Half) (k : Nat),
      exec (.smswRm16 (.reg q)) s =
        .next { past s with regs := s.regs.set q (upper ++ BitVec.ofNat 16 word), draws := k }) ∧
    (MayPrivileged s →
      (∀ (m : RM) (v : Half) (s1 : State), readOp .w16 (rmOp m) (past s) = .ok v s1 →
        exec (.lmswRm16 m) s = .next { s1 with
          cr0 := { c with pe := c.pe || v.getLsbD 0, mp := v.getLsbD 1, em := v.getLsbD 2, ts := v.getLsbD 3 },
          tlb := if c.pe = false ∧ v.getLsbD 0 = true then [] else s1.tlb }) ∧
      exec .clts s = .next { past s with cr0 := { c with ts := false } } ∧
      (∀ (r : Reg) (n : CReg), ∃ (f : Flags) (k : Nat), StatusOnly s.flags f ∧
        exec (.movRCr r n) s = .next { past s with
          regs := s.regs.set r (match n with
            | .cr0 => BitVec.ofNat 32 word
            | .cr2 => s.cr2
            | .cr3 => s.cr3), flags := f, draws := k }) ∧
      (∀ r : Reg,
        let v := s.regs.get r
        (v.getLsbD 31 = true → v.getLsbD 0 = false → faults (.movCrR .cr0 r) s (.plain 13 (some 0)) (past s)) ∧
        (v.getLsbD 31 = false ∨ v.getLsbD 0 = true → ∃ (f : Flags) (k : Nat), StatusOnly s.flags f ∧
          exec (.movCrR .cr0 r) s = .next { past s with
            cr0 := { pe := v.getLsbD 0, mp := v.getLsbD 1, em := v.getLsbD 2, ts := v.getLsbD 3, et := c.et,
                     pg := v.getLsbD 31 },
            tlb := if v.getLsbD 0 = c.pe ∧ v.getLsbD 31 = c.pg then s.tlb else [], flags := f, draws := k }) ∧
        (∃ (f : Flags) (k : Nat), StatusOnly s.flags f ∧
          exec (.movCrR .cr2 r) s = .next { past s with cr2 := v, flags := f, draws := k }) ∧
        (∃ (f : Flags) (k : Nat), StatusOnly s.flags f ∧
          exec (.movCrR .cr3 r) s = .next { past s with
            cr3 := BitVec.ofNat 32 (v.toNat / 4096 * 4096), tlb := [], flags := f, draws := k })))

/-- MOV of debug registers at CPL 0 or in real-address mode: DR4 and DR5 are DR6 and DR7; where the debug registers
function, the reserved bits of DR6 read as any value and are not stored. While DR7.GD is set the access is the fault #DB
with DR6.BD, which clears GD. The status flags are any values. -/
def Obligations.DebugRegisters : Prop :=
  ∀ (s : State) (r : Reg) (n : BitVec 3), MayPrivileged s →
    let d := s.dbg
    let v := s.regs.get r
    let gd : Exn := { Exn.plain 1 none with dr6 := 0x2000, clearGd := true }
    (d.dr7.getLsbD 13 = true →
      faults (.movRDr r n) s gd (past s) ∧ faults (.movDrR n r) s gd (past s)) ∧
    (d.dr7.getLsbD 13 = false →
      (∃ (x : Word) (f : Flags) (k : Nat), StatusOnly s.flags f ∧
        exec (.movRDr r n) s = .next { past s with regs := s.regs.set r x, flags := f, draws := k } ∧
        (n = 0 → x = d.dr0) ∧ (n = 1 → x = d.dr1) ∧ (n = 2 → x = d.dr2) ∧ (n = 3 → x = d.dr3) ∧
        (n = 5 ∨ n = 7 → x = d.dr7) ∧
        (n = 4 ∨ n = 6 → (if s.cfg.hasDebugRegs then x &&& 0xE00F = d.dr6 &&& 0xE00F else x = d.dr6))) ∧
      (∃ (e : DebugRegs) (f : Flags) (k : Nat), StatusOnly s.flags f ∧
        exec (.movDrR n r) s = .next { past s with dbg := e, flags := f, draws := k } ∧
        (n = 0 → e = { d with dr0 := v }) ∧ (n = 1 → e = { d with dr1 := v }) ∧ (n = 2 → e = { d with dr2 := v }) ∧
        (n = 3 → e = { d with dr3 := v }) ∧ (n = 5 ∨ n = 7 → e = { d with dr7 := v }) ∧
        (n = 4 ∨ n = 6 → e = { d with dr6 := if s.cfg.hasDebugRegs then v &&& 0xE00F else v })))

/-- LAR, LSL, VERR and VERW look at the descriptor of a selector without faulting on it: a NULL selector, one outside its
table or one the privilege level may not see clears ZF. ARPL raises the RPL of its destination; where it does not, its check
for writing counts as a write for a breakpoint, the model's choice (log 27), as LAR's mask is (log 39). -/
def Obligations.SelectorChecks : Prop :=
  (∀ (s : State) (m : RM) (r : Reg) (sel : Half) (s1 : State), s.protectedMode = true →
    readOp .w16 (rmOp m) (past s) = .ok sel s1 →
    let no := Host.Outcome.next { s1 with flags := { s.flags with zf := false } }
    (sel.toNat / 4 = 0 ∨ descriptorAt s sel = none →
      exec (.verrRm16 m) s = no ∧ exec (.verwRm16 m) s = no ∧ exec (.larRRm16 r m) s = no ∧
      exec (.lslRRm16 r m) s = no) ∧
    (sel.toNat / 4 ≠ 0 → ∀ (a : Word) (v : Nat) (s2 : State), descriptorAt s sel = some a →
      linRead a 8 s1 = .ok v s2 →
      let d : Desc := BitVec.ofNat 64 v
      let seen := d.conforming = true ∨ (s.cpl ≤ d.dpl ∧ sel.toNat % 4 ≤ d.dpl.toNat)
      let set := fun z : Bool => Host.Outcome.next { s2 with flags := { s.flags with zf := z } }
      let give := fun x : Word => Host.Outcome.next { s2 with
        regs := putReg s.width s2.regs r (x.setWidth s.width.bits), flags := { s.flags with zf := true } }
      (seen → d.readable = true → exec (.verrRm16 m) s = set true) ∧
      (¬(seen ∧ d.readable = true) → exec (.verrRm16 m) s = set false) ∧
      (seen → d.writableData = true → exec (.verwRm16 m) s = set true) ∧
      (¬(seen ∧ d.writableData = true) → exec (.verwRm16 m) s = set false) ∧
      (seen → d.s = true ∨ d.type ∈ [1, 2, 3, 4, 5, 9, 11, 12] →
        exec (.larRRm16 r m) s = give (BitVec.ofNat 32 (d.toNat / 2 ^ 32) &&& 0x00F0FF00)) ∧
      (¬(seen ∧ (d.s = true ∨ d.type ∈ [1, 2, 3, 4, 5, 9, 11, 12])) → exec (.larRRm16 r m) s = set false) ∧
      (seen → d.s = true ∨ d.type ∈ [1, 2, 3, 9, 11] → exec (.lslRRm16 r m) s = give (segmentOf sel d).limit) ∧
      (¬(seen ∧ (d.s = true ∨ d.type ∈ [1, 2, 3, 9, 11])) → exec (.lslRRm16 r m) s = set false))) ∧
  (∀ (s : State) (d : RM) (r : Reg) (as : List Word) (s1 : State), s.protectedMode = true →
    openDest .w16 (rmOp d) (past s) = .ok as s1 →
    let a := (destValue .w16 (rmOp d) as s1).toNat
    let rpl := (s.regs.get r).toNat % 4
    (a % 4 < rpl → exec (.arplRm16R16 d r) s =
      .next { putDest .w16 (rmOp d) as (BitVec.ofNat 16 (a / 4 * 4 + rpl)) s1 with
        flags := { s.flags with zf := true } }) ∧
    (rpl ≤ a % 4 → exec (.arplRm16R16 d r) s = .next { s1 with flags := { s.flags with zf := false } }))

/-- At a CPL other than 0 in protected mode the privileged instructions are #GP(0), and so are LLDT and LTR; outside
protected mode those that work on its selectors are #UD. Nothing else of them happens. Every escape instruction is #NM
while CR0.EM or CR0.TS is set, and without a coprocessor is refused; every one but the no-wait control instructions
reports a pending unmasked exception as #MF before it does anything. -/
def Obligations.PrivilegeAndEscapeGates : Prop :=
  ((∀ (s : State) (i : Instr), PrivilegedForm i → s.cr0.pe = true → s.cpl ≠ 0 →
     faults i s (.plain 13 (some 0)) (past s)) ∧
   (∀ (s : State) (m : RM), s.protectedMode = true → s.cpl ≠ 0 →
     faults (.lldtRm16 m) s (.plain 13 (some 0)) (past s) ∧ faults (.ltrRm16 m) s (.plain 13 (some 0)) (past s)) ∧
   (∀ (s : State) (i : Instr), ProtectedForm i → s.protectedMode = false → faults i s (.plain 6 none) (past s))) ∧
  (∀ (s : State) (i : Instr), NoWaitForm i ∨ WaitingForm i →
     (s.cr0.em = true ∨ s.cr0.ts = true → faults i s (.plain 7 none) (past s)) ∧
     (s.cr0.em = false → s.cr0.ts = false → s.cfg.hasX87 = false → exec i s = .refused .noCoprocessor) ∧
     (s.cr0.em = false → s.cr0.ts = false → s.cfg.hasX87 = true → s.fpu.es = true → s.cfg.x87ErrorViaMf = true →
       WaitingForm i → faults i s (.plain 16 none) (past s)))

/-! ### Exceptions and events -/

/-- Taking a fault: the instruction's effects are undone, CR2 and DR6 are written, and the delivery returns to the
instruction. An exception of the delivery is taken instead, or the double fault with error code 0 where R741 says so, to
return to the same place; one in the delivery of a double fault is shutdown, after two exceptions or after three. The pairs
of R741 are these and no others; in real-address mode no event has an error code. The #SS that R359 and R366 do not let be
delivered with the instruction's SP is shutdown, and ends the interrupt shadow (which SP is meant: log 32). What the
rollback leaves is log 17's choice, RF = 1 in the image of a double fault log 29's, and the bits of DR6 that breakpoints met
but not enabled may set log 19's. -/
def Obligations.FaultEntry : Prop :=
  (∀ (e : Exn) (s t u : State),
    let base := rollback s t
    let send := fun (vec : BitVec 8) (ec : Option Half) (rf : Bool) =>
      ({ vec := vec, kind := if vec = 8 then .abort else .fault, ec := ec,
         ret := { sel := s.segs.cs.selector, off := s.eip }, rf := rf } : Delivery)
    let cleared := fun x : State => { x with ins := { x.ins with sysLog := [] } }
    let double := send 8 (some 0) true
    let ready := recordExn e (cleared base)
    let stuck := s.sp ∈ e.deadSp
    (base.regs = s.regs ∧ base.flags = s.flags ∧ base.segs = s.segs ∧ base.eip = s.eip ∧ base.cr0 = s.cr0 ∧
      base.fpu = s.fpu ∧ (t.ins.sysLog = [] → base.mem = s.mem)) ∧
    (ready.regs = s.regs ∧ ready.cr2 = e.cr2.getD s.cr2 ∧ (e.dr6 = 0 → ready.dbg.dr6 = s.dbg.dr6) ∧
      ∃ met : Word, met &&& ~~~(s.ins.loose.setWidth 32) = 0 ∧ ready.dbg.dr6 = s.dbg.dr6 ||| e.dr6 ||| met) ∧
    (stuck → takeFault e false s t = { cleared base with
      run := .shutdown, shadow := .none, ins := { (cleared base).ins with event := .fault } }) ∧
    (¬stuck → deliver (send e.vec e.ec e.pushRf) ready = .ok () u →
      takeFault e false s t = { u with ins := { u.ins with event := .fault } }) ∧
    (¬stuck → ∀ b, deliver (send e.vec e.ec e.pushRf) ready = .error (.exc b false) u →
      let again := recordExn b (cleared (rollback ready u))
      let second := if doubleFaults e.vec b.vec then double else send b.vec b.ec b.pushRf
      (e.vec = 8 → (takeFault e false s t).run = .shutdown) ∧
      (e.vec ≠ 8 →
        (∀ v, deliver second again = .ok () v → takeFault e false s t = { v with ins := { v.ins with event := .fault } }) ∧
        (∀ c v, deliver second again = .error (.exc c false) v →
          (doubleFaults e.vec b.vec = true → (takeFault e false s t).run = .shutdown) ∧
          (doubleFaults e.vec b.vec = false → b.vec ≠ 8 → doubleFaults b.vec c.vec = true →
            let third := recordExn c (cleared (rollback again v))
            (∀ w, deliver double third = .ok () w → takeFault e false s t = { w with ins := { w.ins with event := .fault } }) ∧
            (∀ x w, deliver double third = .error x w → (takeFault e false s t).run = .shutdown)))))) ∧
  (∀ a b : BitVec 8, doubleFaults a b = true ↔
    ((a ∈ [0, 10, 11, 12, 13] ∧ b ∈ [0, 10, 11, 12, 13]) ∨ (a = 14 ∧ b ∈ [0, 10, 11, 12, 13, 14]))) ∧
  (∀ (d : Delivery) (s : State), s.cr0.pe = false → deliver d s = deliver { d with ec := none } s)

/-- The boundary between instructions: a reset comes first, in any run state, and keeps memory, the parameters and what was
done at the ports (log 11); then a pending trap, then NMI, then INTR. NMI waits for the end of an NMI in service and, as the
parameters say, of the shadow of STI or of SS (log 4); INTR needs IF and no shadow. A halted or shut-down processor with
nothing due stays as it is. A trap's delivery sets the DR6 bits of its causes, and perhaps those of breakpoints met but not
enabled (log 19), and returns to the next instruction. INTR is acknowledged, the vector being any (log 11), and its delivery
returns to the next instruction, with RF = 1 in the image between the iterations of a repeated instruction. An event that
enters a task whose TSS has T = 1 leaves that trap pending, also where the task's selectors fault (log 25). What an
instruction leaves for the next boundary: TF set when it began makes the single-step trap, but not after a fault or a
software interrupt; RF is cleared unless the instruction loaded it, faulted or repeats; a load of SS discards the traps, and
a second shadow in a row is not made. The model's choices here: a delivery leaves no data trap of its own, a software
interrupt keeps those of its pushes (log 18); INT1 leaves no single-step trap (log 28); RF stays between iterations (log
29). -/
def Obligations.BoundaryAndEnd : Prop :=
  (∀ (s : State) (p : ResetParams), s.resetIn = some p →
     step s = .next (s.resetBy p) ∧ (s.resetBy p).mem = s.mem ∧ (s.resetBy p).cfg = s.cfg ∧ (s.resetBy p).io = s.io ∧
     (s.resetBy p).resetIn = none) ∧
  (∀ s : State, s.resetIn = none →
     let trap := (s.pending.step = true ∨ s.pending.task = true ∨ s.pending.data ≠ 0) ∧ s.run ≠ .shutdown
     let nmi := s.nmiPending = true ∧ s.nmiBlocked = false ∧ (s.shadow ≠ .none → s.cfg.stiShadowBlocksNmi = false) ∧
       (s.shadow = .ssLoad → s.cfg.ssShadowBlocksNmi = false)
     let intr := s.intr = true ∧ s.flags.ifl = true ∧ s.shadow = .none ∧ s.run ≠ .shutdown
     (trap → step s = .next (takeTrap s)) ∧
     (¬trap → nmi → step s = .next (takeNmi s)) ∧
     (¬trap → ¬nmi → intr → step s = .next (takeIntr s)) ∧
     (¬trap → ¬nmi → ¬intr → s.run ≠ .running → step s = .next s) ∧
     (trap → ∃ met : Word, met &&& ~~~(s.pending.loose.setWidth 32) = 0 ∧
       let causes : Word := (if s.pending.step then 0x4000 else 0) ||| (if s.pending.task then 0x8000 else 0) |||
         s.pending.data.setWidth 32
       ∀ u, deliver { vec := 1, kind := .trap, ec := none, ret := { sel := s.segs.cs.selector, off := s.eip }, rf := false }
         { s with pending := .none, ins := .none, inRep := false, draws := s.draws + 1,
                  dbg := { s.dbg with dr6 := s.dbg.dr6 ||| causes ||| met } } = .ok () u →
       step s = .next u.delivered) ∧
     (∀ u, ¬trap → nmi → s.run ≠ .shutdown →
       deliver { vec := 2, kind := .nmi, ec := none, ret := { sel := s.segs.cs.selector, off := s.eip }, rf := s.inRep }
         { s with nmiPending := false, nmiBlocked := true, ins := .none, inRep := false } = .ok () u →
       step s = .next u.delivered) ∧
     (∀ u, ¬trap → ¬nmi → intr →
       deliver { vec := Config.intAck s.draws, kind := .intr, ec := none, ret := { sel := s.segs.cs.selector, off := s.eip },
                 rf := s.inRep } { s with draws := s.draws + 1, ins := .none, inRep := false } = .ok () u →
       step s = .next u.delivered) ∧
     (∀ u : State, ∃ p : Pending, u.delivered = { u with ins := .none, pending := p } ∧ p.step = false ∧ p.data = 0 ∧
       (p.task = true ↔ u.ins.taskTrap = true ∧ u.run ≠ .shutdown))) ∧
  (∀ s t : State,
     let u := settle s t
     (t.run ≠ .shutdown → u.shadow ≠ .ssLoad →
       (u.pending.step = true ↔ s.flags.tf = true ∧ t.ins.event = .none) ∧ u.pending.task = t.ins.taskTrap ∧
       u.pending.data = (if t.ins.event = .fault then 0 else t.ins.hits)) ∧
     (u.shadow = .ssLoad ∨ t.run = .shutdown → u.pending = .none) ∧
     (t.ins.event = .none → t.ins.keepRf = false → t.inRep = false → u.flags = { t.flags with rf := false }) ∧
     (t.ins.event ≠ .none ∨ t.ins.keepRf = true ∨ t.inRep = true → u.flags = t.flags) ∧
     u.shadow = (if s.shadow = .none then t.shadow else .none) ∧
     (u.regs = t.regs ∧ u.eip = t.eip ∧ u.segs = t.segs ∧ u.mem = t.mem ∧ u.fpu = t.fpu))


/-! ### The coprocessor -/

/-- FLD, FILD, FBLD and the constants push a value on the register stack; a signaling NaN of single or double precision
is #IA and a denormal #D; a full stack is #IS with C1 set. A masked #IA pushes the quiet NaN and a masked #IS the real
indefinite; an unmasked one pushes nothing. C1 is otherwise cleared; C0, C2 and C3, and where there is no memory operand
the data pointer, are any values. The constants have the spec's bit patterns by RC. FLD ST(i) of an empty register with the
stack full too is the underflow alone (the model's choice: log 38). -/
def Obligations.FpuLoads : Prop :=
  (∀ rc : Rc,
    let one := fun x : Ext => if rc = .nearest ∨ rc = .up then x + 1 else x
    constL2T rc = (if rc = .up then 0x4000D49A784BCD1B8AFF else 0x4000D49A784BCD1B8AFE) ∧
    constL2E rc = one 0x3FFFB8AA3B295C17F0BB ∧ constPi rc = one 0x4000C90FDAA22168C234 ∧
    constLg2 rc = one 0x3FFD9A209A84FBCFF798 ∧ constLn2 rc = one 0x3FFEB17217F7D1CF79AB ∧
    extOne = 0x3FFF8000000000000000 ∧ extZero false = 0) ∧
  (∀ (s : State) (i : Instr) (c : Rc → Ext), ConstForm i c → FpuReady s →
    ∃ (fdp : FpuPtr) (c0 c2 c3 : Bool) (k : Nat),
      let f := coded (tracked s fdp) c0 false c2 c3
      exec i s = .next { past s with fpu := pushOrFault f (s.fpu.empty 7) (c (rcOf s.fpu.fcw)), draws := k }) ∧
  (∀ (s : State) (j : BitVec 3), FpuReady s →
    ∃ (fdp : FpuPtr) (c0 c2 c3 : Bool) (k : Nat),
      let f := coded (tracked s fdp) c0 false c2 c3
      exec (.fldSt j) s = .next { past s with draws := k, fpu := (
        if s.fpu.empty j then (if s.fpu.fcw.getLsbD 0 then stacked (stackFlag f false) indefinite else stackFlag f false)
        else pushOrFault f (s.fpu.empty 7) (s.fpu.st j)) }) ∧
  (∀ (s : State) (i : Instr) (fmt : LoadFmt) (m : MemOp) (v : Nat) (s1 : State), FldForm i fmt m → FpuReady s →
    readMem m fmt.bytes (notedMem s m) = .ok v s1 →
    ∃ (x : Ext) (c0 c2 c3 : Bool) (k : Nat), fmt.Loads v x ∧
      let f := coded s1.fpu c0 false c2 c3
      exec i s = .next { s1 with draws := k, fpu := (
        if s.fpu.empty 7 ∧ fmt.isReal ∧ extCls x = .snan then
          (if s.fpu.fcw.getLsbD 0 then stacked (raised f true false) (quieted x) else raised f true false)
        else pushOrFault (raised f false (s.fpu.empty 7 && fmt.denormal v)) (s.fpu.empty 7) x) })

/-- The stores: the operand is checked, ST(0) is turned into the image of the format (`imageOf`, see `FpuImages`), and when
there is one it is stored and FSTP, FISTP and FBSTP pop. FST and FSTP to a register copy value and tag; FXCH exchanges both;
of ST(0) with itself it changes nothing but the instruction pointer, the opcode and C1. An empty ST(0) is #IS, whose masked
result is the real indefinite. -/
def Obligations.FpuStores : Prop :=
  (∀ (s : State) (i : Instr) (fmt : LoadFmt) (m : MemOp) (pops : Bool) (as : List Word) (s1 : State),
    FstForm i fmt m pops → FpuReady s → accessMem m fmt.bytes true (notedMem s m) = .ok as s1 →
    ∃ (c0 c2 c3 : Bool) (k : Nat) (r : Option Nat) (s3 : State),
      imageOf fmt (if s.fpu.empty 0 then none else some (FVal.ofExt (s.fpu.st 0)))
        { s1 with fpu := coded s1.fpu c0 false c2 c3, draws := k } = .ok r s3 ∧
      exec i s = .next (match r with
        | none => s3
        | some b => { s3 with mem := Memory.store s3.mem as b, fpu := if pops then poppedOff s3.fpu else s3.fpu })) ∧
  (∀ (s : State) (i : Instr) (j : BitVec 3) (pops : Bool), FstStForm i j pops → FpuReady s →
    ∃ (fdp : FpuPtr) (c0 c2 c3 : Bool) (k : Nat),
      let f := coded (tracked s fdp) c0 false c2 c3
      let masked := s.fpu.fcw.getLsbD 0
      let copied := if s.fpu.empty 0 then (if masked then (stackFlag f false).setSt j indefinite else stackFlag f false)
        else { f with fpr := f.fpr.set (f.fsw.top + j) (f.fpr.get f.fsw.top),
                      tags := f.tags.set (f.fsw.top + j) (f.tags.get f.fsw.top) }
      exec i s = .next { past s with draws := k, fpu :=
        if pops && (!s.fpu.empty 0 || masked) then poppedOff copied else copied }) ∧
  (∀ (s : State) (j : BitVec 3), FpuReady s → s.fpu.empty 0 = false → s.fpu.empty j = false →
    ∃ (fdp : FpuPtr) (c0 c2 c3 : Bool) (k : Nat),
      let f := coded (tracked s fdp) c0 false c2 c3
      let p := f.fsw.top
      exec (.fxchSt j) s = .next { past s with draws := k, fpu := { f with
        fpr := (f.fpr.set p (f.fpr.get (p + j))).set (p + j) (f.fpr.get p),
        tags := (f.tags.set p (f.tags.get (p + j))).set (p + j) (f.tags.get p) } }) ∧
  (∀ s : State, FpuReady s → s.fpu.empty 0 = false →
    exec (.fxchSt 0) s = .next { past s with
      fpu := coded (tracked s s.fpu.fdp) s.fpu.fsw.c0 false s.fpu.fsw.c2 s.fpu.fsw.c3 })

/-- The images of stores: 80 bits as they are; an integer or BCD value rounded by RC, or #IA when it does not fit; a finite
number in range rounded to single or double precision, one too large infinity or the largest number with #O, a tiny one a
denormal with #U; infinities, zeros and NaNs as themselves, a signaling NaN made quiet with #IA; a NaN keeps its sign and
its upper fraction bits; an empty ST(0) is #IS. Masked #IA and #IS give the indefinite of the format; an exception that is
not masked leaves no image, and an unmasked #O or #U sets OE or UE alone (the model's choice: log 37). -/
def Obligations.FpuImages : Prop :=
  (∀ (s : State) (x : Ext),
    let v := some (FVal.ofExt x)
    let n := numOf x
    let rc := rcOf s.fpu.fcw
    let finite := extCls x = .zero ∨ extCls x = .denormal ∨ extCls x = .normal
    let invalid := fun b : Nat => imageIf (s.fpu.fcw.getLsbD 0) b { s with fpu := raised s.fpu true false }
    imageOf .ext v s = .ok (some x.toNat) s ∧
    (∀ b, b = 2 ∨ b = 4 ∨ b = 8 →
      let r := roundAt rc n 0
      let z : Int := if n.neg then -(r.mant * 2 ^ r.exp.toNat) else r.mant * 2 ^ r.exp.toNat
      (finite → -(2 ^ (8 * b - 1)) ≤ z → z < 2 ^ (8 * b - 1) →
        imageOf (.int b) v s = .ok (some (z % 2 ^ (8 * b)).toNat) { s with fpu := rounded s.fpu r }) ∧
      (¬(finite ∧ -(2 ^ (8 * b - 1)) ≤ z ∧ z < 2 ^ (8 * b - 1)) → imageOf (.int b) v s = invalid (2 ^ (8 * b - 1)))) ∧
    (let r := roundAt rc n 0
     (finite → r.mant * 2 ^ r.exp.toNat < 10 ^ 18 → ∃ b, imageOf .bcd v s = .ok (some b) { s with fpu := rounded s.fpu r } ∧
       bcdDigits 18 (b % 2 ^ 72) = some (r.mant * 2 ^ r.exp.toNat) ∧ b / 2 ^ 72 = if n.neg then 128 else 0) ∧
     (¬(finite ∧ r.mant * 2 ^ r.exp.toNat < 10 ^ 18) → imageOf .bcd v s = invalid indefinite.toNat)) ∧
    (∀ f : Fmt, f = fmtSingle ∨ f = fmtDouble →
      let ones := (if extNeg x then 2 ^ (8 * f.bytes - 1) else 0) + (2 ^ (8 * f.bytes - f.prec) - 1) * 2 ^ (f.prec - 1)
      let upper := x.toNat % 2 ^ 63 / 2 ^ (64 - f.prec)
      (extCls x = .zero → imageOf (.real f) v s = .ok (some (if n.neg then 2 ^ (8 * f.bytes - 1) else 0)) s) ∧
      (extCls x = .normal ∨ extCls x = .denormal →
        let r := roundPrec f.prec rc n
        let t := roundAt rc n (f.emin - f.prec + 1)
        let inf := overflowToInf rc n.neg
        (f.emin ≤ topExp r.mant r.exp → topExp r.mant r.exp ≤ f.emax →
          ∃ b, imageOf (.real f) v s = .ok (some b) { s with fpu := rounded s.fpu r } ∧ b < 2 ^ (8 * f.bytes) ∧
            value (numOf (f.decode b).x) = value ({ neg := n.neg, mant := r.mant, exp := r.exp } : Machine.Num)) ∧
        (f.emax < topExp r.mant r.exp → s.fpu.fcw.getLsbD 3 = true →
          ∃ b, imageOf (.real f) v s = .ok (some b) { s with fpu := overflowFlag s.fpu inf } ∧
            (if inf then b = ones
             else value (numOf (f.decode b).x) =
               value ({ neg := n.neg, mant := 2 ^ f.prec - 1, exp := f.emax - f.prec + 1 } : Machine.Num))) ∧
        (f.emax < topExp r.mant r.exp → s.fpu.fcw.getLsbD 3 = false →
          imageOf (.real f) v s = .ok none { s with fpu := { s.fpu with fsw := { s.fpu.fsw with oe := true } } }) ∧
        (topExp r.mant r.exp < f.emin → s.fpu.fcw.getLsbD 4 = true →
          ∃ b, imageOf (.real f) v s = .ok (some b) { s with fpu := underflowFlag (rounded s.fpu t) t.inexact } ∧
            b / 2 ^ (8 * f.bytes - 1) = n.neg.toNat ∧
            value (numOf (f.decode b).x) = value ({ neg := n.neg, mant := t.mant, exp := t.exp } : Machine.Num)) ∧
        (topExp r.mant r.exp < f.emin → s.fpu.fcw.getLsbD 4 = false →
          imageOf (.real f) v s = .ok none { s with fpu := underflowFlag s.fpu true })) ∧
      (extCls x = .infinity → imageOf (.real f) v s = .ok (some ones) s) ∧
      (extCls x = .qnan → imageOf (.real f) v s = .ok (some (ones + upper)) s ∧
        extCls (f.decode (ones + upper)).x = .qnan ∧ extNeg (f.decode (ones + upper)).x = extNeg x) ∧
      (extCls x = .snan → imageOf (.real f) v s = invalid (ones + (upper ||| 2 ^ (f.prec - 2))) ∧
        extCls (f.decode (ones + (upper ||| 2 ^ (f.prec - 2)))).x = .qnan) ∧
      (extCls x = .unsupported → imageOf (.real f) v s = invalid (if f = fmtSingle then 0xFFC00000 else 0xFFF8000000000000)))) ∧
  (∀ s : State,
    let empty := fun b : Nat => imageIf (s.fpu.fcw.getLsbD 0) b { s with fpu := stackFlag s.fpu false }
    imageOf .ext none s = empty 0xFFFFC000000000000000 ∧ imageOf .bcd none s = empty 0xFFFFC000000000000000 ∧
    imageOf (.real fmtSingle) none s = empty 0xFFC00000 ∧ imageOf (.real fmtDouble) none s = empty 0xFFF8000000000000 ∧
    ∀ b, b = 2 ∨ b = 4 ∨ b = 8 → imageOf (.int b) none s = empty (2 ^ (8 * b - 1)))

/-- FADD, FSUB, FSUBR, FMUL, FDIV, FDIVR in all their forms, FSQRT and FSCALE: the value of the operation is delivered to
the destination (`FpuValuesDelivered`), and the P forms pop. FSCALE ignores the precision control. An empty operand is #IS,
whose masked result is the real indefinite in the destination. -/
def Obligations.FpuArithmetic : Prop :=
  ∀ (s : State) (p : Nat), FpuReady s → PrecisionIs s.fpu p →
    let rc := rcOf s.fpu.fcw
    let den := fun x : Ext => decide (extCls x = .denormal)
    (∀ (i : Instr) (op : FOp) (d r : BitVec 3) (pops : Bool), ArithStForm i op d r pops →
      ∃ (fdp : FpuPtr) (c0 c2 c3 : Bool) (k : Nat),
        let f := coded (tracked s fdp) c0 false c2 c3
        (s.fpu.empty d = false → s.fpu.empty r = false → ∃ (go : Bool) (t : State),
          deliverCalc d p (den (s.fpu.st d) || den (s.fpu.st r)) (calcOp op rc (s.fpu.st d) (s.fpu.st r))
            { past s with fpu := f, draws := k } = .ok go t ∧
          exec i s = .next (if go && pops then { t with fpu := poppedOff t.fpu } else t)) ∧
        (s.fpu.empty d = true ∨ s.fpu.empty r = true →
          exec i s = .next { past s with draws := k, fpu := underflowed f d pops })) ∧
    (∀ (i : Instr) (op : FOp) (fmt : LoadFmt) (m : MemOp) (v : Nat) (s1 : State), ArithMemForm i op fmt m →
      readMem m fmt.bytes (notedMem s m) = .ok v s1 →
      ∃ (x : Ext) (c0 c2 c3 : Bool) (k : Nat), fmt.Loads v x ∧
        let f := coded s1.fpu c0 false c2 c3
        (s.fpu.empty 0 = false → ∃ (go : Bool) (t : State),
          deliverCalc 0 p (den (s.fpu.st 0) || fmt.denormal v) (calcOp op rc (s.fpu.st 0) x)
            { s1 with fpu := f, draws := k } = .ok go t ∧ exec i s = .next t) ∧
        (s.fpu.empty 0 = true → exec i s = .next { s1 with draws := k, fpu := underflowed f 0 false })) ∧
    (∃ (fdp : FpuPtr) (c0 c2 c3 : Bool) (k : Nat),
      let f := coded (tracked s fdp) c0 false c2 c3
      (s.fpu.empty 0 = false → ∃ (go : Bool) (t : State),
        deliverCalc 0 p (den (s.fpu.st 0)) (calcSqrt (s.fpu.st 0)) { past s with fpu := f, draws := k } = .ok go t ∧
        exec .fsqrt s = .next t) ∧
      (s.fpu.empty 0 = true → exec .fsqrt s = .next { past s with draws := k, fpu := underflowed f 0 false })) ∧
    (∃ (fdp : FpuPtr) (c0 c2 c3 : Bool) (k : Nat),
      let f := coded (tracked s fdp) c0 false c2 c3
      (s.fpu.empty 0 = false → s.fpu.empty 1 = false → ∃ (go : Bool) (t : State),
        deliverCalc 0 64 (den (s.fpu.st 0) || den (s.fpu.st 1)) (calcScale (s.fpu.st 0) (s.fpu.st 1))
          { past s with fpu := f, draws := k } = .ok go t ∧
        exec .fscale s = .next t) ∧
      (s.fpu.empty 0 = true ∨ s.fpu.empty 1 = true →
        exec .fscale s = .next { past s with draws := k, fpu := underflowed f 0 false }))

/-- The exact values of the operations on finite operands, and their invalid and infinite cases: a sum, difference and
product are exact; a quotient and a square root are exact or carry a sticky bit below more bits than any precision has.
Delivery of a number: rounded to the precision, or for a tiny result at the denormal's last place, by RC; #P tells an
inexact result and C1 its rounding upward; masked #O gives infinity or the largest number and masked #U a denormal. A masked
#IA gives the real indefinite and a masked #Z a signed infinity; an unmasked one leaves the destination. FSCALE multiplies
by the power of two that the integer part of ST(1) names. A NaN operand gives that NaN made quiet, and of two the one with
the larger significand; #IA goes with a signaling one. The model's choices here: no DE beside an unmasked #Z, an #IA or a
NaN (log 35); the largest number and the last place of a masked underflow at a reduced precision (log 37); infinity by
+infinity, zero by -infinity, and a denormal by 2^0 in FSCALE (log 41). -/
def Obligations.FpuValuesDelivered : Prop :=
  (∀ (rc : Rc) (a b : Ext),
     let finite := fun x : Ext => extCls x = .zero ∨ extCls x = .denormal ∨ extCls x = .normal
     let va := value (numOf a)
     let vb := value (numOf b)
     (finite a → finite b → va + vb ≠ 0 → ∃ n, calcOp .add rc a b = .num n ∧ value n = va + vb) ∧
     (finite a → finite b → va - vb ≠ 0 → ∃ n, calcOp .sub rc a b = .num n ∧ value n = va - vb) ∧
     (finite a → finite b → va ≠ 0 → va - vb = 0 → calcOp .sub rc a b = .special (extZero (decide (rc = .down)))) ∧
     (finite a → finite b → ∃ n, calcOp .mul rc a b = .num n ∧ value n = va * vb) ∧
     (finite a → finite b → va ≠ 0 → vb ≠ 0 → ∃ n, calcOp .div rc a b = .num n ∧ n.neg = (extNeg a ^^ extNeg b) ∧
       2 ^ 64 ≤ n.mant ∧ Brackets n (va / vb)) ∧
     (finite a → va ≠ 0 → extCls b = .zero → calcOp .div rc a b = .zdiv (extNeg a ^^ extNeg b)) ∧
     (extCls a = .zero → extCls b = .zero → calcOp .div rc a b = .ia) ∧
     (extCls a = .infinity → extCls b = .infinity →
       calcOp .add rc a b = (if extNeg a = extNeg b then .special (extInf (extNeg a)) else .ia)) ∧
     (extCls a = .infinity → extCls b = .zero → calcOp .mul rc a b = .ia) ∧
     (finite a → va > 0 → ∃ n, calcSqrt a = .num n ∧ n.neg = false ∧ 2 ^ 64 ≤ n.mant ∧ BracketsRoot n va) ∧
     (finite a → va < 0 → calcSqrt a = .ia) ∧
     (calcOp .subr rc a b = calcOp .sub rc b a ∨ isNan a = true ∨ isNan b = true) ∧
     (calcOp .divr rc a b = calcOp .div rc b a ∨ isNan a = true ∨ isNan b = true) ∧
     (let whole : ℤ := if vb < 0 then ⌈vb⌉ else ⌊vb⌋
      (finite a → va ≠ 0 → finite b → |vb| < 70001 →
        (whole = 0 → calcScale a b = .special a) ∧
        (whole ≠ 0 → ∃ n, calcScale a b = .num n ∧ value n = va * (2 : ℚ) ^ whole)) ∧
      (finite a → va ≠ 0 → finite b → 70001 ≤ |vb| → ∃ n, calcScale a b = .num n ∧ n.neg = extNeg a ∧
        (0 < vb → (2 : ℚ) ^ 50000 ≤ |value n|) ∧ (vb < 0 → 0 < |value n| ∧ |value n| * (2 : ℚ) ^ 50000 ≤ 1)) ∧
      (finite b → extCls a = .infinity ∨ extCls a = .zero → calcScale a b = .special a) ∧
      (extCls b = .infinity → extNeg b = false → finite a ∨ extCls a = .infinity →
        calcScale a b = if extCls a = .zero then .ia else .special (extInf (extNeg a))) ∧
      (extCls b = .infinity → extNeg b = true → finite a ∨ extCls a = .infinity →
        calcScale a b = if extCls a = .infinity then .ia else .special (extZero (extNeg a)))) ∧
     (let bad := decide (extCls a = .snan) || decide (extCls b = .snan) || decide (extCls a = .unsupported) ||
        decide (extCls b = .unsupported)
      let both := fun x : Ext => calcScale a b = .nan (quieted x) bad ∧ ∀ op, calcOp op rc a b = .nan (quieted x) bad
      (isNan a = true → isNan b = false → both a) ∧ (isNan b = true → isNan a = false → both b) ∧
      (isNan a = true → isNan b = true →
        (extSig b < extSig a → both a) ∧ (extSig a < extSig b → both b) ∧
        (extSig a = extSig b → both (if extNeg a then b else a))) ∧
      (isNan a = true → extCls (quieted a) = .qnan ∧ extNeg (quieted a) = extNeg a ∧
        (quieted a).toNat % 2 ^ 62 = a.toNat % 2 ^ 62))) ∧
  (∀ (s : State) (i : BitVec 3) (p : Nat) (den : Bool), p = 24 ∨ p = 53 ∨ p = 64 →
     let f0 := raised s.fpu false den
     let rc := rcOf s.fpu.fcw
     (∀ n : Machine.Num, n.mant ≠ 0 →
       let r := roundPrec p rc n
       (-16382 ≤ topExp r.mant r.exp → topExp r.mant r.exp ≤ 16383 →
         ∃ x, deliverCalc i p den (.num n) s = .ok true { s with fpu := (rounded f0 r).setSt i x } ∧
           value (numOf x) = value ({ neg := n.neg, mant := r.mant, exp := r.exp } : Machine.Num) ∧ extCls x = .normal) ∧
       (topExp r.mant r.exp < -16382 → s.fpu.fcw.getLsbD 4 = true →
         let t := roundAt rc n (-16382 - p + 1)
         ∃ x, deliverCalc i p den (.num n) s = .ok true { s with
             fpu := (underflowFlag (rounded f0 t) t.inexact).setSt i x } ∧
           value (numOf x) = value ({ neg := n.neg, mant := t.mant, exp := t.exp } : Machine.Num)) ∧
       (16383 < topExp r.mant r.exp → s.fpu.fcw.getLsbD 3 = true →
         ∃ x, deliverCalc i p den (.num n) s = .ok true { s with
             fpu := (overflowFlag f0 (overflowToInf rc n.neg)).setSt i x } ∧
           (if overflowToInf rc n.neg then x = extInf n.neg
            else value (numOf x) = value ({ neg := n.neg, mant := 2 ^ p - 1, exp := 16384 - p } : Machine.Num)))) ∧
     (∀ x, deliverCalc i p den (.special x) s = .ok true { s with fpu := f0.setSt i x }) ∧
     (∀ x ia, deliverCalc i p den (.nan x ia) s = (if ia = true ∧ s.fpu.fcw.getLsbD 0 = false
       then .ok false { s with fpu := raised s.fpu true false }
       else .ok true { s with fpu := (raised s.fpu ia false).setSt i x })) ∧
     (deliverCalc i p den .ia s = (if s.fpu.fcw.getLsbD 0
       then .ok true { s with fpu := (raised s.fpu true false).setSt i indefinite }
       else .ok false { s with fpu := raised s.fpu true false })) ∧
     (∀ neg, s.fpu.fcw.getLsbD 2 = false →
       deliverCalc i p den (.zdiv neg) s = .ok false { s with fpu := zeroFlag s.fpu }) ∧
     (∀ neg, s.fpu.fcw.getLsbD 2 = true →
       deliverCalc i p den (.zdiv neg) s =
         .ok true { s with fpu := (raised (zeroFlag s.fpu) false den).setSt i (extInf neg) }))

/-- Rounding to a multiple of 2^q: the result is a multiple, exact exactly when the number is one; to nearest it is at most
half a unit away, ties to the even multiple, and otherwise less than a unit in the direction of RC. Memory formats and
integers are converted exactly. -/
def Obligations.RoundingAndFormats : Prop :=
  (∀ (rc : Rc) (n : Machine.Num) (q : Int),
    let r := roundAt rc n q
    let x := value n
    let y := value ({ neg := n.neg, mant := r.mant, exp := r.exp } : Machine.Num)
    let u : ℚ := (2 : ℚ) ^ q
    (∃ z : ℤ, y = z * u) ∧ (r.inexact = false ↔ x = y) ∧ (r.up = true ↔ |x| < |y|) ∧
    (rc = .nearest → |x - y| ≤ u / 2 ∧ (|x - y| = u / 2 → ∃ z : ℤ, y = 2 * z * u)) ∧
    (rc = .down → y ≤ x ∧ x < y + u) ∧ (rc = .up → x ≤ y ∧ y < x + u) ∧ (rc = .zero → |y| ≤ |x| ∧ |x| < |y| + u)) ∧
  (∀ (f : Fmt) (v : Nat), f = fmtSingle ∨ f = fmtDouble → v < 2 ^ (8 * f.bytes) →
    let e := v / 2 ^ (f.prec - 1) % 2 ^ (8 * f.bytes - f.prec)
    let frac := v % 2 ^ (f.prec - 1)
    let sign : ℚ := if 2 ^ (8 * f.bytes - 1) ≤ v then -1 else 1
    (e = 0 → value (numOf (f.decode v).x) = sign * frac * (2 : ℚ) ^ f.quantum) ∧
    (e ≠ 0 → e + 1 ≠ 2 ^ (8 * f.bytes - f.prec) →
      value (numOf (f.decode v).x) = sign * (2 ^ (f.prec - 1) + frac) * (2 : ℚ) ^ (e - 1 + f.quantum)) ∧
    (e + 1 = 2 ^ (8 * f.bytes - f.prec) → (frac = 0 ↔ extCls (f.decode v).x = .infinity) ∧
      (frac ≠ 0 ↔ isNan (f.decode v).x = true))) ∧
  (∀ z : ℤ, z.natAbs < 2 ^ 64 → value (numOf (intToExt z)) = z)

/-- FABS and FCHS change the sign alone; FRNDINT rounds a finite number to an integer by RC; FXTRACT splits a finite
number into significand and exponent; FPREM and FPREM1, for exponents less than 64 apart, leave the exact remainder by the
truncated and by the nearest quotient, with the quotient's low bits in C0, C3 and C1. All with operands present. Every
one completes for every operand, changing only the coprocessor. -/
def Obligations.FpuUnary : Prop :=
  ∀ s : State, FpuReady s → s.fpu.empty 0 = false →
    let x := s.fpu.st 0
    let y := s.fpu.st 1
    let v := value (numOf x)
    let w := value (numOf y)
    let p := s.fpu.fsw.top
    (∀ i : Instr, i = .fabs ∨ i = .fchs → ∃ (fdp : FpuPtr) (c0 c2 c3 : Bool) (k : Nat),
      exec i s = .next { past s with draws := k, fpu := (
        (coded (tracked s fdp) c0 false c2 c3).setSt 0
          (if i = .fabs then BitVec.ofNat 80 (x.toNat % 2 ^ 79) else x ^^^ BitVec.twoPow 80 79)) }) ∧
    (∀ i : Instr, i = .frndint ∨ i = .fxtract ∨ i = .fprem ∨ i = .fprem1 → ∃ t, exec i s = .next t ∧ OnlyFpu (past s) t) ∧
    (extCls x = .normal → ∃ t, exec .frndint s = .next t ∧ OnlyFpu (past s) t ∧
      let r := roundAt (rcOf s.fpu.fcw) (numOf x) 0
      value (numOf (t.fpu.st 0)) = value ({ neg := extNeg x, mant := r.mant, exp := r.exp } : Machine.Num) ∧
      t.fpu.fsw.pe = (s.fpu.fsw.pe || r.inexact) ∧ KeepsOthers s.fpu t.fpu [p] ∧ t.fpu.fsw.top = p) ∧
    (extCls x = .normal → s.fpu.empty 7 = true → ∃ t, exec .fxtract s = .next t ∧ OnlyFpu (past s) t ∧
      t.fpu.fsw.top = p - 1 ∧ KeepsOthers s.fpu t.fpu [p, p - 1] ∧
      ∃ e : ℤ, value (numOf (t.fpu.st 1)) = e ∧ v = value (numOf (t.fpu.st 0)) * (2 : ℚ) ^ e ∧
        1 ≤ |value (numOf (t.fpu.st 0))| ∧ |value (numOf (t.fpu.st 0))| < 2) ∧
    (extCls x = .normal → extCls y = .normal → s.fpu.empty 1 = false → AllMasked s.fpu →
      (numOf x).top - (numOf y).top < 64 →
      ∀ i : Instr, i = .fprem ∨ i = .fprem1 → ∃ (t : State) (q : ℕ), exec i s = .next t ∧ OnlyFpu (past s) t ∧
        KeepsOthers s.fpu t.fpu [p] ∧ t.fpu.fsw.top = p ∧ t.fpu.fsw.c2 = false ∧
        t.fpu.fsw.c0 = q.testBit 2 ∧ t.fpu.fsw.c3 = q.testBit 1 ∧ t.fpu.fsw.c1 = q.testBit 0 ∧
        let r := value (numOf (t.fpu.st 0))
        r = v - (if extNeg x = extNeg y then 1 else -1) * q * w ∧
        (i = .fprem → |r| < |w| ∧ 0 ≤ r * v) ∧ (i = .fprem1 → |r| ≤ |w| / 2))

/-- The comparisons: C3, C2, C0 are 000 for greater, 001 for less, 100 for equal, C1 is 0; a NaN, an unsupported or an
empty operand is unordered, 111, and invalid unless the instruction is a quiet one and only quiet NaNs are there; an
invalid comparison that is not masked sets no code and does not pop. FTST compares with zero; FXAM tells the class.
The order is that of the values, the two zeros equal, with the infinities at its ends. -/
def Obligations.FpuCompare : Prop :=
  (∀ (s : State) (i : Instr) (quiet : Bool) (j : BitVec 3) (pops : Nat), CompareStForm i quiet j pops → FpuReady s →
    ∃ (fdp : FpuPtr) (k : Nat),
      exec i s = .next { past s with draws := k, fpu := (
        compared (tracked s fdp) quiet (s.fpu.empty 0 || s.fpu.empty j) (s.fpu.st 0) (s.fpu.st j)
          (decide (extCls (s.fpu.st 0) = .denormal) || decide (extCls (s.fpu.st j) = .denormal)) pops) }) ∧
  (∀ (s : State) (i : Instr) (fmt : LoadFmt) (m : MemOp) (pops : Nat) (v : Nat) (s1 : State),
    CompareMemForm i fmt m pops → FpuReady s → readMem m fmt.bytes (notedMem s m) = .ok v s1 →
    ∃ x, fmt.Loads v x ∧ exec i s = .next { s1 with fpu := (
      compared s1.fpu false (s.fpu.empty 0) (s.fpu.st 0) x
        (decide (extCls (s.fpu.st 0) = .denormal) || fmt.denormal v) pops) }) ∧
  (∀ s : State, FpuReady s → ∃ (fdp : FpuPtr) (k : Nat),
    exec .ftst s = .next { past s with draws := k, fpu := (
      compared (tracked s fdp) false (s.fpu.empty 0) (s.fpu.st 0) (extZero false)
        (decide (extCls (s.fpu.st 0) = .denormal)) 0) }) ∧
  (∀ s : State, FpuReady s → ∃ (fdp : FpuPtr) (k : Nat) (c3 c2 c0 : Bool),
    exec .fxam s = .next { past s with draws := k, fpu := coded (tracked s fdp) c0 (extNeg (s.fpu.st 0)) c2 c3 } ∧
    (s.fpu.empty 0 = true → (c3, c2, c0) = (true, false, true)) ∧
    (s.fpu.empty 0 = false → (c3, c2, c0) = match extCls (s.fpu.st 0) with
      | .unsupported => (false, false, false)
      | .qnan => (false, false, true)
      | .snan => (false, false, true)
      | .normal => (false, true, false)
      | .infinity => (false, true, true)
      | .zero => (true, false, false)
      | .denormal => (true, true, false))) ∧
  (∀ a b : Ext,
    let finite := fun x : Ext => extCls x = .zero ∨ extCls x = .denormal ∨ extCls x = .normal
    let u := value (numOf a)
    let v := value (numOf b)
    (finite a → finite b →
      (extCmp a b = .lt ↔ u < v) ∧ (extCmp a b = .eq ↔ u = v) ∧ (extCmp a b = .gt ↔ v < u)) ∧
    (extCls a = .infinity → finite b →
      extCmp a b = (if extNeg a then .lt else .gt) ∧ extCmp b a = (if extNeg a then .gt else .lt)) ∧
    (extCls a = .infinity → extCls b = .infinity →
      extCmp a b = (if extNeg a = extNeg b then .eq else if extNeg a then .lt else .gt)))

/-- The transcendental instructions complete for every operand, changing only the coprocessor, and move the stack as the
spec says: FYL2X, FYL2XP1 and FPATAN pop, FPTAN and FSINCOS push, FPTAN pushing 1.0. For operands of magnitude 2^63 or more
FSIN, FCOS, FPTAN and FSINCOS set C2 and leave the registers; that FPTAN and FSINCOS test this before the overflow of the
stack, and that they leave C2 = 0 for a NaN, an infinity or an unsupported operand, are the model's choices (log 38). The
sine of a zero is that zero, its cosine 1. Where the step has supplied X87_FN at the operands (`x87Answers`, log 20), F2XM1,
FSIN and FCOS of a normal operand between 2^-64 and 1 in magnitude lie within one unit in the last place of 2^x - 1, of the
sine and of the cosine. -/
def Obligations.FpuTranscendental : Prop :=
  ∀ s : State, FpuReady s → s.fpu.empty 0 = false →
    let x := s.fpu.st 0
    let p := s.fpu.fsw.top
    let finite := extCls x = .zero ∨ extCls x = .denormal ∨ extCls x = .normal
    let large := finite ∧ (2 : ℚ) ^ 63 ≤ |value (numOf x)|
    (∀ i : Instr, i = .f2xm1 ∨ i = .fsin ∨ i = .fcos → ∃ t, exec i s = .next t ∧ OnlyFpu (past s) t ∧
      t.fpu.fsw.top = p ∧ KeepsOthers s.fpu t.fpu [p]) ∧
    (∀ i : Instr, i = .fyl2x ∨ i = .fyl2xp1 ∨ i = .fpatan → s.fpu.empty 1 = false → AllMasked s.fpu →
      ∃ t, exec i s = .next t ∧ OnlyFpu (past s) t ∧
        t.fpu.fsw.top = p + 1 ∧ t.fpu.tags.get p = .empty ∧ KeepsOthers s.fpu t.fpu [p, p + 1]) ∧
    (∀ i : Instr, i = .fptan ∨ i = .fsincos → s.fpu.empty 7 = true → AllMasked s.fpu → ¬large →
      ∃ t, exec i s = .next t ∧ OnlyFpu (past s) t ∧
        t.fpu.fsw.top = p - 1 ∧ t.fpu.fsw.c2 = false ∧ KeepsOthers s.fpu t.fpu [p, p - 1] ∧
        (i = .fptan → finite → t.fpu.st 0 = extOne)) ∧
    (∀ i : Instr, i = .fsin ∨ i = .fcos ∨ i = .fptan ∨ i = .fsincos → large →
      ∃ t, exec i s = .next t ∧ OnlyFpu (past s) t ∧ t.fpu.fpr = s.fpu.fpr ∧ t.fpu.tags = s.fpu.tags ∧
        t.fpu.fsw.top = p ∧ t.fpu.fsw.c2 = true) ∧
    (extCls x = .zero → (∃ t, exec .fsin s = .next t ∧ t.fpu.st 0 = x) ∧ (∃ t, exec .fcos s = .next t ∧ t.fpu.st 0 = extOne)) ∧
    (s.ins.x87 = x87Answers s.fpu → extCls x = .normal → 1 ≤ |value (numOf x)| * 2 ^ 64 → |value (numOf x)| ≤ 1 →
      let close := fun (i : Instr) (f : ℝ → ℝ) =>
        let exact := f (value (numOf x) : ℝ)
        ∃ t, exec i s = .next t ∧ |(value (numOf (t.fpu.st 0)) : ℝ) - exact| ≤ (2 : ℝ) ^ (Int.log 2 |exact| - 63)
      close .f2xm1 (fun r => (2 : ℝ) ^ r - 1) ∧ close .fsin Real.sin ∧ close .fcos Real.cos)

/-- The control instructions: FNINIT, FNCLEX, FLDCW, FNSTCW, FNSTSW, FINCSTP, FDECSTP, FFREE, FNOP, and FNENI, FNDISI
and FNSETPM, which do nothing. The condition codes they leave undefined are any values. FNSTENV and FNSAVE store the
image of R685, then mask all exceptions or initialise; FLDENV and FRSTOR load it. The length is 14 or 28 bytes by the
operand size, and 80 more for the registers, ST(0) first. Control, status and tag words lie at the first three places, the
instruction pointer, the data pointer and the opcode after them in the format that operand size and mode select. FNSTSW and
FNSTCW leave the condition codes (D3 (b), log 30); that a 16-bit protected-mode image leaves the opcode as it was is the
model's choice (log 34). -/
def Obligations.FpuControl : Prop :=
  (∀ s : State, FpuPresent s →
     exec .fninit s = .next { past s with fpu := { s.fpu with
       fcw := 0x037F, tags := Oct.all .empty, fsw := Fsw.ofWord 0 } } ∧
     (∃ (c0 c1 c2 c3 : Bool) (k : Nat), exec .fnclex s = .next { past s with draws := k, fpu := coded { s.fpu with
       fsw := { s.fpu.fsw with
         ie := false, de := false, ze := false, oe := false, ue := false, pe := false, sf := false } } c0 c1 c2 c3 }) ∧
     exec .feni s = .next (past s) ∧ exec .fdisi s = .next (past s) ∧ exec .fsetpm s = .next (past s) ∧
     exec .fnstswAx s = .next { past s with regs := s.regs.set16 .eax s.fpu.fswWord } ∧
     (∀ (m : MemOp) (as : List Word) (s1 : State), accessMem m 2 true (past s) = .ok as s1 →
       exec (.fnstswM16 m) s = .next { s1 with mem := Memory.store s1.mem as s.fpu.fswWord.toNat } ∧
       exec (.fnstcwM16 m) s = .next { s1 with mem := Memory.store s1.mem as s.fpu.fcw.toNat }) ∧
     (s.fpu.es = false →
       (∀ (m : MemOp) (v : Nat) (s1 : State), readMem m 2 (past s) = .ok v s1 →
         ∃ (c0 c1 c2 c3 : Bool) (k : Nat), exec (.fldcwM16 m) s =
           .next { s1 with fpu := coded { s.fpu with fcw := BitVec.ofNat 16 v } c0 c1 c2 c3, draws := k }) ∧
       (∃ (fdp : FpuPtr) (c0 c2 c3 : Bool) (k : Nat),
         let f := coded (tracked s fdp) c0 false c2 c3
         exec .fincstp s = .next { past s with
           draws := k, fpu := { f with fsw := { f.fsw with top := s.fpu.fsw.top + 1 } } }) ∧
       (∃ (fdp : FpuPtr) (c0 c2 c3 : Bool) (k : Nat),
         let f := coded (tracked s fdp) c0 false c2 c3
         exec .fdecstp s = .next { past s with
           draws := k, fpu := { f with fsw := { f.fsw with top := s.fpu.fsw.top - 1 } } }) ∧
       (∀ j, ∃ (fdp : FpuPtr) (c0 c1 c2 c3 : Bool) (k : Nat), exec (.ffreeSt j) s = .next { past s with
         draws := k, fpu := { coded (tracked s fdp) c0 c1 c2 c3 with
           tags := s.fpu.tags.set (s.fpu.fsw.top + j) .empty } }) ∧
       (∃ (fdp : FpuPtr) (c0 c1 c2 c3 : Bool) (k : Nat), exec .fnop s = .next { past s with
         draws := k, fpu := coded (tracked s fdp) c0 c1 c2 c3 }))) ∧
  (∀ (s : State) (m : MemOp), FpuPresent s →
     let step := if s.opSize = .s32 then 4 else 2
     let n := 7 * step
     (∃ (v k : Nat), v % 2 ^ 16 = s.fpu.fcw.toNat ∧ v / 256 ^ step % 2 ^ 16 = s.fpu.fswWord.toNat ∧
       v / 256 ^ (2 * step) % 2 ^ 16 = s.fpu.ftw ∧ v < 256 ^ n ∧
       PointersStored s.fpu (decide (s.opSize = .s32)) s.protectedMode v ∧
       (∀ as s1, accessMem m n true { past s with draws := k } = .ok as s1 →
         ∃ (c0 c1 c2 c3 : Bool) (k' : Nat), exec (.fnstenvEnv m) s = .next { s1 with
           mem := Memory.store s1.mem as v, draws := k',
           fpu := coded { s.fpu with fcw := s.fpu.fcw ||| 0x3F } c0 c1 c2 c3 }) ∧
       (∀ as s1, accessMem m (n + 80) true { past s with draws := k } = .ok as s1 →
         exec (.fnsaveFull m) s = .next { s1 with
           mem := Memory.store s1.mem as (v + 256 ^ n * registerImage s.fpu),
           fpu := { s.fpu with fcw := 0x037F, tags := Oct.all .empty, fsw := Fsw.ofWord 0 } })) ∧
     (s.fpu.es = false →
       (∀ (v : Nat) (s1 : State), readMem m n (past s) = .ok v s1 →
         ∃ f : Fpu, exec (.fldenvEnv m) s = .next { s1 with fpu := f } ∧ f.fpr = s.fpu.fpr ∧ Environment f v step ∧
           PointersLoaded s.fpu f (decide (s.opSize = .s32)) s.protectedMode v) ∧
       (∀ (v : Nat) (s1 : State), readMem m (n + 80) (past s) = .ok v s1 →
         ∃ f : Fpu, exec (.frstorFull m) s = .next { s1 with fpu := f } ∧ Environment f v step ∧
           PointersLoaded s.fpu f (decide (s.opSize = .s32)) s.protectedMode v ∧
           ∀ j : BitVec 3, f.st j = BitVec.ofNat 80 (v / 256 ^ (n + 10 * j.toNat)))))


end
end

