-- ==== Sys2Proof/Laws/Memory.lean ====
section
/-!
SUPPORT. The laws of memory: every operation keeps the canonical form, a byte written is read back, and a write leaves
every other byte alone.
-/

namespace Sys2Proof.Machine

/-! ### Reading after writing -/

theorem Memory.read_cell (m : Memory) (a : Nat) (v : Byte) (x : Nat) (h : x = a → Memory.read m x = unlistedByte) :
    Memory.read (Memory.cell a v m) x = if x = a then v else Memory.read m x := by
  unfold Memory.cell
  split
  · next hv =>
    split
    · next hx => rw [h hx, hv]
    · rfl
  · simp only [Memory.read]

/-- In canonical form every address listed is at least the first. -/
theorem Memory.wf_cons {a : Nat} {v : Byte} {m : Memory} (h : Memory.wf ((a, v) :: m) = true) :
    a < 2 ^ 32 ∧ v ≠ unlistedByte ∧ Memory.wf m = true ∧ ∀ b w m', m = (b, w) :: m' → a < b := by
  cases m with
  | nil =>
    simp [Memory.wf] at h ⊢
    exact h
  | cons c m =>
    obtain ⟨b, w⟩ := c
    simp only [Memory.wf, Bool.and_eq_true, decide_eq_true_eq] at h ⊢
    obtain ⟨⟨⟨h1, h2⟩, h3⟩, h4⟩ := h
    refine ⟨h1, h2, h4, ?_⟩
    intro b' w' m' e
    cases e
    exact h3

/-- An address below all that are listed reads as unlisted. -/
theorem Memory.read_below {m : Memory} (h : Memory.wf m = true) {x : Nat} (hx : ∀ b w m', m = (b, w) :: m' → x < b) :
    Memory.read m x = unlistedByte := by
  induction m with
  | nil => rfl
  | cons c m ih =>
    obtain ⟨b, w⟩ := c
    have hb := hx b w m rfl
    have ⟨_, _, hm, hlt⟩ := Memory.wf_cons h
    unfold Memory.read
    rw [if_neg (by omega)]
    refine ih hm ?_
    intro b' w' m' e
    have := hlt b' w' m' e
    omega

/-- A byte written is read back, and every other byte is as before. -/
theorem Memory.read_write {m : Memory} (h : Memory.wf m = true) (a : Nat) (v : Byte) (x : Nat) :
    Memory.read (Memory.write m a v) x = if x = a then v else Memory.read m x := by
  induction m with
  | nil =>
    unfold Memory.write
    rw [Memory.read_cell]
    intro _
    rfl
  | cons c m ih =>
    obtain ⟨b, w⟩ := c
    have ⟨_, _, hm, hlt⟩ := Memory.wf_cons h
    unfold Memory.write
    split
    · next hab =>
      rw [Memory.read_cell]
      intro hx
      refine Memory.read_below h ?_
      intro b' w' m' e
      cases e
      omega
    · split
      · next hab =>
        subst hab
        rw [Memory.read_cell]
        · by_cases hx : x = a
          · rw [if_pos hx, if_pos hx]
          · rw [if_neg hx, if_neg hx]
            exact (if_neg hx).symm
        · intro hx
          subst hx
          exact Memory.read_below hm hlt
      · next hab hne =>
        simp only [Memory.read]
        rw [ih hm]
        by_cases hxb : x = b
        · subst hxb
          rw [if_pos rfl, if_neg (by omega), if_pos rfl]
        · rw [if_neg hxb, if_neg hxb]

/-! ### The canonical form -/

theorem Memory.wf_cell {m : Memory} {a : Nat} {v : Byte} (ha : a < 2 ^ 32) (h : Memory.wf m = true)
    (hlt : ∀ b w m', m = (b, w) :: m' → a < b) : Memory.wf (Memory.cell a v m) = true := by
  unfold Memory.cell
  split
  · exact h
  · next hv =>
    cases m with
    | nil => simp [Memory.wf, hv]; omega
    | cons c m =>
      obtain ⟨b, w⟩ := c
      have := hlt b w m rfl
      rw [Memory.wf]
      simp [hv, this, h]
      omega

/-- The first address of a memory that was written. -/
theorem Memory.write_first {m : Memory} {a : Nat} {v : Byte} {b : Nat} {w : Byte} {m' : Memory} {k : Nat}
    (hk : k < a) (hm : ∀ b w m', m = (b, w) :: m' → k < b) (hwf : Memory.wf m = true)
    (e : Memory.write m a v = (b, w) :: m') : k < b := by
  cases m with
  | nil =>
    unfold Memory.write Memory.cell at e
    split at e
    · cases e
    · cases e
      exact hk
  | cons c m =>
    obtain ⟨b0, w0⟩ := c
    have hb0 := hm b0 w0 m rfl
    have ⟨_, _, _, hlt⟩ := Memory.wf_cons hwf
    unfold Memory.write Memory.cell at e
    split at e
    · split at e
      · cases e
        exact hb0
      · cases e
        exact hk
    · split at e
      · split at e
        · have := hlt b w m' e
          omega
        · cases e
          exact hk
      · cases e
        exact hb0

/-- A write keeps the canonical form. -/
theorem Memory.wf_write {m : Memory} (h : Memory.wf m = true) {a : Nat} (ha : a < 2 ^ 32) (v : Byte) :
    Memory.wf (Memory.write m a v) = true := by
  induction m with
  | nil =>
    unfold Memory.write
    exact Memory.wf_cell ha rfl (by intro b w m' e; cases e)
  | cons c m ih =>
    obtain ⟨b, w⟩ := c
    have ⟨hb, hw, hm, hlt⟩ := Memory.wf_cons h
    unfold Memory.write
    split
    · next hab =>
      refine Memory.wf_cell ha h ?_
      intro b' w' m' e
      cases e
      exact hab
    · split
      · next hab =>
        subst hab
        exact Memory.wf_cell ha hm hlt
      · next hab hne =>
        have hfirst := fun b' w' m' e =>
          Memory.write_first (m := m) (a := a) (v := v) (b := b') (w := w') (m' := m') (k := b) (by omega) hlt hm e
        cases hwr : Memory.write m a v with
        | nil => simp [Memory.wf, hw]; omega
        | cons c' m' =>
          obtain ⟨b', w'⟩ := c'
          have hlt' := hfirst b' w' m' hwr
          have hrest := ih hm
          rw [hwr] at hrest
          rw [Memory.wf]
          simp [hw, hlt', hrest]
          omega

/-- A store keeps the canonical form. -/
theorem Memory.wf_store {m : Memory} (h : Memory.wf m = true) (as : List Word) (v : Nat) :
    Memory.wf (Memory.store m as v) = true := by
  induction as generalizing m v with
  | nil => exact h
  | cons a as ih => exact ih (Memory.wf_write h a.isLt _) _

/-- A store leaves the bytes at other addresses alone. -/
theorem Memory.read_store_other {m : Memory} (h : Memory.wf m = true) (as : List Word) (v x : Nat)
    (hx : ∀ a ∈ as, x ≠ a.toNat) : Memory.read (Memory.store m as v) x = Memory.read m x := by
  induction as generalizing m v with
  | nil => rfl
  | cons a as ih =>
    unfold Memory.store
    rw [ih (Memory.wf_write h a.isLt _) _ (fun b hb => hx b (List.mem_cons_of_mem _ hb)), Memory.read_write h,
      if_neg (hx a List.mem_cons_self)]

/-- Memory after reset has the canonical form. -/
theorem Memory.wf_reset : Memory.wf State.reset.mem = true := rfl

/-! ### The addresses of an access -/

@[simp] theorem addrs_length (a : Word) (n : Nat) : (addrs a n).length = n := by
  induction n generalizing a with
  | zero => rfl
  | succ n ih => simp [addrs, ih]

theorem mem_addrs {a x : Word} {n : Nat} : x ∈ addrs a n ↔ ∃ k, k < n ∧ x = a + BitVec.ofNat 32 k := by
  induction n generalizing a with
  | zero => simp [addrs]
  | succ n ih =>
    simp only [addrs, List.mem_cons, ih]
    constructor
    · rintro (rfl | ⟨k, hk, rfl⟩)
      · exact ⟨0, by omega, by simp⟩
      · refine ⟨k + 1, by omega, ?_⟩
        apply BitVec.eq_of_toNat_eq
        simp [BitVec.toNat_add]
        omega
    · rintro ⟨k, hk, rfl⟩
      cases k with
      | zero => left; simp
      | succ k =>
        right
        refine ⟨k, by omega, ?_⟩
        apply BitVec.eq_of_toNat_eq
        simp [BitVec.toNat_add]
        omega

/-- A stored number is loaded again, modulo what the bytes hold, if no address is twice among them. -/
theorem Memory.load_store {m : Memory} (h : Memory.wf m = true) {as : List Word} (hn : as.Nodup) (v : Nat) :
    Memory.load (Memory.store m as v) as = v % 256 ^ as.length := by
  induction as generalizing m v with
  | nil => simp [Memory.load, Nat.mod_one]
  | cons a as ih =>
    have hwf := Memory.wf_write h a.isLt (BitVec.ofNat 8 v)
    obtain ⟨ha, has⟩ := List.nodup_cons.mp hn
    unfold Memory.load Memory.store
    rw [ih hwf has, Memory.read_store_other hwf as _ _ (fun b hb e => ha (by
      rw [BitVec.eq_of_toNat_eq e]
      exact hb)), Memory.read_write h, if_pos rfl, List.length_cons, BitVec.toNat_ofNat, pow_succ' 256, Nat.mod_mul]

end Sys2Proof.Machine
end

