-- ==== Sys2Proof/Laws/Monad.lean ====
section
/-!
SUPPORT. How the operations run on a state: one lemma for each way of putting meanings together.
-/

namespace Sys2Proof.Machine

variable {α β : Type} {s t : State}

/-- A sequence runs its first part, then the rest on what it gives. -/
theorem run_bind (x : M α) (f : α → M β) (s : State) :
    (x >>= f) s = match x s with
      | .ok a t => f a t
      | .error e t => .error e t := by
  show EStateM.bind x f s = _
  unfold EStateM.bind
  cases x s <;> rfl

theorem bind_of_ok {x : M α} {a : α} (h : x s = .ok a t) (f : α → M β) : (x >>= f) s = f a t := by
  rw [run_bind, h]

theorem bind_of_error {x : M α} {e : Stop} (h : x s = .error e t) (f : α → M β) : (x >>= f) s = .error e t := by
  rw [run_bind, h]

@[simp] theorem run_pure (a : α) (s : State) : (pure a : M α) s = .ok a s := rfl
@[simp] theorem run_getS (s : State) : getS s = .ok s s := rfl
@[simp] theorem run_upd (f : State → State) (s : State) : upd f s = .ok () (f s) := rfl
@[simp] theorem run_skip (s : State) : skip s = .ok () s := rfl
@[simp] theorem run_stop (e : Stop) (s : State) : (stop e : M α) s = .error e s := rfl
@[simp] theorem run_raise (e : Exn) (s : State) : (raise e : M α) s = .error (.exc e false) s := rfl
@[simp] theorem run_raiseDE (s : State) : (raiseDE : M α) s = .error (.exc (.plain 0 none) false) s := rfl
@[simp] theorem run_raiseBR (s : State) : (raiseBR : M α) s = .error (.exc (.plain 5 none) false) s := rfl
@[simp] theorem run_raiseUD (s : State) : (raiseUD : M α) s = .error (.exc (.plain 6 none) false) s := rfl
@[simp] theorem run_raiseNM (s : State) : (raiseNM : M α) s = .error (.exc (.plain 7 none) false) s := rfl
@[simp] theorem run_raiseMF (s : State) : (raiseMF : M α) s = .error (.exc (.plain 16 none) false) s := rfl
@[simp] theorem run_raiseTS (ec : Half) (s : State) :
    (raiseTS ec : M α) s = .error (.exc (.plain 10 (some ec)) false) s := rfl
@[simp] theorem run_raiseNP (ec : Half) (s : State) :
    (raiseNP ec : M α) s = .error (.exc (.plain 11 (some ec)) false) s := rfl
@[simp] theorem run_raiseSS (ec : Half) (s : State) :
    (raiseSS ec : M α) s = .error (.exc (.plain 12 (some ec)) false) s := rfl
@[simp] theorem run_raisePush (n : Nat) (ec : Half) (s : State) : (raisePush n ec : M α) s =
    .error (.exc { Exn.plain 12 (some ec) with
      deadSp := if !s.cr0.pe && !s.segs.ss.db && decide (n = 4) then [1, 2, 3] else [] } false) s := rfl
@[simp] theorem run_raiseGP (ec : Half) (s : State) :
    (raiseGP ec : M α) s = .error (.exc (.plain 13 (some ec)) false) s := rfl

@[simp] theorem run_check (c : Bool) (e : M Unit) (s : State) :
    check c e s = if c then .ok () s else e s := by
  cases c <;> rfl

@[simp] theorem run_onlyIf (c : Bool) (x : M Unit) (s : State) :
    onlyIf c x s = if c then x s else .ok () s := by
  cases c <;> rfl

@[simp] theorem run_drawBit (s : State) :
    drawBit s = .ok (Config.freeBit s.draws) { s with draws := s.draws + 1 } := rfl
@[simp] theorem run_drawWord (s : State) :
    drawWord s = .ok (Config.freeWord s.draws) { s with draws := s.draws + 1 } := rfl
@[simp] theorem run_drawExt (s : State) :
    drawExt s = .ok (Config.freeExt s.draws) { s with draws := s.draws + 1 } := rfl

@[simp] theorem run_reg (r : Reg) (s : State) : reg r s = .ok (s.regs.get r) s := rfl
@[simp] theorem run_setReg (r : Reg) (v : Word) (s : State) :
    setReg r v s = .ok () { s with regs := s.regs.set r v } := rfl
@[simp] theorem run_setReg16 (r : Reg) (v : Half) (s : State) :
    setReg16 r v s = .ok () { s with regs := s.regs.set16 r v } := rfl
@[simp] theorem run_setReg8 (r : Reg8) (v : Byte) (s : State) :
    setReg8 r v s = .ok () { s with regs := s.regs.set8 r v } := rfl
@[simp] theorem run_regV (o : Size) (r : Reg) (s : State) : regV o r s = .ok (s.regs.getV o r) s := rfl
@[simp] theorem run_setRegV (o : Size) (r : Reg) (v : Word) (s : State) :
    setRegV o r v s = .ok () { s with regs := s.regs.setV o r v } := rfl
@[simp] theorem run_getFlags (s : State) : getFlags s = .ok s.flags s := rfl
@[simp] theorem run_updFlags (f : Flags → Flags) (s : State) :
    updFlags f s = .ok () { s with flags := f s.flags } := rfl
@[simp] theorem run_setSeg (r : SReg) (v : SegReg) (s : State) :
    setSeg r v s = .ok () { s with segs := s.segs.set r v } := rfl
@[simp] theorem run_setSp (v : Word) (s : State) :
    setSp v s = .ok () { s with regs := s.regs.setV s.stackSize .esp v } := rfl
@[simp] theorem run_setEip (v : Word) (s : State) : setEip v s = .ok () { s with eip := v } := rfl
@[simp] theorem run_loadAt (as : List Word) (s : State) : loadAt as s = .ok (Memory.load s.mem as) s := rfl
@[simp] theorem run_storeAt (as : List Word) (v : Nat) (s : State) :
    storeAt as v s = .ok () { s with mem := Memory.store s.mem as v } := rfl
@[simp] theorem run_popBytes (n : Nat) (s : State) :
    popBytes n s = .ok () { s with regs := s.regs.setV s.stackSize .esp (s.sp + BitVec.ofNat 32 n) } := rfl

/-! ### An instruction from its meaning -/

/-- A meaning that completes gives its state. -/
theorem runInstr_of_ok {body : M Unit} (h : body { s with eip := s.ins.nextEip } = .ok () t) :
    runInstr body s = .next t := by
  unfold runInstr
  rw [h]

/-- A meaning that raises an exception takes it. -/
theorem runInstr_of_exc {body : M Unit} {e : Exn} {c : Bool}
    (h : body { s with eip := s.ins.nextEip } = .error (.exc e c) t) :
    runInstr body s = .next (takeFault e c s t) := by
  unfold runInstr
  rw [h]

end Sys2Proof.Machine
end

