-- ==== Sys2Proof/Laws/Access.lean ====
section
/-!
SUPPORT. What the accesses to memory can do to the state: table bytes, cached translations, free values drawn, and the
two records of the instruction in progress. Nothing else changes, whether they complete or stop.
-/

namespace Sys2Proof.Machine

variable {α β : Type}

/-- `t` is `s` but for memory, the TLB, the draws, and the log and breakpoint records of the instruction. -/
def Touches (s t : State) : Prop :=
  t = { s with mem := t.mem, tlb := t.tlb, draws := t.draws,
               ins := { s.ins with hits := t.ins.hits, loose := t.ins.loose, sysLog := t.ins.sysLog } }

theorem Touches.refl (s : State) : Touches s s := rfl

theorem Touches.trans {s t u : State} (h : Touches s t) (g : Touches t u) : Touches s u := by
  unfold Touches at *
  rw [g, h]

theorem Touches.regs {s t : State} (h : Touches s t) : t.regs = s.regs := by rw [h]
theorem Touches.eip {s t : State} (h : Touches s t) : t.eip = s.eip := by rw [h]
theorem Touches.flags {s t : State} (h : Touches s t) : t.flags = s.flags := by rw [h]
theorem Touches.segs {s t : State} (h : Touches s t) : t.segs = s.segs := by rw [h]
theorem Touches.cpl {s t : State} (h : Touches s t) : t.cpl = s.cpl := by rw [h]
theorem Touches.cr0 {s t : State} (h : Touches s t) : t.cr0 = s.cr0 := by rw [h]
theorem Touches.cr3 {s t : State} (h : Touches s t) : t.cr3 = s.cr3 := by rw [h]
theorem Touches.gdtr {s t : State} (h : Touches s t) : t.gdtr = s.gdtr := by rw [h]
theorem Touches.idtr {s t : State} (h : Touches s t) : t.idtr = s.idtr := by rw [h]
theorem Touches.ldtr {s t : State} (h : Touches s t) : t.ldtr = s.ldtr := by rw [h]
theorem Touches.tr {s t : State} (h : Touches s t) : t.tr = s.tr := by rw [h]
theorem Touches.dbg {s t : State} (h : Touches s t) : t.dbg = s.dbg := by rw [h]
theorem Touches.fpu {s t : State} (h : Touches s t) : t.fpu = s.fpu := by rw [h]
theorem Touches.cfg {s t : State} (h : Touches s t) : t.cfg = s.cfg := by rw [h]
theorem Touches.shadow {s t : State} (h : Touches s t) : t.shadow = s.shadow := by rw [h]
theorem Touches.io {s t : State} (h : Touches s t) : t.io = s.io := by rw [h]
theorem Touches.insSeg {s t : State} (h : Touches s t) : t.ins.seg = s.ins.seg := by rw [h]
theorem Touches.opSize {s t : State} (h : Touches s t) : t.opSize = s.opSize := by
  rw [h]; rfl
theorem Touches.adSize {s t : State} (h : Touches s t) : t.adSize = s.adSize := by
  rw [h]; rfl
theorem Touches.stackSize {s t : State} (h : Touches s t) : t.stackSize = s.stackSize := by
  rw [h]; rfl
theorem Touches.sp {s t : State} (h : Touches s t) : t.sp = s.sp := by
  rw [h]; rfl
theorem Touches.user {s t : State} (h : Touches s t) : t.user = s.user := by
  rw [h]; rfl
theorem Touches.protectedMode {s t : State} (h : Touches s t) : t.protectedMode = s.protectedMode := by
  rw [h]; rfl
theorem Touches.v86 {s t : State} (h : Touches s t) : t.v86 = s.v86 := by
  rw [h]; rfl

/-- An operation that only touches the state, and stops with an exception that undoes. -/
def Confined (x : M α) : Prop :=
  ∀ s, match x s with
    | .ok _ t => Touches s t
    | .error e t => Touches s t ∧ ∃ x, e = .exc x false

theorem Confined.ok {x : M α} (h : Confined x) {s t : State} {a : α} (e : x s = .ok a t) : Touches s t := by
  have := h s
  rw [e] at this
  exact this

theorem Confined.error {x : M α} (h : Confined x) {s t : State} {e : Stop} (he : x s = .error e t) :
    Touches s t ∧ ∃ x, e = .exc x false := by
  have := h s
  rw [he] at this
  exact this

theorem Confined.pure (a : α) : Confined (Pure.pure a : M α) := fun s => Touches.refl s

theorem Confined.getS : Confined getS := fun s => Touches.refl s

theorem Confined.skip : Confined skip := fun s => Touches.refl s

theorem Confined.raise (e : Exn) : Confined (raise e : M α) := fun s => ⟨Touches.refl s, e, rfl⟩

theorem Confined.bind {x : M α} {f : α → M β} (hx : Confined x) (hf : ∀ a, Confined (f a)) : Confined (x >>= f) := by
  intro s
  rw [run_bind]
  have h := hx s
  revert h
  cases x s with
  | error e t => exact fun h => h
  | ok a t =>
    intro h
    have g := hf a t
    revert g
    simp only
    cases f a t with
    | ok b u => exact fun g => h.trans g
    | error e u => exact fun g => ⟨h.trans g.1, g.2⟩

theorem Confined.check {c : Bool} {e : M Unit} (h : Confined e) : Confined (check c e) := by
  cases c
  · exact h
  · exact Confined.skip

theorem Confined.onlyIf {c : Bool} {x : M Unit} (h : Confined x) : Confined (onlyIf c x) := by
  cases c
  · exact Confined.skip
  · exact h

theorem Confined.ite {c : Prop} [Decidable c] {x y : M α} (hx : Confined x) (hy : Confined y) :
    Confined (if c then x else y) := by
  split
  · exact hx
  · exact hy

theorem Confined.loadAt (as : List Word) : Confined (loadAt as) := fun s => Touches.refl s

theorem Confined.storeAt (as : List Word) (v : Nat) : Confined (storeAt as v) := fun _ => rfl

theorem Confined.tlbKeeps : Confined tlbKeeps := fun _ => rfl

theorem Confined.drawBit : Confined drawBit := fun _ => rfl

theorem Confined.drawWord : Confined drawWord := fun _ => rfl

theorem Confined.drawExt : Confined drawExt := fun _ => rfl

theorem Confined.sysStoreByte (a : Word) (v : Byte) : Confined (sysStoreByte a v) := fun _ => rfl

theorem Confined.forEach {l : List α} {x : α → M Unit} (h : ∀ a, Confined (x a)) : Confined (forEach l x) := by
  induction l with
  | nil => exact Confined.skip
  | cons a l ih => exact (h a).bind fun _ => ih

theorem Confined.setEntryBits (a entry : Word) (bits : Byte) : Confined (setEntryBits a entry bits) :=
  .onlyIf (.sysStoreByte _ _)

theorem Confined.keepTlb (e : TlbEntry) : Confined (keepTlb e) := fun _ => rfl

theorem Confined.walk (la : Word) (write user : Bool) : Confined (walk la write user) := by
  unfold Machine.walk
  refine .bind .getS fun s => .bind (.loadAt _) fun n => .bind (.check (.raise _)) fun _ => .bind (.loadAt _) fun m => ?_
  exact .ite (.bind (.check (.raise _)) fun _ => .bind (.setEntryBits _ _ _) fun _ => .bind (.setEntryBits _ _ _) fun _ =>
    .bind (.keepTlb _) fun _ => .pure _) (.bind (.setEntryBits _ _ _) fun _ => .raise _)

theorem Confined.frameOf (la : Word) (write user : Bool) : Confined (frameOf la write user) := by
  unfold Machine.frameOf
  refine .bind .getS fun s => ?_
  split
  · exact .walk _ _ _
  · refine .bind .tlbKeeps fun _ => .ite (.bind (.check (.raise _)) fun _ => .pure _) (.walk _ _ _)

theorem Confined.physPaged (write user : Bool) (n : Nat) (la : Word) (known : Option (BitVec 20 × BitVec 20)) :
    Confined (physPaged write user n la known) := by
  induction n generalizing la known with
  | zero => exact .pure _
  | succ n ih =>
    unfold Machine.physPaged
    dsimp only
    have rest : ∀ f : BitVec 20, Confined (do
        let rest ← Machine.physPaged write user n (la + 1) (some (la.extractLsb' 12 20, f))
        Pure.pure ((f ++ la.extractLsb' 0 12) :: rest)) := fun f => .bind (ih _ _) fun _ => .pure _
    split
    · exact .ite (.bind (.pure _) rest) (.bind (.frameOf _ _ _) rest)
    · exact .bind (.frameOf _ _ _) rest

theorem Confined.physOf (la : Word) (n : Nat) (write user : Bool) : Confined (physOf la n write user) :=
  .bind .getS fun _ => .ite (.physPaged _ _ _ _ _) (.pure _)

theorem Confined.linRead (la : Word) (n : Nat) : Confined (linRead la n) := .bind (.physOf _ _ _ _) fun _ => .loadAt _

theorem Confined.linWrite (la : Word) (n v : Nat) : Confined (linWrite la n v) :=
  .bind (.physOf _ _ _ _) fun _ => .storeAt _ _

theorem Confined.linWriteSysByte (la : Word) (v : Byte) : Confined (linWriteSysByte la v) :=
  .bind (.physOf _ _ _ _) fun _ => .forEach fun _ => .sysStoreByte _ _

theorem Confined.noteAccess (la : Word) (n : Nat) (write : Bool) : Confined (noteAccess la n write) := by
  intro s
  unfold Machine.noteAccess
  simp only [run_upd]
  split
  · rfl
  · exact Touches.refl s

theorem Confined.raiseLimit (r : SReg) : Confined (raiseLimit r : M α) := .ite (.raise _) (.raise _)

theorem Confined.checkSeg (r : SReg) (off : Word) (n : Nat) (write : Bool) : Confined (checkSeg r off n write) :=
  .bind .getS fun _ => .bind (.onlyIf (.bind (.check (.raise _)) fun _ => .check (.raise _)))
    fun _ => .check (.raiseLimit _)

theorem Confined.access (r : SReg) (off : Word) (n : Nat) (write : Bool) : Confined (access r off n write) :=
  .bind (.checkSeg _ _ _ _) fun _ => .bind .getS fun _ => .bind (.physOf _ _ _ _) fun _ =>
    .bind (.noteAccess _ _ _) fun _ => .pure _

theorem Confined.memRead (r : SReg) (off : Word) (n : Nat) : Confined (memRead r off n) :=
  .bind (.access _ _ _ _) fun _ => .loadAt _

theorem Confined.memWrite (r : SReg) (off : Word) (n v : Nat) : Confined (memWrite r off n v) :=
  .bind (.access _ _ _ _) fun _ => .storeAt _ _

theorem Confined.stackAccess (g : SegReg) (off : Word) (n : Nat) (write user : Bool) (ec : Half) :
    Confined (stackAccess g off n write user ec) :=
  .bind (.check (.raise _)) fun _ => .bind (.physOf _ _ _ _) fun _ => .bind (.noteAccess _ _ _) fun _ => .pure _

theorem Confined.raisePush (n : Nat) (ec : Half) : Confined (raisePush n ec : M α) :=
  fun s => ⟨Touches.refl s, _, rfl⟩

theorem Confined.roomFor (g : SegReg) (sp : Word) (n : Nat) (ec : Half) (k : Nat) : Confined (roomFor g sp n ec k) := by
  induction k with
  | zero => exact .skip
  | succ k ih => exact .bind ih fun _ => .check (.raisePush _ _)

theorem Confined.pushSlot (g : SegReg) (sp : Word) (n : Nat) (user : Bool) (ec : Half) (k : Nat) :
    Confined (pushSlot g sp n user ec k) := .stackAccess _ _ _ _ _ _

theorem Confined.pushSlots (g : SegReg) (sp : Word) (n : Nat) (user : Bool) (ec : Half) (k : Nat) :
    Confined (pushSlots g sp n user ec k) := by
  induction k with
  | zero => exact .pure _
  | succ k ih => exact .bind ih fun _ => .bind (.pushSlot _ _ _ _ _ _) fun _ => .pure _

theorem Confined.storeSlots (slots : List (List Word)) (vs : List Nat) : Confined (storeSlots slots vs) := by
  induction slots generalizing vs with
  | nil => exact .skip
  | cons as slots ih =>
    cases vs with
    | nil => exact .skip
    | cons v vs => exact .bind (.storeAt _ _) fun _ => ih _

theorem Confined.pushOn (g : SegReg) (sp : Word) (user : Bool) (ec : Half) (n : Nat) (vs : List Nat) :
    Confined (pushOn g sp user ec n vs) :=
  .bind (.roomFor _ _ _ _ _) fun _ => .bind (.pushSlots _ _ _ _ _ _) fun _ => .storeSlots _ _

theorem Confined.peek (k n : Nat) : Confined (peek k n) :=
  .bind .getS fun _ => .bind (.stackAccess _ _ _ _ _ _) fun _ => .loadAt _

end Sys2Proof.Machine
end

