-- ==== Sys2Proof/Laws/Operands.lean ====
section
/-!
SUPPORT. What reading, writing and modifying an operand do.
-/

namespace Sys2Proof.Machine

open Claims

variable {α β : Type}

/-! ### Operands in memory only touch the state -/

theorem Confined.accessMem (m : MemOp) (n : Nat) (write : Bool) : Confined (accessMem m n write) :=
  .bind .getS fun _ => .access _ _ _ _

theorem Confined.readMem (m : MemOp) (n : Nat) : Confined (readMem m n) :=
  .bind (.accessMem _ _ _) fun _ => .loadAt _

theorem Confined.writeMem (m : MemOp) (n v : Nat) : Confined (writeMem m n v) :=
  .bind (.accessMem _ _ _) fun _ => .storeAt _ _

theorem Confined.readOp (w : Width) (d : Opnd) : Confined (readOp w d) := by
  cases d with
  | reg8 r => exact .bind .getS fun _ => .pure _
  | reg r => exact .bind .getS fun _ => .pure _
  | mem m => exact .bind (.readMem _ _) fun _ => .pure _
  | imm v => exact .pure _

theorem Confined.openDest (w : Width) (d : Opnd) : Confined (openDest w d) := by
  cases d with
  | mem m => exact .accessMem _ _ _
  | reg8 r => exact .pure _
  | reg r => exact .pure _
  | imm v => exact .pure _

/-! ### Reading -/

@[simp] theorem run_readOp_reg8 (w : Width) (r : Reg8) (s : State) :
    readOp w (.reg8 r) s = .ok ((s.regs.get8 r).setWidth w.bits) s := rfl

@[simp] theorem run_readOp_reg (w : Width) (r : Reg) (s : State) :
    readOp w (.reg r) s = .ok ((s.regs.get r).setWidth w.bits) s := rfl

@[simp] theorem run_readOp_imm (w : Width) (v : Word) (s : State) : readOp w (.imm v) s = .ok (v.setWidth w.bits) s := rfl

/-- The accumulator is read as it stands. -/
theorem run_readOp_acc (w : Width) (s : State) : readOp w (accOp w) s = .ok (destValue w (accOp w) [] s) s := by
  cases w <;> rfl

/-! ### Writing -/

/-- A register of a width is written as `putReg` says. -/
@[simp] theorem run_writeReg (w : Width) (r : Reg) (v : BitVec w.bits) (s : State) :
    writeReg w r v s = .ok () { s with regs := putReg w s.regs r v } := by
  cases w <;> rfl

/-- Storing to an opened memory operand, or writing a register operand, is `putDest`. -/
theorem run_writeMem {m : MemOp} {n v : Nat} {as : List Word} {s t : State} (h : accessMem m n true s = .ok as t) :
    writeMem m n v s = .ok () { t with mem := Memory.store t.mem as v } := by
  unfold writeMem
  rw [bind_of_ok h]
  rfl

/-! ### Modifying -/

/-- A modification that gives a value: the operand is opened, `f` runs on its value, and the result is put there. -/
theorem modify_of_some {w : Width} {d : Opnd} {f : BitVec w.bits → M (Option (BitVec w.bits))} {as : List Word}
    {r : BitVec w.bits} {s t u : State} (h : openDest w d s = .ok as t)
    (hf : f (destValue w d as t) t = .ok (some r) u) : modify w d f s = .ok () (putDest w d as r u) := by
  cases d with
  | mem m =>
    have h' : accessMem m w.bytes true s = .ok as t := h
    exact (bind_of_ok h' _).trans ((bind_of_ok (run_loadAt as t) _).trans (bind_of_ok hf _))
  | reg8 q =>
    cases h
    exact bind_of_ok hf _
  | reg q =>
    cases h
    refine (bind_of_ok hf _).trans ?_
    exact run_writeReg w q r u
  | imm v =>
    cases h
    exact bind_of_ok hf _

/-- A modification that gives no value writes nothing. -/
theorem modify_of_none {w : Width} {d : Opnd} {f : BitVec w.bits → M (Option (BitVec w.bits))} {as : List Word}
    {s t u : State} (h : openDest w d s = .ok as t) (hf : f (destValue w d as t) t = .ok none u) :
    modify w d f s = .ok () u := by
  cases d with
  | mem m =>
    have h' : accessMem m w.bytes true s = .ok as t := h
    exact (bind_of_ok h' _).trans ((bind_of_ok (run_loadAt as t) _).trans (bind_of_ok hf _))
  | reg8 q =>
    cases h
    exact bind_of_ok hf _
  | reg q =>
    cases h
    exact bind_of_ok hf _
  | imm v =>
    cases h
    exact bind_of_ok hf _

@[simp] theorem run_atSize (f : Width → M Unit) (s : State) : atSize f s = f s.width s := rfl

@[simp] theorem run_atOpSize (f : Size → M Unit) (s : State) : atOpSize f s = f s.opSize s := rfl

end Sys2Proof.Machine
end

