-- ==== Sys2Proof/Laws/Alu.lean ====
section
/-!
SUPPORT. What the shared operations on operands do when their operands can be read and opened: the result is put in the
destination, the flags are those of the operation, and nothing else changes.
-/

namespace Sys2Proof.Machine

open Claims

/-- New flags and a new destination do not meet. -/
theorem putDest_flags (w : Width) (d : Opnd) (as : List Word) (v : BitVec w.bits) (s : State) (f : Flags) :
    putDest w d as v { s with flags := f } = { putDest w d as v s with flags := f } := by
  cases d <;> rfl

/-- ADD, ADC, SUB, SBB. -/
theorem alu_arith {op : AluOp} {w : Width} {d src : Opnd} {s s1 s2 : State} {b : BitVec w.bits} {as : List Word}
    (hr : readOp w src s = .ok b s1) (ho : openDest w d s1 = .ok as s2) (hop : op ≠ .cmp) (hl : op.logical = false) :
    alu op w d src s = .ok () { putDest w d as (aluResult op (destValue w d as s2) b s2.flags.cf) s2 with
      flags := aluFlags op s2.flags (destValue w d as s2) b false } := by
  unfold alu
  rw [bind_of_ok hr, if_neg hop, ← putDest_flags]
  refine modify_of_some ho ?_
  simp only [run_bind, run_getFlags, drawAf, hl, run_updFlags, run_pure, Bool.false_eq_true, if_false]

/-- AND, OR, XOR: AF is a draw. -/
theorem alu_logic {op : AluOp} {w : Width} {d src : Opnd} {s s1 s2 : State} {b : BitVec w.bits} {as : List Word}
    (hr : readOp w src s = .ok b s1) (ho : openDest w d s1 = .ok as s2) (hl : op.logical = true) :
    alu op w d src s = .ok () (putDest w d as (aluResult op (destValue w d as s2) b s2.flags.cf) { s2 with
      flags := aluFlags op s2.flags (destValue w d as s2) b (Config.freeBit s2.draws), draws := s2.draws + 1 }) := by
  have hop : op ≠ .cmp := by
    rintro rfl
    cases hl
  unfold alu
  rw [bind_of_ok hr, if_neg hop]
  refine modify_of_some ho ?_
  simp only [run_bind, run_getFlags, drawAf, hl, run_updFlags, run_pure, if_true, run_drawBit]

/-- CMP: nothing is written. -/
theorem alu_cmp {w : Width} {d src : Opnd} {s s1 s2 : State} {a b : BitVec w.bits} (hr : readOp w src s = .ok b s1)
    (hd : readOp w d s1 = .ok a s2) :
    alu .cmp w d src s = .ok () { s2 with flags := aluFlags .cmp s2.flags a b false } := by
  unfold alu
  rw [bind_of_ok hr, if_pos rfl, bind_of_ok hd]
  rfl

/-- TEST: nothing is written; AF is a draw. -/
theorem test_ok {w : Width} {d src : Opnd} {s s1 s2 : State} {a b : BitVec w.bits} (hr : readOp w src s = .ok b s1)
    (hd : readOp w d s1 = .ok a s2) :
    test w d src s = .ok () { s2 with
      flags := s2.flags.afterLogic (a &&& b) (Config.freeBit s2.draws), draws := s2.draws + 1 } := by
  unfold test
  rw [bind_of_ok hr, bind_of_ok hd]
  rfl

/-- INC. -/
theorem inc_ok {w : Width} {d : Opnd} {s t : State} {as : List Word} (ho : openDest w d s = .ok as t) :
    let a := destValue w d as t
    inc w d s = .ok () { putDest w d as (a + 1) t with
      flags := { t.flags.afterAdd a 1 false (a + 1) with cf := t.flags.cf } } := by
  intro a
  rw [← putDest_flags]
  exact modify_of_some ho rfl

/-- DEC. -/
theorem dec_ok {w : Width} {d : Opnd} {s t : State} {as : List Word} (ho : openDest w d s = .ok as t) :
    let a := destValue w d as t
    dec w d s = .ok () { putDest w d as (a - 1) t with
      flags := { t.flags.afterSub a 1 false (a - 1) with cf := t.flags.cf } } := by
  intro a
  rw [← putDest_flags]
  exact modify_of_some ho rfl

/-- NEG. -/
theorem neg_ok {w : Width} {d : Opnd} {s t : State} {as : List Word} (ho : openDest w d s = .ok as t) :
    let a := destValue w d as t
    neg w d s = .ok () { putDest w d as (0 - a) t with flags := t.flags.afterSub 0 a false (0 - a) } := by
  intro a
  rw [← putDest_flags]
  exact modify_of_some ho rfl

/-- NOT. -/
theorem not_ok {w : Width} {d : Opnd} {s t : State} {as : List Word} (ho : openDest w d s = .ok as t) :
    not w d s = .ok () (putDest w d as (~~~destValue w d as t) t) :=
  modify_of_some ho rfl

/-- The flags after a multiplication. -/
theorem run_flagsAfterMul (big : Bool) (s : State) : ∃ sf zf af pf : Bool, flagsAfterMul big s = .ok () { s with
    flags := { s.flags with cf := big, of := big, sf := sf, zf := zf, af := af, pf := pf }, draws := s.draws + 4 } :=
  ⟨_, _, _, _, rfl⟩

/-- All status flags are draws. -/
theorem run_drawAllFlags (s : State) : ∃ cf pf af zf sf of : Bool, drawAllFlags s = .ok () { s with
    flags := { s.flags with cf := cf, pf := pf, af := af, zf := zf, sf := sf, of := of }, draws := s.draws + 6 } :=
  ⟨_, _, _, _, _, _, rfl⟩

/-- MOV. -/
theorem move_ok {w : Width} {d src : Opnd} {s s1 s2 : State} {v : BitVec w.bits} {as : List Word}
    (hr : readOp w src s = .ok v s1) (ho : openDest w d s1 = .ok as s2) :
    move w d src s = .ok () (putDest w d as v s2) := by
  unfold move
  rw [bind_of_ok hr]
  cases d with
  | mem m =>
    have h : accessMem m w.bytes true s1 = .ok as s2 := ho
    exact run_writeMem h
  | reg8 q =>
    cases ho
    rfl
  | reg q =>
    cases ho
    exact run_writeReg w q v s1
  | imm i =>
    cases ho
    rfl

/-- SETcc. -/
theorem setcc_ok {c : Cond} {d : Opnd} {s t : State} {as : List Word} (ho : openDest .w8 d s = .ok as t) :
    setcc c d s = .ok () (putDest .w8 d as (if cond s.flags c then 1 else 0) t) := by
  unfold setcc
  rw [run_bind, run_getFlags]
  cases d with
  | mem m =>
    have h : accessMem m Width.w8.bytes true s = .ok as t := ho
    exact run_writeMem h
  | reg8 q =>
    cases ho
    rfl
  | reg q =>
    cases ho
    exact run_writeReg .w8 q _ s
  | imm i =>
    cases ho
    rfl

end Sys2Proof.Machine
end

