-- ==== Sys2Proof/Laws/Exec.lean ====
section
/-!
SUPPORT. Which meaning `exec` gives each instruction, one equation for each: it runs `exec` without its table.
-/

namespace Sys2Proof.Machine

variable (s : State)

@[simp] theorem exec_addRm8R8 (d : RM8) (r : Reg8) : exec (.addRm8R8 d r) s = execAddRm8R8 d r s := (rfl)
@[simp] theorem exec_addRmR (d : RM) (r : Reg) : exec (.addRmR d r) s = execAddRmR d r s := (rfl)
@[simp] theorem exec_addR8Rm8 (r : Reg8) (m : RM8) : exec (.addR8Rm8 r m) s = execAddR8Rm8 r m s := (rfl)
@[simp] theorem exec_addRRm (r : Reg) (m : RM) : exec (.addRRm r m) s = execAddRRm r m s := (rfl)
@[simp] theorem exec_addAlImm8 (imm : BitVec 8) : exec (.addAlImm8 imm) s = execAddAlImm8 imm s := (rfl)
@[simp] theorem exec_addEaxImm (imm : BitVec 32) : exec (.addEaxImm imm) s = execAddEaxImm imm s := (rfl)
@[simp] theorem exec_addRm8Imm8 (d : RM8) (imm : BitVec 8) :
    exec (.addRm8Imm8 d imm) s = execAddRm8Imm8 d imm s := (rfl)
@[simp] theorem exec_addRmImm (d : RM) (imm : BitVec 32) : exec (.addRmImm d imm) s = execAddRmImm d imm s := (rfl)
@[simp] theorem exec_addRmImm8 (d : RM) (imm : BitVec 8) : exec (.addRmImm8 d imm) s = execAddRmImm8 d imm s := (rfl)
@[simp] theorem exec_orRm8R8 (d : RM8) (r : Reg8) : exec (.orRm8R8 d r) s = execOrRm8R8 d r s := (rfl)
@[simp] theorem exec_orRmR (d : RM) (r : Reg) : exec (.orRmR d r) s = execOrRmR d r s := (rfl)
@[simp] theorem exec_orR8Rm8 (r : Reg8) (m : RM8) : exec (.orR8Rm8 r m) s = execOrR8Rm8 r m s := (rfl)
@[simp] theorem exec_orRRm (r : Reg) (m : RM) : exec (.orRRm r m) s = execOrRRm r m s := (rfl)
@[simp] theorem exec_orAlImm8 (imm : BitVec 8) : exec (.orAlImm8 imm) s = execOrAlImm8 imm s := (rfl)
@[simp] theorem exec_orEaxImm (imm : BitVec 32) : exec (.orEaxImm imm) s = execOrEaxImm imm s := (rfl)
@[simp] theorem exec_orRm8Imm8 (d : RM8) (imm : BitVec 8) : exec (.orRm8Imm8 d imm) s = execOrRm8Imm8 d imm s := (rfl)
@[simp] theorem exec_orRmImm (d : RM) (imm : BitVec 32) : exec (.orRmImm d imm) s = execOrRmImm d imm s := (rfl)
@[simp] theorem exec_orRmImm8 (d : RM) (imm : BitVec 8) : exec (.orRmImm8 d imm) s = execOrRmImm8 d imm s := (rfl)
@[simp] theorem exec_adcRm8R8 (d : RM8) (r : Reg8) : exec (.adcRm8R8 d r) s = execAdcRm8R8 d r s := (rfl)
@[simp] theorem exec_adcRmR (d : RM) (r : Reg) : exec (.adcRmR d r) s = execAdcRmR d r s := (rfl)
@[simp] theorem exec_adcR8Rm8 (r : Reg8) (m : RM8) : exec (.adcR8Rm8 r m) s = execAdcR8Rm8 r m s := (rfl)
@[simp] theorem exec_adcRRm (r : Reg) (m : RM) : exec (.adcRRm r m) s = execAdcRRm r m s := (rfl)
@[simp] theorem exec_adcAlImm8 (imm : BitVec 8) : exec (.adcAlImm8 imm) s = execAdcAlImm8 imm s := (rfl)
@[simp] theorem exec_adcEaxImm (imm : BitVec 32) : exec (.adcEaxImm imm) s = execAdcEaxImm imm s := (rfl)
@[simp] theorem exec_adcRm8Imm8 (d : RM8) (imm : BitVec 8) :
    exec (.adcRm8Imm8 d imm) s = execAdcRm8Imm8 d imm s := (rfl)
@[simp] theorem exec_adcRmImm (d : RM) (imm : BitVec 32) : exec (.adcRmImm d imm) s = execAdcRmImm d imm s := (rfl)
@[simp] theorem exec_adcRmImm8 (d : RM) (imm : BitVec 8) : exec (.adcRmImm8 d imm) s = execAdcRmImm8 d imm s := (rfl)
@[simp] theorem exec_sbbRm8R8 (d : RM8) (r : Reg8) : exec (.sbbRm8R8 d r) s = execSbbRm8R8 d r s := (rfl)
@[simp] theorem exec_sbbRmR (d : RM) (r : Reg) : exec (.sbbRmR d r) s = execSbbRmR d r s := (rfl)
@[simp] theorem exec_sbbR8Rm8 (r : Reg8) (m : RM8) : exec (.sbbR8Rm8 r m) s = execSbbR8Rm8 r m s := (rfl)
@[simp] theorem exec_sbbRRm (r : Reg) (m : RM) : exec (.sbbRRm r m) s = execSbbRRm r m s := (rfl)
@[simp] theorem exec_sbbAlImm8 (imm : BitVec 8) : exec (.sbbAlImm8 imm) s = execSbbAlImm8 imm s := (rfl)
@[simp] theorem exec_sbbEaxImm (imm : BitVec 32) : exec (.sbbEaxImm imm) s = execSbbEaxImm imm s := (rfl)
@[simp] theorem exec_sbbRm8Imm8 (d : RM8) (imm : BitVec 8) :
    exec (.sbbRm8Imm8 d imm) s = execSbbRm8Imm8 d imm s := (rfl)
@[simp] theorem exec_sbbRmImm (d : RM) (imm : BitVec 32) : exec (.sbbRmImm d imm) s = execSbbRmImm d imm s := (rfl)
@[simp] theorem exec_sbbRmImm8 (d : RM) (imm : BitVec 8) : exec (.sbbRmImm8 d imm) s = execSbbRmImm8 d imm s := (rfl)
@[simp] theorem exec_andRm8R8 (d : RM8) (r : Reg8) : exec (.andRm8R8 d r) s = execAndRm8R8 d r s := (rfl)
@[simp] theorem exec_andRmR (d : RM) (r : Reg) : exec (.andRmR d r) s = execAndRmR d r s := (rfl)
@[simp] theorem exec_andR8Rm8 (r : Reg8) (m : RM8) : exec (.andR8Rm8 r m) s = execAndR8Rm8 r m s := (rfl)
@[simp] theorem exec_andRRm (r : Reg) (m : RM) : exec (.andRRm r m) s = execAndRRm r m s := (rfl)
@[simp] theorem exec_andAlImm8 (imm : BitVec 8) : exec (.andAlImm8 imm) s = execAndAlImm8 imm s := (rfl)
@[simp] theorem exec_andEaxImm (imm : BitVec 32) : exec (.andEaxImm imm) s = execAndEaxImm imm s := (rfl)
@[simp] theorem exec_andRm8Imm8 (d : RM8) (imm : BitVec 8) :
    exec (.andRm8Imm8 d imm) s = execAndRm8Imm8 d imm s := (rfl)
@[simp] theorem exec_andRmImm (d : RM) (imm : BitVec 32) : exec (.andRmImm d imm) s = execAndRmImm d imm s := (rfl)
@[simp] theorem exec_andRmImm8 (d : RM) (imm : BitVec 8) : exec (.andRmImm8 d imm) s = execAndRmImm8 d imm s := (rfl)
@[simp] theorem exec_subRm8R8 (d : RM8) (r : Reg8) : exec (.subRm8R8 d r) s = execSubRm8R8 d r s := (rfl)
@[simp] theorem exec_subRmR (d : RM) (r : Reg) : exec (.subRmR d r) s = execSubRmR d r s := (rfl)
@[simp] theorem exec_subR8Rm8 (r : Reg8) (m : RM8) : exec (.subR8Rm8 r m) s = execSubR8Rm8 r m s := (rfl)
@[simp] theorem exec_subRRm (r : Reg) (m : RM) : exec (.subRRm r m) s = execSubRRm r m s := (rfl)
@[simp] theorem exec_subAlImm8 (imm : BitVec 8) : exec (.subAlImm8 imm) s = execSubAlImm8 imm s := (rfl)
@[simp] theorem exec_subEaxImm (imm : BitVec 32) : exec (.subEaxImm imm) s = execSubEaxImm imm s := (rfl)
@[simp] theorem exec_subRm8Imm8 (d : RM8) (imm : BitVec 8) :
    exec (.subRm8Imm8 d imm) s = execSubRm8Imm8 d imm s := (rfl)
@[simp] theorem exec_subRmImm (d : RM) (imm : BitVec 32) : exec (.subRmImm d imm) s = execSubRmImm d imm s := (rfl)
@[simp] theorem exec_subRmImm8 (d : RM) (imm : BitVec 8) : exec (.subRmImm8 d imm) s = execSubRmImm8 d imm s := (rfl)
@[simp] theorem exec_xorRm8R8 (d : RM8) (r : Reg8) : exec (.xorRm8R8 d r) s = execXorRm8R8 d r s := (rfl)
@[simp] theorem exec_xorRmR (d : RM) (r : Reg) : exec (.xorRmR d r) s = execXorRmR d r s := (rfl)
@[simp] theorem exec_xorR8Rm8 (r : Reg8) (m : RM8) : exec (.xorR8Rm8 r m) s = execXorR8Rm8 r m s := (rfl)
@[simp] theorem exec_xorRRm (r : Reg) (m : RM) : exec (.xorRRm r m) s = execXorRRm r m s := (rfl)
@[simp] theorem exec_xorAlImm8 (imm : BitVec 8) : exec (.xorAlImm8 imm) s = execXorAlImm8 imm s := (rfl)
@[simp] theorem exec_xorEaxImm (imm : BitVec 32) : exec (.xorEaxImm imm) s = execXorEaxImm imm s := (rfl)
@[simp] theorem exec_xorRm8Imm8 (d : RM8) (imm : BitVec 8) :
    exec (.xorRm8Imm8 d imm) s = execXorRm8Imm8 d imm s := (rfl)
@[simp] theorem exec_xorRmImm (d : RM) (imm : BitVec 32) : exec (.xorRmImm d imm) s = execXorRmImm d imm s := (rfl)
@[simp] theorem exec_xorRmImm8 (d : RM) (imm : BitVec 8) : exec (.xorRmImm8 d imm) s = execXorRmImm8 d imm s := (rfl)
@[simp] theorem exec_cmpRm8R8 (d : RM8) (r : Reg8) : exec (.cmpRm8R8 d r) s = execCmpRm8R8 d r s := (rfl)
@[simp] theorem exec_cmpRmR (d : RM) (r : Reg) : exec (.cmpRmR d r) s = execCmpRmR d r s := (rfl)
@[simp] theorem exec_cmpR8Rm8 (r : Reg8) (m : RM8) : exec (.cmpR8Rm8 r m) s = execCmpR8Rm8 r m s := (rfl)
@[simp] theorem exec_cmpRRm (r : Reg) (m : RM) : exec (.cmpRRm r m) s = execCmpRRm r m s := (rfl)
@[simp] theorem exec_cmpAlImm8 (imm : BitVec 8) : exec (.cmpAlImm8 imm) s = execCmpAlImm8 imm s := (rfl)
@[simp] theorem exec_cmpEaxImm (imm : BitVec 32) : exec (.cmpEaxImm imm) s = execCmpEaxImm imm s := (rfl)
@[simp] theorem exec_cmpRm8Imm8 (d : RM8) (imm : BitVec 8) :
    exec (.cmpRm8Imm8 d imm) s = execCmpRm8Imm8 d imm s := (rfl)
@[simp] theorem exec_cmpRmImm (d : RM) (imm : BitVec 32) : exec (.cmpRmImm d imm) s = execCmpRmImm d imm s := (rfl)
@[simp] theorem exec_cmpRmImm8 (d : RM) (imm : BitVec 8) : exec (.cmpRmImm8 d imm) s = execCmpRmImm8 d imm s := (rfl)
@[simp] theorem exec_incRm8 (d : RM8) : exec (.incRm8 d) s = execIncRm8 d s := (rfl)
@[simp] theorem exec_incRm (d : RM) : exec (.incRm d) s = execIncRm d s := (rfl)
@[simp] theorem exec_incR (r : Reg) : exec (.incR r) s = execIncR r s := (rfl)
@[simp] theorem exec_decRm8 (d : RM8) : exec (.decRm8 d) s = execDecRm8 d s := (rfl)
@[simp] theorem exec_decRm (d : RM) : exec (.decRm d) s = execDecRm d s := (rfl)
@[simp] theorem exec_decR (r : Reg) : exec (.decR r) s = execDecR r s := (rfl)
@[simp] theorem exec_notRm8 (d : RM8) : exec (.notRm8 d) s = execNotRm8 d s := (rfl)
@[simp] theorem exec_notRm (d : RM) : exec (.notRm d) s = execNotRm d s := (rfl)
@[simp] theorem exec_negRm8 (d : RM8) : exec (.negRm8 d) s = execNegRm8 d s := (rfl)
@[simp] theorem exec_negRm (d : RM) : exec (.negRm d) s = execNegRm d s := (rfl)
@[simp] theorem exec_mulRm8 (d : RM8) : exec (.mulRm8 d) s = execMulRm8 d s := (rfl)
@[simp] theorem exec_mulRm (d : RM) : exec (.mulRm d) s = execMulRm d s := (rfl)
@[simp] theorem exec_imulRm8 (d : RM8) : exec (.imulRm8 d) s = execImulRm8 d s := (rfl)
@[simp] theorem exec_imulRm (d : RM) : exec (.imulRm d) s = execImulRm d s := (rfl)
@[simp] theorem exec_divRm8 (d : RM8) : exec (.divRm8 d) s = execDivRm8 d s := (rfl)
@[simp] theorem exec_divRm (d : RM) : exec (.divRm d) s = execDivRm d s := (rfl)
@[simp] theorem exec_idivRm8 (d : RM8) : exec (.idivRm8 d) s = execIdivRm8 d s := (rfl)
@[simp] theorem exec_idivRm (d : RM) : exec (.idivRm d) s = execIdivRm d s := (rfl)
@[simp] theorem exec_imulRRm (r : Reg) (m : RM) : exec (.imulRRm r m) s = execImulRRm r m s := (rfl)
@[simp] theorem exec_imulRRmImm8 (r : Reg) (m : RM) (imm : BitVec 8) :
    exec (.imulRRmImm8 r m imm) s = execImulRRmImm8 r m imm s :=
    (rfl)
@[simp] theorem exec_imulRRmImm (r : Reg) (m : RM) (imm : BitVec 32) :
    exec (.imulRRmImm r m imm) s = execImulRRmImm r m imm s :=
    (rfl)
@[simp] theorem exec_cbwCwde : exec .cbwCwde s = execCbwCwde s := (rfl)
@[simp] theorem exec_cwdCdq : exec .cwdCdq s = execCwdCdq s := (rfl)
@[simp] theorem exec_aaa : exec .aaa s = execAaa s := (rfl)
@[simp] theorem exec_aas : exec .aas s = execAas s := (rfl)
@[simp] theorem exec_aamImm8 (imm : BitVec 8) : exec (.aamImm8 imm) s = execAamImm8 imm s := (rfl)
@[simp] theorem exec_aadImm8 (imm : BitVec 8) : exec (.aadImm8 imm) s = execAadImm8 imm s := (rfl)
@[simp] theorem exec_daa : exec .daa s = execDaa s := (rfl)
@[simp] theorem exec_das : exec .das s = execDas s := (rfl)
@[simp] theorem exec_testAlImm8 (imm : BitVec 8) : exec (.testAlImm8 imm) s = execTestAlImm8 imm s := (rfl)
@[simp] theorem exec_testEaxImm (imm : BitVec 32) : exec (.testEaxImm imm) s = execTestEaxImm imm s := (rfl)
@[simp] theorem exec_testRm8Imm8 (d : RM8) (imm : BitVec 8) :
    exec (.testRm8Imm8 d imm) s = execTestRm8Imm8 d imm s := (rfl)
@[simp] theorem exec_testRmImm (d : RM) (imm : BitVec 32) : exec (.testRmImm d imm) s = execTestRmImm d imm s := (rfl)
@[simp] theorem exec_testRm8R8 (d : RM8) (r : Reg8) : exec (.testRm8R8 d r) s = execTestRm8R8 d r s := (rfl)
@[simp] theorem exec_testRmR (d : RM) (r : Reg) : exec (.testRmR d r) s = execTestRmR d r s := (rfl)
@[simp] theorem exec_rolRm8One (d : RM8) : exec (.rolRm8One d) s = execRolRm8One d s := (rfl)
@[simp] theorem exec_rolRm8Cl (d : RM8) : exec (.rolRm8Cl d) s = execRolRm8Cl d s := (rfl)
@[simp] theorem exec_rolRm8Imm8 (d : RM8) (imm : BitVec 8) :
    exec (.rolRm8Imm8 d imm) s = execRolRm8Imm8 d imm s := (rfl)
@[simp] theorem exec_rolRmOne (d : RM) : exec (.rolRmOne d) s = execRolRmOne d s := (rfl)
@[simp] theorem exec_rolRmCl (d : RM) : exec (.rolRmCl d) s = execRolRmCl d s := (rfl)
@[simp] theorem exec_rolRmImm8 (d : RM) (imm : BitVec 8) : exec (.rolRmImm8 d imm) s = execRolRmImm8 d imm s := (rfl)
@[simp] theorem exec_rorRm8One (d : RM8) : exec (.rorRm8One d) s = execRorRm8One d s := (rfl)
@[simp] theorem exec_rorRm8Cl (d : RM8) : exec (.rorRm8Cl d) s = execRorRm8Cl d s := (rfl)
@[simp] theorem exec_rorRm8Imm8 (d : RM8) (imm : BitVec 8) :
    exec (.rorRm8Imm8 d imm) s = execRorRm8Imm8 d imm s := (rfl)
@[simp] theorem exec_rorRmOne (d : RM) : exec (.rorRmOne d) s = execRorRmOne d s := (rfl)
@[simp] theorem exec_rorRmCl (d : RM) : exec (.rorRmCl d) s = execRorRmCl d s := (rfl)
@[simp] theorem exec_rorRmImm8 (d : RM) (imm : BitVec 8) : exec (.rorRmImm8 d imm) s = execRorRmImm8 d imm s := (rfl)
@[simp] theorem exec_rclRm8One (d : RM8) : exec (.rclRm8One d) s = execRclRm8One d s := (rfl)
@[simp] theorem exec_rclRm8Cl (d : RM8) : exec (.rclRm8Cl d) s = execRclRm8Cl d s := (rfl)
@[simp] theorem exec_rclRm8Imm8 (d : RM8) (imm : BitVec 8) :
    exec (.rclRm8Imm8 d imm) s = execRclRm8Imm8 d imm s := (rfl)
@[simp] theorem exec_rclRmOne (d : RM) : exec (.rclRmOne d) s = execRclRmOne d s := (rfl)
@[simp] theorem exec_rclRmCl (d : RM) : exec (.rclRmCl d) s = execRclRmCl d s := (rfl)
@[simp] theorem exec_rclRmImm8 (d : RM) (imm : BitVec 8) : exec (.rclRmImm8 d imm) s = execRclRmImm8 d imm s := (rfl)
@[simp] theorem exec_rcrRm8One (d : RM8) : exec (.rcrRm8One d) s = execRcrRm8One d s := (rfl)
@[simp] theorem exec_rcrRm8Cl (d : RM8) : exec (.rcrRm8Cl d) s = execRcrRm8Cl d s := (rfl)
@[simp] theorem exec_rcrRm8Imm8 (d : RM8) (imm : BitVec 8) :
    exec (.rcrRm8Imm8 d imm) s = execRcrRm8Imm8 d imm s := (rfl)
@[simp] theorem exec_rcrRmOne (d : RM) : exec (.rcrRmOne d) s = execRcrRmOne d s := (rfl)
@[simp] theorem exec_rcrRmCl (d : RM) : exec (.rcrRmCl d) s = execRcrRmCl d s := (rfl)
@[simp] theorem exec_rcrRmImm8 (d : RM) (imm : BitVec 8) : exec (.rcrRmImm8 d imm) s = execRcrRmImm8 d imm s := (rfl)
@[simp] theorem exec_salRm8One (d : RM8) : exec (.salRm8One d) s = execSalRm8One d s := (rfl)
@[simp] theorem exec_salRm8Cl (d : RM8) : exec (.salRm8Cl d) s = execSalRm8Cl d s := (rfl)
@[simp] theorem exec_salRm8Imm8 (d : RM8) (imm : BitVec 8) :
    exec (.salRm8Imm8 d imm) s = execSalRm8Imm8 d imm s := (rfl)
@[simp] theorem exec_salRmOne (d : RM) : exec (.salRmOne d) s = execSalRmOne d s := (rfl)
@[simp] theorem exec_salRmCl (d : RM) : exec (.salRmCl d) s = execSalRmCl d s := (rfl)
@[simp] theorem exec_salRmImm8 (d : RM) (imm : BitVec 8) : exec (.salRmImm8 d imm) s = execSalRmImm8 d imm s := (rfl)
@[simp] theorem exec_shrRm8One (d : RM8) : exec (.shrRm8One d) s = execShrRm8One d s := (rfl)
@[simp] theorem exec_shrRm8Cl (d : RM8) : exec (.shrRm8Cl d) s = execShrRm8Cl d s := (rfl)
@[simp] theorem exec_shrRm8Imm8 (d : RM8) (imm : BitVec 8) :
    exec (.shrRm8Imm8 d imm) s = execShrRm8Imm8 d imm s := (rfl)
@[simp] theorem exec_shrRmOne (d : RM) : exec (.shrRmOne d) s = execShrRmOne d s := (rfl)
@[simp] theorem exec_shrRmCl (d : RM) : exec (.shrRmCl d) s = execShrRmCl d s := (rfl)
@[simp] theorem exec_shrRmImm8 (d : RM) (imm : BitVec 8) : exec (.shrRmImm8 d imm) s = execShrRmImm8 d imm s := (rfl)
@[simp] theorem exec_sarRm8One (d : RM8) : exec (.sarRm8One d) s = execSarRm8One d s := (rfl)
@[simp] theorem exec_sarRm8Cl (d : RM8) : exec (.sarRm8Cl d) s = execSarRm8Cl d s := (rfl)
@[simp] theorem exec_sarRm8Imm8 (d : RM8) (imm : BitVec 8) :
    exec (.sarRm8Imm8 d imm) s = execSarRm8Imm8 d imm s := (rfl)
@[simp] theorem exec_sarRmOne (d : RM) : exec (.sarRmOne d) s = execSarRmOne d s := (rfl)
@[simp] theorem exec_sarRmCl (d : RM) : exec (.sarRmCl d) s = execSarRmCl d s := (rfl)
@[simp] theorem exec_sarRmImm8 (d : RM) (imm : BitVec 8) : exec (.sarRmImm8 d imm) s = execSarRmImm8 d imm s := (rfl)
@[simp] theorem exec_shldRmRImm8 (d : RM) (r : Reg) (imm : BitVec 8) :
    exec (.shldRmRImm8 d r imm) s = execShldRmRImm8 d r imm s :=
    (rfl)
@[simp] theorem exec_shldRmRCl (d : RM) (r : Reg) : exec (.shldRmRCl d r) s = execShldRmRCl d r s := (rfl)
@[simp] theorem exec_shrdRmRImm8 (d : RM) (r : Reg) (imm : BitVec 8) :
    exec (.shrdRmRImm8 d r imm) s = execShrdRmRImm8 d r imm s :=
    (rfl)
@[simp] theorem exec_shrdRmRCl (d : RM) (r : Reg) : exec (.shrdRmRCl d r) s = execShrdRmRCl d r s := (rfl)
@[simp] theorem exec_btRmR (d : RM) (r : Reg) : exec (.btRmR d r) s = execBtRmR d r s := (rfl)
@[simp] theorem exec_btRmImm8 (d : RM) (imm : BitVec 8) : exec (.btRmImm8 d imm) s = execBtRmImm8 d imm s := (rfl)
@[simp] theorem exec_btsRmR (d : RM) (r : Reg) : exec (.btsRmR d r) s = execBtsRmR d r s := (rfl)
@[simp] theorem exec_btsRmImm8 (d : RM) (imm : BitVec 8) : exec (.btsRmImm8 d imm) s = execBtsRmImm8 d imm s := (rfl)
@[simp] theorem exec_btrRmR (d : RM) (r : Reg) : exec (.btrRmR d r) s = execBtrRmR d r s := (rfl)
@[simp] theorem exec_btrRmImm8 (d : RM) (imm : BitVec 8) : exec (.btrRmImm8 d imm) s = execBtrRmImm8 d imm s := (rfl)
@[simp] theorem exec_btcRmR (d : RM) (r : Reg) : exec (.btcRmR d r) s = execBtcRmR d r s := (rfl)
@[simp] theorem exec_btcRmImm8 (d : RM) (imm : BitVec 8) : exec (.btcRmImm8 d imm) s = execBtcRmImm8 d imm s := (rfl)
@[simp] theorem exec_bsfRRm (r : Reg) (m : RM) : exec (.bsfRRm r m) s = execBsfRRm r m s := (rfl)
@[simp] theorem exec_bsrRRm (r : Reg) (m : RM) : exec (.bsrRRm r m) s = execBsrRRm r m s := (rfl)
@[simp] theorem exec_setoRm8 (d : RM8) : exec (.setoRm8 d) s = execSetoRm8 d s := (rfl)
@[simp] theorem exec_setnoRm8 (d : RM8) : exec (.setnoRm8 d) s = execSetnoRm8 d s := (rfl)
@[simp] theorem exec_setbRm8 (d : RM8) : exec (.setbRm8 d) s = execSetbRm8 d s := (rfl)
@[simp] theorem exec_setaeRm8 (d : RM8) : exec (.setaeRm8 d) s = execSetaeRm8 d s := (rfl)
@[simp] theorem exec_seteRm8 (d : RM8) : exec (.seteRm8 d) s = execSeteRm8 d s := (rfl)
@[simp] theorem exec_setneRm8 (d : RM8) : exec (.setneRm8 d) s = execSetneRm8 d s := (rfl)
@[simp] theorem exec_setbeRm8 (d : RM8) : exec (.setbeRm8 d) s = execSetbeRm8 d s := (rfl)
@[simp] theorem exec_setaRm8 (d : RM8) : exec (.setaRm8 d) s = execSetaRm8 d s := (rfl)
@[simp] theorem exec_setsRm8 (d : RM8) : exec (.setsRm8 d) s = execSetsRm8 d s := (rfl)
@[simp] theorem exec_setnsRm8 (d : RM8) : exec (.setnsRm8 d) s = execSetnsRm8 d s := (rfl)
@[simp] theorem exec_setpRm8 (d : RM8) : exec (.setpRm8 d) s = execSetpRm8 d s := (rfl)
@[simp] theorem exec_setnpRm8 (d : RM8) : exec (.setnpRm8 d) s = execSetnpRm8 d s := (rfl)
@[simp] theorem exec_setlRm8 (d : RM8) : exec (.setlRm8 d) s = execSetlRm8 d s := (rfl)
@[simp] theorem exec_setgeRm8 (d : RM8) : exec (.setgeRm8 d) s = execSetgeRm8 d s := (rfl)
@[simp] theorem exec_setleRm8 (d : RM8) : exec (.setleRm8 d) s = execSetleRm8 d s := (rfl)
@[simp] theorem exec_setgRm8 (d : RM8) : exec (.setgRm8 d) s = execSetgRm8 d s := (rfl)
@[simp] theorem exec_movRm8R8 (d : RM8) (r : Reg8) : exec (.movRm8R8 d r) s = execMovRm8R8 d r s := (rfl)
@[simp] theorem exec_movRmR (d : RM) (r : Reg) : exec (.movRmR d r) s = execMovRmR d r s := (rfl)
@[simp] theorem exec_movR8Rm8 (r : Reg8) (m : RM8) : exec (.movR8Rm8 r m) s = execMovR8Rm8 r m s := (rfl)
@[simp] theorem exec_movRRm (r : Reg) (m : RM) : exec (.movRRm r m) s = execMovRRm r m s := (rfl)
@[simp] theorem exec_movR8Imm8 (r : Reg8) (imm : BitVec 8) : exec (.movR8Imm8 r imm) s = execMovR8Imm8 r imm s := (rfl)
@[simp] theorem exec_movRImm (r : Reg) (imm : BitVec 32) : exec (.movRImm r imm) s = execMovRImm r imm s := (rfl)
@[simp] theorem exec_movRm8Imm8 (d : RM8) (imm : BitVec 8) :
    exec (.movRm8Imm8 d imm) s = execMovRm8Imm8 d imm s := (rfl)
@[simp] theorem exec_movRmImm (d : RM) (imm : BitVec 32) : exec (.movRmImm d imm) s = execMovRmImm d imm s := (rfl)
@[simp] theorem exec_movAlMoffs (off : BitVec 32) : exec (.movAlMoffs off) s = execMovAlMoffs off s := (rfl)
@[simp] theorem exec_movEaxMoffs (off : BitVec 32) : exec (.movEaxMoffs off) s = execMovEaxMoffs off s := (rfl)
@[simp] theorem exec_movMoffsAl (off : BitVec 32) : exec (.movMoffsAl off) s = execMovMoffsAl off s := (rfl)
@[simp] theorem exec_movMoffsEax (off : BitVec 32) : exec (.movMoffsEax off) s = execMovMoffsEax off s := (rfl)
@[simp] theorem exec_movRmSreg (d : RM) (sr : SReg) : exec (.movRmSreg d sr) s = execMovRmSreg d sr s := (rfl)
@[simp] theorem exec_movSregRm (sr : SReg) (m : RM) : exec (.movSregRm sr m) s = execMovSregRm sr m s := (rfl)
@[simp] theorem exec_movsxRRm8 (r : Reg) (m : RM8) : exec (.movsxRRm8 r m) s = execMovsxRRm8 r m s := (rfl)
@[simp] theorem exec_movsxRRm16 (r : Reg) (m : RM) : exec (.movsxRRm16 r m) s = execMovsxRRm16 r m s := (rfl)
@[simp] theorem exec_movzxRRm8 (r : Reg) (m : RM8) : exec (.movzxRRm8 r m) s = execMovzxRRm8 r m s := (rfl)
@[simp] theorem exec_movzxRRm16 (r : Reg) (m : RM) : exec (.movzxRRm16 r m) s = execMovzxRRm16 r m s := (rfl)
@[simp] theorem exec_xchgEaxR (r : Reg) : exec (.xchgEaxR r) s = execXchgEaxR r s := (rfl)
@[simp] theorem exec_xchgRm8R8 (d : RM8) (r : Reg8) : exec (.xchgRm8R8 d r) s = execXchgRm8R8 d r s := (rfl)
@[simp] theorem exec_xchgRmR (d : RM) (r : Reg) : exec (.xchgRmR d r) s = execXchgRmR d r s := (rfl)
@[simp] theorem exec_leaRM (r : Reg) (m : MemOp) : exec (.leaRM r m) s = execLeaRM r m s := (rfl)
@[simp] theorem exec_xlat : exec .xlat s = execXlat s := (rfl)
@[simp] theorem exec_pushRm (d : RM) : exec (.pushRm d) s = execPushRm d s := (rfl)
@[simp] theorem exec_pushR (r : Reg) : exec (.pushR r) s = execPushR r s := (rfl)
@[simp] theorem exec_pushImm8 (imm : BitVec 8) : exec (.pushImm8 imm) s = execPushImm8 imm s := (rfl)
@[simp] theorem exec_pushImm (imm : BitVec 32) : exec (.pushImm imm) s = execPushImm imm s := (rfl)
@[simp] theorem exec_pushEs : exec .pushEs s = execPushEs s := (rfl)
@[simp] theorem exec_pushCs : exec .pushCs s = execPushCs s := (rfl)
@[simp] theorem exec_pushSs : exec .pushSs s = execPushSs s := (rfl)
@[simp] theorem exec_pushDs : exec .pushDs s = execPushDs s := (rfl)
@[simp] theorem exec_pushFs : exec .pushFs s = execPushFs s := (rfl)
@[simp] theorem exec_pushGs : exec .pushGs s = execPushGs s := (rfl)
@[simp] theorem exec_popRm (d : RM) : exec (.popRm d) s = execPopRm d s := (rfl)
@[simp] theorem exec_popR (r : Reg) : exec (.popR r) s = execPopR r s := (rfl)
@[simp] theorem exec_popEs : exec .popEs s = execPopEs s := (rfl)
@[simp] theorem exec_popSs : exec .popSs s = execPopSs s := (rfl)
@[simp] theorem exec_popDs : exec .popDs s = execPopDs s := (rfl)
@[simp] theorem exec_popFs : exec .popFs s = execPopFs s := (rfl)
@[simp] theorem exec_popGs : exec .popGs s = execPopGs s := (rfl)
@[simp] theorem exec_pusha : exec .pusha s = execPusha s := (rfl)
@[simp] theorem exec_popa : exec .popa s = execPopa s := (rfl)
@[simp] theorem exec_pushf : exec .pushf s = execPushf s := (rfl)
@[simp] theorem exec_popf : exec .popf s = execPopf s := (rfl)
@[simp] theorem exec_lahf : exec .lahf s = execLahf s := (rfl)
@[simp] theorem exec_sahf : exec .sahf s = execSahf s := (rfl)
@[simp] theorem exec_ldsRM (r : Reg) (m : MemOp) : exec (.ldsRM r m) s = execLdsRM r m s := (rfl)
@[simp] theorem exec_lesRM (r : Reg) (m : MemOp) : exec (.lesRM r m) s = execLesRM r m s := (rfl)
@[simp] theorem exec_lfsRM (r : Reg) (m : MemOp) : exec (.lfsRM r m) s = execLfsRM r m s := (rfl)
@[simp] theorem exec_lgsRM (r : Reg) (m : MemOp) : exec (.lgsRM r m) s = execLgsRM r m s := (rfl)
@[simp] theorem exec_lssRM (r : Reg) (m : MemOp) : exec (.lssRM r m) s = execLssRM r m s := (rfl)
@[simp] theorem exec_clc : exec .clc s = execClc s := (rfl)
@[simp] theorem exec_cld : exec .cld s = execCld s := (rfl)
@[simp] theorem exec_cmc : exec .cmc s = execCmc s := (rfl)
@[simp] theorem exec_stc : exec .stc s = execStc s := (rfl)
@[simp] theorem exec_std : exec .std s = execStd s := (rfl)
@[simp] theorem exec_movsb : exec .movsb s = execMovsb s := (rfl)
@[simp] theorem exec_movswMovsd : exec .movswMovsd s = execMovswMovsd s := (rfl)
@[simp] theorem exec_cmpsb : exec .cmpsb s = execCmpsb s := (rfl)
@[simp] theorem exec_cmpswCmpsd : exec .cmpswCmpsd s = execCmpswCmpsd s := (rfl)
@[simp] theorem exec_stosb : exec .stosb s = execStosb s := (rfl)
@[simp] theorem exec_stoswStosd : exec .stoswStosd s = execStoswStosd s := (rfl)
@[simp] theorem exec_lodsb : exec .lodsb s = execLodsb s := (rfl)
@[simp] theorem exec_lodswLodsd : exec .lodswLodsd s = execLodswLodsd s := (rfl)
@[simp] theorem exec_scasb : exec .scasb s = execScasb s := (rfl)
@[simp] theorem exec_scaswScasd : exec .scaswScasd s = execScaswScasd s := (rfl)
@[simp] theorem exec_insb : exec .insb s = execInsb s := (rfl)
@[simp] theorem exec_inswInsd : exec .inswInsd s = execInswInsd s := (rfl)
@[simp] theorem exec_outsb : exec .outsb s = execOutsb s := (rfl)
@[simp] theorem exec_outswOutsd : exec .outswOutsd s = execOutswOutsd s := (rfl)
@[simp] theorem exec_inAlImm8 (imm : BitVec 8) : exec (.inAlImm8 imm) s = execInAlImm8 imm s := (rfl)
@[simp] theorem exec_inEaxImm8 (imm : BitVec 8) : exec (.inEaxImm8 imm) s = execInEaxImm8 imm s := (rfl)
@[simp] theorem exec_inAlDx : exec .inAlDx s = execInAlDx s := (rfl)
@[simp] theorem exec_inEaxDx : exec .inEaxDx s = execInEaxDx s := (rfl)
@[simp] theorem exec_outImm8Al (imm : BitVec 8) : exec (.outImm8Al imm) s = execOutImm8Al imm s := (rfl)
@[simp] theorem exec_outImm8Eax (imm : BitVec 8) : exec (.outImm8Eax imm) s = execOutImm8Eax imm s := (rfl)
@[simp] theorem exec_outDxAl : exec .outDxAl s = execOutDxAl s := (rfl)
@[simp] theorem exec_outDxEax : exec .outDxEax s = execOutDxEax s := (rfl)
@[simp] theorem exec_rep : exec .rep s = execRep s := (rfl)
@[simp] theorem exec_repne : exec .repne s = execRepne s := (rfl)
@[simp] theorem exec_jmpRel8 (imm : BitVec 8) : exec (.jmpRel8 imm) s = execJmpRel8 imm s := (rfl)
@[simp] theorem exec_jmpRel (imm : BitVec 32) : exec (.jmpRel imm) s = execJmpRel imm s := (rfl)
@[simp] theorem exec_jmpRm (d : RM) : exec (.jmpRm d) s = execJmpRm d s := (rfl)
@[simp] theorem exec_jmpPtr (sel : BitVec 16) (off : BitVec 32) :
    exec (.jmpPtr sel off) s = execJmpPtr sel off s := (rfl)
@[simp] theorem exec_jmpMFar (m : MemOp) : exec (.jmpMFar m) s = execJmpMFar m s := (rfl)
@[simp] theorem exec_joRel8 (imm : BitVec 8) : exec (.joRel8 imm) s = execJoRel8 imm s := (rfl)
@[simp] theorem exec_joRel (imm : BitVec 32) : exec (.joRel imm) s = execJoRel imm s := (rfl)
@[simp] theorem exec_jnoRel8 (imm : BitVec 8) : exec (.jnoRel8 imm) s = execJnoRel8 imm s := (rfl)
@[simp] theorem exec_jnoRel (imm : BitVec 32) : exec (.jnoRel imm) s = execJnoRel imm s := (rfl)
@[simp] theorem exec_jbRel8 (imm : BitVec 8) : exec (.jbRel8 imm) s = execJbRel8 imm s := (rfl)
@[simp] theorem exec_jbRel (imm : BitVec 32) : exec (.jbRel imm) s = execJbRel imm s := (rfl)
@[simp] theorem exec_jaeRel8 (imm : BitVec 8) : exec (.jaeRel8 imm) s = execJaeRel8 imm s := (rfl)
@[simp] theorem exec_jaeRel (imm : BitVec 32) : exec (.jaeRel imm) s = execJaeRel imm s := (rfl)
@[simp] theorem exec_jeRel8 (imm : BitVec 8) : exec (.jeRel8 imm) s = execJeRel8 imm s := (rfl)
@[simp] theorem exec_jeRel (imm : BitVec 32) : exec (.jeRel imm) s = execJeRel imm s := (rfl)
@[simp] theorem exec_jneRel8 (imm : BitVec 8) : exec (.jneRel8 imm) s = execJneRel8 imm s := (rfl)
@[simp] theorem exec_jneRel (imm : BitVec 32) : exec (.jneRel imm) s = execJneRel imm s := (rfl)
@[simp] theorem exec_jbeRel8 (imm : BitVec 8) : exec (.jbeRel8 imm) s = execJbeRel8 imm s := (rfl)
@[simp] theorem exec_jbeRel (imm : BitVec 32) : exec (.jbeRel imm) s = execJbeRel imm s := (rfl)
@[simp] theorem exec_jaRel8 (imm : BitVec 8) : exec (.jaRel8 imm) s = execJaRel8 imm s := (rfl)
@[simp] theorem exec_jaRel (imm : BitVec 32) : exec (.jaRel imm) s = execJaRel imm s := (rfl)
@[simp] theorem exec_jsRel8 (imm : BitVec 8) : exec (.jsRel8 imm) s = execJsRel8 imm s := (rfl)
@[simp] theorem exec_jsRel (imm : BitVec 32) : exec (.jsRel imm) s = execJsRel imm s := (rfl)
@[simp] theorem exec_jnsRel8 (imm : BitVec 8) : exec (.jnsRel8 imm) s = execJnsRel8 imm s := (rfl)
@[simp] theorem exec_jnsRel (imm : BitVec 32) : exec (.jnsRel imm) s = execJnsRel imm s := (rfl)
@[simp] theorem exec_jpRel8 (imm : BitVec 8) : exec (.jpRel8 imm) s = execJpRel8 imm s := (rfl)
@[simp] theorem exec_jpRel (imm : BitVec 32) : exec (.jpRel imm) s = execJpRel imm s := (rfl)
@[simp] theorem exec_jnpRel8 (imm : BitVec 8) : exec (.jnpRel8 imm) s = execJnpRel8 imm s := (rfl)
@[simp] theorem exec_jnpRel (imm : BitVec 32) : exec (.jnpRel imm) s = execJnpRel imm s := (rfl)
@[simp] theorem exec_jlRel8 (imm : BitVec 8) : exec (.jlRel8 imm) s = execJlRel8 imm s := (rfl)
@[simp] theorem exec_jlRel (imm : BitVec 32) : exec (.jlRel imm) s = execJlRel imm s := (rfl)
@[simp] theorem exec_jgeRel8 (imm : BitVec 8) : exec (.jgeRel8 imm) s = execJgeRel8 imm s := (rfl)
@[simp] theorem exec_jgeRel (imm : BitVec 32) : exec (.jgeRel imm) s = execJgeRel imm s := (rfl)
@[simp] theorem exec_jleRel8 (imm : BitVec 8) : exec (.jleRel8 imm) s = execJleRel8 imm s := (rfl)
@[simp] theorem exec_jleRel (imm : BitVec 32) : exec (.jleRel imm) s = execJleRel imm s := (rfl)
@[simp] theorem exec_jgRel8 (imm : BitVec 8) : exec (.jgRel8 imm) s = execJgRel8 imm s := (rfl)
@[simp] theorem exec_jgRel (imm : BitVec 32) : exec (.jgRel imm) s = execJgRel imm s := (rfl)
@[simp] theorem exec_jcxzRel8 (imm : BitVec 8) : exec (.jcxzRel8 imm) s = execJcxzRel8 imm s := (rfl)
@[simp] theorem exec_loopRel8 (imm : BitVec 8) : exec (.loopRel8 imm) s = execLoopRel8 imm s := (rfl)
@[simp] theorem exec_loopeRel8 (imm : BitVec 8) : exec (.loopeRel8 imm) s = execLoopeRel8 imm s := (rfl)
@[simp] theorem exec_loopneRel8 (imm : BitVec 8) : exec (.loopneRel8 imm) s = execLoopneRel8 imm s := (rfl)
@[simp] theorem exec_callRel (imm : BitVec 32) : exec (.callRel imm) s = execCallRel imm s := (rfl)
@[simp] theorem exec_callRm (d : RM) : exec (.callRm d) s = execCallRm d s := (rfl)
@[simp] theorem exec_callPtr (sel : BitVec 16) (off : BitVec 32) :
    exec (.callPtr sel off) s = execCallPtr sel off s := (rfl)
@[simp] theorem exec_callMFar (m : MemOp) : exec (.callMFar m) s = execCallMFar m s := (rfl)
@[simp] theorem exec_retNear : exec .retNear s = execRetNear s := (rfl)
@[simp] theorem exec_retNearImm16 (imm : BitVec 16) : exec (.retNearImm16 imm) s = execRetNearImm16 imm s := (rfl)
@[simp] theorem exec_retFar : exec .retFar s = execRetFar s := (rfl)
@[simp] theorem exec_retFarImm16 (imm : BitVec 16) : exec (.retFarImm16 imm) s = execRetFarImm16 imm s := (rfl)
@[simp] theorem exec_intImm8 (imm : BitVec 8) : exec (.intImm8 imm) s = execIntImm8 imm s := (rfl)
@[simp] theorem exec_int3 : exec .int3 s = execInt3 s := (rfl)
@[simp] theorem exec_into : exec .into s = execInto s := (rfl)
@[simp] theorem exec_int1 : exec .int1 s = execInt1 s := (rfl)
@[simp] theorem exec_iret : exec .iret s = execIret s := (rfl)
@[simp] theorem exec_enter (size : BitVec 16) (level : BitVec 8) :
    exec (.enter size level) s = execEnter size level s := (rfl)
@[simp] theorem exec_leave : exec .leave s = execLeave s := (rfl)
@[simp] theorem exec_boundRM (r : Reg) (m : MemOp) : exec (.boundRM r m) s = execBoundRM r m s := (rfl)
@[simp] theorem exec_hlt : exec .hlt s = execHlt s := (rfl)
@[simp] theorem exec_lock : exec .lock s = execLock s := (rfl)
@[simp] theorem exec_wait : exec .wait s = execWait s := (rfl)
@[simp] theorem exec_nop : exec .nop s = execNop s := (rfl)
@[simp] theorem exec_sldtRm16 (d : RM) : exec (.sldtRm16 d) s = execSldtRm16 d s := (rfl)
@[simp] theorem exec_strRm16 (d : RM) : exec (.strRm16 d) s = execStrRm16 d s := (rfl)
@[simp] theorem exec_lldtRm16 (d : RM) : exec (.lldtRm16 d) s = execLldtRm16 d s := (rfl)
@[simp] theorem exec_ltrRm16 (d : RM) : exec (.ltrRm16 d) s = execLtrRm16 d s := (rfl)
@[simp] theorem exec_verrRm16 (d : RM) : exec (.verrRm16 d) s = execVerrRm16 d s := (rfl)
@[simp] theorem exec_verwRm16 (d : RM) : exec (.verwRm16 d) s = execVerwRm16 d s := (rfl)
@[simp] theorem exec_sgdtM (m : MemOp) : exec (.sgdtM m) s = execSgdtM m s := (rfl)
@[simp] theorem exec_sidtM (m : MemOp) : exec (.sidtM m) s = execSidtM m s := (rfl)
@[simp] theorem exec_lgdtM (m : MemOp) : exec (.lgdtM m) s = execLgdtM m s := (rfl)
@[simp] theorem exec_lidtM (m : MemOp) : exec (.lidtM m) s = execLidtM m s := (rfl)
@[simp] theorem exec_smswRm16 (d : RM) : exec (.smswRm16 d) s = execSmswRm16 d s := (rfl)
@[simp] theorem exec_lmswRm16 (d : RM) : exec (.lmswRm16 d) s = execLmswRm16 d s := (rfl)
@[simp] theorem exec_larRRm16 (r : Reg) (m : RM) : exec (.larRRm16 r m) s = execLarRRm16 r m s := (rfl)
@[simp] theorem exec_lslRRm16 (r : Reg) (m : RM) : exec (.lslRRm16 r m) s = execLslRRm16 r m s := (rfl)
@[simp] theorem exec_clts : exec .clts s = execClts s := (rfl)
@[simp] theorem exec_movRCr (r : Reg) (c : CReg) : exec (.movRCr r c) s = execMovRCr r c s := (rfl)
@[simp] theorem exec_movCrR (c : CReg) (r : Reg) : exec (.movCrR c r) s = execMovCrR c r s := (rfl)
@[simp] theorem exec_movRDr (r : Reg) (n : BitVec 3) : exec (.movRDr r n) s = execMovRDr r n s := (rfl)
@[simp] theorem exec_movDrR (n : BitVec 3) (r : Reg) : exec (.movDrR n r) s = execMovDrR n r s := (rfl)
@[simp] theorem exec_arplRm16R16 (d : RM) (r : Reg) : exec (.arplRm16R16 d r) s = execArplRm16R16 d r s := (rfl)
@[simp] theorem exec_cli : exec .cli s = execCli s := (rfl)
@[simp] theorem exec_sti : exec .sti s = execSti s := (rfl)
@[simp] theorem exec_fldM32 (m : MemOp) : exec (.fldM32 m) s = execFldM32 m s := (rfl)
@[simp] theorem exec_fldM64 (m : MemOp) : exec (.fldM64 m) s = execFldM64 m s := (rfl)
@[simp] theorem exec_fldM80 (m : MemOp) : exec (.fldM80 m) s = execFldM80 m s := (rfl)
@[simp] theorem exec_fldSt (imm : BitVec 3) : exec (.fldSt imm) s = execFldSt imm s := (rfl)
@[simp] theorem exec_fld1 : exec .fld1 s = execFld1 s := (rfl)
@[simp] theorem exec_fldl2t : exec .fldl2t s = execFldl2t s := (rfl)
@[simp] theorem exec_fldl2e : exec .fldl2e s = execFldl2e s := (rfl)
@[simp] theorem exec_fldpi : exec .fldpi s = execFldpi s := (rfl)
@[simp] theorem exec_fldlg2 : exec .fldlg2 s = execFldlg2 s := (rfl)
@[simp] theorem exec_fldln2 : exec .fldln2 s = execFldln2 s := (rfl)
@[simp] theorem exec_fldz : exec .fldz s = execFldz s := (rfl)
@[simp] theorem exec_fstM32 (m : MemOp) : exec (.fstM32 m) s = execFstM32 m s := (rfl)
@[simp] theorem exec_fstM64 (m : MemOp) : exec (.fstM64 m) s = execFstM64 m s := (rfl)
@[simp] theorem exec_fstSt (imm : BitVec 3) : exec (.fstSt imm) s = execFstSt imm s := (rfl)
@[simp] theorem exec_fstpM32 (m : MemOp) : exec (.fstpM32 m) s = execFstpM32 m s := (rfl)
@[simp] theorem exec_fstpM64 (m : MemOp) : exec (.fstpM64 m) s = execFstpM64 m s := (rfl)
@[simp] theorem exec_fstpM80 (m : MemOp) : exec (.fstpM80 m) s = execFstpM80 m s := (rfl)
@[simp] theorem exec_fstpSt (imm : BitVec 3) : exec (.fstpSt imm) s = execFstpSt imm s := (rfl)
@[simp] theorem exec_fildM16 (m : MemOp) : exec (.fildM16 m) s = execFildM16 m s := (rfl)
@[simp] theorem exec_fildM32 (m : MemOp) : exec (.fildM32 m) s = execFildM32 m s := (rfl)
@[simp] theorem exec_fildM64 (m : MemOp) : exec (.fildM64 m) s = execFildM64 m s := (rfl)
@[simp] theorem exec_fistM16 (m : MemOp) : exec (.fistM16 m) s = execFistM16 m s := (rfl)
@[simp] theorem exec_fistM32 (m : MemOp) : exec (.fistM32 m) s = execFistM32 m s := (rfl)
@[simp] theorem exec_fistpM16 (m : MemOp) : exec (.fistpM16 m) s = execFistpM16 m s := (rfl)
@[simp] theorem exec_fistpM32 (m : MemOp) : exec (.fistpM32 m) s = execFistpM32 m s := (rfl)
@[simp] theorem exec_fistpM64 (m : MemOp) : exec (.fistpM64 m) s = execFistpM64 m s := (rfl)
@[simp] theorem exec_fbldM80 (m : MemOp) : exec (.fbldM80 m) s = execFbldM80 m s := (rfl)
@[simp] theorem exec_fbstpM80 (m : MemOp) : exec (.fbstpM80 m) s = execFbstpM80 m s := (rfl)
@[simp] theorem exec_fxchSt (imm : BitVec 3) : exec (.fxchSt imm) s = execFxchSt imm s := (rfl)
@[simp] theorem exec_faddM32 (m : MemOp) : exec (.faddM32 m) s = execFaddM32 m s := (rfl)
@[simp] theorem exec_faddM64 (m : MemOp) : exec (.faddM64 m) s = execFaddM64 m s := (rfl)
@[simp] theorem exec_faddSt0Sti (imm : BitVec 3) : exec (.faddSt0Sti imm) s = execFaddSt0Sti imm s := (rfl)
@[simp] theorem exec_faddStiSt0 (imm : BitVec 3) : exec (.faddStiSt0 imm) s = execFaddStiSt0 imm s := (rfl)
@[simp] theorem exec_faddpStiSt0 (imm : BitVec 3) : exec (.faddpStiSt0 imm) s = execFaddpStiSt0 imm s := (rfl)
@[simp] theorem exec_fiaddM32 (m : MemOp) : exec (.fiaddM32 m) s = execFiaddM32 m s := (rfl)
@[simp] theorem exec_fiaddM16 (m : MemOp) : exec (.fiaddM16 m) s = execFiaddM16 m s := (rfl)
@[simp] theorem exec_fmulM32 (m : MemOp) : exec (.fmulM32 m) s = execFmulM32 m s := (rfl)
@[simp] theorem exec_fmulM64 (m : MemOp) : exec (.fmulM64 m) s = execFmulM64 m s := (rfl)
@[simp] theorem exec_fmulSt0Sti (imm : BitVec 3) : exec (.fmulSt0Sti imm) s = execFmulSt0Sti imm s := (rfl)
@[simp] theorem exec_fmulStiSt0 (imm : BitVec 3) : exec (.fmulStiSt0 imm) s = execFmulStiSt0 imm s := (rfl)
@[simp] theorem exec_fmulpStiSt0 (imm : BitVec 3) : exec (.fmulpStiSt0 imm) s = execFmulpStiSt0 imm s := (rfl)
@[simp] theorem exec_fimulM32 (m : MemOp) : exec (.fimulM32 m) s = execFimulM32 m s := (rfl)
@[simp] theorem exec_fimulM16 (m : MemOp) : exec (.fimulM16 m) s = execFimulM16 m s := (rfl)
@[simp] theorem exec_fsubM32 (m : MemOp) : exec (.fsubM32 m) s = execFsubM32 m s := (rfl)
@[simp] theorem exec_fsubM64 (m : MemOp) : exec (.fsubM64 m) s = execFsubM64 m s := (rfl)
@[simp] theorem exec_fsubSt0Sti (imm : BitVec 3) : exec (.fsubSt0Sti imm) s = execFsubSt0Sti imm s := (rfl)
@[simp] theorem exec_fsubStiSt0 (imm : BitVec 3) : exec (.fsubStiSt0 imm) s = execFsubStiSt0 imm s := (rfl)
@[simp] theorem exec_fsubpStiSt0 (imm : BitVec 3) : exec (.fsubpStiSt0 imm) s = execFsubpStiSt0 imm s := (rfl)
@[simp] theorem exec_fisubM32 (m : MemOp) : exec (.fisubM32 m) s = execFisubM32 m s := (rfl)
@[simp] theorem exec_fisubM16 (m : MemOp) : exec (.fisubM16 m) s = execFisubM16 m s := (rfl)
@[simp] theorem exec_fsubrM32 (m : MemOp) : exec (.fsubrM32 m) s = execFsubrM32 m s := (rfl)
@[simp] theorem exec_fsubrM64 (m : MemOp) : exec (.fsubrM64 m) s = execFsubrM64 m s := (rfl)
@[simp] theorem exec_fsubrSt0Sti (imm : BitVec 3) : exec (.fsubrSt0Sti imm) s = execFsubrSt0Sti imm s := (rfl)
@[simp] theorem exec_fsubrStiSt0 (imm : BitVec 3) : exec (.fsubrStiSt0 imm) s = execFsubrStiSt0 imm s := (rfl)
@[simp] theorem exec_fsubrpStiSt0 (imm : BitVec 3) : exec (.fsubrpStiSt0 imm) s = execFsubrpStiSt0 imm s := (rfl)
@[simp] theorem exec_fisubrM32 (m : MemOp) : exec (.fisubrM32 m) s = execFisubrM32 m s := (rfl)
@[simp] theorem exec_fisubrM16 (m : MemOp) : exec (.fisubrM16 m) s = execFisubrM16 m s := (rfl)
@[simp] theorem exec_fdivM32 (m : MemOp) : exec (.fdivM32 m) s = execFdivM32 m s := (rfl)
@[simp] theorem exec_fdivM64 (m : MemOp) : exec (.fdivM64 m) s = execFdivM64 m s := (rfl)
@[simp] theorem exec_fdivSt0Sti (imm : BitVec 3) : exec (.fdivSt0Sti imm) s = execFdivSt0Sti imm s := (rfl)
@[simp] theorem exec_fdivStiSt0 (imm : BitVec 3) : exec (.fdivStiSt0 imm) s = execFdivStiSt0 imm s := (rfl)
@[simp] theorem exec_fdivpStiSt0 (imm : BitVec 3) : exec (.fdivpStiSt0 imm) s = execFdivpStiSt0 imm s := (rfl)
@[simp] theorem exec_fidivM32 (m : MemOp) : exec (.fidivM32 m) s = execFidivM32 m s := (rfl)
@[simp] theorem exec_fidivM16 (m : MemOp) : exec (.fidivM16 m) s = execFidivM16 m s := (rfl)
@[simp] theorem exec_fdivrM32 (m : MemOp) : exec (.fdivrM32 m) s = execFdivrM32 m s := (rfl)
@[simp] theorem exec_fdivrM64 (m : MemOp) : exec (.fdivrM64 m) s = execFdivrM64 m s := (rfl)
@[simp] theorem exec_fdivrSt0Sti (imm : BitVec 3) : exec (.fdivrSt0Sti imm) s = execFdivrSt0Sti imm s := (rfl)
@[simp] theorem exec_fdivrStiSt0 (imm : BitVec 3) : exec (.fdivrStiSt0 imm) s = execFdivrStiSt0 imm s := (rfl)
@[simp] theorem exec_fdivrpStiSt0 (imm : BitVec 3) : exec (.fdivrpStiSt0 imm) s = execFdivrpStiSt0 imm s := (rfl)
@[simp] theorem exec_fidivrM32 (m : MemOp) : exec (.fidivrM32 m) s = execFidivrM32 m s := (rfl)
@[simp] theorem exec_fidivrM16 (m : MemOp) : exec (.fidivrM16 m) s = execFidivrM16 m s := (rfl)
@[simp] theorem exec_fsqrt : exec .fsqrt s = execFsqrt s := (rfl)
@[simp] theorem exec_fscale : exec .fscale s = execFscale s := (rfl)
@[simp] theorem exec_fprem : exec .fprem s = execFprem s := (rfl)
@[simp] theorem exec_fprem1 : exec .fprem1 s = execFprem1 s := (rfl)
@[simp] theorem exec_frndint : exec .frndint s = execFrndint s := (rfl)
@[simp] theorem exec_fxtract : exec .fxtract s = execFxtract s := (rfl)
@[simp] theorem exec_fabs : exec .fabs s = execFabs s := (rfl)
@[simp] theorem exec_fchs : exec .fchs s = execFchs s := (rfl)
@[simp] theorem exec_fcomM32 (m : MemOp) : exec (.fcomM32 m) s = execFcomM32 m s := (rfl)
@[simp] theorem exec_fcomM64 (m : MemOp) : exec (.fcomM64 m) s = execFcomM64 m s := (rfl)
@[simp] theorem exec_fcomSt (imm : BitVec 3) : exec (.fcomSt imm) s = execFcomSt imm s := (rfl)
@[simp] theorem exec_fcompM32 (m : MemOp) : exec (.fcompM32 m) s = execFcompM32 m s := (rfl)
@[simp] theorem exec_fcompM64 (m : MemOp) : exec (.fcompM64 m) s = execFcompM64 m s := (rfl)
@[simp] theorem exec_fcompSt (imm : BitVec 3) : exec (.fcompSt imm) s = execFcompSt imm s := (rfl)
@[simp] theorem exec_fcompp : exec .fcompp s = execFcompp s := (rfl)
@[simp] theorem exec_ficomM16 (m : MemOp) : exec (.ficomM16 m) s = execFicomM16 m s := (rfl)
@[simp] theorem exec_ficomM32 (m : MemOp) : exec (.ficomM32 m) s = execFicomM32 m s := (rfl)
@[simp] theorem exec_ficompM16 (m : MemOp) : exec (.ficompM16 m) s = execFicompM16 m s := (rfl)
@[simp] theorem exec_ficompM32 (m : MemOp) : exec (.ficompM32 m) s = execFicompM32 m s := (rfl)
@[simp] theorem exec_ftst : exec .ftst s = execFtst s := (rfl)
@[simp] theorem exec_fucomSt (imm : BitVec 3) : exec (.fucomSt imm) s = execFucomSt imm s := (rfl)
@[simp] theorem exec_fucompSt (imm : BitVec 3) : exec (.fucompSt imm) s = execFucompSt imm s := (rfl)
@[simp] theorem exec_fucompp : exec .fucompp s = execFucompp s := (rfl)
@[simp] theorem exec_fxam : exec .fxam s = execFxam s := (rfl)
@[simp] theorem exec_f2xm1 : exec .f2xm1 s = execF2xm1 s := (rfl)
@[simp] theorem exec_fyl2x : exec .fyl2x s = execFyl2x s := (rfl)
@[simp] theorem exec_fyl2xp1 : exec .fyl2xp1 s = execFyl2xp1 s := (rfl)
@[simp] theorem exec_fptan : exec .fptan s = execFptan s := (rfl)
@[simp] theorem exec_fpatan : exec .fpatan s = execFpatan s := (rfl)
@[simp] theorem exec_fsin : exec .fsin s = execFsin s := (rfl)
@[simp] theorem exec_fcos : exec .fcos s = execFcos s := (rfl)
@[simp] theorem exec_fsincos : exec .fsincos s = execFsincos s := (rfl)
@[simp] theorem exec_fninit : exec .fninit s = execFninit s := (rfl)
@[simp] theorem exec_fnclex : exec .fnclex s = execFnclex s := (rfl)
@[simp] theorem exec_fldcwM16 (m : MemOp) : exec (.fldcwM16 m) s = execFldcwM16 m s := (rfl)
@[simp] theorem exec_fnstcwM16 (m : MemOp) : exec (.fnstcwM16 m) s = execFnstcwM16 m s := (rfl)
@[simp] theorem exec_fnstswM16 (m : MemOp) : exec (.fnstswM16 m) s = execFnstswM16 m s := (rfl)
@[simp] theorem exec_fnstswAx : exec .fnstswAx s = execFnstswAx s := (rfl)
@[simp] theorem exec_fldenvEnv (m : MemOp) : exec (.fldenvEnv m) s = execFldenvEnv m s := (rfl)
@[simp] theorem exec_fnstenvEnv (m : MemOp) : exec (.fnstenvEnv m) s = execFnstenvEnv m s := (rfl)
@[simp] theorem exec_fnsaveFull (m : MemOp) : exec (.fnsaveFull m) s = execFnsaveFull m s := (rfl)
@[simp] theorem exec_frstorFull (m : MemOp) : exec (.frstorFull m) s = execFrstorFull m s := (rfl)
@[simp] theorem exec_fincstp : exec .fincstp s = execFincstp s := (rfl)
@[simp] theorem exec_fdecstp : exec .fdecstp s = execFdecstp s := (rfl)
@[simp] theorem exec_ffreeSt (imm : BitVec 3) : exec (.ffreeSt imm) s = execFfreeSt imm s := (rfl)
@[simp] theorem exec_fnop : exec .fnop s = execFnop s := (rfl)
@[simp] theorem exec_feni : exec .feni s = execFeni s := (rfl)
@[simp] theorem exec_fdisi : exec .fdisi s = execFdisi s := (rfl)
@[simp] theorem exec_fsetpm : exec .fsetpm s = execFsetpm s := (rfl)
@[simp] theorem exec_repe : exec .repe s = execRepe s := (rfl)
@[simp] theorem exec_segEs : exec .segEs s = execSegEs s := (rfl)
@[simp] theorem exec_segCs : exec .segCs s = execSegCs s := (rfl)
@[simp] theorem exec_segSs : exec .segSs s = execSegSs s := (rfl)
@[simp] theorem exec_segDs : exec .segDs s = execSegDs s := (rfl)
@[simp] theorem exec_segFs : exec .segFs s = execSegFs s := (rfl)
@[simp] theorem exec_segGs : exec .segGs s = execSegGs s := (rfl)
@[simp] theorem exec_opsize : exec .opsize s = execOpsize s := (rfl)
@[simp] theorem exec_adsize : exec .adsize s = execAdsize s := (rfl)

end Sys2Proof.Machine
end

