-- ==== Sys2Proof/Laws/Fpu.lean ====
section
/-!
SUPPORT. How the coprocessor's shared operations run: the entry of an escape instruction, the register stack, the
exceptions, and what a delivery can do.
-/

namespace Sys2Proof.Machine

open Claims

variable {s : State}

/-! ### Plain steps -/

@[simp] theorem run_getFpu (s : State) : getFpu s = .ok s.fpu s := rfl
@[simp] theorem run_updFpu (f : Fpu → Fpu) (s : State) : updFpu f s = .ok () { s with fpu := f s.fpu } := rfl
@[simp] theorem run_updFsw (f : Fsw → Fsw) (s : State) :
    updFsw f s = .ok () { s with fpu := { s.fpu with fsw := f s.fpu.fsw } } := rfl
@[simp] theorem run_setSt (i : BitVec 3) (v : Ext) (s : State) :
    setSt i v s = .ok () { s with fpu := s.fpu.setSt i v } := rfl
@[simp] theorem run_fpuPop (s : State) : fpuPop s = .ok () { s with fpu := poppedOff s.fpu } := rfl
@[simp] theorem run_popIf (c : Bool) (s : State) :
    popIf c s = .ok () { s with fpu := if c then poppedOff s.fpu else s.fpu } := by
  cases c <;> rfl
@[simp] theorem run_roundingControl (s : State) : roundingControl s = .ok (rcOf s.fpu.fcw) s := rfl
@[simp] theorem run_setC1 (c : Bool) (s : State) :
    setC1 c s = .ok () { s with fpu := { s.fpu with fsw := { s.fpu.fsw with c1 := c } } } := rfl
@[simp] theorem run_masked (i : Nat) (s : State) : masked i s = .ok (s.fpu.fcw.getLsbD i) s := rfl
@[simp] theorem run_stOperand (i : BitVec 3) (s : State) :
    stOperand i s = .ok (if s.fpu.empty i then none else some (FVal.ofExt (s.fpu.st i))) s := rfl
@[simp] theorem run_stackFault (overflow : Bool) (s : State) :
    stackFault overflow s = .ok (s.fpu.fcw.getLsbD 0) { s with fpu := stackFlag s.fpu overflow } := rfl
@[simp] theorem run_invalid (s : State) :
    invalid s = .ok (s.fpu.fcw.getLsbD 0) { s with fpu := { s.fpu with fsw := { s.fpu.fsw with ie := true } } } := rfl
@[simp] theorem run_zeroDivide (s : State) :
    zeroDivide s = .ok (s.fpu.fcw.getLsbD 2) { s with fpu := zeroFlag s.fpu } := rfl
@[simp] theorem run_denormalIf (c : Bool) (s : State) :
    denormalIf c s = .ok () { s with fpu := raised s.fpu false c } := by
  cases c <;> simp [denormalIf, raised]
@[simp] theorem run_inexactIf (c up : Bool) (s : State) :
    inexactIf c up s =
      .ok () { s with fpu := if c then { s.fpu with fsw := { s.fpu.fsw with pe := true, c1 := up } } else s.fpu } := by
  cases c <;> rfl

/-- The three undefined condition codes are draws and C1 is cleared. -/
@[simp] theorem run_drawCodes (s : State) :
    drawCodes s = .ok () { s with
      fpu := coded s.fpu (Config.freeBit s.draws) false (Config.freeBit (s.draws + 1)) (Config.freeBit (s.draws + 2)),
      draws := s.draws + 3 } := rfl

/-- All four condition codes are draws. -/
@[simp] theorem run_drawAllCodes (s : State) :
    drawAllCodes s = .ok () { s with
      fpu := coded s.fpu (Config.freeBit s.draws) (Config.freeBit (s.draws + 3)) (Config.freeBit (s.draws + 1))
        (Config.freeBit (s.draws + 2)),
      draws := s.draws + 4 } := rfl

/-- A push moves TOP down and fills the new top. -/
theorem pushed_eq (f : Fpu) (v : Ext) : f.pushed v = stacked f v := by
  simp [Fpu.pushed, stacked, Fpu.setTop, Fpu.setSt, Fpu.phys]

/-- A push, or the stack overflow of one. -/
@[simp] theorem run_fpuPush (v : Ext) (s : State) :
    fpuPush v s = .ok () { s with fpu := pushOrFault s.fpu (s.fpu.empty 7) v } := by
  unfold fpuPush pushOrFault
  rw [bind_of_ok (run_getFpu s)]
  split
  · rw [run_updFpu, pushed_eq]
  · rw [bind_of_ok (run_stackFault _ _), run_onlyIf]
    split
    · rw [run_updFpu, pushed_eq]
    · rfl

/-- Stack underflow of an instruction with the destination ST(i). -/
@[simp] theorem run_underflowTo (i : BitVec 3) (s : State) :
    underflowTo i s = .ok (s.fpu.fcw.getLsbD 0) { s with fpu := underflowed s.fpu i false } := by
  unfold underflowTo underflowed
  rw [bind_of_ok (run_stackFault _ _), run_bind, run_onlyIf]
  cases s.fpu.fcw.getLsbD 0 <;> rfl

/-! ### The entry of an escape instruction (46_x87_a.md R601, R606, R614) -/

/-- The gate of an escape instruction passes. -/
theorem run_escapeGate (h : FpuPresent s) : escapeGate s = .ok () s := by
  obtain ⟨he, ht, hx⟩ := h
  unfold escapeGate
  rw [bind_of_ok (run_getS s), run_bind, run_check]
  simp [he, ht, hx]

/-- A no-wait instruction begins. -/
theorem run_noWait (h : FpuPresent s) (body : M Unit) : noWait body s = body s := bind_of_ok (run_escapeGate h) _

/-- A waiting instruction with nothing pending begins. -/
theorem run_waiting (h : FpuReady s) (body : M Unit) : waiting body s = body s := by
  unfold waiting
  rw [bind_of_ok (run_escapeGate h.1)]
  have hr : reportPending s = .ok () s := by
    unfold reportPending
    rw [bind_of_ok (run_getS s), run_onlyIf]
    simp [h.2]
  exact bind_of_ok hr _

/-- A numeric instruction without memory operand begins: pointer and opcode are recorded, the data pointer is a draw. -/
theorem run_numeric (h : FpuReady s) (body : M Unit) :
    numeric body s = body { s with
      fpu := tracked s (.far ((Config.freeWord s.draws).setWidth 16) (Config.freeWord (s.draws + 1))),
      draws := s.draws + 2 } := (run_waiting h _).trans rfl

/-- A numeric instruction with a memory operand begins. -/
theorem run_numericMem (h : FpuReady s) (m : MemOp) (body : M Unit) :
    numericMem m body s = body { s with
      fpu := tracked s (.far (s.segs.get (s.segFor m)).selector (ea s.regs m)) } := (run_waiting h _).trans rfl

/-! ### Operations that complete and change only the coprocessor -/

/-- The operation answers, and nothing but the coprocessor and the count of free values differs after it. -/
def FpuOnly {α : Type} (x : M α) : Prop := ∀ s, ∃ a t, x s = .ok a t ∧ OnlyFpu s t

variable {α β : Type}

theorem FpuOnly.bind {x : M α} {f : α → M β} (hx : FpuOnly x) (hf : ∀ a, FpuOnly (f a)) : FpuOnly (x >>= f) := by
  intro s
  obtain ⟨a, t, e, h⟩ := hx s
  obtain ⟨b, u, e', h'⟩ := hf a t
  refine ⟨b, u, (bind_of_ok e f).trans e', ?_⟩
  unfold OnlyFpu at *
  rw [h', h]

theorem FpuOnly.pure (a : α) : FpuOnly (pure a : M α) := fun s => ⟨a, s, rfl, rfl⟩
theorem FpuOnly.skip : FpuOnly skip := fun s => ⟨(), s, rfl, rfl⟩
theorem FpuOnly.getFpu : FpuOnly getFpu := fun s => ⟨s.fpu, s, rfl, rfl⟩
theorem FpuOnly.updFpu (f : Fpu → Fpu) : FpuOnly (updFpu f) := fun _ => ⟨_, _, rfl, rfl⟩
theorem FpuOnly.updFsw (f : Fsw → Fsw) : FpuOnly (updFsw f) := fun _ => ⟨_, _, rfl, rfl⟩
theorem FpuOnly.drawBit : FpuOnly drawBit := fun _ => ⟨_, _, rfl, rfl⟩
theorem FpuOnly.drawWord : FpuOnly drawWord := fun _ => ⟨_, _, rfl, rfl⟩
theorem FpuOnly.drawExt : FpuOnly drawExt := fun _ => ⟨_, _, rfl, rfl⟩
theorem FpuOnly.setSt (i : BitVec 3) (v : Ext) : FpuOnly (setSt i v) := .updFpu _
theorem FpuOnly.fpuPop : FpuOnly fpuPop := .updFpu _
theorem FpuOnly.setC1 (c : Bool) : FpuOnly (setC1 c) := .updFsw _
theorem FpuOnly.setC2 (c : Bool) : FpuOnly (setC2 c) := .updFsw _
theorem FpuOnly.setCodes (a b c : Bool) : FpuOnly (setCodes a b c) := .updFsw _
theorem FpuOnly.masked (i : Nat) : FpuOnly (masked i) := fun _ => ⟨_, _, rfl, rfl⟩
theorem FpuOnly.stOperand (i : BitVec 3) : FpuOnly (stOperand i) := fun _ => ⟨_, _, rfl, rfl⟩
theorem FpuOnly.roundingControl : FpuOnly roundingControl := fun _ => ⟨_, _, rfl, rfl⟩
theorem FpuOnly.stackFault (o : Bool) : FpuOnly (stackFault o) := fun _ => ⟨_, _, rfl, rfl⟩
theorem FpuOnly.invalid : FpuOnly invalid := fun _ => ⟨_, _, rfl, rfl⟩
theorem FpuOnly.zeroDivide : FpuOnly zeroDivide := fun _ => ⟨_, _, rfl, rfl⟩
theorem FpuOnly.drawCodes : FpuOnly drawCodes := fun _ => ⟨_, _, rfl, rfl⟩

theorem FpuOnly.onlyIf (c : Bool) {x : M Unit} (h : FpuOnly x) : FpuOnly (onlyIf c x) := by
  cases c
  · exact .skip
  · exact h

theorem FpuOnly.popIf (c : Bool) : FpuOnly (popIf c) := .onlyIf c .fpuPop
theorem FpuOnly.denormalIf (c : Bool) : FpuOnly (denormalIf c) := .onlyIf c (.updFsw _)
theorem FpuOnly.inexactIf (c up : Bool) : FpuOnly (inexactIf c up) := .onlyIf c (.updFsw _)

theorem FpuOnly.fpuPush (v : Ext) : FpuOnly (fpuPush v) := fun s => ⟨_, _, run_fpuPush v s, rfl⟩
theorem FpuOnly.underflowTo (i : BitVec 3) : FpuOnly (underflowTo i) := fun s => ⟨_, _, run_underflowTo i s, rfl⟩

theorem FpuOnly.precision : FpuOnly precision := by
  refine .bind .getFpu fun f => ?_
  split
  · exact .pure _
  · exact .bind .drawWord fun _ => .pure _
  · exact .pure _
  · exact .pure _

theorem FpuOnly.adjusted (neg : Bool) (m : Nat) (e : Int) : FpuOnly (adjusted neg m e) := by
  unfold Machine.adjusted
  split
  · exact .pure _
  · exact .drawExt

/-- A delivery of a rounded number always completes. -/
theorem FpuOnly.deliverRounded (i : BitVec 3) (f : Fmt) (neg : Bool) (r d : Rounded) :
    FpuOnly (deliverRounded i f neg r d) := by
  refine .bind .roundingControl fun rc => ?_
  split
  · refine .bind (.masked _) fun m => .bind (.updFsw _) fun _ => ?_
    split
    · exact .bind (.inexactIf _ _) fun _ => .setSt _ _
    · exact .bind (.inexactIf _ _) fun _ => .bind (.adjusted _ _ _) fun _ => .setSt _ _
  · split
    · refine .bind (.masked _) fun m => ?_
      split
      · exact .bind (.onlyIf _ (.updFsw _)) fun _ => .bind (.inexactIf _ _) fun _ => .setSt _ _
      · exact .bind (.updFsw _) fun _ => .bind (.inexactIf _ _) fun _ => .bind (.adjusted _ _ _) fun _ => .setSt _ _
    · exact .bind (.inexactIf _ _) fun _ => .setSt _ _

/-- A delivery of a number always completes. -/
theorem FpuOnly.deliverNum (i : BitVec 3) (p : Nat) (n : Machine.Num) : FpuOnly (deliverNum i p n) :=
  .bind .roundingControl fun _ => .deliverRounded _ _ _ _ _

/-- A delivery of any value always completes. -/
theorem FpuOnly.deliverCalc (i : BitVec 3) (p : Nat) (den : Bool) (c : Calc) : FpuOnly (deliverCalc i p den c) := by
  cases c with
  | nan x ia =>
    cases ia
    · exact .bind (.pure true) fun m => .bind (.onlyIf _ (.setSt _ _)) fun _ => .pure _
    · exact .bind .invalid fun m => .bind (.onlyIf _ (.setSt _ _)) fun _ => .pure _
  | ia => exact .bind .invalid fun m => .bind (.onlyIf _ (.setSt _ _)) fun _ => .pure _
  | zdiv neg =>
    exact .bind .zeroDivide fun m => .bind (.onlyIf _ (.bind (.denormalIf _) fun _ => .setSt _ _)) fun _ => .pure _
  | special x => exact .bind (.denormalIf _) fun _ => .bind (.setSt _ _) fun _ => .pure _
  | num n =>
    refine .bind (.denormalIf _) fun _ => ?_
    dsimp only
    split
    · exact .bind (.setSt _ _) fun _ => .pure _
    · exact .bind (.deliverNum _ _ _) fun _ => .pure _

theorem FpuOnly.deliver0 (p : Nat) (den : Bool) (c : Calc) : FpuOnly (deliver0 p den c) :=
  .bind (.deliverCalc _ _ _ _) fun _ => .skip

theorem FpuOnly.x87Given : FpuOnly x87Given := fun s => ⟨s.ins.x87, s, rfl, rfl⟩

/-- A delivery of a transcendental result always completes. -/
theorem FpuOnly.deliverApprox (i : BitVec 3) (a : Approx) : FpuOnly (deliverApprox i a) :=
  .bind .roundingControl fun _ => .deliverRounded _ _ _ _ _

theorem FpuOnly.undefinedResult (i : BitVec 3) : FpuOnly (undefinedResult i) :=
  .bind .drawExt fun _ => .bind (.setSt _ _) fun _ => .bind .drawBit fun _ => .bind .drawBit fun _ =>
    .bind .drawBit fun _ => .bind .drawBit fun _ => .bind .drawBit fun _ => .bind .drawBit fun _ =>
    .bind .drawBit fun _ => .bind .drawBit fun _ => .updFsw _

/-- A numeric instruction without memory operand whose body only works on the coprocessor completes. -/
theorem FpuOnly.exec {body : M Unit} (h : FpuReady s) (hb : FpuOnly body) :
    ∃ t, runInstr (numeric body) s = .next t ∧ OnlyFpu (past s) t := by
  obtain ⟨a, t, e, ht⟩ := hb { past s with
    fpu := tracked (past s) (.far ((Config.freeWord s.draws).setWidth 16) (Config.freeWord (s.draws + 1))),
    draws := s.draws + 2 }
  exact ⟨t, runInstr_of_ok ((run_numeric (s := past s) h body).trans e), ht⟩

end Sys2Proof.Machine
end

