-- ==== Sys2Proof/Laws/PerInstr.lean ====
section
/-!
SUPPORT. Per instruction: an encoding without prefixes has 1 to 11 bytes, so that with one prefix of each of the four
groups it stays within the 15 bytes of 30_encoding.md R161.
-/

namespace Sys2Proof.Laws.Length

/-- The instruction's encoding has 1 to 11 bytes, at every operand size and address size. -/
def Statement (i : Instr) : Prop := ∀ o a : Size, 1 ≤ (encode o a i).length ∧ (encode o a i).length ≤ 11

/-- A memory operand takes at most a ModRM byte, a SIB byte and four bytes of displacement. -/
theorem mem_le (g : Nat) (m : MemOp) : (encMem g m).length ≤ 6 := by
  match m with
  | .a16 b d => cases b <;> simp [encMem, enc16]
  | .a32 none i d => simp [encMem, enc32, enc16]
  | .a32 (some r) i d => simp [encMem, enc32, enc16]

theorem rm8_le (g : Nat) (d : RM8) : (encRm8 g d).length ≤ 6 := by
  cases d with
  | reg r => simp [encRm8]
  | mem m => exact mem_le g m

theorem rm_le (g : Nat) (d : RM) : (encRm g d).length ≤ 6 := by
  cases d with
  | reg r => simp [encRm]
  | mem m => exact mem_le g m

theorem v_le (o : Size) (i : BitVec 32) : (encV o i).length ≤ 4 := by
  cases o <;> simp [encV, enc32, enc16]

theorem h_le (i : BitVec 16) : (enc16 i).length ≤ 4 := by simp [enc16]

/-- One more byte. -/
theorem cons_le {n : Nat} {b : Byte} {l : List Byte} (h : l.length ≤ n) : (b :: l).length ≤ n + 1 := by
  simpa using h

/-- One part after another. -/
theorem cat_le {m n : Nat} {x y : List Byte} (hx : x.length ≤ m) (hy : y.length ≤ n) : (cat x y).length ≤ m + n := by
  simp only [cat, List.length_append]
  omega

/-- A statement from the bound on what follows the first byte. -/
theorem of_cons {n : Nat} {b : Byte} {l : List Byte} (h : l.length ≤ n) (hn : n ≤ 10) :
    1 ≤ (b :: l).length ∧ (b :: l).length ≤ 11 := by
  simp only [List.length_cons]
  omega

theorem addRm8R8 (d : RM8) (r : Reg8) : Statement (.addRm8R8 d r) := fun _ _ => of_cons (rm8_le _ _) (by decide)
theorem addRmR (d : RM) (r : Reg) : Statement (.addRmR d r) := fun _ _ => of_cons (rm_le _ _) (by decide)
theorem addR8Rm8 (r : Reg8) (m : RM8) : Statement (.addR8Rm8 r m) := fun _ _ => of_cons (rm8_le _ _) (by decide)
theorem addRRm (r : Reg) (m : RM) : Statement (.addRRm r m) := fun _ _ => of_cons (rm_le _ _) (by decide)
theorem addAlImm8 (imm : BitVec 8) : Statement (.addAlImm8 imm) := fun _ _ => of_cons (Nat.le_refl 1) (by decide)
theorem addEaxImm (imm : BitVec 32) : Statement (.addEaxImm imm) := fun _ _ => of_cons (v_le _ _) (by decide)
theorem addRm8Imm8 (d : RM8) (imm : BitVec 8) : Statement (.addRm8Imm8 d imm) :=
  fun _ _ => of_cons (cat_le (rm8_le _ _) (Nat.le_refl 1)) (by decide)
theorem addRmImm (d : RM) (imm : BitVec 32) : Statement (.addRmImm d imm) :=
  fun _ _ => of_cons (cat_le (rm_le _ _) (v_le _ _)) (by decide)
theorem addRmImm8 (d : RM) (imm : BitVec 8) : Statement (.addRmImm8 d imm) :=
  fun _ _ => of_cons (cat_le (rm_le _ _) (Nat.le_refl 1)) (by decide)
theorem orRm8R8 (d : RM8) (r : Reg8) : Statement (.orRm8R8 d r) := fun _ _ => of_cons (rm8_le _ _) (by decide)
theorem orRmR (d : RM) (r : Reg) : Statement (.orRmR d r) := fun _ _ => of_cons (rm_le _ _) (by decide)
theorem orR8Rm8 (r : Reg8) (m : RM8) : Statement (.orR8Rm8 r m) := fun _ _ => of_cons (rm8_le _ _) (by decide)
theorem orRRm (r : Reg) (m : RM) : Statement (.orRRm r m) := fun _ _ => of_cons (rm_le _ _) (by decide)
theorem orAlImm8 (imm : BitVec 8) : Statement (.orAlImm8 imm) := fun _ _ => of_cons (Nat.le_refl 1) (by decide)
theorem orEaxImm (imm : BitVec 32) : Statement (.orEaxImm imm) := fun _ _ => of_cons (v_le _ _) (by decide)
theorem orRm8Imm8 (d : RM8) (imm : BitVec 8) : Statement (.orRm8Imm8 d imm) :=
  fun _ _ => of_cons (cat_le (rm8_le _ _) (Nat.le_refl 1)) (by decide)
theorem orRmImm (d : RM) (imm : BitVec 32) : Statement (.orRmImm d imm) :=
  fun _ _ => of_cons (cat_le (rm_le _ _) (v_le _ _)) (by decide)
theorem orRmImm8 (d : RM) (imm : BitVec 8) : Statement (.orRmImm8 d imm) :=
  fun _ _ => of_cons (cat_le (rm_le _ _) (Nat.le_refl 1)) (by decide)
theorem adcRm8R8 (d : RM8) (r : Reg8) : Statement (.adcRm8R8 d r) := fun _ _ => of_cons (rm8_le _ _) (by decide)
theorem adcRmR (d : RM) (r : Reg) : Statement (.adcRmR d r) := fun _ _ => of_cons (rm_le _ _) (by decide)
theorem adcR8Rm8 (r : Reg8) (m : RM8) : Statement (.adcR8Rm8 r m) := fun _ _ => of_cons (rm8_le _ _) (by decide)
theorem adcRRm (r : Reg) (m : RM) : Statement (.adcRRm r m) := fun _ _ => of_cons (rm_le _ _) (by decide)
theorem adcAlImm8 (imm : BitVec 8) : Statement (.adcAlImm8 imm) := fun _ _ => of_cons (Nat.le_refl 1) (by decide)
theorem adcEaxImm (imm : BitVec 32) : Statement (.adcEaxImm imm) := fun _ _ => of_cons (v_le _ _) (by decide)
theorem adcRm8Imm8 (d : RM8) (imm : BitVec 8) : Statement (.adcRm8Imm8 d imm) :=
  fun _ _ => of_cons (cat_le (rm8_le _ _) (Nat.le_refl 1)) (by decide)
theorem adcRmImm (d : RM) (imm : BitVec 32) : Statement (.adcRmImm d imm) :=
  fun _ _ => of_cons (cat_le (rm_le _ _) (v_le _ _)) (by decide)
theorem adcRmImm8 (d : RM) (imm : BitVec 8) : Statement (.adcRmImm8 d imm) :=
  fun _ _ => of_cons (cat_le (rm_le _ _) (Nat.le_refl 1)) (by decide)
theorem sbbRm8R8 (d : RM8) (r : Reg8) : Statement (.sbbRm8R8 d r) := fun _ _ => of_cons (rm8_le _ _) (by decide)
theorem sbbRmR (d : RM) (r : Reg) : Statement (.sbbRmR d r) := fun _ _ => of_cons (rm_le _ _) (by decide)
theorem sbbR8Rm8 (r : Reg8) (m : RM8) : Statement (.sbbR8Rm8 r m) := fun _ _ => of_cons (rm8_le _ _) (by decide)
theorem sbbRRm (r : Reg) (m : RM) : Statement (.sbbRRm r m) := fun _ _ => of_cons (rm_le _ _) (by decide)
theorem sbbAlImm8 (imm : BitVec 8) : Statement (.sbbAlImm8 imm) := fun _ _ => of_cons (Nat.le_refl 1) (by decide)
theorem sbbEaxImm (imm : BitVec 32) : Statement (.sbbEaxImm imm) := fun _ _ => of_cons (v_le _ _) (by decide)
theorem sbbRm8Imm8 (d : RM8) (imm : BitVec 8) : Statement (.sbbRm8Imm8 d imm) :=
  fun _ _ => of_cons (cat_le (rm8_le _ _) (Nat.le_refl 1)) (by decide)
theorem sbbRmImm (d : RM) (imm : BitVec 32) : Statement (.sbbRmImm d imm) :=
  fun _ _ => of_cons (cat_le (rm_le _ _) (v_le _ _)) (by decide)
theorem sbbRmImm8 (d : RM) (imm : BitVec 8) : Statement (.sbbRmImm8 d imm) :=
  fun _ _ => of_cons (cat_le (rm_le _ _) (Nat.le_refl 1)) (by decide)
theorem andRm8R8 (d : RM8) (r : Reg8) : Statement (.andRm8R8 d r) := fun _ _ => of_cons (rm8_le _ _) (by decide)
theorem andRmR (d : RM) (r : Reg) : Statement (.andRmR d r) := fun _ _ => of_cons (rm_le _ _) (by decide)
theorem andR8Rm8 (r : Reg8) (m : RM8) : Statement (.andR8Rm8 r m) := fun _ _ => of_cons (rm8_le _ _) (by decide)
theorem andRRm (r : Reg) (m : RM) : Statement (.andRRm r m) := fun _ _ => of_cons (rm_le _ _) (by decide)
theorem andAlImm8 (imm : BitVec 8) : Statement (.andAlImm8 imm) := fun _ _ => of_cons (Nat.le_refl 1) (by decide)
theorem andEaxImm (imm : BitVec 32) : Statement (.andEaxImm imm) := fun _ _ => of_cons (v_le _ _) (by decide)
theorem andRm8Imm8 (d : RM8) (imm : BitVec 8) : Statement (.andRm8Imm8 d imm) :=
  fun _ _ => of_cons (cat_le (rm8_le _ _) (Nat.le_refl 1)) (by decide)
theorem andRmImm (d : RM) (imm : BitVec 32) : Statement (.andRmImm d imm) :=
  fun _ _ => of_cons (cat_le (rm_le _ _) (v_le _ _)) (by decide)
theorem andRmImm8 (d : RM) (imm : BitVec 8) : Statement (.andRmImm8 d imm) :=
  fun _ _ => of_cons (cat_le (rm_le _ _) (Nat.le_refl 1)) (by decide)
theorem subRm8R8 (d : RM8) (r : Reg8) : Statement (.subRm8R8 d r) := fun _ _ => of_cons (rm8_le _ _) (by decide)
theorem subRmR (d : RM) (r : Reg) : Statement (.subRmR d r) := fun _ _ => of_cons (rm_le _ _) (by decide)
theorem subR8Rm8 (r : Reg8) (m : RM8) : Statement (.subR8Rm8 r m) := fun _ _ => of_cons (rm8_le _ _) (by decide)
theorem subRRm (r : Reg) (m : RM) : Statement (.subRRm r m) := fun _ _ => of_cons (rm_le _ _) (by decide)
theorem subAlImm8 (imm : BitVec 8) : Statement (.subAlImm8 imm) := fun _ _ => of_cons (Nat.le_refl 1) (by decide)
theorem subEaxImm (imm : BitVec 32) : Statement (.subEaxImm imm) := fun _ _ => of_cons (v_le _ _) (by decide)
theorem subRm8Imm8 (d : RM8) (imm : BitVec 8) : Statement (.subRm8Imm8 d imm) :=
  fun _ _ => of_cons (cat_le (rm8_le _ _) (Nat.le_refl 1)) (by decide)
theorem subRmImm (d : RM) (imm : BitVec 32) : Statement (.subRmImm d imm) :=
  fun _ _ => of_cons (cat_le (rm_le _ _) (v_le _ _)) (by decide)
theorem subRmImm8 (d : RM) (imm : BitVec 8) : Statement (.subRmImm8 d imm) :=
  fun _ _ => of_cons (cat_le (rm_le _ _) (Nat.le_refl 1)) (by decide)
theorem xorRm8R8 (d : RM8) (r : Reg8) : Statement (.xorRm8R8 d r) := fun _ _ => of_cons (rm8_le _ _) (by decide)
theorem xorRmR (d : RM) (r : Reg) : Statement (.xorRmR d r) := fun _ _ => of_cons (rm_le _ _) (by decide)
theorem xorR8Rm8 (r : Reg8) (m : RM8) : Statement (.xorR8Rm8 r m) := fun _ _ => of_cons (rm8_le _ _) (by decide)
theorem xorRRm (r : Reg) (m : RM) : Statement (.xorRRm r m) := fun _ _ => of_cons (rm_le _ _) (by decide)
theorem xorAlImm8 (imm : BitVec 8) : Statement (.xorAlImm8 imm) := fun _ _ => of_cons (Nat.le_refl 1) (by decide)
theorem xorEaxImm (imm : BitVec 32) : Statement (.xorEaxImm imm) := fun _ _ => of_cons (v_le _ _) (by decide)
theorem xorRm8Imm8 (d : RM8) (imm : BitVec 8) : Statement (.xorRm8Imm8 d imm) :=
  fun _ _ => of_cons (cat_le (rm8_le _ _) (Nat.le_refl 1)) (by decide)
theorem xorRmImm (d : RM) (imm : BitVec 32) : Statement (.xorRmImm d imm) :=
  fun _ _ => of_cons (cat_le (rm_le _ _) (v_le _ _)) (by decide)
theorem xorRmImm8 (d : RM) (imm : BitVec 8) : Statement (.xorRmImm8 d imm) :=
  fun _ _ => of_cons (cat_le (rm_le _ _) (Nat.le_refl 1)) (by decide)
theorem cmpRm8R8 (d : RM8) (r : Reg8) : Statement (.cmpRm8R8 d r) := fun _ _ => of_cons (rm8_le _ _) (by decide)
theorem cmpRmR (d : RM) (r : Reg) : Statement (.cmpRmR d r) := fun _ _ => of_cons (rm_le _ _) (by decide)
theorem cmpR8Rm8 (r : Reg8) (m : RM8) : Statement (.cmpR8Rm8 r m) := fun _ _ => of_cons (rm8_le _ _) (by decide)
theorem cmpRRm (r : Reg) (m : RM) : Statement (.cmpRRm r m) := fun _ _ => of_cons (rm_le _ _) (by decide)
theorem cmpAlImm8 (imm : BitVec 8) : Statement (.cmpAlImm8 imm) := fun _ _ => of_cons (Nat.le_refl 1) (by decide)
theorem cmpEaxImm (imm : BitVec 32) : Statement (.cmpEaxImm imm) := fun _ _ => of_cons (v_le _ _) (by decide)
theorem cmpRm8Imm8 (d : RM8) (imm : BitVec 8) : Statement (.cmpRm8Imm8 d imm) :=
  fun _ _ => of_cons (cat_le (rm8_le _ _) (Nat.le_refl 1)) (by decide)
theorem cmpRmImm (d : RM) (imm : BitVec 32) : Statement (.cmpRmImm d imm) :=
  fun _ _ => of_cons (cat_le (rm_le _ _) (v_le _ _)) (by decide)
theorem cmpRmImm8 (d : RM) (imm : BitVec 8) : Statement (.cmpRmImm8 d imm) :=
  fun _ _ => of_cons (cat_le (rm_le _ _) (Nat.le_refl 1)) (by decide)
theorem incRm8 (d : RM8) : Statement (.incRm8 d) := fun _ _ => of_cons (rm8_le _ _) (by decide)
theorem incRm (d : RM) : Statement (.incRm d) := fun _ _ => of_cons (rm_le _ _) (by decide)
theorem incR (r : Reg) : Statement (.incR r) := fun _ _ => of_cons (Nat.le_refl 0) (by decide)
theorem decRm8 (d : RM8) : Statement (.decRm8 d) := fun _ _ => of_cons (rm8_le _ _) (by decide)
theorem decRm (d : RM) : Statement (.decRm d) := fun _ _ => of_cons (rm_le _ _) (by decide)
theorem decR (r : Reg) : Statement (.decR r) := fun _ _ => of_cons (Nat.le_refl 0) (by decide)
theorem notRm8 (d : RM8) : Statement (.notRm8 d) := fun _ _ => of_cons (rm8_le _ _) (by decide)
theorem notRm (d : RM) : Statement (.notRm d) := fun _ _ => of_cons (rm_le _ _) (by decide)
theorem negRm8 (d : RM8) : Statement (.negRm8 d) := fun _ _ => of_cons (rm8_le _ _) (by decide)
theorem negRm (d : RM) : Statement (.negRm d) := fun _ _ => of_cons (rm_le _ _) (by decide)
theorem mulRm8 (d : RM8) : Statement (.mulRm8 d) := fun _ _ => of_cons (rm8_le _ _) (by decide)
theorem mulRm (d : RM) : Statement (.mulRm d) := fun _ _ => of_cons (rm_le _ _) (by decide)
theorem imulRm8 (d : RM8) : Statement (.imulRm8 d) := fun _ _ => of_cons (rm8_le _ _) (by decide)
theorem imulRm (d : RM) : Statement (.imulRm d) := fun _ _ => of_cons (rm_le _ _) (by decide)
theorem divRm8 (d : RM8) : Statement (.divRm8 d) := fun _ _ => of_cons (rm8_le _ _) (by decide)
theorem divRm (d : RM) : Statement (.divRm d) := fun _ _ => of_cons (rm_le _ _) (by decide)
theorem idivRm8 (d : RM8) : Statement (.idivRm8 d) := fun _ _ => of_cons (rm8_le _ _) (by decide)
theorem idivRm (d : RM) : Statement (.idivRm d) := fun _ _ => of_cons (rm_le _ _) (by decide)
theorem imulRRm (r : Reg) (m : RM) : Statement (.imulRRm r m) := fun _ _ => of_cons (cons_le (rm_le _ _)) (by decide)
theorem imulRRmImm8 (r : Reg) (m : RM) (imm : BitVec 8) : Statement (.imulRRmImm8 r m imm) :=
  fun _ _ => of_cons (cat_le (rm_le _ _) (Nat.le_refl 1)) (by decide)
theorem imulRRmImm (r : Reg) (m : RM) (imm : BitVec 32) : Statement (.imulRRmImm r m imm) :=
  fun _ _ => of_cons (cat_le (rm_le _ _) (v_le _ _)) (by decide)
theorem cbwCwde : Statement .cbwCwde := fun _ _ => of_cons (Nat.le_refl 0) (by decide)
theorem cwdCdq : Statement .cwdCdq := fun _ _ => of_cons (Nat.le_refl 0) (by decide)
theorem aaa : Statement .aaa := fun _ _ => of_cons (Nat.le_refl 0) (by decide)
theorem aas : Statement .aas := fun _ _ => of_cons (Nat.le_refl 0) (by decide)
theorem aamImm8 (imm : BitVec 8) : Statement (.aamImm8 imm) := fun _ _ => of_cons (Nat.le_refl 1) (by decide)
theorem aadImm8 (imm : BitVec 8) : Statement (.aadImm8 imm) := fun _ _ => of_cons (Nat.le_refl 1) (by decide)
theorem daa : Statement .daa := fun _ _ => of_cons (Nat.le_refl 0) (by decide)
theorem das : Statement .das := fun _ _ => of_cons (Nat.le_refl 0) (by decide)
theorem testAlImm8 (imm : BitVec 8) : Statement (.testAlImm8 imm) := fun _ _ => of_cons (Nat.le_refl 1) (by decide)
theorem testEaxImm (imm : BitVec 32) : Statement (.testEaxImm imm) := fun _ _ => of_cons (v_le _ _) (by decide)
theorem testRm8Imm8 (d : RM8) (imm : BitVec 8) : Statement (.testRm8Imm8 d imm) :=
  fun _ _ => of_cons (cat_le (rm8_le _ _) (Nat.le_refl 1)) (by decide)
theorem testRmImm (d : RM) (imm : BitVec 32) : Statement (.testRmImm d imm) :=
  fun _ _ => of_cons (cat_le (rm_le _ _) (v_le _ _)) (by decide)
theorem testRm8R8 (d : RM8) (r : Reg8) : Statement (.testRm8R8 d r) := fun _ _ => of_cons (rm8_le _ _) (by decide)
theorem testRmR (d : RM) (r : Reg) : Statement (.testRmR d r) := fun _ _ => of_cons (rm_le _ _) (by decide)
theorem rolRm8One (d : RM8) : Statement (.rolRm8One d) := fun _ _ => of_cons (rm8_le _ _) (by decide)
theorem rolRm8Cl (d : RM8) : Statement (.rolRm8Cl d) := fun _ _ => of_cons (rm8_le _ _) (by decide)
theorem rolRm8Imm8 (d : RM8) (imm : BitVec 8) : Statement (.rolRm8Imm8 d imm) :=
  fun _ _ => of_cons (cat_le (rm8_le _ _) (Nat.le_refl 1)) (by decide)
theorem rolRmOne (d : RM) : Statement (.rolRmOne d) := fun _ _ => of_cons (rm_le _ _) (by decide)
theorem rolRmCl (d : RM) : Statement (.rolRmCl d) := fun _ _ => of_cons (rm_le _ _) (by decide)
theorem rolRmImm8 (d : RM) (imm : BitVec 8) : Statement (.rolRmImm8 d imm) :=
  fun _ _ => of_cons (cat_le (rm_le _ _) (Nat.le_refl 1)) (by decide)
theorem rorRm8One (d : RM8) : Statement (.rorRm8One d) := fun _ _ => of_cons (rm8_le _ _) (by decide)
theorem rorRm8Cl (d : RM8) : Statement (.rorRm8Cl d) := fun _ _ => of_cons (rm8_le _ _) (by decide)
theorem rorRm8Imm8 (d : RM8) (imm : BitVec 8) : Statement (.rorRm8Imm8 d imm) :=
  fun _ _ => of_cons (cat_le (rm8_le _ _) (Nat.le_refl 1)) (by decide)
theorem rorRmOne (d : RM) : Statement (.rorRmOne d) := fun _ _ => of_cons (rm_le _ _) (by decide)
theorem rorRmCl (d : RM) : Statement (.rorRmCl d) := fun _ _ => of_cons (rm_le _ _) (by decide)
theorem rorRmImm8 (d : RM) (imm : BitVec 8) : Statement (.rorRmImm8 d imm) :=
  fun _ _ => of_cons (cat_le (rm_le _ _) (Nat.le_refl 1)) (by decide)
theorem rclRm8One (d : RM8) : Statement (.rclRm8One d) := fun _ _ => of_cons (rm8_le _ _) (by decide)
theorem rclRm8Cl (d : RM8) : Statement (.rclRm8Cl d) := fun _ _ => of_cons (rm8_le _ _) (by decide)
theorem rclRm8Imm8 (d : RM8) (imm : BitVec 8) : Statement (.rclRm8Imm8 d imm) :=
  fun _ _ => of_cons (cat_le (rm8_le _ _) (Nat.le_refl 1)) (by decide)
theorem rclRmOne (d : RM) : Statement (.rclRmOne d) := fun _ _ => of_cons (rm_le _ _) (by decide)
theorem rclRmCl (d : RM) : Statement (.rclRmCl d) := fun _ _ => of_cons (rm_le _ _) (by decide)
theorem rclRmImm8 (d : RM) (imm : BitVec 8) : Statement (.rclRmImm8 d imm) :=
  fun _ _ => of_cons (cat_le (rm_le _ _) (Nat.le_refl 1)) (by decide)
theorem rcrRm8One (d : RM8) : Statement (.rcrRm8One d) := fun _ _ => of_cons (rm8_le _ _) (by decide)
theorem rcrRm8Cl (d : RM8) : Statement (.rcrRm8Cl d) := fun _ _ => of_cons (rm8_le _ _) (by decide)
theorem rcrRm8Imm8 (d : RM8) (imm : BitVec 8) : Statement (.rcrRm8Imm8 d imm) :=
  fun _ _ => of_cons (cat_le (rm8_le _ _) (Nat.le_refl 1)) (by decide)
theorem rcrRmOne (d : RM) : Statement (.rcrRmOne d) := fun _ _ => of_cons (rm_le _ _) (by decide)
theorem rcrRmCl (d : RM) : Statement (.rcrRmCl d) := fun _ _ => of_cons (rm_le _ _) (by decide)
theorem rcrRmImm8 (d : RM) (imm : BitVec 8) : Statement (.rcrRmImm8 d imm) :=
  fun _ _ => of_cons (cat_le (rm_le _ _) (Nat.le_refl 1)) (by decide)
theorem salRm8One (d : RM8) : Statement (.salRm8One d) := fun _ _ => of_cons (rm8_le _ _) (by decide)
theorem salRm8Cl (d : RM8) : Statement (.salRm8Cl d) := fun _ _ => of_cons (rm8_le _ _) (by decide)
theorem salRm8Imm8 (d : RM8) (imm : BitVec 8) : Statement (.salRm8Imm8 d imm) :=
  fun _ _ => of_cons (cat_le (rm8_le _ _) (Nat.le_refl 1)) (by decide)
theorem salRmOne (d : RM) : Statement (.salRmOne d) := fun _ _ => of_cons (rm_le _ _) (by decide)
theorem salRmCl (d : RM) : Statement (.salRmCl d) := fun _ _ => of_cons (rm_le _ _) (by decide)
theorem salRmImm8 (d : RM) (imm : BitVec 8) : Statement (.salRmImm8 d imm) :=
  fun _ _ => of_cons (cat_le (rm_le _ _) (Nat.le_refl 1)) (by decide)
theorem shrRm8One (d : RM8) : Statement (.shrRm8One d) := fun _ _ => of_cons (rm8_le _ _) (by decide)
theorem shrRm8Cl (d : RM8) : Statement (.shrRm8Cl d) := fun _ _ => of_cons (rm8_le _ _) (by decide)
theorem shrRm8Imm8 (d : RM8) (imm : BitVec 8) : Statement (.shrRm8Imm8 d imm) :=
  fun _ _ => of_cons (cat_le (rm8_le _ _) (Nat.le_refl 1)) (by decide)
theorem shrRmOne (d : RM) : Statement (.shrRmOne d) := fun _ _ => of_cons (rm_le _ _) (by decide)
theorem shrRmCl (d : RM) : Statement (.shrRmCl d) := fun _ _ => of_cons (rm_le _ _) (by decide)
theorem shrRmImm8 (d : RM) (imm : BitVec 8) : Statement (.shrRmImm8 d imm) :=
  fun _ _ => of_cons (cat_le (rm_le _ _) (Nat.le_refl 1)) (by decide)
theorem sarRm8One (d : RM8) : Statement (.sarRm8One d) := fun _ _ => of_cons (rm8_le _ _) (by decide)
theorem sarRm8Cl (d : RM8) : Statement (.sarRm8Cl d) := fun _ _ => of_cons (rm8_le _ _) (by decide)
theorem sarRm8Imm8 (d : RM8) (imm : BitVec 8) : Statement (.sarRm8Imm8 d imm) :=
  fun _ _ => of_cons (cat_le (rm8_le _ _) (Nat.le_refl 1)) (by decide)
theorem sarRmOne (d : RM) : Statement (.sarRmOne d) := fun _ _ => of_cons (rm_le _ _) (by decide)
theorem sarRmCl (d : RM) : Statement (.sarRmCl d) := fun _ _ => of_cons (rm_le _ _) (by decide)
theorem sarRmImm8 (d : RM) (imm : BitVec 8) : Statement (.sarRmImm8 d imm) :=
  fun _ _ => of_cons (cat_le (rm_le _ _) (Nat.le_refl 1)) (by decide)
theorem shldRmRImm8 (d : RM) (r : Reg) (imm : BitVec 8) : Statement (.shldRmRImm8 d r imm) :=
  fun _ _ => of_cons (cons_le (cat_le (rm_le _ _) (Nat.le_refl 1))) (by decide)
theorem shldRmRCl (d : RM) (r : Reg) : Statement (.shldRmRCl d r) :=
  fun _ _ => of_cons (cons_le (rm_le _ _)) (by decide)
theorem shrdRmRImm8 (d : RM) (r : Reg) (imm : BitVec 8) : Statement (.shrdRmRImm8 d r imm) :=
  fun _ _ => of_cons (cons_le (cat_le (rm_le _ _) (Nat.le_refl 1))) (by decide)
theorem shrdRmRCl (d : RM) (r : Reg) : Statement (.shrdRmRCl d r) :=
  fun _ _ => of_cons (cons_le (rm_le _ _)) (by decide)
theorem btRmR (d : RM) (r : Reg) : Statement (.btRmR d r) := fun _ _ => of_cons (cons_le (rm_le _ _)) (by decide)
theorem btRmImm8 (d : RM) (imm : BitVec 8) : Statement (.btRmImm8 d imm) :=
  fun _ _ => of_cons (cons_le (cat_le (rm_le _ _) (Nat.le_refl 1))) (by decide)
theorem btsRmR (d : RM) (r : Reg) : Statement (.btsRmR d r) := fun _ _ => of_cons (cons_le (rm_le _ _)) (by decide)
theorem btsRmImm8 (d : RM) (imm : BitVec 8) : Statement (.btsRmImm8 d imm) :=
  fun _ _ => of_cons (cons_le (cat_le (rm_le _ _) (Nat.le_refl 1))) (by decide)
theorem btrRmR (d : RM) (r : Reg) : Statement (.btrRmR d r) := fun _ _ => of_cons (cons_le (rm_le _ _)) (by decide)
theorem btrRmImm8 (d : RM) (imm : BitVec 8) : Statement (.btrRmImm8 d imm) :=
  fun _ _ => of_cons (cons_le (cat_le (rm_le _ _) (Nat.le_refl 1))) (by decide)
theorem btcRmR (d : RM) (r : Reg) : Statement (.btcRmR d r) := fun _ _ => of_cons (cons_le (rm_le _ _)) (by decide)
theorem btcRmImm8 (d : RM) (imm : BitVec 8) : Statement (.btcRmImm8 d imm) :=
  fun _ _ => of_cons (cons_le (cat_le (rm_le _ _) (Nat.le_refl 1))) (by decide)
theorem bsfRRm (r : Reg) (m : RM) : Statement (.bsfRRm r m) := fun _ _ => of_cons (cons_le (rm_le _ _)) (by decide)
theorem bsrRRm (r : Reg) (m : RM) : Statement (.bsrRRm r m) := fun _ _ => of_cons (cons_le (rm_le _ _)) (by decide)
theorem setoRm8 (d : RM8) : Statement (.setoRm8 d) := fun _ _ => of_cons (cons_le (rm8_le _ _)) (by decide)
theorem setnoRm8 (d : RM8) : Statement (.setnoRm8 d) := fun _ _ => of_cons (cons_le (rm8_le _ _)) (by decide)
theorem setbRm8 (d : RM8) : Statement (.setbRm8 d) := fun _ _ => of_cons (cons_le (rm8_le _ _)) (by decide)
theorem setaeRm8 (d : RM8) : Statement (.setaeRm8 d) := fun _ _ => of_cons (cons_le (rm8_le _ _)) (by decide)
theorem seteRm8 (d : RM8) : Statement (.seteRm8 d) := fun _ _ => of_cons (cons_le (rm8_le _ _)) (by decide)
theorem setneRm8 (d : RM8) : Statement (.setneRm8 d) := fun _ _ => of_cons (cons_le (rm8_le _ _)) (by decide)
theorem setbeRm8 (d : RM8) : Statement (.setbeRm8 d) := fun _ _ => of_cons (cons_le (rm8_le _ _)) (by decide)
theorem setaRm8 (d : RM8) : Statement (.setaRm8 d) := fun _ _ => of_cons (cons_le (rm8_le _ _)) (by decide)
theorem setsRm8 (d : RM8) : Statement (.setsRm8 d) := fun _ _ => of_cons (cons_le (rm8_le _ _)) (by decide)
theorem setnsRm8 (d : RM8) : Statement (.setnsRm8 d) := fun _ _ => of_cons (cons_le (rm8_le _ _)) (by decide)
theorem setpRm8 (d : RM8) : Statement (.setpRm8 d) := fun _ _ => of_cons (cons_le (rm8_le _ _)) (by decide)
theorem setnpRm8 (d : RM8) : Statement (.setnpRm8 d) := fun _ _ => of_cons (cons_le (rm8_le _ _)) (by decide)
theorem setlRm8 (d : RM8) : Statement (.setlRm8 d) := fun _ _ => of_cons (cons_le (rm8_le _ _)) (by decide)
theorem setgeRm8 (d : RM8) : Statement (.setgeRm8 d) := fun _ _ => of_cons (cons_le (rm8_le _ _)) (by decide)
theorem setleRm8 (d : RM8) : Statement (.setleRm8 d) := fun _ _ => of_cons (cons_le (rm8_le _ _)) (by decide)
theorem setgRm8 (d : RM8) : Statement (.setgRm8 d) := fun _ _ => of_cons (cons_le (rm8_le _ _)) (by decide)
theorem movRm8R8 (d : RM8) (r : Reg8) : Statement (.movRm8R8 d r) := fun _ _ => of_cons (rm8_le _ _) (by decide)
theorem movRmR (d : RM) (r : Reg) : Statement (.movRmR d r) := fun _ _ => of_cons (rm_le _ _) (by decide)
theorem movR8Rm8 (r : Reg8) (m : RM8) : Statement (.movR8Rm8 r m) := fun _ _ => of_cons (rm8_le _ _) (by decide)
theorem movRRm (r : Reg) (m : RM) : Statement (.movRRm r m) := fun _ _ => of_cons (rm_le _ _) (by decide)
theorem movR8Imm8 (r : Reg8) (imm : BitVec 8) : Statement (.movR8Imm8 r imm) :=
  fun _ _ => of_cons (Nat.le_refl 1) (by decide)
theorem movRImm (r : Reg) (imm : BitVec 32) : Statement (.movRImm r imm) := fun _ _ => of_cons (v_le _ _) (by decide)
theorem movRm8Imm8 (d : RM8) (imm : BitVec 8) : Statement (.movRm8Imm8 d imm) :=
  fun _ _ => of_cons (cat_le (rm8_le _ _) (Nat.le_refl 1)) (by decide)
theorem movRmImm (d : RM) (imm : BitVec 32) : Statement (.movRmImm d imm) :=
  fun _ _ => of_cons (cat_le (rm_le _ _) (v_le _ _)) (by decide)
theorem movAlMoffs (off : BitVec 32) : Statement (.movAlMoffs off) := fun _ _ => of_cons (v_le _ _) (by decide)
theorem movEaxMoffs (off : BitVec 32) : Statement (.movEaxMoffs off) := fun _ _ => of_cons (v_le _ _) (by decide)
theorem movMoffsAl (off : BitVec 32) : Statement (.movMoffsAl off) := fun _ _ => of_cons (v_le _ _) (by decide)
theorem movMoffsEax (off : BitVec 32) : Statement (.movMoffsEax off) := fun _ _ => of_cons (v_le _ _) (by decide)
theorem movRmSreg (d : RM) (sr : SReg) : Statement (.movRmSreg d sr) := fun _ _ => of_cons (rm_le _ _) (by decide)
theorem movSregRm (sr : SReg) (m : RM) : Statement (.movSregRm sr m) := fun _ _ => of_cons (rm_le _ _) (by decide)
theorem movsxRRm8 (r : Reg) (m : RM8) : Statement (.movsxRRm8 r m) :=
  fun _ _ => of_cons (cons_le (rm8_le _ _)) (by decide)
theorem movsxRRm16 (r : Reg) (m : RM) : Statement (.movsxRRm16 r m) :=
  fun _ _ => of_cons (cons_le (rm_le _ _)) (by decide)
theorem movzxRRm8 (r : Reg) (m : RM8) : Statement (.movzxRRm8 r m) :=
  fun _ _ => of_cons (cons_le (rm8_le _ _)) (by decide)
theorem movzxRRm16 (r : Reg) (m : RM) : Statement (.movzxRRm16 r m) :=
  fun _ _ => of_cons (cons_le (rm_le _ _)) (by decide)
theorem xchgEaxR (r : Reg) : Statement (.xchgEaxR r) := fun _ _ => of_cons (Nat.le_refl 0) (by decide)
theorem xchgRm8R8 (d : RM8) (r : Reg8) : Statement (.xchgRm8R8 d r) := fun _ _ => of_cons (rm8_le _ _) (by decide)
theorem xchgRmR (d : RM) (r : Reg) : Statement (.xchgRmR d r) := fun _ _ => of_cons (rm_le _ _) (by decide)
theorem leaRM (r : Reg) (m : MemOp) : Statement (.leaRM r m) := fun _ _ => of_cons (mem_le _ _) (by decide)
theorem xlat : Statement .xlat := fun _ _ => of_cons (Nat.le_refl 0) (by decide)
theorem pushRm (d : RM) : Statement (.pushRm d) := fun _ _ => of_cons (rm_le _ _) (by decide)
theorem pushR (r : Reg) : Statement (.pushR r) := fun _ _ => of_cons (Nat.le_refl 0) (by decide)
theorem pushImm8 (imm : BitVec 8) : Statement (.pushImm8 imm) := fun _ _ => of_cons (Nat.le_refl 1) (by decide)
theorem pushImm (imm : BitVec 32) : Statement (.pushImm imm) := fun _ _ => of_cons (v_le _ _) (by decide)
theorem pushEs : Statement .pushEs := fun _ _ => of_cons (Nat.le_refl 0) (by decide)
theorem pushCs : Statement .pushCs := fun _ _ => of_cons (Nat.le_refl 0) (by decide)
theorem pushSs : Statement .pushSs := fun _ _ => of_cons (Nat.le_refl 0) (by decide)
theorem pushDs : Statement .pushDs := fun _ _ => of_cons (Nat.le_refl 0) (by decide)
theorem pushFs : Statement .pushFs := fun _ _ => of_cons (Nat.le_refl 1) (by decide)
theorem pushGs : Statement .pushGs := fun _ _ => of_cons (Nat.le_refl 1) (by decide)
theorem popRm (d : RM) : Statement (.popRm d) := fun _ _ => of_cons (rm_le _ _) (by decide)
theorem popR (r : Reg) : Statement (.popR r) := fun _ _ => of_cons (Nat.le_refl 0) (by decide)
theorem popEs : Statement .popEs := fun _ _ => of_cons (Nat.le_refl 0) (by decide)
theorem popSs : Statement .popSs := fun _ _ => of_cons (Nat.le_refl 0) (by decide)
theorem popDs : Statement .popDs := fun _ _ => of_cons (Nat.le_refl 0) (by decide)
theorem popFs : Statement .popFs := fun _ _ => of_cons (Nat.le_refl 1) (by decide)
theorem popGs : Statement .popGs := fun _ _ => of_cons (Nat.le_refl 1) (by decide)
theorem pusha : Statement .pusha := fun _ _ => of_cons (Nat.le_refl 0) (by decide)
theorem popa : Statement .popa := fun _ _ => of_cons (Nat.le_refl 0) (by decide)
theorem pushf : Statement .pushf := fun _ _ => of_cons (Nat.le_refl 0) (by decide)
theorem popf : Statement .popf := fun _ _ => of_cons (Nat.le_refl 0) (by decide)
theorem lahf : Statement .lahf := fun _ _ => of_cons (Nat.le_refl 0) (by decide)
theorem sahf : Statement .sahf := fun _ _ => of_cons (Nat.le_refl 0) (by decide)
theorem ldsRM (r : Reg) (m : MemOp) : Statement (.ldsRM r m) := fun _ _ => of_cons (mem_le _ _) (by decide)
theorem lesRM (r : Reg) (m : MemOp) : Statement (.lesRM r m) := fun _ _ => of_cons (mem_le _ _) (by decide)
theorem lfsRM (r : Reg) (m : MemOp) : Statement (.lfsRM r m) := fun _ _ => of_cons (cons_le (mem_le _ _)) (by decide)
theorem lgsRM (r : Reg) (m : MemOp) : Statement (.lgsRM r m) := fun _ _ => of_cons (cons_le (mem_le _ _)) (by decide)
theorem lssRM (r : Reg) (m : MemOp) : Statement (.lssRM r m) := fun _ _ => of_cons (cons_le (mem_le _ _)) (by decide)
theorem clc : Statement .clc := fun _ _ => of_cons (Nat.le_refl 0) (by decide)
theorem cld : Statement .cld := fun _ _ => of_cons (Nat.le_refl 0) (by decide)
theorem cmc : Statement .cmc := fun _ _ => of_cons (Nat.le_refl 0) (by decide)
theorem stc : Statement .stc := fun _ _ => of_cons (Nat.le_refl 0) (by decide)
theorem std : Statement .std := fun _ _ => of_cons (Nat.le_refl 0) (by decide)
theorem movsb : Statement .movsb := fun _ _ => of_cons (Nat.le_refl 0) (by decide)
theorem movswMovsd : Statement .movswMovsd := fun _ _ => of_cons (Nat.le_refl 0) (by decide)
theorem cmpsb : Statement .cmpsb := fun _ _ => of_cons (Nat.le_refl 0) (by decide)
theorem cmpswCmpsd : Statement .cmpswCmpsd := fun _ _ => of_cons (Nat.le_refl 0) (by decide)
theorem stosb : Statement .stosb := fun _ _ => of_cons (Nat.le_refl 0) (by decide)
theorem stoswStosd : Statement .stoswStosd := fun _ _ => of_cons (Nat.le_refl 0) (by decide)
theorem lodsb : Statement .lodsb := fun _ _ => of_cons (Nat.le_refl 0) (by decide)
theorem lodswLodsd : Statement .lodswLodsd := fun _ _ => of_cons (Nat.le_refl 0) (by decide)
theorem scasb : Statement .scasb := fun _ _ => of_cons (Nat.le_refl 0) (by decide)
theorem scaswScasd : Statement .scaswScasd := fun _ _ => of_cons (Nat.le_refl 0) (by decide)
theorem insb : Statement .insb := fun _ _ => of_cons (Nat.le_refl 0) (by decide)
theorem inswInsd : Statement .inswInsd := fun _ _ => of_cons (Nat.le_refl 0) (by decide)
theorem outsb : Statement .outsb := fun _ _ => of_cons (Nat.le_refl 0) (by decide)
theorem outswOutsd : Statement .outswOutsd := fun _ _ => of_cons (Nat.le_refl 0) (by decide)
theorem inAlImm8 (imm : BitVec 8) : Statement (.inAlImm8 imm) := fun _ _ => of_cons (Nat.le_refl 1) (by decide)
theorem inEaxImm8 (imm : BitVec 8) : Statement (.inEaxImm8 imm) := fun _ _ => of_cons (Nat.le_refl 1) (by decide)
theorem inAlDx : Statement .inAlDx := fun _ _ => of_cons (Nat.le_refl 0) (by decide)
theorem inEaxDx : Statement .inEaxDx := fun _ _ => of_cons (Nat.le_refl 0) (by decide)
theorem outImm8Al (imm : BitVec 8) : Statement (.outImm8Al imm) := fun _ _ => of_cons (Nat.le_refl 1) (by decide)
theorem outImm8Eax (imm : BitVec 8) : Statement (.outImm8Eax imm) := fun _ _ => of_cons (Nat.le_refl 1) (by decide)
theorem outDxAl : Statement .outDxAl := fun _ _ => of_cons (Nat.le_refl 0) (by decide)
theorem outDxEax : Statement .outDxEax := fun _ _ => of_cons (Nat.le_refl 0) (by decide)
theorem rep : Statement .rep := fun _ _ => of_cons (Nat.le_refl 0) (by decide)
theorem repne : Statement .repne := fun _ _ => of_cons (Nat.le_refl 0) (by decide)
theorem jmpRel8 (imm : BitVec 8) : Statement (.jmpRel8 imm) := fun _ _ => of_cons (Nat.le_refl 1) (by decide)
theorem jmpRel (imm : BitVec 32) : Statement (.jmpRel imm) := fun _ _ => of_cons (v_le _ _) (by decide)
theorem jmpRm (d : RM) : Statement (.jmpRm d) := fun _ _ => of_cons (rm_le _ _) (by decide)
theorem jmpPtr (sel : BitVec 16) (off : BitVec 32) : Statement (.jmpPtr sel off) :=
  fun _ _ => of_cons (cat_le (v_le _ _) (h_le _)) (by decide)
theorem jmpMFar (m : MemOp) : Statement (.jmpMFar m) := fun _ _ => of_cons (mem_le _ _) (by decide)
theorem joRel8 (imm : BitVec 8) : Statement (.joRel8 imm) := fun _ _ => of_cons (Nat.le_refl 1) (by decide)
theorem joRel (imm : BitVec 32) : Statement (.joRel imm) := fun _ _ => of_cons (cons_le (v_le _ _)) (by decide)
theorem jnoRel8 (imm : BitVec 8) : Statement (.jnoRel8 imm) := fun _ _ => of_cons (Nat.le_refl 1) (by decide)
theorem jnoRel (imm : BitVec 32) : Statement (.jnoRel imm) := fun _ _ => of_cons (cons_le (v_le _ _)) (by decide)
theorem jbRel8 (imm : BitVec 8) : Statement (.jbRel8 imm) := fun _ _ => of_cons (Nat.le_refl 1) (by decide)
theorem jbRel (imm : BitVec 32) : Statement (.jbRel imm) := fun _ _ => of_cons (cons_le (v_le _ _)) (by decide)
theorem jaeRel8 (imm : BitVec 8) : Statement (.jaeRel8 imm) := fun _ _ => of_cons (Nat.le_refl 1) (by decide)
theorem jaeRel (imm : BitVec 32) : Statement (.jaeRel imm) := fun _ _ => of_cons (cons_le (v_le _ _)) (by decide)
theorem jeRel8 (imm : BitVec 8) : Statement (.jeRel8 imm) := fun _ _ => of_cons (Nat.le_refl 1) (by decide)
theorem jeRel (imm : BitVec 32) : Statement (.jeRel imm) := fun _ _ => of_cons (cons_le (v_le _ _)) (by decide)
theorem jneRel8 (imm : BitVec 8) : Statement (.jneRel8 imm) := fun _ _ => of_cons (Nat.le_refl 1) (by decide)
theorem jneRel (imm : BitVec 32) : Statement (.jneRel imm) := fun _ _ => of_cons (cons_le (v_le _ _)) (by decide)
theorem jbeRel8 (imm : BitVec 8) : Statement (.jbeRel8 imm) := fun _ _ => of_cons (Nat.le_refl 1) (by decide)
theorem jbeRel (imm : BitVec 32) : Statement (.jbeRel imm) := fun _ _ => of_cons (cons_le (v_le _ _)) (by decide)
theorem jaRel8 (imm : BitVec 8) : Statement (.jaRel8 imm) := fun _ _ => of_cons (Nat.le_refl 1) (by decide)
theorem jaRel (imm : BitVec 32) : Statement (.jaRel imm) := fun _ _ => of_cons (cons_le (v_le _ _)) (by decide)
theorem jsRel8 (imm : BitVec 8) : Statement (.jsRel8 imm) := fun _ _ => of_cons (Nat.le_refl 1) (by decide)
theorem jsRel (imm : BitVec 32) : Statement (.jsRel imm) := fun _ _ => of_cons (cons_le (v_le _ _)) (by decide)
theorem jnsRel8 (imm : BitVec 8) : Statement (.jnsRel8 imm) := fun _ _ => of_cons (Nat.le_refl 1) (by decide)
theorem jnsRel (imm : BitVec 32) : Statement (.jnsRel imm) := fun _ _ => of_cons (cons_le (v_le _ _)) (by decide)
theorem jpRel8 (imm : BitVec 8) : Statement (.jpRel8 imm) := fun _ _ => of_cons (Nat.le_refl 1) (by decide)
theorem jpRel (imm : BitVec 32) : Statement (.jpRel imm) := fun _ _ => of_cons (cons_le (v_le _ _)) (by decide)
theorem jnpRel8 (imm : BitVec 8) : Statement (.jnpRel8 imm) := fun _ _ => of_cons (Nat.le_refl 1) (by decide)
theorem jnpRel (imm : BitVec 32) : Statement (.jnpRel imm) := fun _ _ => of_cons (cons_le (v_le _ _)) (by decide)
theorem jlRel8 (imm : BitVec 8) : Statement (.jlRel8 imm) := fun _ _ => of_cons (Nat.le_refl 1) (by decide)
theorem jlRel (imm : BitVec 32) : Statement (.jlRel imm) := fun _ _ => of_cons (cons_le (v_le _ _)) (by decide)
theorem jgeRel8 (imm : BitVec 8) : Statement (.jgeRel8 imm) := fun _ _ => of_cons (Nat.le_refl 1) (by decide)
theorem jgeRel (imm : BitVec 32) : Statement (.jgeRel imm) := fun _ _ => of_cons (cons_le (v_le _ _)) (by decide)
theorem jleRel8 (imm : BitVec 8) : Statement (.jleRel8 imm) := fun _ _ => of_cons (Nat.le_refl 1) (by decide)
theorem jleRel (imm : BitVec 32) : Statement (.jleRel imm) := fun _ _ => of_cons (cons_le (v_le _ _)) (by decide)
theorem jgRel8 (imm : BitVec 8) : Statement (.jgRel8 imm) := fun _ _ => of_cons (Nat.le_refl 1) (by decide)
theorem jgRel (imm : BitVec 32) : Statement (.jgRel imm) := fun _ _ => of_cons (cons_le (v_le _ _)) (by decide)
theorem jcxzRel8 (imm : BitVec 8) : Statement (.jcxzRel8 imm) := fun _ _ => of_cons (Nat.le_refl 1) (by decide)
theorem loopRel8 (imm : BitVec 8) : Statement (.loopRel8 imm) := fun _ _ => of_cons (Nat.le_refl 1) (by decide)
theorem loopeRel8 (imm : BitVec 8) : Statement (.loopeRel8 imm) := fun _ _ => of_cons (Nat.le_refl 1) (by decide)
theorem loopneRel8 (imm : BitVec 8) : Statement (.loopneRel8 imm) := fun _ _ => of_cons (Nat.le_refl 1) (by decide)
theorem callRel (imm : BitVec 32) : Statement (.callRel imm) := fun _ _ => of_cons (v_le _ _) (by decide)
theorem callRm (d : RM) : Statement (.callRm d) := fun _ _ => of_cons (rm_le _ _) (by decide)
theorem callPtr (sel : BitVec 16) (off : BitVec 32) : Statement (.callPtr sel off) :=
  fun _ _ => of_cons (cat_le (v_le _ _) (h_le _)) (by decide)
theorem callMFar (m : MemOp) : Statement (.callMFar m) := fun _ _ => of_cons (mem_le _ _) (by decide)
theorem retNear : Statement .retNear := fun _ _ => of_cons (Nat.le_refl 0) (by decide)
theorem retNearImm16 (imm : BitVec 16) : Statement (.retNearImm16 imm) := fun _ _ => of_cons (h_le _) (by decide)
theorem retFar : Statement .retFar := fun _ _ => of_cons (Nat.le_refl 0) (by decide)
theorem retFarImm16 (imm : BitVec 16) : Statement (.retFarImm16 imm) := fun _ _ => of_cons (h_le _) (by decide)
theorem intImm8 (imm : BitVec 8) : Statement (.intImm8 imm) := fun _ _ => of_cons (Nat.le_refl 1) (by decide)
theorem int3 : Statement .int3 := fun _ _ => of_cons (Nat.le_refl 0) (by decide)
theorem into : Statement .into := fun _ _ => of_cons (Nat.le_refl 0) (by decide)
theorem int1 : Statement .int1 := fun _ _ => of_cons (Nat.le_refl 0) (by decide)
theorem iret : Statement .iret := fun _ _ => of_cons (Nat.le_refl 0) (by decide)
theorem enter (size : BitVec 16) (level : BitVec 8) : Statement (.enter size level) :=
  fun _ _ => of_cons (cat_le (h_le _) (Nat.le_refl 1)) (by decide)
theorem leave : Statement .leave := fun _ _ => of_cons (Nat.le_refl 0) (by decide)
theorem boundRM (r : Reg) (m : MemOp) : Statement (.boundRM r m) := fun _ _ => of_cons (mem_le _ _) (by decide)
theorem hlt : Statement .hlt := fun _ _ => of_cons (Nat.le_refl 0) (by decide)
theorem lock : Statement .lock := fun _ _ => of_cons (Nat.le_refl 0) (by decide)
theorem wait : Statement .wait := fun _ _ => of_cons (Nat.le_refl 0) (by decide)
theorem nop : Statement .nop := fun _ _ => of_cons (Nat.le_refl 0) (by decide)
theorem sldtRm16 (d : RM) : Statement (.sldtRm16 d) := fun _ _ => of_cons (cons_le (rm_le _ _)) (by decide)
theorem strRm16 (d : RM) : Statement (.strRm16 d) := fun _ _ => of_cons (cons_le (rm_le _ _)) (by decide)
theorem lldtRm16 (d : RM) : Statement (.lldtRm16 d) := fun _ _ => of_cons (cons_le (rm_le _ _)) (by decide)
theorem ltrRm16 (d : RM) : Statement (.ltrRm16 d) := fun _ _ => of_cons (cons_le (rm_le _ _)) (by decide)
theorem verrRm16 (d : RM) : Statement (.verrRm16 d) := fun _ _ => of_cons (cons_le (rm_le _ _)) (by decide)
theorem verwRm16 (d : RM) : Statement (.verwRm16 d) := fun _ _ => of_cons (cons_le (rm_le _ _)) (by decide)
theorem sgdtM (m : MemOp) : Statement (.sgdtM m) := fun _ _ => of_cons (cons_le (mem_le _ _)) (by decide)
theorem sidtM (m : MemOp) : Statement (.sidtM m) := fun _ _ => of_cons (cons_le (mem_le _ _)) (by decide)
theorem lgdtM (m : MemOp) : Statement (.lgdtM m) := fun _ _ => of_cons (cons_le (mem_le _ _)) (by decide)
theorem lidtM (m : MemOp) : Statement (.lidtM m) := fun _ _ => of_cons (cons_le (mem_le _ _)) (by decide)
theorem smswRm16 (d : RM) : Statement (.smswRm16 d) := fun _ _ => of_cons (cons_le (rm_le _ _)) (by decide)
theorem lmswRm16 (d : RM) : Statement (.lmswRm16 d) := fun _ _ => of_cons (cons_le (rm_le _ _)) (by decide)
theorem larRRm16 (r : Reg) (m : RM) : Statement (.larRRm16 r m) := fun _ _ => of_cons (cons_le (rm_le _ _)) (by decide)
theorem lslRRm16 (r : Reg) (m : RM) : Statement (.lslRRm16 r m) := fun _ _ => of_cons (cons_le (rm_le _ _)) (by decide)
theorem clts : Statement .clts := fun _ _ => of_cons (Nat.le_refl 1) (by decide)
theorem movRCr (r : Reg) (c : CReg) : Statement (.movRCr r c) :=
  fun _ _ => of_cons (cons_le (Nat.le_refl 1)) (by decide)
theorem movCrR (c : CReg) (r : Reg) : Statement (.movCrR c r) :=
  fun _ _ => of_cons (cons_le (Nat.le_refl 1)) (by decide)
theorem movRDr (r : Reg) (n : BitVec 3) : Statement (.movRDr r n) :=
  fun _ _ => of_cons (cons_le (Nat.le_refl 1)) (by decide)
theorem movDrR (n : BitVec 3) (r : Reg) : Statement (.movDrR n r) :=
  fun _ _ => of_cons (cons_le (Nat.le_refl 1)) (by decide)
theorem arplRm16R16 (d : RM) (r : Reg) : Statement (.arplRm16R16 d r) := fun _ _ => of_cons (rm_le _ _) (by decide)
theorem cli : Statement .cli := fun _ _ => of_cons (Nat.le_refl 0) (by decide)
theorem sti : Statement .sti := fun _ _ => of_cons (Nat.le_refl 0) (by decide)
theorem fldM32 (m : MemOp) : Statement (.fldM32 m) := fun _ _ => of_cons (mem_le _ _) (by decide)
theorem fldM64 (m : MemOp) : Statement (.fldM64 m) := fun _ _ => of_cons (mem_le _ _) (by decide)
theorem fldM80 (m : MemOp) : Statement (.fldM80 m) := fun _ _ => of_cons (mem_le _ _) (by decide)
theorem fldSt (imm : BitVec 3) : Statement (.fldSt imm) := fun _ _ => of_cons (Nat.le_refl 1) (by decide)
theorem fld1 : Statement .fld1 := fun _ _ => of_cons (Nat.le_refl 1) (by decide)
theorem fldl2t : Statement .fldl2t := fun _ _ => of_cons (Nat.le_refl 1) (by decide)
theorem fldl2e : Statement .fldl2e := fun _ _ => of_cons (Nat.le_refl 1) (by decide)
theorem fldpi : Statement .fldpi := fun _ _ => of_cons (Nat.le_refl 1) (by decide)
theorem fldlg2 : Statement .fldlg2 := fun _ _ => of_cons (Nat.le_refl 1) (by decide)
theorem fldln2 : Statement .fldln2 := fun _ _ => of_cons (Nat.le_refl 1) (by decide)
theorem fldz : Statement .fldz := fun _ _ => of_cons (Nat.le_refl 1) (by decide)
theorem fstM32 (m : MemOp) : Statement (.fstM32 m) := fun _ _ => of_cons (mem_le _ _) (by decide)
theorem fstM64 (m : MemOp) : Statement (.fstM64 m) := fun _ _ => of_cons (mem_le _ _) (by decide)
theorem fstSt (imm : BitVec 3) : Statement (.fstSt imm) := fun _ _ => of_cons (Nat.le_refl 1) (by decide)
theorem fstpM32 (m : MemOp) : Statement (.fstpM32 m) := fun _ _ => of_cons (mem_le _ _) (by decide)
theorem fstpM64 (m : MemOp) : Statement (.fstpM64 m) := fun _ _ => of_cons (mem_le _ _) (by decide)
theorem fstpM80 (m : MemOp) : Statement (.fstpM80 m) := fun _ _ => of_cons (mem_le _ _) (by decide)
theorem fstpSt (imm : BitVec 3) : Statement (.fstpSt imm) := fun _ _ => of_cons (Nat.le_refl 1) (by decide)
theorem fildM16 (m : MemOp) : Statement (.fildM16 m) := fun _ _ => of_cons (mem_le _ _) (by decide)
theorem fildM32 (m : MemOp) : Statement (.fildM32 m) := fun _ _ => of_cons (mem_le _ _) (by decide)
theorem fildM64 (m : MemOp) : Statement (.fildM64 m) := fun _ _ => of_cons (mem_le _ _) (by decide)
theorem fistM16 (m : MemOp) : Statement (.fistM16 m) := fun _ _ => of_cons (mem_le _ _) (by decide)
theorem fistM32 (m : MemOp) : Statement (.fistM32 m) := fun _ _ => of_cons (mem_le _ _) (by decide)
theorem fistpM16 (m : MemOp) : Statement (.fistpM16 m) := fun _ _ => of_cons (mem_le _ _) (by decide)
theorem fistpM32 (m : MemOp) : Statement (.fistpM32 m) := fun _ _ => of_cons (mem_le _ _) (by decide)
theorem fistpM64 (m : MemOp) : Statement (.fistpM64 m) := fun _ _ => of_cons (mem_le _ _) (by decide)
theorem fbldM80 (m : MemOp) : Statement (.fbldM80 m) := fun _ _ => of_cons (mem_le _ _) (by decide)
theorem fbstpM80 (m : MemOp) : Statement (.fbstpM80 m) := fun _ _ => of_cons (mem_le _ _) (by decide)
theorem fxchSt (imm : BitVec 3) : Statement (.fxchSt imm) := fun _ _ => of_cons (Nat.le_refl 1) (by decide)
theorem faddM32 (m : MemOp) : Statement (.faddM32 m) := fun _ _ => of_cons (mem_le _ _) (by decide)
theorem faddM64 (m : MemOp) : Statement (.faddM64 m) := fun _ _ => of_cons (mem_le _ _) (by decide)
theorem faddSt0Sti (imm : BitVec 3) : Statement (.faddSt0Sti imm) := fun _ _ => of_cons (Nat.le_refl 1) (by decide)
theorem faddStiSt0 (imm : BitVec 3) : Statement (.faddStiSt0 imm) := fun _ _ => of_cons (Nat.le_refl 1) (by decide)
theorem faddpStiSt0 (imm : BitVec 3) : Statement (.faddpStiSt0 imm) := fun _ _ => of_cons (Nat.le_refl 1) (by decide)
theorem fiaddM32 (m : MemOp) : Statement (.fiaddM32 m) := fun _ _ => of_cons (mem_le _ _) (by decide)
theorem fiaddM16 (m : MemOp) : Statement (.fiaddM16 m) := fun _ _ => of_cons (mem_le _ _) (by decide)
theorem fmulM32 (m : MemOp) : Statement (.fmulM32 m) := fun _ _ => of_cons (mem_le _ _) (by decide)
theorem fmulM64 (m : MemOp) : Statement (.fmulM64 m) := fun _ _ => of_cons (mem_le _ _) (by decide)
theorem fmulSt0Sti (imm : BitVec 3) : Statement (.fmulSt0Sti imm) := fun _ _ => of_cons (Nat.le_refl 1) (by decide)
theorem fmulStiSt0 (imm : BitVec 3) : Statement (.fmulStiSt0 imm) := fun _ _ => of_cons (Nat.le_refl 1) (by decide)
theorem fmulpStiSt0 (imm : BitVec 3) : Statement (.fmulpStiSt0 imm) := fun _ _ => of_cons (Nat.le_refl 1) (by decide)
theorem fimulM32 (m : MemOp) : Statement (.fimulM32 m) := fun _ _ => of_cons (mem_le _ _) (by decide)
theorem fimulM16 (m : MemOp) : Statement (.fimulM16 m) := fun _ _ => of_cons (mem_le _ _) (by decide)
theorem fsubM32 (m : MemOp) : Statement (.fsubM32 m) := fun _ _ => of_cons (mem_le _ _) (by decide)
theorem fsubM64 (m : MemOp) : Statement (.fsubM64 m) := fun _ _ => of_cons (mem_le _ _) (by decide)
theorem fsubSt0Sti (imm : BitVec 3) : Statement (.fsubSt0Sti imm) := fun _ _ => of_cons (Nat.le_refl 1) (by decide)
theorem fsubStiSt0 (imm : BitVec 3) : Statement (.fsubStiSt0 imm) := fun _ _ => of_cons (Nat.le_refl 1) (by decide)
theorem fsubpStiSt0 (imm : BitVec 3) : Statement (.fsubpStiSt0 imm) := fun _ _ => of_cons (Nat.le_refl 1) (by decide)
theorem fisubM32 (m : MemOp) : Statement (.fisubM32 m) := fun _ _ => of_cons (mem_le _ _) (by decide)
theorem fisubM16 (m : MemOp) : Statement (.fisubM16 m) := fun _ _ => of_cons (mem_le _ _) (by decide)
theorem fsubrM32 (m : MemOp) : Statement (.fsubrM32 m) := fun _ _ => of_cons (mem_le _ _) (by decide)
theorem fsubrM64 (m : MemOp) : Statement (.fsubrM64 m) := fun _ _ => of_cons (mem_le _ _) (by decide)
theorem fsubrSt0Sti (imm : BitVec 3) : Statement (.fsubrSt0Sti imm) := fun _ _ => of_cons (Nat.le_refl 1) (by decide)
theorem fsubrStiSt0 (imm : BitVec 3) : Statement (.fsubrStiSt0 imm) := fun _ _ => of_cons (Nat.le_refl 1) (by decide)
theorem fsubrpStiSt0 (imm : BitVec 3) : Statement (.fsubrpStiSt0 imm) := fun _ _ => of_cons (Nat.le_refl 1) (by decide)
theorem fisubrM32 (m : MemOp) : Statement (.fisubrM32 m) := fun _ _ => of_cons (mem_le _ _) (by decide)
theorem fisubrM16 (m : MemOp) : Statement (.fisubrM16 m) := fun _ _ => of_cons (mem_le _ _) (by decide)
theorem fdivM32 (m : MemOp) : Statement (.fdivM32 m) := fun _ _ => of_cons (mem_le _ _) (by decide)
theorem fdivM64 (m : MemOp) : Statement (.fdivM64 m) := fun _ _ => of_cons (mem_le _ _) (by decide)
theorem fdivSt0Sti (imm : BitVec 3) : Statement (.fdivSt0Sti imm) := fun _ _ => of_cons (Nat.le_refl 1) (by decide)
theorem fdivStiSt0 (imm : BitVec 3) : Statement (.fdivStiSt0 imm) := fun _ _ => of_cons (Nat.le_refl 1) (by decide)
theorem fdivpStiSt0 (imm : BitVec 3) : Statement (.fdivpStiSt0 imm) := fun _ _ => of_cons (Nat.le_refl 1) (by decide)
theorem fidivM32 (m : MemOp) : Statement (.fidivM32 m) := fun _ _ => of_cons (mem_le _ _) (by decide)
theorem fidivM16 (m : MemOp) : Statement (.fidivM16 m) := fun _ _ => of_cons (mem_le _ _) (by decide)
theorem fdivrM32 (m : MemOp) : Statement (.fdivrM32 m) := fun _ _ => of_cons (mem_le _ _) (by decide)
theorem fdivrM64 (m : MemOp) : Statement (.fdivrM64 m) := fun _ _ => of_cons (mem_le _ _) (by decide)
theorem fdivrSt0Sti (imm : BitVec 3) : Statement (.fdivrSt0Sti imm) := fun _ _ => of_cons (Nat.le_refl 1) (by decide)
theorem fdivrStiSt0 (imm : BitVec 3) : Statement (.fdivrStiSt0 imm) := fun _ _ => of_cons (Nat.le_refl 1) (by decide)
theorem fdivrpStiSt0 (imm : BitVec 3) : Statement (.fdivrpStiSt0 imm) := fun _ _ => of_cons (Nat.le_refl 1) (by decide)
theorem fidivrM32 (m : MemOp) : Statement (.fidivrM32 m) := fun _ _ => of_cons (mem_le _ _) (by decide)
theorem fidivrM16 (m : MemOp) : Statement (.fidivrM16 m) := fun _ _ => of_cons (mem_le _ _) (by decide)
theorem fsqrt : Statement .fsqrt := fun _ _ => of_cons (Nat.le_refl 1) (by decide)
theorem fscale : Statement .fscale := fun _ _ => of_cons (Nat.le_refl 1) (by decide)
theorem fprem : Statement .fprem := fun _ _ => of_cons (Nat.le_refl 1) (by decide)
theorem fprem1 : Statement .fprem1 := fun _ _ => of_cons (Nat.le_refl 1) (by decide)
theorem frndint : Statement .frndint := fun _ _ => of_cons (Nat.le_refl 1) (by decide)
theorem fxtract : Statement .fxtract := fun _ _ => of_cons (Nat.le_refl 1) (by decide)
theorem fabs : Statement .fabs := fun _ _ => of_cons (Nat.le_refl 1) (by decide)
theorem fchs : Statement .fchs := fun _ _ => of_cons (Nat.le_refl 1) (by decide)
theorem fcomM32 (m : MemOp) : Statement (.fcomM32 m) := fun _ _ => of_cons (mem_le _ _) (by decide)
theorem fcomM64 (m : MemOp) : Statement (.fcomM64 m) := fun _ _ => of_cons (mem_le _ _) (by decide)
theorem fcomSt (imm : BitVec 3) : Statement (.fcomSt imm) := fun _ _ => of_cons (Nat.le_refl 1) (by decide)
theorem fcompM32 (m : MemOp) : Statement (.fcompM32 m) := fun _ _ => of_cons (mem_le _ _) (by decide)
theorem fcompM64 (m : MemOp) : Statement (.fcompM64 m) := fun _ _ => of_cons (mem_le _ _) (by decide)
theorem fcompSt (imm : BitVec 3) : Statement (.fcompSt imm) := fun _ _ => of_cons (Nat.le_refl 1) (by decide)
theorem fcompp : Statement .fcompp := fun _ _ => of_cons (Nat.le_refl 1) (by decide)
theorem ficomM16 (m : MemOp) : Statement (.ficomM16 m) := fun _ _ => of_cons (mem_le _ _) (by decide)
theorem ficomM32 (m : MemOp) : Statement (.ficomM32 m) := fun _ _ => of_cons (mem_le _ _) (by decide)
theorem ficompM16 (m : MemOp) : Statement (.ficompM16 m) := fun _ _ => of_cons (mem_le _ _) (by decide)
theorem ficompM32 (m : MemOp) : Statement (.ficompM32 m) := fun _ _ => of_cons (mem_le _ _) (by decide)
theorem ftst : Statement .ftst := fun _ _ => of_cons (Nat.le_refl 1) (by decide)
theorem fucomSt (imm : BitVec 3) : Statement (.fucomSt imm) := fun _ _ => of_cons (Nat.le_refl 1) (by decide)
theorem fucompSt (imm : BitVec 3) : Statement (.fucompSt imm) := fun _ _ => of_cons (Nat.le_refl 1) (by decide)
theorem fucompp : Statement .fucompp := fun _ _ => of_cons (Nat.le_refl 1) (by decide)
theorem fxam : Statement .fxam := fun _ _ => of_cons (Nat.le_refl 1) (by decide)
theorem f2xm1 : Statement .f2xm1 := fun _ _ => of_cons (Nat.le_refl 1) (by decide)
theorem fyl2x : Statement .fyl2x := fun _ _ => of_cons (Nat.le_refl 1) (by decide)
theorem fyl2xp1 : Statement .fyl2xp1 := fun _ _ => of_cons (Nat.le_refl 1) (by decide)
theorem fptan : Statement .fptan := fun _ _ => of_cons (Nat.le_refl 1) (by decide)
theorem fpatan : Statement .fpatan := fun _ _ => of_cons (Nat.le_refl 1) (by decide)
theorem fsin : Statement .fsin := fun _ _ => of_cons (Nat.le_refl 1) (by decide)
theorem fcos : Statement .fcos := fun _ _ => of_cons (Nat.le_refl 1) (by decide)
theorem fsincos : Statement .fsincos := fun _ _ => of_cons (Nat.le_refl 1) (by decide)
theorem fninit : Statement .fninit := fun _ _ => of_cons (Nat.le_refl 1) (by decide)
theorem fnclex : Statement .fnclex := fun _ _ => of_cons (Nat.le_refl 1) (by decide)
theorem fldcwM16 (m : MemOp) : Statement (.fldcwM16 m) := fun _ _ => of_cons (mem_le _ _) (by decide)
theorem fnstcwM16 (m : MemOp) : Statement (.fnstcwM16 m) := fun _ _ => of_cons (mem_le _ _) (by decide)
theorem fnstswM16 (m : MemOp) : Statement (.fnstswM16 m) := fun _ _ => of_cons (mem_le _ _) (by decide)
theorem fnstswAx : Statement .fnstswAx := fun _ _ => of_cons (Nat.le_refl 1) (by decide)
theorem fldenvEnv (m : MemOp) : Statement (.fldenvEnv m) := fun _ _ => of_cons (mem_le _ _) (by decide)
theorem fnstenvEnv (m : MemOp) : Statement (.fnstenvEnv m) := fun _ _ => of_cons (mem_le _ _) (by decide)
theorem fnsaveFull (m : MemOp) : Statement (.fnsaveFull m) := fun _ _ => of_cons (mem_le _ _) (by decide)
theorem frstorFull (m : MemOp) : Statement (.frstorFull m) := fun _ _ => of_cons (mem_le _ _) (by decide)
theorem fincstp : Statement .fincstp := fun _ _ => of_cons (Nat.le_refl 1) (by decide)
theorem fdecstp : Statement .fdecstp := fun _ _ => of_cons (Nat.le_refl 1) (by decide)
theorem ffreeSt (imm : BitVec 3) : Statement (.ffreeSt imm) := fun _ _ => of_cons (Nat.le_refl 1) (by decide)
theorem fnop : Statement .fnop := fun _ _ => of_cons (Nat.le_refl 1) (by decide)
theorem feni : Statement .feni := fun _ _ => of_cons (Nat.le_refl 1) (by decide)
theorem fdisi : Statement .fdisi := fun _ _ => of_cons (Nat.le_refl 1) (by decide)
theorem fsetpm : Statement .fsetpm := fun _ _ => of_cons (Nat.le_refl 1) (by decide)
theorem repe : Statement .repe := fun _ _ => of_cons (Nat.le_refl 0) (by decide)
theorem segEs : Statement .segEs := fun _ _ => of_cons (Nat.le_refl 0) (by decide)
theorem segCs : Statement .segCs := fun _ _ => of_cons (Nat.le_refl 0) (by decide)
theorem segSs : Statement .segSs := fun _ _ => of_cons (Nat.le_refl 0) (by decide)
theorem segDs : Statement .segDs := fun _ _ => of_cons (Nat.le_refl 0) (by decide)
theorem segFs : Statement .segFs := fun _ _ => of_cons (Nat.le_refl 0) (by decide)
theorem segGs : Statement .segGs := fun _ _ => of_cons (Nat.le_refl 0) (by decide)
theorem opsize : Statement .opsize := fun _ _ => of_cons (Nat.le_refl 0) (by decide)
theorem adsize : Statement .adsize := fun _ _ => of_cons (Nat.le_refl 0) (by decide)

end Sys2Proof.Laws.Length
end

