-- ==== Sys2Proof/Laws/Stack.lean ====
section
/-!
SUPPORT. Accesses, pushes, pops and descriptor reads while paging is off and no breakpoint watches data: the conditions
under which they complete, and the bytes they reach.
-/

namespace Sys2Proof.Machine

open Claims

/-! ### Linear addresses are physical ones -/

theorem physOf_unpaged {s : State} (h : s.cr0.pg = false) (la : Word) (n : Nat) (write user : Bool) :
    physOf la n write user s = .ok (addrs la n) s := by
  unfold physOf
  rw [run_bind, run_getS]
  simp only [h, Bool.false_eq_true, if_false, run_pure]

theorem linRead_unpaged {s : State} (h : s.cr0.pg = false) (la : Word) (n : Nat) :
    linRead la n s = .ok (Memory.load s.mem (addrs la n)) s := by
  unfold linRead
  rw [bind_of_ok (physOf_unpaged h la n false false)]
  rfl

/-- A breakpoint that watches no data is met by no access. -/
theorem dataMet_quiet {d : DebugRegs} (h : d.dr7 &&& 0x11110000 = 0) (la : Word) (n : Nat) (write : Bool) {i : Nat}
    (hi : i < 4) : dataMet d la n write i = false := by
  have hb : d.dr7.getLsbD (16 + 4 * i) = false := by
    have := congrArg (fun w : Word => w.getLsbD (16 + 4 * i)) h
    have hm : (0x11110000 : Word).getLsbD (16 + 4 * i) = true := by
      rcases i with _ | _ | _ | _ | i
      · decide
      · decide
      · decide
      · decide
      · omega
    rw [BitVec.getLsbD_and, hm, Bool.and_true] at this
    simpa using this
  have hr : (bpRw d.dr7 i).getLsbD 0 = false := by simpa [bpRw] using hb
  have h3 : bpRw d.dr7 i ≠ 3 := fun e => by rw [e] at hr; exact absurd hr (by decide)
  have h1 : bpRw d.dr7 i ≠ 1 := fun e => by rw [e] at hr; exact absurd hr (by decide)
  unfold dataMet
  rw [decide_eq_false h3, decide_eq_false h1]
  simp

theorem noteAccess_quiet {s : State} (h : s.dbg.dr7 &&& 0x11110000 = 0) (la : Word) (n : Nat) (write : Bool) :
    noteAccess la n write s = .ok () s := by
  have hm := fun {i : Nat} => dataMet_quiet (i := i) h la n write
  have h1 : dataHits s.dbg la n write = 0 := by
    simp [dataHits, eachBp, dataHit, hm]
  have h2 : dataLoose s.dbg la n write = 0 := by
    simp [dataLoose, eachBp, hm]
  unfold noteAccess
  rw [run_upd, h1, h2]
  simp

/-! ### Limits -/

/-- The limit check of an access of at least one byte. -/
theorem inLimit_iff {g : SegReg} {off : Word} {n : Nat} (hn : 0 < n) : g.inLimit off n = true ↔ Within g off n := by
  have h1 := g.limit.isLt
  have h2 := off.isLt
  unfold SegReg.inLimit Claims.Within
  by_cases he : g.expandDown = true
  · simp only [he, if_true, Bool.and_eq_true, decide_eq_true_eq]
    cases g.db <;> simp
  · simp only [he, if_false, Bool.and_eq_true, decide_eq_true_eq, Bool.false_eq_true]
    omega

/-! ### The stack -/

theorem stackAccess_quiet {s : State} (h : quiet s) {g : SegReg} {off : Word} {n : Nat} (hw : g.inLimit off n = true)
    (write user : Bool) (ec : Half) :
    stackAccess g off n write user ec s = .ok (addrs (g.base + off) n) s := by
  unfold stackAccess
  rw [hw, run_bind, run_check, if_pos rfl]
  simp only
  rw [bind_of_ok (physOf_unpaged h.1 _ _ _ _), bind_of_ok (noteAccess_quiet h.2 _ _ _)]
  rfl

theorem roomFor_ok {s : State} {g : SegReg} {sp : Word} {n : Nat} {ec : Half} {k : Nat}
    (h : ∀ j, j < k → g.inLimit (below (.ofBit g.db) sp n (j + 1)) n = true) : roomFor g sp n ec k s = .ok () s := by
  induction k with
  | zero => rfl
  | succ k ih =>
    unfold roomFor
    rw [bind_of_ok (ih fun j hj => h j (by omega)), run_check, if_pos (h k (by omega))]

/-- The slots that pushes write. -/
def slotsOf (g : SegReg) (sp : Word) (n : Nat) : Nat → Nat → List (List Word)
  | _, 0 => []
  | k, m + 1 => addrs (g.base + below (.ofBit g.db) sp n (k + 1)) n :: slotsOf g sp n (k + 1) m

/-- One pushed value stored in its slot. -/
def storeSlot (g : SegReg) (sp : Word) (n : Nat) (m : Memory) (x : Nat × Nat) : Memory :=
  Memory.store m (addrs (g.base + below (.ofBit g.db) sp n (x.2 + 1)) n) x.1

theorem slotsOf_succ (g : SegReg) (sp : Word) (n k m : Nat) :
    slotsOf g sp n k (m + 1) = slotsOf g sp n k m ++ [addrs (g.base + below (.ofBit g.db) sp n (k + m + 1)) n] := by
  induction m generalizing k with
  | zero => rfl
  | succ m ih =>
    show addrs (g.base + below (.ofBit g.db) sp n (k + 1)) n :: slotsOf g sp n (k + 1) (m + 1) = _
    rw [ih (k + 1), show k + 1 + m + 1 = k + (m + 1) + 1 by omega]
    rfl

theorem pushSlot_quiet {s : State} (hq : quiet s) {g : SegReg} {sp : Word} {n : Nat} {user : Bool} {ec : Half} {k : Nat}
    (h : g.inLimit (below (.ofBit g.db) sp n k) n = true) :
    pushSlot g sp n user ec k s = .ok (addrs (g.base + below (.ofBit g.db) sp n k) n) s := stackAccess_quiet hq h _ _ _

theorem pushSlots_quiet {s : State} (hq : quiet s) {g : SegReg} {sp : Word} {n : Nat} {user : Bool} {ec : Half} {k : Nat}
    (h : ∀ j, j < k → g.inLimit (below (.ofBit g.db) sp n (j + 1)) n = true) :
    pushSlots g sp n user ec k s = .ok (slotsOf g sp n 0 k) s := by
  induction k with
  | zero => rfl
  | succ k ih =>
    unfold pushSlots
    rw [bind_of_ok (ih fun j hj => h j (by omega)), bind_of_ok (pushSlot_quiet hq (h k (by omega))),
      slotsOf_succ, Nat.zero_add]
    rfl

theorem storeSlots_ok {s : State} {g : SegReg} {sp : Word} {n k : Nat} {vs : List Nat} :
    storeSlots (slotsOf g sp n k vs.length) vs s = .ok () { s with
      mem := (vs.zipIdx k).foldl (storeSlot g sp n) s.mem } := by
  induction vs generalizing s k with
  | nil => rfl
  | cons v vs ih =>
    simp only [List.length_cons, slotsOf, storeSlots]
    rw [run_bind, run_storeAt]
    simp only
    rw [ih, List.zipIdx_cons, List.foldl_cons]
    rfl

theorem pushMem_eq (s : State) (n k : Nat) (vs : List Nat) (m : Memory) :
    pushMem s n k vs m = (vs.zipIdx k).foldl (storeSlot s.segs.ss s.sp n) m := by
  induction vs generalizing m k with
  | nil => rfl
  | cons v vs ih =>
    rw [pushMem, ih, List.zipIdx_cons, List.foldl_cons]
    rfl

theorem Room.inLimit {s : State} {n k : Nat} (hn : 0 < n) (h : Room s n k) (j : Nat) (hj : j < k) :
    s.segs.ss.inLimit (below (.ofBit s.segs.ss.db) s.sp n (j + 1)) n = true :=
  (inLimit_iff hn).mpr (h j hj)

theorem pushOn_quiet {s : State} (hq : quiet s) {g : SegReg} {sp : Word} {user : Bool} {ec : Half} {n : Nat} {vs : List Nat}
    (h : ∀ j, j < vs.length → g.inLimit (below (.ofBit g.db) sp n (j + 1)) n = true) :
    pushOn g sp user ec n vs s = .ok () { s with
      mem := (vs.zipIdx 0).foldl (storeSlot g sp n) s.mem } := by
  unfold pushOn
  rw [bind_of_ok (roomFor_ok h), bind_of_ok (pushSlots_quiet hq h)]
  exact storeSlots_ok

/-- Pushing values with room for all of them. -/
theorem pushAll_quiet {s : State} (hq : quiet s) {n : Nat} (hn : 0 < n) {vs : List Nat} (h : Room s n vs.length) :
    pushAll n vs s = .ok () (pushed s n vs) := by
  unfold pushAll
  rw [run_bind, run_getS]
  simp only
  rw [bind_of_ok (pushOn_quiet hq (Room.inLimit hn h)), run_setSp]
  unfold pushed
  rw [pushMem_eq]
  rfl

/-- Reading a stack slot. -/
theorem peek_quiet {s : State} (hq : quiet s) {k n : Nat} (hn : 0 < n) (h : Within s.segs.ss (slotAbove s k) n) :
    peek k n s = .ok (stackLoad s k n) s := by
  unfold peek
  rw [run_bind, run_getS]
  exact (bind_of_ok (stackAccess_quiet hq ((inLimit_iff hn).mpr h) _ _ _) _).trans rfl

/-! ### Descriptors -/

theorem selNull_iff (sel : Half) : selNull sel = true ↔ sel.toNat / 4 = 0 := by
  unfold selNull
  rw [decide_eq_true_eq]
  have h : sel.toNat / 4 = (sel >>> 2).toNat := by simp [Nat.shiftRight_eq_div_pow]
  rw [h]
  constructor
  · intro e
    have : sel >>> 2 = (sel &&& 0xFFFC) >>> 2 := by
      apply BitVec.eq_of_getLsbD_eq
      intro i hi
      rw [BitVec.getLsbD_ushiftRight, BitVec.getLsbD_ushiftRight, BitVec.getLsbD_and]
      have : ∀ k : Fin 16, k.val + 2 < 16 → (0xFFFC : Half).getLsbD (2 + k) = true := by decide
      by_cases hk : i + 2 < 16
      · rw [this ⟨i, hi⟩ hk, Bool.and_true]
      · rw [BitVec.getLsbD_of_ge _ _ (by omega)]
        rfl
    rw [this, e]
    rfl
  · intro e
    have e' : sel >>> 2 = 0 := BitVec.eq_of_toNat_eq e
    apply BitVec.eq_of_getLsbD_eq
    intro i hi
    rw [BitVec.getLsbD_and]
    by_cases hk : i < 2
    · have : ∀ k : Fin 2, (0xFFFC : Half).getLsbD k = false := by decide
      rw [this ⟨i, hk⟩, Bool.and_false]
      simp
    · have h2 := congrArg (fun x => x.getLsbD (i - 2)) e'
      simp only [BitVec.getLsbD_ushiftRight] at h2
      rw [show 2 + (i - 2) = i by omega] at h2
      rw [h2]
      simp

theorem readDesc_at {s : State} {sel : Half} {a : Word} (h : s.descAddr sel = some a) (hp : s.cr0.pg = false)
    (outside : M Desc) : readDesc sel outside s = .ok (BitVec.ofNat 64 (Memory.load s.mem (addrs a 8))) s := by
  unfold readDesc
  rw [run_bind, run_getS]
  simp only [h]
  rw [bind_of_ok (linRead_unpaged hp a 8)]
  rfl

/-- A segment register is loaded from an accessed descriptor. -/
theorem loadSeg_accessed {s : State} {d : Desc} (h : d.getLsbD 40 = true) (r : SReg) (sel : Half) :
    loadSeg r sel d s = .ok () { s with segs := s.segs.set r (segOf sel d) } := by
  unfold loadSeg setAccessed
  rw [h]
  rfl

theorem checkTarget_ok {s : State} {limit off : Word} (h : off ≤ limit) (ec : Half) :
    checkTarget limit off ec s = .ok () s := by
  unfold checkTarget
  rw [run_check, if_pos (by simpa using h)]

end Sys2Proof.Machine
end

