-- ==== Sys2Proof/Laws/State.lean ====
section
/-!
SUPPORT. The fields of the state after each named update, one equation for each field, and reading a register, a segment
register or one of eight after writing it.
-/

namespace Sys2Proof.Machine

/-! ### Reading after writing -/

@[simp] theorem Regs.get_set (g : Regs) (r q : Reg) (v : Word) : (g.set r v).get q = if q = r then v else g.get q := by
  cases r <;> cases q <;> rfl

@[simp] theorem Segs.get_set (g : Segs) (r q : SReg) (v : SegReg) :
    (g.set r v).get q = if q = r then v else g.get q := by
  cases r <;> cases q <;> rfl

theorem Regs.set_get (g : Regs) (r : Reg) : g.set r (g.get r) = g := by
  cases r <;> rfl

theorem Regs.set_set (g : Regs) (r : Reg) (v w : Word) : (g.set r v).set r w = g.set r w := by
  cases r <;> rfl

@[simp] theorem Oct.get_set {α : Type} (o : Oct α) (i j : BitVec 3) (v : α) :
    (o.set i v).get j = if j = i then v else o.get j := by
  have h : ∀ k : BitVec 3, k = 0 ∨ k = 1 ∨ k = 2 ∨ k = 3 ∨ k = 4 ∨ k = 5 ∨ k = 6 ∨ k = 7 := by decide
  rcases h i with rfl | rfl | rfl | rfl | rfl | rfl | rfl | rfl <;>
    rcases h j with rfl | rfl | rfl | rfl | rfl | rfl | rfl | rfl <;> rfl

/-- A 16-bit write leaves the upper half (10_state.md R42). -/
theorem withLow16_low (w : Word) (v : Half) : (withLow16 w v).setWidth 16 = v := by
  apply BitVec.eq_of_getLsbD_eq
  intro i hi
  simp [withLow16, hi]

@[simp] theorem Regs.get16_set16 (g : Regs) (r : Reg) (v : Half) : (g.set16 r v).get16 r = v := by
  unfold Regs.get16 Regs.set16
  rw [Regs.get_set, if_pos rfl, withLow16_low]

/-! ### State.reportDebug -/

@[simp] theorem State.reportDebug_regs (s : State) (b : Word) (l : BitVec 4) :
    (s.reportDebug b l).regs = s.regs := (rfl)
@[simp] theorem State.reportDebug_eip (s : State) (b : Word) (l : BitVec 4) : (s.reportDebug b l).eip = s.eip := (rfl)
@[simp] theorem State.reportDebug_flags (s : State) (b : Word) (l : BitVec 4) :
    (s.reportDebug b l).flags = s.flags := (rfl)
@[simp] theorem State.reportDebug_segs (s : State) (b : Word) (l : BitVec 4) :
    (s.reportDebug b l).segs = s.segs := (rfl)
@[simp] theorem State.reportDebug_cpl (s : State) (b : Word) (l : BitVec 4) : (s.reportDebug b l).cpl = s.cpl := (rfl)
@[simp] theorem State.reportDebug_gdtr (s : State) (b : Word) (l : BitVec 4) :
    (s.reportDebug b l).gdtr = s.gdtr := (rfl)
@[simp] theorem State.reportDebug_idtr (s : State) (b : Word) (l : BitVec 4) :
    (s.reportDebug b l).idtr = s.idtr := (rfl)
@[simp] theorem State.reportDebug_ldtr (s : State) (b : Word) (l : BitVec 4) :
    (s.reportDebug b l).ldtr = s.ldtr := (rfl)
@[simp] theorem State.reportDebug_tr (s : State) (b : Word) (l : BitVec 4) : (s.reportDebug b l).tr = s.tr := (rfl)
@[simp] theorem State.reportDebug_cr0 (s : State) (b : Word) (l : BitVec 4) : (s.reportDebug b l).cr0 = s.cr0 := (rfl)
@[simp] theorem State.reportDebug_cr2 (s : State) (b : Word) (l : BitVec 4) : (s.reportDebug b l).cr2 = s.cr2 := (rfl)
@[simp] theorem State.reportDebug_cr3 (s : State) (b : Word) (l : BitVec 4) : (s.reportDebug b l).cr3 = s.cr3 := (rfl)
@[simp] theorem State.reportDebug_dbg (s : State) (b : Word) (l : BitVec 4) :
    (s.reportDebug b l).dbg = { s.dbg with dr6 := s.dbg.dr6 ||| b ||| (Config.freeWord s.draws &&& l.setWidth 32) } := (rfl)
@[simp] theorem State.reportDebug_fpu (s : State) (b : Word) (l : BitVec 4) : (s.reportDebug b l).fpu = s.fpu := (rfl)
@[simp] theorem State.reportDebug_run (s : State) (b : Word) (l : BitVec 4) : (s.reportDebug b l).run = s.run := (rfl)
@[simp] theorem State.reportDebug_shadow (s : State) (b : Word) (l : BitVec 4) :
    (s.reportDebug b l).shadow = s.shadow := (rfl)
@[simp] theorem State.reportDebug_nmiBlocked (s : State) (b : Word) (l : BitVec 4) :
    (s.reportDebug b l).nmiBlocked = s.nmiBlocked := (rfl)
@[simp] theorem State.reportDebug_nmiPending (s : State) (b : Word) (l : BitVec 4) :
    (s.reportDebug b l).nmiPending = s.nmiPending := (rfl)
@[simp] theorem State.reportDebug_intr (s : State) (b : Word) (l : BitVec 4) :
    (s.reportDebug b l).intr = s.intr := (rfl)
@[simp] theorem State.reportDebug_resetIn (s : State) (b : Word) (l : BitVec 4) :
    (s.reportDebug b l).resetIn = s.resetIn := (rfl)
@[simp] theorem State.reportDebug_pending (s : State) (b : Word) (l : BitVec 4) :
    (s.reportDebug b l).pending = s.pending := (rfl)
@[simp] theorem State.reportDebug_tlb (s : State) (b : Word) (l : BitVec 4) : (s.reportDebug b l).tlb = s.tlb := (rfl)
@[simp] theorem State.reportDebug_mem (s : State) (b : Word) (l : BitVec 4) : (s.reportDebug b l).mem = s.mem := (rfl)
@[simp] theorem State.reportDebug_cfg (s : State) (b : Word) (l : BitVec 4) : (s.reportDebug b l).cfg = s.cfg := (rfl)
@[simp] theorem State.reportDebug_draws (s : State) (b : Word) (l : BitVec 4) :
    (s.reportDebug b l).draws = s.draws + 1 := (rfl)
@[simp] theorem State.reportDebug_io (s : State) (b : Word) (l : BitVec 4) : (s.reportDebug b l).io = s.io := (rfl)
@[simp] theorem State.reportDebug_ins (s : State) (b : Word) (l : BitVec 4) : (s.reportDebug b l).ins = s.ins := (rfl)
@[simp] theorem State.reportDebug_inRep (s : State) (b : Word) (l : BitVec 4) :
    (s.reportDebug b l).inRep = s.inRep := (rfl)

/-! ### recordExn -/

@[simp] theorem recordExn_regs (e : Exn) (s : State) :
    (recordExn e s).regs = s.regs := by
  unfold recordExn; split <;> rfl
@[simp] theorem recordExn_eip (e : Exn) (s : State) :
    (recordExn e s).eip = s.eip := by
  unfold recordExn; split <;> rfl
@[simp] theorem recordExn_flags (e : Exn) (s : State) :
    (recordExn e s).flags = s.flags := by
  unfold recordExn; split <;> rfl
@[simp] theorem recordExn_segs (e : Exn) (s : State) :
    (recordExn e s).segs = s.segs := by
  unfold recordExn; split <;> rfl
@[simp] theorem recordExn_cpl (e : Exn) (s : State) :
    (recordExn e s).cpl = s.cpl := by
  unfold recordExn; split <;> rfl
@[simp] theorem recordExn_gdtr (e : Exn) (s : State) :
    (recordExn e s).gdtr = s.gdtr := by
  unfold recordExn; split <;> rfl
@[simp] theorem recordExn_idtr (e : Exn) (s : State) :
    (recordExn e s).idtr = s.idtr := by
  unfold recordExn; split <;> rfl
@[simp] theorem recordExn_ldtr (e : Exn) (s : State) :
    (recordExn e s).ldtr = s.ldtr := by
  unfold recordExn; split <;> rfl
@[simp] theorem recordExn_tr (e : Exn) (s : State) : (recordExn e s).tr = s.tr := by
  unfold recordExn; split <;> rfl
@[simp] theorem recordExn_cr0 (e : Exn) (s : State) :
    (recordExn e s).cr0 = s.cr0 := by
  unfold recordExn; split <;> rfl
@[simp] theorem recordExn_cr2 (e : Exn) (s : State) :
    (recordExn e s).cr2 = e.cr2.getD s.cr2 := by
  unfold recordExn; split <;> rfl
@[simp] theorem recordExn_cr3 (e : Exn) (s : State) :
    (recordExn e s).cr3 = s.cr3 := by
  unfold recordExn; split <;> rfl
@[simp] theorem recordExn_fpu (e : Exn) (s : State) :
    (recordExn e s).fpu = s.fpu := by
  unfold recordExn; split <;> rfl
@[simp] theorem recordExn_run (e : Exn) (s : State) :
    (recordExn e s).run = s.run := by
  unfold recordExn; split <;> rfl
@[simp] theorem recordExn_shadow (e : Exn) (s : State) :
    (recordExn e s).shadow = s.shadow := by
  unfold recordExn; split <;> rfl
@[simp] theorem recordExn_nmiBlocked (e : Exn) (s : State) :
    (recordExn e s).nmiBlocked = s.nmiBlocked := by
  unfold recordExn; split <;> rfl
@[simp] theorem recordExn_nmiPending (e : Exn) (s : State) :
    (recordExn e s).nmiPending = s.nmiPending := by
  unfold recordExn; split <;> rfl
@[simp] theorem recordExn_intr (e : Exn) (s : State) :
    (recordExn e s).intr = s.intr := by
  unfold recordExn; split <;> rfl
@[simp] theorem recordExn_resetIn (e : Exn) (s : State) :
    (recordExn e s).resetIn = s.resetIn := by
  unfold recordExn; split <;> rfl
@[simp] theorem recordExn_pending (e : Exn) (s : State) :
    (recordExn e s).pending = s.pending := by
  unfold recordExn; split <;> rfl
@[simp] theorem recordExn_tlb (e : Exn) (s : State) :
    (recordExn e s).tlb = s.tlb := by
  unfold recordExn; split <;> rfl
@[simp] theorem recordExn_mem (e : Exn) (s : State) :
    (recordExn e s).mem = s.mem := by
  unfold recordExn; split <;> rfl
@[simp] theorem recordExn_cfg (e : Exn) (s : State) :
    (recordExn e s).cfg = s.cfg := by
  unfold recordExn; split <;> rfl
@[simp] theorem recordExn_io (e : Exn) (s : State) : (recordExn e s).io = s.io := by
  unfold recordExn; split <;> rfl
@[simp] theorem recordExn_ins (e : Exn) (s : State) :
    (recordExn e s).ins = s.ins := by
  unfold recordExn; split <;> rfl
@[simp] theorem recordExn_inRep (e : Exn) (s : State) :
    (recordExn e s).inRep = s.inRep := by
  unfold recordExn; split <;> rfl

/-! ### State.shutDown -/

@[simp] theorem State.shutDown_regs (s : State) : (s.shutDown).regs = s.regs := (rfl)
@[simp] theorem State.shutDown_eip (s : State) : (s.shutDown).eip = s.eip := (rfl)
@[simp] theorem State.shutDown_flags (s : State) : (s.shutDown).flags = s.flags := (rfl)
@[simp] theorem State.shutDown_segs (s : State) : (s.shutDown).segs = s.segs := (rfl)
@[simp] theorem State.shutDown_cpl (s : State) : (s.shutDown).cpl = s.cpl := (rfl)
@[simp] theorem State.shutDown_gdtr (s : State) : (s.shutDown).gdtr = s.gdtr := (rfl)
@[simp] theorem State.shutDown_idtr (s : State) : (s.shutDown).idtr = s.idtr := (rfl)
@[simp] theorem State.shutDown_ldtr (s : State) : (s.shutDown).ldtr = s.ldtr := (rfl)
@[simp] theorem State.shutDown_tr (s : State) : (s.shutDown).tr = s.tr := (rfl)
@[simp] theorem State.shutDown_cr0 (s : State) : (s.shutDown).cr0 = s.cr0 := (rfl)
@[simp] theorem State.shutDown_cr2 (s : State) : (s.shutDown).cr2 = s.cr2 := (rfl)
@[simp] theorem State.shutDown_cr3 (s : State) : (s.shutDown).cr3 = s.cr3 := (rfl)
@[simp] theorem State.shutDown_dbg (s : State) : (s.shutDown).dbg = s.dbg := (rfl)
@[simp] theorem State.shutDown_fpu (s : State) : (s.shutDown).fpu = s.fpu := (rfl)
@[simp] theorem State.shutDown_run (s : State) : (s.shutDown).run = .shutdown := (rfl)
@[simp] theorem State.shutDown_shadow (s : State) : (s.shutDown).shadow = .none := (rfl)
@[simp] theorem State.shutDown_nmiBlocked (s : State) : (s.shutDown).nmiBlocked = s.nmiBlocked := (rfl)
@[simp] theorem State.shutDown_nmiPending (s : State) : (s.shutDown).nmiPending = s.nmiPending := (rfl)
@[simp] theorem State.shutDown_intr (s : State) : (s.shutDown).intr = s.intr := (rfl)
@[simp] theorem State.shutDown_resetIn (s : State) : (s.shutDown).resetIn = s.resetIn := (rfl)
@[simp] theorem State.shutDown_pending (s : State) : (s.shutDown).pending = s.pending := (rfl)
@[simp] theorem State.shutDown_tlb (s : State) : (s.shutDown).tlb = s.tlb := (rfl)
@[simp] theorem State.shutDown_mem (s : State) : (s.shutDown).mem = s.mem := (rfl)
@[simp] theorem State.shutDown_cfg (s : State) : (s.shutDown).cfg = s.cfg := (rfl)
@[simp] theorem State.shutDown_draws (s : State) : (s.shutDown).draws = s.draws := (rfl)
@[simp] theorem State.shutDown_io (s : State) : (s.shutDown).io = s.io := (rfl)
@[simp] theorem State.shutDown_ins (s : State) : (s.shutDown).ins = { s.ins with event := .fault } := (rfl)
@[simp] theorem State.shutDown_inRep (s : State) : (s.shutDown).inRep = s.inRep := (rfl)

/-! ### State.starting -/

@[simp] theorem State.starting_regs (s : State) : (s.starting).regs = s.regs := (rfl)
@[simp] theorem State.starting_eip (s : State) : (s.starting).eip = s.eip := (rfl)
@[simp] theorem State.starting_flags (s : State) : (s.starting).flags = s.flags := (rfl)
@[simp] theorem State.starting_segs (s : State) : (s.starting).segs = s.segs := (rfl)
@[simp] theorem State.starting_cpl (s : State) : (s.starting).cpl = s.cpl := (rfl)
@[simp] theorem State.starting_gdtr (s : State) : (s.starting).gdtr = s.gdtr := (rfl)
@[simp] theorem State.starting_idtr (s : State) : (s.starting).idtr = s.idtr := (rfl)
@[simp] theorem State.starting_ldtr (s : State) : (s.starting).ldtr = s.ldtr := (rfl)
@[simp] theorem State.starting_tr (s : State) : (s.starting).tr = s.tr := (rfl)
@[simp] theorem State.starting_cr0 (s : State) : (s.starting).cr0 = s.cr0 := (rfl)
@[simp] theorem State.starting_cr2 (s : State) : (s.starting).cr2 = s.cr2 := (rfl)
@[simp] theorem State.starting_cr3 (s : State) : (s.starting).cr3 = s.cr3 := (rfl)
@[simp] theorem State.starting_dbg (s : State) : (s.starting).dbg = s.dbg := (rfl)
@[simp] theorem State.starting_fpu (s : State) : (s.starting).fpu = s.fpu := (rfl)
@[simp] theorem State.starting_run (s : State) : (s.starting).run = s.run := (rfl)
@[simp] theorem State.starting_shadow (s : State) : (s.starting).shadow = .none := (rfl)
@[simp] theorem State.starting_nmiBlocked (s : State) : (s.starting).nmiBlocked = s.nmiBlocked := (rfl)
@[simp] theorem State.starting_nmiPending (s : State) : (s.starting).nmiPending = s.nmiPending := (rfl)
@[simp] theorem State.starting_intr (s : State) : (s.starting).intr = s.intr := (rfl)
@[simp] theorem State.starting_resetIn (s : State) : (s.starting).resetIn = s.resetIn := (rfl)
@[simp] theorem State.starting_pending (s : State) : (s.starting).pending = s.pending := (rfl)
@[simp] theorem State.starting_tlb (s : State) : (s.starting).tlb = s.tlb := (rfl)
@[simp] theorem State.starting_mem (s : State) : (s.starting).mem = s.mem := (rfl)
@[simp] theorem State.starting_cfg (s : State) : (s.starting).cfg = s.cfg := (rfl)
@[simp] theorem State.starting_draws (s : State) : (s.starting).draws = s.draws := (rfl)
@[simp] theorem State.starting_io (s : State) : (s.starting).io = s.io := (rfl)
@[simp] theorem State.starting_ins (s : State) : (s.starting).ins =
    { Ins.none with curEip := s.eip, loose := s.execLoose } := (rfl)
@[simp] theorem State.starting_inRep (s : State) : (s.starting).inRep = false := (rfl)

/-! ### rollback -/

@[simp] theorem rollback_regs (s t : State) : (rollback s t).regs = s.regs := (rfl)
@[simp] theorem rollback_eip (s t : State) : (rollback s t).eip = s.eip := (rfl)
@[simp] theorem rollback_flags (s t : State) : (rollback s t).flags = s.flags := (rfl)
@[simp] theorem rollback_segs (s t : State) : (rollback s t).segs = s.segs := (rfl)
@[simp] theorem rollback_cpl (s t : State) : (rollback s t).cpl = s.cpl := (rfl)
@[simp] theorem rollback_gdtr (s t : State) : (rollback s t).gdtr = s.gdtr := (rfl)
@[simp] theorem rollback_idtr (s t : State) : (rollback s t).idtr = s.idtr := (rfl)
@[simp] theorem rollback_ldtr (s t : State) : (rollback s t).ldtr = s.ldtr := (rfl)
@[simp] theorem rollback_tr (s t : State) : (rollback s t).tr = s.tr := (rfl)
@[simp] theorem rollback_cr0 (s t : State) : (rollback s t).cr0 = s.cr0 := (rfl)
@[simp] theorem rollback_cr2 (s t : State) : (rollback s t).cr2 = s.cr2 := (rfl)
@[simp] theorem rollback_cr3 (s t : State) : (rollback s t).cr3 = s.cr3 := (rfl)
@[simp] theorem rollback_dbg (s t : State) : (rollback s t).dbg = s.dbg := (rfl)
@[simp] theorem rollback_fpu (s t : State) : (rollback s t).fpu = s.fpu := (rfl)
@[simp] theorem rollback_run (s t : State) : (rollback s t).run = s.run := (rfl)
@[simp] theorem rollback_shadow (s t : State) : (rollback s t).shadow = s.shadow := (rfl)
@[simp] theorem rollback_nmiBlocked (s t : State) : (rollback s t).nmiBlocked = t.nmiBlocked := (rfl)
@[simp] theorem rollback_nmiPending (s t : State) : (rollback s t).nmiPending = s.nmiPending := (rfl)
@[simp] theorem rollback_intr (s t : State) : (rollback s t).intr = s.intr := (rfl)
@[simp] theorem rollback_resetIn (s t : State) : (rollback s t).resetIn = s.resetIn := (rfl)
@[simp] theorem rollback_pending (s t : State) : (rollback s t).pending = s.pending := (rfl)
@[simp] theorem rollback_tlb (s t : State) : (rollback s t).tlb = t.tlb := (rfl)
@[simp] theorem rollback_mem (s t : State) : (rollback s t).mem = replay t.ins.sysLog s.mem := (rfl)
@[simp] theorem rollback_cfg (s t : State) : (rollback s t).cfg = s.cfg := (rfl)
@[simp] theorem rollback_draws (s t : State) : (rollback s t).draws = t.draws := (rfl)
@[simp] theorem rollback_io (s t : State) : (rollback s t).io = t.io := (rfl)
@[simp] theorem rollback_ins (s t : State) : (rollback s t).ins = { s.ins with sysLog := t.ins.sysLog } := (rfl)
@[simp] theorem rollback_inRep (s t : State) : (rollback s t).inRep = s.inRep := (rfl)

/-! ### settle -/

@[simp] theorem settle_regs (s t : State) : (settle s t).regs = t.regs := (rfl)
@[simp] theorem settle_eip (s t : State) : (settle s t).eip = t.eip := (rfl)
@[simp] theorem settle_segs (s t : State) : (settle s t).segs = t.segs := (rfl)
@[simp] theorem settle_cpl (s t : State) : (settle s t).cpl = t.cpl := (rfl)
@[simp] theorem settle_gdtr (s t : State) : (settle s t).gdtr = t.gdtr := (rfl)
@[simp] theorem settle_idtr (s t : State) : (settle s t).idtr = t.idtr := (rfl)
@[simp] theorem settle_ldtr (s t : State) : (settle s t).ldtr = t.ldtr := (rfl)
@[simp] theorem settle_tr (s t : State) : (settle s t).tr = t.tr := (rfl)
@[simp] theorem settle_cr0 (s t : State) : (settle s t).cr0 = t.cr0 := (rfl)
@[simp] theorem settle_cr2 (s t : State) : (settle s t).cr2 = t.cr2 := (rfl)
@[simp] theorem settle_cr3 (s t : State) : (settle s t).cr3 = t.cr3 := (rfl)
@[simp] theorem settle_dbg (s t : State) : (settle s t).dbg = t.dbg := (rfl)
@[simp] theorem settle_fpu (s t : State) : (settle s t).fpu = t.fpu := (rfl)
@[simp] theorem settle_run (s t : State) : (settle s t).run = t.run := (rfl)
@[simp] theorem settle_nmiBlocked (s t : State) : (settle s t).nmiBlocked = t.nmiBlocked := (rfl)
@[simp] theorem settle_nmiPending (s t : State) : (settle s t).nmiPending = t.nmiPending := (rfl)
@[simp] theorem settle_intr (s t : State) : (settle s t).intr = t.intr := (rfl)
@[simp] theorem settle_resetIn (s t : State) : (settle s t).resetIn = t.resetIn := (rfl)
@[simp] theorem settle_tlb (s t : State) : (settle s t).tlb = t.tlb := (rfl)
@[simp] theorem settle_mem (s t : State) : (settle s t).mem = t.mem := (rfl)
@[simp] theorem settle_cfg (s t : State) : (settle s t).cfg = t.cfg := (rfl)
@[simp] theorem settle_draws (s t : State) : (settle s t).draws = t.draws := (rfl)
@[simp] theorem settle_io (s t : State) : (settle s t).io = t.io := (rfl)
@[simp] theorem settle_ins (s t : State) : (settle s t).ins = .none := (rfl)
@[simp] theorem settle_inRep (s t : State) : (settle s t).inRep = t.inRep := (rfl)

/-! ### State.delivered -/

@[simp] theorem State.delivered_regs (s : State) : (s.delivered).regs = s.regs := (rfl)
@[simp] theorem State.delivered_eip (s : State) : (s.delivered).eip = s.eip := (rfl)
@[simp] theorem State.delivered_flags (s : State) : (s.delivered).flags = s.flags := (rfl)
@[simp] theorem State.delivered_segs (s : State) : (s.delivered).segs = s.segs := (rfl)
@[simp] theorem State.delivered_cpl (s : State) : (s.delivered).cpl = s.cpl := (rfl)
@[simp] theorem State.delivered_gdtr (s : State) : (s.delivered).gdtr = s.gdtr := (rfl)
@[simp] theorem State.delivered_idtr (s : State) : (s.delivered).idtr = s.idtr := (rfl)
@[simp] theorem State.delivered_ldtr (s : State) : (s.delivered).ldtr = s.ldtr := (rfl)
@[simp] theorem State.delivered_tr (s : State) : (s.delivered).tr = s.tr := (rfl)
@[simp] theorem State.delivered_cr0 (s : State) : (s.delivered).cr0 = s.cr0 := (rfl)
@[simp] theorem State.delivered_cr2 (s : State) : (s.delivered).cr2 = s.cr2 := (rfl)
@[simp] theorem State.delivered_cr3 (s : State) : (s.delivered).cr3 = s.cr3 := (rfl)
@[simp] theorem State.delivered_dbg (s : State) : (s.delivered).dbg = s.dbg := (rfl)
@[simp] theorem State.delivered_fpu (s : State) : (s.delivered).fpu = s.fpu := (rfl)
@[simp] theorem State.delivered_run (s : State) : (s.delivered).run = s.run := (rfl)
@[simp] theorem State.delivered_shadow (s : State) : (s.delivered).shadow = s.shadow := (rfl)
@[simp] theorem State.delivered_nmiBlocked (s : State) : (s.delivered).nmiBlocked = s.nmiBlocked := (rfl)
@[simp] theorem State.delivered_nmiPending (s : State) : (s.delivered).nmiPending = s.nmiPending := (rfl)
@[simp] theorem State.delivered_intr (s : State) : (s.delivered).intr = s.intr := (rfl)
@[simp] theorem State.delivered_resetIn (s : State) : (s.delivered).resetIn = s.resetIn := (rfl)
@[simp] theorem State.delivered_tlb (s : State) : (s.delivered).tlb = s.tlb := (rfl)
@[simp] theorem State.delivered_mem (s : State) : (s.delivered).mem = s.mem := (rfl)
@[simp] theorem State.delivered_cfg (s : State) : (s.delivered).cfg = s.cfg := (rfl)
@[simp] theorem State.delivered_draws (s : State) : (s.delivered).draws = s.draws := (rfl)
@[simp] theorem State.delivered_io (s : State) : (s.delivered).io = s.io := (rfl)
@[simp] theorem State.delivered_ins (s : State) : (s.delivered).ins = .none := (rfl)
@[simp] theorem State.delivered_inRep (s : State) : (s.delivered).inRep = s.inRep := (rfl)

/-! ### State.resetBy -/

@[simp] theorem State.resetBy_eip (p : ResetParams) (s : State) : (s.resetBy p).eip = 0xFFF0 := (rfl)
@[simp] theorem State.resetBy_flags (p : ResetParams) (s : State) : (s.resetBy p).flags = State.reset.flags := (rfl)
@[simp] theorem State.resetBy_segs (p : ResetParams) (s : State) : (s.resetBy p).segs = State.reset.segs := (rfl)
@[simp] theorem State.resetBy_cpl (p : ResetParams) (s : State) : (s.resetBy p).cpl = 0 := (rfl)
@[simp] theorem State.resetBy_gdtr (p : ResetParams) (s : State) : (s.resetBy p).gdtr = p.gdtr := (rfl)
@[simp] theorem State.resetBy_idtr (p : ResetParams) (s : State) : (s.resetBy p).idtr = { base := 0, limit := 0x3FF } := (rfl)
@[simp] theorem State.resetBy_ldtr (p : ResetParams) (s : State) : (s.resetBy p).ldtr = { p.ldtr with valid := false } := (rfl)
@[simp] theorem State.resetBy_tr (p : ResetParams) (s : State) : (s.resetBy p).tr = { p.tr with valid := false } := (rfl)
@[simp] theorem State.resetBy_cr0 (p : ResetParams) (s : State) : (s.resetBy p).cr0 = { State.reset.cr0 with et := p.et } := (rfl)
@[simp] theorem State.resetBy_cr2 (p : ResetParams) (s : State) : (s.resetBy p).cr2 = p.cr2 := (rfl)
@[simp] theorem State.resetBy_cr3 (p : ResetParams) (s : State) : (s.resetBy p).cr3 = p.cr3 &&& 0xFFFFF000 := (rfl)
@[simp] theorem State.resetBy_fpu (p : ResetParams) (s : State) : (s.resetBy p).fpu = { Fpu.reset with fpr := p.fpr } := (rfl)
@[simp] theorem State.resetBy_run (p : ResetParams) (s : State) : (s.resetBy p).run = .running := (rfl)
@[simp] theorem State.resetBy_shadow (p : ResetParams) (s : State) : (s.resetBy p).shadow = .none := (rfl)
@[simp] theorem State.resetBy_nmiBlocked (p : ResetParams) (s : State) : (s.resetBy p).nmiBlocked = false := (rfl)
@[simp] theorem State.resetBy_nmiPending (p : ResetParams) (s : State) : (s.resetBy p).nmiPending = false := (rfl)
@[simp] theorem State.resetBy_intr (p : ResetParams) (s : State) : (s.resetBy p).intr = s.intr := (rfl)
@[simp] theorem State.resetBy_resetIn (p : ResetParams) (s : State) : (s.resetBy p).resetIn = none := (rfl)
@[simp] theorem State.resetBy_pending (p : ResetParams) (s : State) : (s.resetBy p).pending = .none := (rfl)
@[simp] theorem State.resetBy_tlb (p : ResetParams) (s : State) : (s.resetBy p).tlb = [] := (rfl)
@[simp] theorem State.resetBy_mem (p : ResetParams) (s : State) : (s.resetBy p).mem = s.mem := (rfl)
@[simp] theorem State.resetBy_cfg (p : ResetParams) (s : State) : (s.resetBy p).cfg = s.cfg := (rfl)
@[simp] theorem State.resetBy_draws (p : ResetParams) (s : State) : (s.resetBy p).draws = s.draws := (rfl)
@[simp] theorem State.resetBy_io (p : ResetParams) (s : State) : (s.resetBy p).io = s.io := (rfl)
@[simp] theorem State.resetBy_ins (p : ResetParams) (s : State) : (s.resetBy p).ins = .none := (rfl)
@[simp] theorem State.resetBy_inRep (p : ResetParams) (s : State) : (s.resetBy p).inRep = false := (rfl)

/-- Reset with the default arguments, of a machine with nothing in memory, is `State.reset` (70_reset_and_hazards.md R801). -/
theorem reset_eq : State.reset.resetBy (.default State.reset.cfg) = State.reset := by decide

/-! ### Flags.szp -/

@[simp] theorem Flags.szp_cf {n : Nat} (f : Flags) (r : BitVec n) : (f.szp r).cf = f.cf := (rfl)
@[simp] theorem Flags.szp_pf {n : Nat} (f : Flags) (r : BitVec n) : (f.szp r).pf = parity r := (rfl)
@[simp] theorem Flags.szp_af {n : Nat} (f : Flags) (r : BitVec n) : (f.szp r).af = f.af := (rfl)
@[simp] theorem Flags.szp_zf {n : Nat} (f : Flags) (r : BitVec n) : (f.szp r).zf = decide (r = 0) := (rfl)
@[simp] theorem Flags.szp_sf {n : Nat} (f : Flags) (r : BitVec n) : (f.szp r).sf = r.msb := (rfl)
@[simp] theorem Flags.szp_tf {n : Nat} (f : Flags) (r : BitVec n) : (f.szp r).tf = f.tf := (rfl)
@[simp] theorem Flags.szp_ifl {n : Nat} (f : Flags) (r : BitVec n) : (f.szp r).ifl = f.ifl := (rfl)
@[simp] theorem Flags.szp_df {n : Nat} (f : Flags) (r : BitVec n) : (f.szp r).df = f.df := (rfl)
@[simp] theorem Flags.szp_of {n : Nat} (f : Flags) (r : BitVec n) : (f.szp r).of = f.of := (rfl)
@[simp] theorem Flags.szp_iopl {n : Nat} (f : Flags) (r : BitVec n) : (f.szp r).iopl = f.iopl := (rfl)
@[simp] theorem Flags.szp_nt {n : Nat} (f : Flags) (r : BitVec n) : (f.szp r).nt = f.nt := (rfl)
@[simp] theorem Flags.szp_rf {n : Nat} (f : Flags) (r : BitVec n) : (f.szp r).rf = f.rf := (rfl)
@[simp] theorem Flags.szp_vm {n : Nat} (f : Flags) (r : BitVec n) : (f.szp r).vm = f.vm := (rfl)

/-! ### Flags.afterAdd -/

@[simp] theorem Flags.afterAdd_cf {n : Nat} (f : Flags) (a b : BitVec n) (c : Bool) (r : BitVec n) :
    (f.afterAdd a b c r).cf = cfAdd a b c := (rfl)
@[simp] theorem Flags.afterAdd_pf {n : Nat} (f : Flags) (a b : BitVec n) (c : Bool) (r : BitVec n) :
    (f.afterAdd a b c r).pf = parity r := (rfl)
@[simp] theorem Flags.afterAdd_af {n : Nat} (f : Flags) (a b : BitVec n) (c : Bool) (r : BitVec n) :
    (f.afterAdd a b c r).af = afAdd a b c := (rfl)
@[simp] theorem Flags.afterAdd_zf {n : Nat} (f : Flags) (a b : BitVec n) (c : Bool) (r : BitVec n) :
    (f.afterAdd a b c r).zf = decide (r = 0) := (rfl)
@[simp] theorem Flags.afterAdd_sf {n : Nat} (f : Flags) (a b : BitVec n) (c : Bool) (r : BitVec n) :
    (f.afterAdd a b c r).sf = r.msb := (rfl)
@[simp] theorem Flags.afterAdd_tf {n : Nat} (f : Flags) (a b : BitVec n) (c : Bool) (r : BitVec n) :
    (f.afterAdd a b c r).tf = f.tf := (rfl)
@[simp] theorem Flags.afterAdd_ifl {n : Nat} (f : Flags) (a b : BitVec n) (c : Bool) (r : BitVec n) :
    (f.afterAdd a b c r).ifl = f.ifl := (rfl)
@[simp] theorem Flags.afterAdd_df {n : Nat} (f : Flags) (a b : BitVec n) (c : Bool) (r : BitVec n) :
    (f.afterAdd a b c r).df = f.df := (rfl)
@[simp] theorem Flags.afterAdd_of {n : Nat} (f : Flags) (a b : BitVec n) (c : Bool) (r : BitVec n) :
    (f.afterAdd a b c r).of = ofAdd a b r := (rfl)
@[simp] theorem Flags.afterAdd_iopl {n : Nat} (f : Flags) (a b : BitVec n) (c : Bool) (r : BitVec n) :
    (f.afterAdd a b c r).iopl = f.iopl := (rfl)
@[simp] theorem Flags.afterAdd_nt {n : Nat} (f : Flags) (a b : BitVec n) (c : Bool) (r : BitVec n) :
    (f.afterAdd a b c r).nt = f.nt := (rfl)
@[simp] theorem Flags.afterAdd_rf {n : Nat} (f : Flags) (a b : BitVec n) (c : Bool) (r : BitVec n) :
    (f.afterAdd a b c r).rf = f.rf := (rfl)
@[simp] theorem Flags.afterAdd_vm {n : Nat} (f : Flags) (a b : BitVec n) (c : Bool) (r : BitVec n) :
    (f.afterAdd a b c r).vm = f.vm := (rfl)

/-! ### Flags.afterSub -/

@[simp] theorem Flags.afterSub_cf {n : Nat} (f : Flags) (a b : BitVec n) (c : Bool) (r : BitVec n) :
    (f.afterSub a b c r).cf = cfSub a b c := (rfl)
@[simp] theorem Flags.afterSub_pf {n : Nat} (f : Flags) (a b : BitVec n) (c : Bool) (r : BitVec n) :
    (f.afterSub a b c r).pf = parity r := (rfl)
@[simp] theorem Flags.afterSub_af {n : Nat} (f : Flags) (a b : BitVec n) (c : Bool) (r : BitVec n) :
    (f.afterSub a b c r).af = afSub a b c := (rfl)
@[simp] theorem Flags.afterSub_zf {n : Nat} (f : Flags) (a b : BitVec n) (c : Bool) (r : BitVec n) :
    (f.afterSub a b c r).zf = decide (r = 0) := (rfl)
@[simp] theorem Flags.afterSub_sf {n : Nat} (f : Flags) (a b : BitVec n) (c : Bool) (r : BitVec n) :
    (f.afterSub a b c r).sf = r.msb := (rfl)
@[simp] theorem Flags.afterSub_tf {n : Nat} (f : Flags) (a b : BitVec n) (c : Bool) (r : BitVec n) :
    (f.afterSub a b c r).tf = f.tf := (rfl)
@[simp] theorem Flags.afterSub_ifl {n : Nat} (f : Flags) (a b : BitVec n) (c : Bool) (r : BitVec n) :
    (f.afterSub a b c r).ifl = f.ifl := (rfl)
@[simp] theorem Flags.afterSub_df {n : Nat} (f : Flags) (a b : BitVec n) (c : Bool) (r : BitVec n) :
    (f.afterSub a b c r).df = f.df := (rfl)
@[simp] theorem Flags.afterSub_of {n : Nat} (f : Flags) (a b : BitVec n) (c : Bool) (r : BitVec n) :
    (f.afterSub a b c r).of = ofSub a b r := (rfl)
@[simp] theorem Flags.afterSub_iopl {n : Nat} (f : Flags) (a b : BitVec n) (c : Bool) (r : BitVec n) :
    (f.afterSub a b c r).iopl = f.iopl := (rfl)
@[simp] theorem Flags.afterSub_nt {n : Nat} (f : Flags) (a b : BitVec n) (c : Bool) (r : BitVec n) :
    (f.afterSub a b c r).nt = f.nt := (rfl)
@[simp] theorem Flags.afterSub_rf {n : Nat} (f : Flags) (a b : BitVec n) (c : Bool) (r : BitVec n) :
    (f.afterSub a b c r).rf = f.rf := (rfl)
@[simp] theorem Flags.afterSub_vm {n : Nat} (f : Flags) (a b : BitVec n) (c : Bool) (r : BitVec n) :
    (f.afterSub a b c r).vm = f.vm := (rfl)

/-! ### Flags.afterLogic -/

@[simp] theorem Flags.afterLogic_cf {n : Nat} (f : Flags) (r : BitVec n) (u : Bool) :
    (f.afterLogic r u).cf = false := (rfl)
@[simp] theorem Flags.afterLogic_pf {n : Nat} (f : Flags) (r : BitVec n) (u : Bool) :
    (f.afterLogic r u).pf = parity r := (rfl)
@[simp] theorem Flags.afterLogic_af {n : Nat} (f : Flags) (r : BitVec n) (u : Bool) : (f.afterLogic r u).af = u := (rfl)
@[simp] theorem Flags.afterLogic_zf {n : Nat} (f : Flags) (r : BitVec n) (u : Bool) :
    (f.afterLogic r u).zf = decide (r = 0) := (rfl)
@[simp] theorem Flags.afterLogic_sf {n : Nat} (f : Flags) (r : BitVec n) (u : Bool) :
    (f.afterLogic r u).sf = r.msb := (rfl)
@[simp] theorem Flags.afterLogic_tf {n : Nat} (f : Flags) (r : BitVec n) (u : Bool) :
    (f.afterLogic r u).tf = f.tf := (rfl)
@[simp] theorem Flags.afterLogic_ifl {n : Nat} (f : Flags) (r : BitVec n) (u : Bool) :
    (f.afterLogic r u).ifl = f.ifl := (rfl)
@[simp] theorem Flags.afterLogic_df {n : Nat} (f : Flags) (r : BitVec n) (u : Bool) :
    (f.afterLogic r u).df = f.df := (rfl)
@[simp] theorem Flags.afterLogic_of {n : Nat} (f : Flags) (r : BitVec n) (u : Bool) :
    (f.afterLogic r u).of = false := (rfl)
@[simp] theorem Flags.afterLogic_iopl {n : Nat} (f : Flags) (r : BitVec n) (u : Bool) :
    (f.afterLogic r u).iopl = f.iopl := (rfl)
@[simp] theorem Flags.afterLogic_nt {n : Nat} (f : Flags) (r : BitVec n) (u : Bool) :
    (f.afterLogic r u).nt = f.nt := (rfl)
@[simp] theorem Flags.afterLogic_rf {n : Nat} (f : Flags) (r : BitVec n) (u : Bool) :
    (f.afterLogic r u).rf = f.rf := (rfl)
@[simp] theorem Flags.afterLogic_vm {n : Nat} (f : Flags) (r : BitVec n) (u : Bool) :
    (f.afterLogic r u).vm = f.vm := (rfl)

/-! ### Flags.entered -/

@[simp] theorem Flags.entered_cf (f : Flags) (g : Bool) : (f.entered g).cf = f.cf := (rfl)
@[simp] theorem Flags.entered_pf (f : Flags) (g : Bool) : (f.entered g).pf = f.pf := (rfl)
@[simp] theorem Flags.entered_af (f : Flags) (g : Bool) : (f.entered g).af = f.af := (rfl)
@[simp] theorem Flags.entered_zf (f : Flags) (g : Bool) : (f.entered g).zf = f.zf := (rfl)
@[simp] theorem Flags.entered_sf (f : Flags) (g : Bool) : (f.entered g).sf = f.sf := (rfl)
@[simp] theorem Flags.entered_tf (f : Flags) (g : Bool) : (f.entered g).tf = false := (rfl)
@[simp] theorem Flags.entered_ifl (f : Flags) (g : Bool) : (f.entered g).ifl = (f.ifl && !g) := (rfl)
@[simp] theorem Flags.entered_df (f : Flags) (g : Bool) : (f.entered g).df = f.df := (rfl)
@[simp] theorem Flags.entered_of (f : Flags) (g : Bool) : (f.entered g).of = f.of := (rfl)
@[simp] theorem Flags.entered_iopl (f : Flags) (g : Bool) : (f.entered g).iopl = f.iopl := (rfl)
@[simp] theorem Flags.entered_nt (f : Flags) (g : Bool) : (f.entered g).nt = false := (rfl)
@[simp] theorem Flags.entered_rf (f : Flags) (g : Bool) : (f.entered g).rf = false := (rfl)
@[simp] theorem Flags.entered_vm (f : Flags) (g : Bool) : (f.entered g).vm = false := (rfl)

/-! ### retFlags -/

@[simp] theorem retFlags_cf (rf : Bool) (f : Flags) : (retFlags rf f).cf = f.cf := (rfl)
@[simp] theorem retFlags_pf (rf : Bool) (f : Flags) : (retFlags rf f).pf = f.pf := (rfl)
@[simp] theorem retFlags_af (rf : Bool) (f : Flags) : (retFlags rf f).af = f.af := (rfl)
@[simp] theorem retFlags_zf (rf : Bool) (f : Flags) : (retFlags rf f).zf = f.zf := (rfl)
@[simp] theorem retFlags_sf (rf : Bool) (f : Flags) : (retFlags rf f).sf = f.sf := (rfl)
@[simp] theorem retFlags_tf (rf : Bool) (f : Flags) : (retFlags rf f).tf = f.tf := (rfl)
@[simp] theorem retFlags_ifl (rf : Bool) (f : Flags) : (retFlags rf f).ifl = f.ifl := (rfl)
@[simp] theorem retFlags_df (rf : Bool) (f : Flags) : (retFlags rf f).df = f.df := (rfl)
@[simp] theorem retFlags_of (rf : Bool) (f : Flags) : (retFlags rf f).of = f.of := (rfl)
@[simp] theorem retFlags_iopl (rf : Bool) (f : Flags) : (retFlags rf f).iopl = f.iopl := (rfl)
@[simp] theorem retFlags_nt (rf : Bool) (f : Flags) : (retFlags rf f).nt = f.nt := (rfl)
@[simp] theorem retFlags_rf (rf : Bool) (f : Flags) : (retFlags rf f).rf = (f.rf || rf) := (rfl)
@[simp] theorem retFlags_vm (rf : Bool) (f : Flags) : (retFlags rf f).vm = f.vm := (rfl)

/-! ### SegReg.realLoad -/

@[simp] theorem SegReg.realLoad_selector (g : SegReg) (sel : Half) : (g.realLoad sel).selector = sel := (rfl)
@[simp] theorem SegReg.realLoad_valid (g : SegReg) (sel : Half) : (g.realLoad sel).valid = g.valid := (rfl)
@[simp] theorem SegReg.realLoad_base (g : SegReg) (sel : Half) : (g.realLoad sel).base = sel.setWidth 32 <<< 4 := (rfl)
@[simp] theorem SegReg.realLoad_limit (g : SegReg) (sel : Half) : (g.realLoad sel).limit = g.limit := (rfl)
@[simp] theorem SegReg.realLoad_type (g : SegReg) (sel : Half) : (g.realLoad sel).type = g.type := (rfl)
@[simp] theorem SegReg.realLoad_s (g : SegReg) (sel : Half) : (g.realLoad sel).s = g.s := (rfl)
@[simp] theorem SegReg.realLoad_dpl (g : SegReg) (sel : Half) : (g.realLoad sel).dpl = g.dpl := (rfl)
@[simp] theorem SegReg.realLoad_p (g : SegReg) (sel : Half) : (g.realLoad sel).p = g.p := (rfl)
@[simp] theorem SegReg.realLoad_db (g : SegReg) (sel : Half) : (g.realLoad sel).db = g.db := (rfl)
@[simp] theorem SegReg.realLoad_g (g : SegReg) (sel : Half) : (g.realLoad sel).g = g.g := (rfl)

/-! ### SegReg.nulled -/

@[simp] theorem SegReg.nulled_selector (g : SegReg) (sel : Half) : (g.nulled sel).selector = sel := (rfl)
@[simp] theorem SegReg.nulled_valid (g : SegReg) (sel : Half) : (g.nulled sel).valid = false := (rfl)
@[simp] theorem SegReg.nulled_base (g : SegReg) (sel : Half) : (g.nulled sel).base = g.base := (rfl)
@[simp] theorem SegReg.nulled_limit (g : SegReg) (sel : Half) : (g.nulled sel).limit = g.limit := (rfl)
@[simp] theorem SegReg.nulled_type (g : SegReg) (sel : Half) : (g.nulled sel).type = g.type := (rfl)
@[simp] theorem SegReg.nulled_s (g : SegReg) (sel : Half) : (g.nulled sel).s = g.s := (rfl)
@[simp] theorem SegReg.nulled_dpl (g : SegReg) (sel : Half) : (g.nulled sel).dpl = g.dpl := (rfl)
@[simp] theorem SegReg.nulled_p (g : SegReg) (sel : Half) : (g.nulled sel).p = g.p := (rfl)
@[simp] theorem SegReg.nulled_db (g : SegReg) (sel : Half) : (g.nulled sel).db = g.db := (rfl)
@[simp] theorem SegReg.nulled_g (g : SegReg) (sel : Half) : (g.nulled sel).g = g.g := (rfl)

/-! ### Fpu.setTop -/

@[simp] theorem Fpu.setTop_fpr (f : Fpu) (t : BitVec 3) : (f.setTop t).fpr = f.fpr := (rfl)
@[simp] theorem Fpu.setTop_tags (f : Fpu) (t : BitVec 3) : (f.setTop t).tags = f.tags := (rfl)
@[simp] theorem Fpu.setTop_fcw (f : Fpu) (t : BitVec 3) : (f.setTop t).fcw = f.fcw := (rfl)
@[simp] theorem Fpu.setTop_fsw (f : Fpu) (t : BitVec 3) : (f.setTop t).fsw = { f.fsw with top := t } := (rfl)
@[simp] theorem Fpu.setTop_fip (f : Fpu) (t : BitVec 3) : (f.setTop t).fip = f.fip := (rfl)
@[simp] theorem Fpu.setTop_fdp (f : Fpu) (t : BitVec 3) : (f.setTop t).fdp = f.fdp := (rfl)
@[simp] theorem Fpu.setTop_fop (f : Fpu) (t : BitVec 3) : (f.setTop t).fop = f.fop := (rfl)

/-! ### Fpu.setSt -/

@[simp] theorem Fpu.setSt_fpr (f : Fpu) (i : BitVec 3) (v : Ext) : (f.setSt i v).fpr = f.fpr.set (f.phys i) v := (rfl)
@[simp] theorem Fpu.setSt_tags (f : Fpu) (i : BitVec 3) (v : Ext) :
    (f.setSt i v).tags = f.tags.set (f.phys i) (tagOf v) := (rfl)
@[simp] theorem Fpu.setSt_fcw (f : Fpu) (i : BitVec 3) (v : Ext) : (f.setSt i v).fcw = f.fcw := (rfl)
@[simp] theorem Fpu.setSt_fsw (f : Fpu) (i : BitVec 3) (v : Ext) : (f.setSt i v).fsw = f.fsw := (rfl)
@[simp] theorem Fpu.setSt_fip (f : Fpu) (i : BitVec 3) (v : Ext) : (f.setSt i v).fip = f.fip := (rfl)
@[simp] theorem Fpu.setSt_fdp (f : Fpu) (i : BitVec 3) (v : Ext) : (f.setSt i v).fdp = f.fdp := (rfl)
@[simp] theorem Fpu.setSt_fop (f : Fpu) (i : BitVec 3) (v : Ext) : (f.setSt i v).fop = f.fop := (rfl)

/-! ### Fpu.popped -/

@[simp] theorem Fpu.popped_fpr (f : Fpu) : (f.popped).fpr = f.fpr := (rfl)
@[simp] theorem Fpu.popped_tags (f : Fpu) : (f.popped).tags = f.tags.set f.fsw.top .empty := (rfl)
@[simp] theorem Fpu.popped_fcw (f : Fpu) : (f.popped).fcw = f.fcw := (rfl)
@[simp] theorem Fpu.popped_fsw (f : Fpu) : (f.popped).fsw = { f.fsw with top := f.fsw.top + 1 } := (rfl)
@[simp] theorem Fpu.popped_fip (f : Fpu) : (f.popped).fip = f.fip := (rfl)
@[simp] theorem Fpu.popped_fdp (f : Fpu) : (f.popped).fdp = f.fdp := (rfl)
@[simp] theorem Fpu.popped_fop (f : Fpu) : (f.popped).fop = f.fop := (rfl)

/-! ### Fpu.pushed -/

@[simp] theorem Fpu.pushed_fpr (f : Fpu) (v : Ext) : (f.pushed v).fpr = f.fpr.set (f.fsw.top - 1 + 0) v := (rfl)
@[simp] theorem Fpu.pushed_tags (f : Fpu) (v : Ext) :
    (f.pushed v).tags = f.tags.set (f.fsw.top - 1 + 0) (tagOf v) := (rfl)
@[simp] theorem Fpu.pushed_fcw (f : Fpu) (v : Ext) : (f.pushed v).fcw = f.fcw := (rfl)
@[simp] theorem Fpu.pushed_fsw (f : Fpu) (v : Ext) : (f.pushed v).fsw = { f.fsw with top := f.fsw.top - 1 } := (rfl)
@[simp] theorem Fpu.pushed_fip (f : Fpu) (v : Ext) : (f.pushed v).fip = f.fip := (rfl)
@[simp] theorem Fpu.pushed_fdp (f : Fpu) (v : Ext) : (f.pushed v).fdp = f.fdp := (rfl)
@[simp] theorem Fpu.pushed_fop (f : Fpu) (v : Ext) : (f.pushed v).fop = f.fop := (rfl)

/-! ### Fpu.initialised -/

@[simp] theorem Fpu.initialised_fpr (f : Fpu) : (f.initialised).fpr = f.fpr := (rfl)
@[simp] theorem Fpu.initialised_tags (f : Fpu) : (f.initialised).tags = Oct.all .empty := (rfl)
@[simp] theorem Fpu.initialised_fcw (f : Fpu) : (f.initialised).fcw = 0x037F := (rfl)
@[simp] theorem Fpu.initialised_fsw (f : Fpu) : (f.initialised).fsw = Fpu.reset.fsw := (rfl)
@[simp] theorem Fpu.initialised_fip (f : Fpu) : (f.initialised).fip = f.fip := (rfl)
@[simp] theorem Fpu.initialised_fdp (f : Fpu) : (f.initialised).fdp = f.fdp := (rfl)
@[simp] theorem Fpu.initialised_fop (f : Fpu) : (f.initialised).fop = f.fop := (rfl)

end Sys2Proof.Machine
end

