-- ==== Sys2Proof/Tests/Slice0.lean ====
section
/-!
SUPPORT. The model's own tests: what WellFormed refuses, the words of every row of the opcode table, single instructions
against the spec's vectors, and for every statement states and operands that meet its premises.
-/

namespace Sys2Proof.Tests

open Machine Claims

set_option Elab.async false

/-! ### Small states -/

/-- Bytes stored from an address. -/
def bytesFrom : Nat → List Byte → Memory → Memory
  | _, [], m => m
  | a, b :: bs, m => Memory.write (bytesFrom (a + 1) bs m) (a % 2 ^ 32) b

def bytes (a : Nat) (bs : List Byte) (s : State) : State := { s with mem := bytesFrom a bs s.mem }
def word (a v : Nat) (s : State) : State := bytes a ((List.range 4).map fun i => BitVec.ofNat 8 (v / 256 ^ i)) s
def eax (v : Word) (s : State) : State := { s with regs := { s.regs with eax := v } }
def ebx (v : Word) (s : State) : State := { s with regs := { s.regs with ebx := v } }
def ecx (v : Word) (s : State) : State := { s with regs := { s.regs with ecx := v } }
def edx (v : Word) (s : State) : State := { s with regs := { s.regs with edx := v } }
def esp (v : Word) (s : State) : State := { s with regs := { s.regs with esp := v } }
def ebp (v : Word) (s : State) : State := { s with regs := { s.regs with ebp := v } }
def esi (v : Word) (s : State) : State := { s with regs := { s.regs with esi := v } }
def edi (v : Word) (s : State) : State := { s with regs := { s.regs with edi := v } }
def atEip (v : Word) (s : State) : State := { s with eip := v }
def eflags (v : Word) (s : State) : State := { s with flags := Flags.ofWord v }
def fcw (v : Half) (s : State) : State := { s with fpu := { s.fpu with fcw := v } }
def fsw (v : Half) (s : State) : State := { s with fpu := { s.fpu with fsw := Fsw.ofWord v } }
def extOf (e m : Nat) : Ext := BitVec.ofNat 80 (e * 2 ^ 64 + m)
def stackOf (l : List Ext) (s : State) : State := { s with fpu := l.reverse.foldl stacked s.fpu }
def realSeg (r : SReg) (sel : Half) (s : State) : State :=
  { s with segs := s.segs.set r { s.segs.get r with selector := sel, base := BitVec.ofNat 32 (sel.toNat * 16) } }
def seg (r : SReg) (sel : Half) (hi lo : Nat) (s : State) : State :=
  { s with segs := s.segs.set r (segmentOf sel (BitVec.ofNat 64 (hi * 2 ^ 32 + lo))) }

/-- The instruction's bytes at CS:EIP. -/
def code (bs : List Byte) (s : State) : State := bytes (s.segs.cs.base + s.eip).toNat bs s

/-- Real-address mode at 0000:0100H, the stack at 0000:1000H. -/
def real : State := { State.reset with
  segs := State.reset.segs.set .cs { State.reset.segs.cs with selector := 0, base := 0 }, eip := 0x100,
  regs := { eax := 0, ecx := 0, edx := 0, ebx := 0, esp := 0x1000, ebp := 0, esi := 0, edi := 0 } }

/-- The tables of the vectors: flat code and data at levels 0 and 3, a busy TSS at 5000H, a call gate, a small code
segment; the stack of level 0 at 0010:9000H. -/
def tables (s : State) : State :=
  s |> word 0x1008 0xFFFF |> word 0x100C 0x00CF9A00 |> word 0x1010 0xFFFF |> word 0x1014 0x00CF9200
    |> word 0x1018 0xFFFF |> word 0x101C 0x00CFFA00 |> word 0x1020 0xFFFF |> word 0x1024 0x00CFF200
    |> word 0x1028 0x50000067 |> word 0x102C 0x8B00 |> word 0x1030 0x00081234 |> word 0x1034 0x0000EC02
    |> word 0x1038 0xFFFF |> word 0x103C 0x9A00 |> word 0x5004 0x9000 |> word 0x5008 0x10 |> word 0x5064 0x00680000

/-- Protected mode with those tables. -/
def prot (s : State) : State := { tables s with
  cr0 := { s.cr0 with pe := true }
  gdtr := { base := 0x1000, limit := 0x3F }
  idtr := { base := 0x2000, limit := 0x7FF }
  tr := SysReg.mk 0x28 true 0x5000 0x67 11
  eip := 0x400000 }

/-- Flat protected mode at CPL 0. -/
def flat : State := prot real |> esp 0x8000 |> seg .cs 8 0x00CF9A00 0xFFFF |> seg .ss 0x10 0x00CF9200 0xFFFF
  |> seg .ds 0x10 0x00CF9200 0xFFFF |> seg .es 0x10 0x00CF9200 0xFFFF

/-- Flat protected mode at CPL 3. -/
def user : State := { prot real with cpl := 3 } |> eflags 0x202 |> esp 0x7000 |> seg .cs 0x1B 0x00CFFA00 0xFFFF
  |> seg .ss 0x23 0x00CFF200 0xFFFF |> seg .ds 0x23 0x00CFF200 0xFFFF |> seg .es 0x23 0x00CFF200 0xFFFF

/-- Virtual-8086 mode. -/
def v86 (iopl : BitVec 2) (s : State) : State :=
  { s with cr0 := { s.cr0 with pe := true }, cpl := 3, flags := { s.flags with vm := true, iopl := iopl } }

/-- An interrupt gate to 0008:3000H + 16 times the vector. -/
def gate (v : Nat) (s : State) : State := s |> word (0x2000 + 8 * v) (0x00083000 + v * 16) |> word (0x2004 + 8 * v) 0x8E00

/-- The gates of the vectors. -/
def gates (s : State) : State := [0, 1, 2, 3, 8, 10, 11, 12, 13, 14, 0x30, 0x40].foldl (fun s v => gate v s) s

/-- One step goes on, to a state of which `p` holds. -/
noncomputable def runs (s : State) (p : State → Bool) : Bool :=
  match step s with
  | .next t => p t
  | _ => false

/-- OF, SF, ZF, AF, PF, CF. -/
def statusOf (s : State) : List Bool := [s.flags.of, s.flags.sf, s.flags.zf, s.flags.af, s.flags.pf, s.flags.cf]
/-- The `n` bytes at an address. -/
def valueAt (s : State) (a n : Nat) : Nat := Memory.load s.mem (addrs (BitVec.ofNat 32 a) n)
/-- Bits 7:0 of the x87 status word. -/
def x87Flags (s : State) : Nat :=
  let f := s.fpu.fsw
  f.ie.toNat + 2 * f.de.toNat + 4 * f.ze.toNat + 8 * f.oe.toNat + 16 * f.ue.toNat + 32 * f.pe.toNat + 64 * f.sf.toNat
    + 128 * s.fpu.es.toNat
/-- The x87 status word with the condition codes at 0. -/
def x87Status (s : State) : Nat := x87Flags s + 2048 * s.fpu.fsw.top.toNat + 32768 * s.fpu.es.toNat
/-- A TSS with a permission map: its limit is 89H. -/
def mapTss (s : State) : State := { s with tr := { s.tr with limit := 0x89 } }
/-- NMI requested of a halted processor. -/
def haltedNmi (s : State) : State := { s with run := .halted, nmiPending := true }
/-- No task register. -/
def noTss (s : State) : State := { s with tr := SysReg.reset }

/-! ### WellFormed refuses: each check, an ill-formed term -/

theorem wf_imm : Instr.wf .s16 .s16 (.addEaxImm 0x10000) = false ∧ Instr.wf .s16 .s16 (.addEaxImm 0xFFFF) = true := by decide
theorem wf_rel : Instr.wf .s16 .s16 (.jmpRel 0x10000) = false ∧ Instr.wf .s32 .s16 (.jmpRel 0x10000) = true := by decide
theorem wf_ptr : Instr.wf .s16 .s32 (.jmpPtr 8 0x10000) = false ∧ Instr.wf .s32 .s16 (.jmpPtr 8 0x10000) = true := by decide
theorem wf_moffs : Instr.wf .s32 .s16 (.movAlMoffs 0x10000) = false ∧ Instr.wf .s16 .s32 (.movAlMoffs 0x10000) = true := by decide
theorem wf_form16 : Instr.wf .s16 .s32 (.leaRM .eax (.a16 .bx 0)) = false := by decide
theorem wf_form32 : Instr.wf .s16 .s16 (.leaRM .eax (.a32 none none 0)) = false := by decide
theorem wf_esp_index : Instr.wf .s32 .s32 (.leaRM .eax (.a32 none (some (.esp, .x1)) 0)) = false := by decide
theorem wf_rm8_memory : Instr.wf .s32 .s32 (.incRm8 (.mem (.a16 .bx 0))) = false := by decide
theorem wf_rm_memory : Instr.wf .s32 .s32 (.incRm (.mem (.a16 .bx 0))) = false := by decide
theorem wf_xchg_eax : Instr.wf .s32 .s32 (.xchgEaxR .eax) = false := by decide
theorem wf_mov_cs : Instr.wf .s32 .s32 (.movSregRm .cs (.reg .eax)) = false := by decide

/-! ### Decoding: a word of every row, written from the encoding of spec/opcode_table.json, operand and address size 32.
Register operands are number 3 in ModRM.reg and 6 in ModRM.rm or the opcode (30_encoding.md R164, R184), memory operands
are [ECX+10H] (R181), ST(i) is ST(5). -/

/-- The bytes are the instruction's. -/
def Spelt (i : Instr) (bs : List Byte) : Prop := decode .s32 .s32 bs = .ok (i, [])

theorem decode_arith_1 :
    Spelt (.addRm8R8 (.reg .dh) .bl) [0x00, 0xDE] ∧
    Spelt (.addRmR (.reg .esi) .ebx) [0x01, 0xDE] ∧
    Spelt (.addR8Rm8 .bl (.reg .dh)) [0x02, 0xDE] ∧
    Spelt (.addRRm .ebx (.reg .esi)) [0x03, 0xDE] ∧
    Spelt (.addAlImm8 0x81) [0x04, 0x81] ∧
    Spelt (.addEaxImm 0x92345678) [0x05, 0x78, 0x56, 0x34, 0x92] ∧
    Spelt (.addRm8Imm8 (.reg .dh) 0x81) [0x80, 0xC6, 0x81] ∧
    Spelt (.addRmImm (.reg .esi) 0x92345678) [0x81, 0xC6, 0x78, 0x56, 0x34, 0x92] ∧
    Spelt (.addRmImm8 (.reg .esi) 0x81) [0x83, 0xC6, 0x81] ∧
    Spelt (.adcRm8R8 (.reg .dh) .bl) [0x10, 0xDE] ∧
    Spelt (.adcRmR (.reg .esi) .ebx) [0x11, 0xDE] ∧
    Spelt (.adcR8Rm8 .bl (.reg .dh)) [0x12, 0xDE] ∧
    Spelt (.adcRRm .ebx (.reg .esi)) [0x13, 0xDE] ∧
    Spelt (.adcAlImm8 0x81) [0x14, 0x81] ∧
    Spelt (.adcEaxImm 0x92345678) [0x15, 0x78, 0x56, 0x34, 0x92] ∧
    Spelt (.adcRm8Imm8 (.reg .dh) 0x81) [0x80, 0xD6, 0x81] ∧
    Spelt (.adcRmImm (.reg .esi) 0x92345678) [0x81, 0xD6, 0x78, 0x56, 0x34, 0x92] ∧
    Spelt (.adcRmImm8 (.reg .esi) 0x81) [0x83, 0xD6, 0x81] ∧
    Spelt (.sbbRm8R8 (.reg .dh) .bl) [0x18, 0xDE] ∧
    Spelt (.sbbRmR (.reg .esi) .ebx) [0x19, 0xDE] ∧
    Spelt (.sbbR8Rm8 .bl (.reg .dh)) [0x1A, 0xDE] ∧
    Spelt (.sbbRRm .ebx (.reg .esi)) [0x1B, 0xDE] ∧
    Spelt (.sbbAlImm8 0x81) [0x1C, 0x81] ∧
    Spelt (.sbbEaxImm 0x92345678) [0x1D, 0x78, 0x56, 0x34, 0x92] :=
  ⟨rfl, rfl, rfl, rfl, rfl, rfl, rfl, rfl, rfl, rfl, rfl, rfl, rfl, rfl, rfl, rfl, rfl, rfl, rfl, rfl, rfl, rfl, rfl, rfl⟩

theorem decode_arith_2 :
    Spelt (.sbbRm8Imm8 (.reg .dh) 0x81) [0x80, 0xDE, 0x81] ∧
    Spelt (.sbbRmImm (.reg .esi) 0x92345678) [0x81, 0xDE, 0x78, 0x56, 0x34, 0x92] ∧
    Spelt (.sbbRmImm8 (.reg .esi) 0x81) [0x83, 0xDE, 0x81] ∧
    Spelt (.subRm8R8 (.reg .dh) .bl) [0x28, 0xDE] ∧
    Spelt (.subRmR (.reg .esi) .ebx) [0x29, 0xDE] ∧
    Spelt (.subR8Rm8 .bl (.reg .dh)) [0x2A, 0xDE] ∧
    Spelt (.subRRm .ebx (.reg .esi)) [0x2B, 0xDE] ∧
    Spelt (.subAlImm8 0x81) [0x2C, 0x81] ∧
    Spelt (.subEaxImm 0x92345678) [0x2D, 0x78, 0x56, 0x34, 0x92] ∧
    Spelt (.subRm8Imm8 (.reg .dh) 0x81) [0x80, 0xEE, 0x81] ∧
    Spelt (.subRmImm (.reg .esi) 0x92345678) [0x81, 0xEE, 0x78, 0x56, 0x34, 0x92] ∧
    Spelt (.subRmImm8 (.reg .esi) 0x81) [0x83, 0xEE, 0x81] ∧
    Spelt (.cmpRm8R8 (.reg .dh) .bl) [0x38, 0xDE] ∧
    Spelt (.cmpRmR (.reg .esi) .ebx) [0x39, 0xDE] ∧
    Spelt (.cmpR8Rm8 .bl (.reg .dh)) [0x3A, 0xDE] ∧
    Spelt (.cmpRRm .ebx (.reg .esi)) [0x3B, 0xDE] ∧
    Spelt (.cmpAlImm8 0x81) [0x3C, 0x81] ∧
    Spelt (.cmpEaxImm 0x92345678) [0x3D, 0x78, 0x56, 0x34, 0x92] ∧
    Spelt (.cmpRm8Imm8 (.reg .dh) 0x81) [0x80, 0xFE, 0x81] ∧
    Spelt (.cmpRmImm (.reg .esi) 0x92345678) [0x81, 0xFE, 0x78, 0x56, 0x34, 0x92] ∧
    Spelt (.cmpRmImm8 (.reg .esi) 0x81) [0x83, 0xFE, 0x81] ∧
    Spelt (.incRm8 (.reg .dh)) [0xFE, 0xC6] ∧
    Spelt (.incRm (.reg .esi)) [0xFF, 0xC6] ∧
    Spelt (.incR .esi) [0x46] :=
  ⟨rfl, rfl, rfl, rfl, rfl, rfl, rfl, rfl, rfl, rfl, rfl, rfl, rfl, rfl, rfl, rfl, rfl, rfl, rfl, rfl, rfl, rfl, rfl, rfl⟩

theorem decode_arith_3 :
    Spelt (.decRm8 (.reg .dh)) [0xFE, 0xCE] ∧
    Spelt (.decRm (.reg .esi)) [0xFF, 0xCE] ∧
    Spelt (.decR .esi) [0x4E] ∧
    Spelt (.negRm8 (.reg .dh)) [0xF6, 0xDE] ∧
    Spelt (.negRm (.reg .esi)) [0xF7, 0xDE] ∧
    Spelt (.mulRm8 (.reg .dh)) [0xF6, 0xE6] ∧
    Spelt (.mulRm (.reg .esi)) [0xF7, 0xE6] ∧
    Spelt (.imulRm8 (.reg .dh)) [0xF6, 0xEE] ∧
    Spelt (.imulRm (.reg .esi)) [0xF7, 0xEE] ∧
    Spelt (.divRm8 (.reg .dh)) [0xF6, 0xF6] ∧
    Spelt (.divRm (.reg .esi)) [0xF7, 0xF6] ∧
    Spelt (.idivRm8 (.reg .dh)) [0xF6, 0xFE] ∧
    Spelt (.idivRm (.reg .esi)) [0xF7, 0xFE] ∧
    Spelt (.imulRRm .ebx (.reg .esi)) [0x0F, 0xAF, 0xDE] ∧
    Spelt (.imulRRmImm8 .ebx (.reg .esi) 0x81) [0x6B, 0xDE, 0x81] ∧
    Spelt (.imulRRmImm .ebx (.reg .esi) 0x92345678) [0x69, 0xDE, 0x78, 0x56, 0x34, 0x92] ∧
    Spelt .cbwCwde [0x98] ∧
    Spelt .cwdCdq [0x99] ∧
    Spelt .aaa [0x37] ∧
    Spelt .aas [0x3F] ∧
    Spelt (.aamImm8 0x81) [0xD4, 0x81] ∧
    Spelt (.aadImm8 0x81) [0xD5, 0x81] ∧
    Spelt .daa [0x27] ∧
    Spelt .das [0x2F] :=
  ⟨rfl, rfl, rfl, rfl, rfl, rfl, rfl, rfl, rfl, rfl, rfl, rfl, rfl, rfl, rfl, rfl, rfl, rfl, rfl, rfl, rfl, rfl, rfl, rfl⟩

theorem decode_logic_shift_bit_1 :
    Spelt (.orRm8R8 (.reg .dh) .bl) [0x08, 0xDE] ∧
    Spelt (.orRmR (.reg .esi) .ebx) [0x09, 0xDE] ∧
    Spelt (.orR8Rm8 .bl (.reg .dh)) [0x0A, 0xDE] ∧
    Spelt (.orRRm .ebx (.reg .esi)) [0x0B, 0xDE] ∧
    Spelt (.orAlImm8 0x81) [0x0C, 0x81] ∧
    Spelt (.orEaxImm 0x92345678) [0x0D, 0x78, 0x56, 0x34, 0x92] ∧
    Spelt (.orRm8Imm8 (.reg .dh) 0x81) [0x80, 0xCE, 0x81] ∧
    Spelt (.orRmImm (.reg .esi) 0x92345678) [0x81, 0xCE, 0x78, 0x56, 0x34, 0x92] ∧
    Spelt (.orRmImm8 (.reg .esi) 0x81) [0x83, 0xCE, 0x81] ∧
    Spelt (.andRm8R8 (.reg .dh) .bl) [0x20, 0xDE] ∧
    Spelt (.andRmR (.reg .esi) .ebx) [0x21, 0xDE] ∧
    Spelt (.andR8Rm8 .bl (.reg .dh)) [0x22, 0xDE] ∧
    Spelt (.andRRm .ebx (.reg .esi)) [0x23, 0xDE] ∧
    Spelt (.andAlImm8 0x81) [0x24, 0x81] ∧
    Spelt (.andEaxImm 0x92345678) [0x25, 0x78, 0x56, 0x34, 0x92] ∧
    Spelt (.andRm8Imm8 (.reg .dh) 0x81) [0x80, 0xE6, 0x81] ∧
    Spelt (.andRmImm (.reg .esi) 0x92345678) [0x81, 0xE6, 0x78, 0x56, 0x34, 0x92] ∧
    Spelt (.andRmImm8 (.reg .esi) 0x81) [0x83, 0xE6, 0x81] ∧
    Spelt (.xorRm8R8 (.reg .dh) .bl) [0x30, 0xDE] ∧
    Spelt (.xorRmR (.reg .esi) .ebx) [0x31, 0xDE] ∧
    Spelt (.xorR8Rm8 .bl (.reg .dh)) [0x32, 0xDE] ∧
    Spelt (.xorRRm .ebx (.reg .esi)) [0x33, 0xDE] ∧
    Spelt (.xorAlImm8 0x81) [0x34, 0x81] ∧
    Spelt (.xorEaxImm 0x92345678) [0x35, 0x78, 0x56, 0x34, 0x92] :=
  ⟨rfl, rfl, rfl, rfl, rfl, rfl, rfl, rfl, rfl, rfl, rfl, rfl, rfl, rfl, rfl, rfl, rfl, rfl, rfl, rfl, rfl, rfl, rfl, rfl⟩

theorem decode_logic_shift_bit_2 :
    Spelt (.xorRm8Imm8 (.reg .dh) 0x81) [0x80, 0xF6, 0x81] ∧
    Spelt (.xorRmImm (.reg .esi) 0x92345678) [0x81, 0xF6, 0x78, 0x56, 0x34, 0x92] ∧
    Spelt (.xorRmImm8 (.reg .esi) 0x81) [0x83, 0xF6, 0x81] ∧
    Spelt (.notRm8 (.reg .dh)) [0xF6, 0xD6] ∧
    Spelt (.notRm (.reg .esi)) [0xF7, 0xD6] ∧
    Spelt (.testAlImm8 0x81) [0xA8, 0x81] ∧
    Spelt (.testEaxImm 0x92345678) [0xA9, 0x78, 0x56, 0x34, 0x92] ∧
    Spelt (.testRm8Imm8 (.reg .dh) 0x81) [0xF6, 0xC6, 0x81] ∧
    Spelt (.testRmImm (.reg .esi) 0x92345678) [0xF7, 0xC6, 0x78, 0x56, 0x34, 0x92] ∧
    Spelt (.testRm8R8 (.reg .dh) .bl) [0x84, 0xDE] ∧
    Spelt (.testRmR (.reg .esi) .ebx) [0x85, 0xDE] ∧
    Spelt (.rolRm8One (.reg .dh)) [0xD0, 0xC6] ∧
    Spelt (.rolRm8Cl (.reg .dh)) [0xD2, 0xC6] ∧
    Spelt (.rolRm8Imm8 (.reg .dh) 0x81) [0xC0, 0xC6, 0x81] ∧
    Spelt (.rolRmOne (.reg .esi)) [0xD1, 0xC6] ∧
    Spelt (.rolRmCl (.reg .esi)) [0xD3, 0xC6] ∧
    Spelt (.rolRmImm8 (.reg .esi) 0x81) [0xC1, 0xC6, 0x81] ∧
    Spelt (.rorRm8One (.reg .dh)) [0xD0, 0xCE] ∧
    Spelt (.rorRm8Cl (.reg .dh)) [0xD2, 0xCE] ∧
    Spelt (.rorRm8Imm8 (.reg .dh) 0x81) [0xC0, 0xCE, 0x81] ∧
    Spelt (.rorRmOne (.reg .esi)) [0xD1, 0xCE] ∧
    Spelt (.rorRmCl (.reg .esi)) [0xD3, 0xCE] ∧
    Spelt (.rorRmImm8 (.reg .esi) 0x81) [0xC1, 0xCE, 0x81] ∧
    Spelt (.rclRm8One (.reg .dh)) [0xD0, 0xD6] :=
  ⟨rfl, rfl, rfl, rfl, rfl, rfl, rfl, rfl, rfl, rfl, rfl, rfl, rfl, rfl, rfl, rfl, rfl, rfl, rfl, rfl, rfl, rfl, rfl, rfl⟩

theorem decode_logic_shift_bit_3 :
    Spelt (.rclRm8Cl (.reg .dh)) [0xD2, 0xD6] ∧
    Spelt (.rclRm8Imm8 (.reg .dh) 0x81) [0xC0, 0xD6, 0x81] ∧
    Spelt (.rclRmOne (.reg .esi)) [0xD1, 0xD6] ∧
    Spelt (.rclRmCl (.reg .esi)) [0xD3, 0xD6] ∧
    Spelt (.rclRmImm8 (.reg .esi) 0x81) [0xC1, 0xD6, 0x81] ∧
    Spelt (.rcrRm8One (.reg .dh)) [0xD0, 0xDE] ∧
    Spelt (.rcrRm8Cl (.reg .dh)) [0xD2, 0xDE] ∧
    Spelt (.rcrRm8Imm8 (.reg .dh) 0x81) [0xC0, 0xDE, 0x81] ∧
    Spelt (.rcrRmOne (.reg .esi)) [0xD1, 0xDE] ∧
    Spelt (.rcrRmCl (.reg .esi)) [0xD3, 0xDE] ∧
    Spelt (.rcrRmImm8 (.reg .esi) 0x81) [0xC1, 0xDE, 0x81] ∧
    Spelt (.salRm8One (.reg .dh)) [0xD0, 0xE6] ∧
    Spelt (.salRm8Cl (.reg .dh)) [0xD2, 0xE6] ∧
    Spelt (.salRm8Imm8 (.reg .dh) 0x81) [0xC0, 0xE6, 0x81] ∧
    Spelt (.salRmOne (.reg .esi)) [0xD1, 0xE6] ∧
    Spelt (.salRmCl (.reg .esi)) [0xD3, 0xE6] ∧
    Spelt (.salRmImm8 (.reg .esi) 0x81) [0xC1, 0xE6, 0x81] ∧
    Spelt (.shrRm8One (.reg .dh)) [0xD0, 0xEE] ∧
    Spelt (.shrRm8Cl (.reg .dh)) [0xD2, 0xEE] ∧
    Spelt (.shrRm8Imm8 (.reg .dh) 0x81) [0xC0, 0xEE, 0x81] ∧
    Spelt (.shrRmOne (.reg .esi)) [0xD1, 0xEE] ∧
    Spelt (.shrRmCl (.reg .esi)) [0xD3, 0xEE] ∧
    Spelt (.shrRmImm8 (.reg .esi) 0x81) [0xC1, 0xEE, 0x81] ∧
    Spelt (.sarRm8One (.reg .dh)) [0xD0, 0xFE] :=
  ⟨rfl, rfl, rfl, rfl, rfl, rfl, rfl, rfl, rfl, rfl, rfl, rfl, rfl, rfl, rfl, rfl, rfl, rfl, rfl, rfl, rfl, rfl, rfl, rfl⟩

theorem decode_logic_shift_bit_4 :
    Spelt (.sarRm8Cl (.reg .dh)) [0xD2, 0xFE] ∧
    Spelt (.sarRm8Imm8 (.reg .dh) 0x81) [0xC0, 0xFE, 0x81] ∧
    Spelt (.sarRmOne (.reg .esi)) [0xD1, 0xFE] ∧
    Spelt (.sarRmCl (.reg .esi)) [0xD3, 0xFE] ∧
    Spelt (.sarRmImm8 (.reg .esi) 0x81) [0xC1, 0xFE, 0x81] ∧
    Spelt (.shldRmRImm8 (.reg .esi) .ebx 0x81) [0x0F, 0xA4, 0xDE, 0x81] ∧
    Spelt (.shldRmRCl (.reg .esi) .ebx) [0x0F, 0xA5, 0xDE] ∧
    Spelt (.shrdRmRImm8 (.reg .esi) .ebx 0x81) [0x0F, 0xAC, 0xDE, 0x81] ∧
    Spelt (.shrdRmRCl (.reg .esi) .ebx) [0x0F, 0xAD, 0xDE] ∧
    Spelt (.btRmR (.reg .esi) .ebx) [0x0F, 0xA3, 0xDE] ∧
    Spelt (.btRmImm8 (.reg .esi) 0x81) [0x0F, 0xBA, 0xE6, 0x81] ∧
    Spelt (.btsRmR (.reg .esi) .ebx) [0x0F, 0xAB, 0xDE] ∧
    Spelt (.btsRmImm8 (.reg .esi) 0x81) [0x0F, 0xBA, 0xEE, 0x81] ∧
    Spelt (.btrRmR (.reg .esi) .ebx) [0x0F, 0xB3, 0xDE] ∧
    Spelt (.btrRmImm8 (.reg .esi) 0x81) [0x0F, 0xBA, 0xF6, 0x81] ∧
    Spelt (.btcRmR (.reg .esi) .ebx) [0x0F, 0xBB, 0xDE] ∧
    Spelt (.btcRmImm8 (.reg .esi) 0x81) [0x0F, 0xBA, 0xFE, 0x81] ∧
    Spelt (.bsfRRm .ebx (.reg .esi)) [0x0F, 0xBC, 0xDE] ∧
    Spelt (.bsrRRm .ebx (.reg .esi)) [0x0F, 0xBD, 0xDE] ∧
    Spelt (.setoRm8 (.reg .dh)) [0x0F, 0x90, 0xDE] ∧
    Spelt (.setnoRm8 (.reg .dh)) [0x0F, 0x91, 0xDE] ∧
    Spelt (.setbRm8 (.reg .dh)) [0x0F, 0x92, 0xDE] ∧
    Spelt (.setaeRm8 (.reg .dh)) [0x0F, 0x93, 0xDE] ∧
    Spelt (.seteRm8 (.reg .dh)) [0x0F, 0x94, 0xDE] :=
  ⟨rfl, rfl, rfl, rfl, rfl, rfl, rfl, rfl, rfl, rfl, rfl, rfl, rfl, rfl, rfl, rfl, rfl, rfl, rfl, rfl, rfl, rfl, rfl, rfl⟩

theorem decode_logic_shift_bit_5 :
    Spelt (.setneRm8 (.reg .dh)) [0x0F, 0x95, 0xDE] ∧
    Spelt (.setbeRm8 (.reg .dh)) [0x0F, 0x96, 0xDE] ∧
    Spelt (.setaRm8 (.reg .dh)) [0x0F, 0x97, 0xDE] ∧
    Spelt (.setsRm8 (.reg .dh)) [0x0F, 0x98, 0xDE] ∧
    Spelt (.setnsRm8 (.reg .dh)) [0x0F, 0x99, 0xDE] ∧
    Spelt (.setpRm8 (.reg .dh)) [0x0F, 0x9A, 0xDE] ∧
    Spelt (.setnpRm8 (.reg .dh)) [0x0F, 0x9B, 0xDE] ∧
    Spelt (.setlRm8 (.reg .dh)) [0x0F, 0x9C, 0xDE] ∧
    Spelt (.setgeRm8 (.reg .dh)) [0x0F, 0x9D, 0xDE] ∧
    Spelt (.setleRm8 (.reg .dh)) [0x0F, 0x9E, 0xDE] ∧
    Spelt (.setgRm8 (.reg .dh)) [0x0F, 0x9F, 0xDE] :=
  ⟨rfl, rfl, rfl, rfl, rfl, rfl, rfl, rfl, rfl, rfl, rfl⟩

theorem decode_data_move_1 :
    Spelt (.movRm8R8 (.reg .dh) .bl) [0x88, 0xDE] ∧
    Spelt (.movRmR (.reg .esi) .ebx) [0x89, 0xDE] ∧
    Spelt (.movR8Rm8 .bl (.reg .dh)) [0x8A, 0xDE] ∧
    Spelt (.movRRm .ebx (.reg .esi)) [0x8B, 0xDE] ∧
    Spelt (.movR8Imm8 .dh 0x81) [0xB6, 0x81] ∧
    Spelt (.movRImm .esi 0x92345678) [0xBE, 0x78, 0x56, 0x34, 0x92] ∧
    Spelt (.movRm8Imm8 (.reg .dh) 0x81) [0xC6, 0xC6, 0x81] ∧
    Spelt (.movRmImm (.reg .esi) 0x92345678) [0xC7, 0xC6, 0x78, 0x56, 0x34, 0x92] ∧
    Spelt (.movAlMoffs 0x92345678) [0xA0, 0x78, 0x56, 0x34, 0x92] ∧
    Spelt (.movEaxMoffs 0x92345678) [0xA1, 0x78, 0x56, 0x34, 0x92] ∧
    Spelt (.movMoffsAl 0x92345678) [0xA2, 0x78, 0x56, 0x34, 0x92] ∧
    Spelt (.movMoffsEax 0x92345678) [0xA3, 0x78, 0x56, 0x34, 0x92] ∧
    Spelt (.movRmSreg (.reg .esi) .ds) [0x8C, 0xDE] ∧
    Spelt (.movSregRm .ds (.reg .esi)) [0x8E, 0xDE] ∧
    Spelt (.movsxRRm8 .ebx (.reg .dh)) [0x0F, 0xBE, 0xDE] ∧
    Spelt (.movsxRRm16 .ebx (.reg .esi)) [0x0F, 0xBF, 0xDE] ∧
    Spelt (.movzxRRm8 .ebx (.reg .dh)) [0x0F, 0xB6, 0xDE] ∧
    Spelt (.movzxRRm16 .ebx (.reg .esi)) [0x0F, 0xB7, 0xDE] ∧
    Spelt (.xchgEaxR .esi) [0x96] ∧
    Spelt (.xchgRm8R8 (.reg .dh) .bl) [0x86, 0xDE] ∧
    Spelt (.xchgRmR (.reg .esi) .ebx) [0x87, 0xDE] ∧
    Spelt (.leaRM .ebx (.a32 (some .ecx) none 0x10)) [0x8D, 0x59, 0x10] ∧
    Spelt .xlat [0xD7] ∧
    Spelt (.pushRm (.reg .esi)) [0xFF, 0xF6] :=
  ⟨rfl, rfl, rfl, rfl, rfl, rfl, rfl, rfl, rfl, rfl, rfl, rfl, rfl, rfl, rfl, rfl, rfl, rfl, rfl, rfl, rfl, rfl, rfl, rfl⟩

theorem decode_data_move_2 :
    Spelt (.pushR .esi) [0x56] ∧
    Spelt (.pushImm8 0x81) [0x6A, 0x81] ∧
    Spelt (.pushImm 0x92345678) [0x68, 0x78, 0x56, 0x34, 0x92] ∧
    Spelt .pushEs [0x06] ∧
    Spelt .pushCs [0x0E] ∧
    Spelt .pushSs [0x16] ∧
    Spelt .pushDs [0x1E] ∧
    Spelt .pushFs [0x0F, 0xA0] ∧
    Spelt .pushGs [0x0F, 0xA8] ∧
    Spelt (.popRm (.reg .esi)) [0x8F, 0xC6] ∧
    Spelt (.popR .esi) [0x5E] ∧
    Spelt .popEs [0x07] ∧
    Spelt .popSs [0x17] ∧
    Spelt .popDs [0x1F] ∧
    Spelt .popFs [0x0F, 0xA1] ∧
    Spelt .popGs [0x0F, 0xA9] ∧
    Spelt .pusha [0x60] ∧
    Spelt .popa [0x61] ∧
    Spelt .pushf [0x9C] ∧
    Spelt .popf [0x9D] ∧
    Spelt .lahf [0x9F] ∧
    Spelt .sahf [0x9E] ∧
    Spelt (.ldsRM .ebx (.a32 (some .ecx) none 0x10)) [0xC5, 0x59, 0x10] ∧
    Spelt (.lesRM .ebx (.a32 (some .ecx) none 0x10)) [0xC4, 0x59, 0x10] :=
  ⟨rfl, rfl, rfl, rfl, rfl, rfl, rfl, rfl, rfl, rfl, rfl, rfl, rfl, rfl, rfl, rfl, rfl, rfl, rfl, rfl, rfl, rfl, rfl, rfl⟩

theorem decode_data_move_3 :
    Spelt (.lfsRM .ebx (.a32 (some .ecx) none 0x10)) [0x0F, 0xB4, 0x59, 0x10] ∧
    Spelt (.lgsRM .ebx (.a32 (some .ecx) none 0x10)) [0x0F, 0xB5, 0x59, 0x10] ∧
    Spelt (.lssRM .ebx (.a32 (some .ecx) none 0x10)) [0x0F, 0xB2, 0x59, 0x10] ∧
    Spelt .clc [0xF8] ∧
    Spelt .cld [0xFC] ∧
    Spelt .cmc [0xF5] ∧
    Spelt .stc [0xF9] ∧
    Spelt .std [0xFD] :=
  ⟨rfl, rfl, rfl, rfl, rfl, rfl, rfl, rfl⟩

theorem decode_string_io_1 :
    Spelt .movsb [0xA4] ∧
    Spelt .movswMovsd [0xA5] ∧
    Spelt .cmpsb [0xA6] ∧
    Spelt .cmpswCmpsd [0xA7] ∧
    Spelt .stosb [0xAA] ∧
    Spelt .stoswStosd [0xAB] ∧
    Spelt .lodsb [0xAC] ∧
    Spelt .lodswLodsd [0xAD] ∧
    Spelt .scasb [0xAE] ∧
    Spelt .scaswScasd [0xAF] ∧
    Spelt .insb [0x6C] ∧
    Spelt .inswInsd [0x6D] ∧
    Spelt .outsb [0x6E] ∧
    Spelt .outswOutsd [0x6F] ∧
    Spelt (.inAlImm8 0x81) [0xE4, 0x81] ∧
    Spelt (.inEaxImm8 0x81) [0xE5, 0x81] ∧
    Spelt .inAlDx [0xEC] ∧
    Spelt .inEaxDx [0xED] ∧
    Spelt (.outImm8Al 0x81) [0xE6, 0x81] ∧
    Spelt (.outImm8Eax 0x81) [0xE7, 0x81] ∧
    Spelt .outDxAl [0xEE] ∧
    Spelt .outDxEax [0xEF] :=
  ⟨rfl, rfl, rfl, rfl, rfl, rfl, rfl, rfl, rfl, rfl, rfl, rfl, rfl, rfl, rfl, rfl, rfl, rfl, rfl, rfl, rfl, rfl⟩

theorem decode_control_1 :
    Spelt (.jmpRel8 0x81) [0xEB, 0x81] ∧
    Spelt (.jmpRel 0x92345678) [0xE9, 0x78, 0x56, 0x34, 0x92] ∧
    Spelt (.jmpRm (.reg .esi)) [0xFF, 0xE6] ∧
    Spelt (.jmpPtr 8 0x12345678) [0xEA, 0x78, 0x56, 0x34, 0x12, 0x08, 0x00] ∧
    Spelt (.jmpMFar (.a32 (some .ecx) none 0x10)) [0xFF, 0x69, 0x10] ∧
    Spelt (.joRel8 0x81) [0x70, 0x81] ∧
    Spelt (.joRel 0x92345678) [0x0F, 0x80, 0x78, 0x56, 0x34, 0x92] ∧
    Spelt (.jnoRel8 0x81) [0x71, 0x81] ∧
    Spelt (.jnoRel 0x92345678) [0x0F, 0x81, 0x78, 0x56, 0x34, 0x92] ∧
    Spelt (.jbRel8 0x81) [0x72, 0x81] ∧
    Spelt (.jbRel 0x92345678) [0x0F, 0x82, 0x78, 0x56, 0x34, 0x92] ∧
    Spelt (.jaeRel8 0x81) [0x73, 0x81] ∧
    Spelt (.jaeRel 0x92345678) [0x0F, 0x83, 0x78, 0x56, 0x34, 0x92] ∧
    Spelt (.jeRel8 0x81) [0x74, 0x81] ∧
    Spelt (.jeRel 0x92345678) [0x0F, 0x84, 0x78, 0x56, 0x34, 0x92] ∧
    Spelt (.jneRel8 0x81) [0x75, 0x81] ∧
    Spelt (.jneRel 0x92345678) [0x0F, 0x85, 0x78, 0x56, 0x34, 0x92] ∧
    Spelt (.jbeRel8 0x81) [0x76, 0x81] ∧
    Spelt (.jbeRel 0x92345678) [0x0F, 0x86, 0x78, 0x56, 0x34, 0x92] ∧
    Spelt (.jaRel8 0x81) [0x77, 0x81] ∧
    Spelt (.jaRel 0x92345678) [0x0F, 0x87, 0x78, 0x56, 0x34, 0x92] ∧
    Spelt (.jsRel8 0x81) [0x78, 0x81] ∧
    Spelt (.jsRel 0x92345678) [0x0F, 0x88, 0x78, 0x56, 0x34, 0x92] ∧
    Spelt (.jnsRel8 0x81) [0x79, 0x81] :=
  ⟨rfl, rfl, rfl, rfl, rfl, rfl, rfl, rfl, rfl, rfl, rfl, rfl, rfl, rfl, rfl, rfl, rfl, rfl, rfl, rfl, rfl, rfl, rfl, rfl⟩

theorem decode_control_2 :
    Spelt (.jnsRel 0x92345678) [0x0F, 0x89, 0x78, 0x56, 0x34, 0x92] ∧
    Spelt (.jpRel8 0x81) [0x7A, 0x81] ∧
    Spelt (.jpRel 0x92345678) [0x0F, 0x8A, 0x78, 0x56, 0x34, 0x92] ∧
    Spelt (.jnpRel8 0x81) [0x7B, 0x81] ∧
    Spelt (.jnpRel 0x92345678) [0x0F, 0x8B, 0x78, 0x56, 0x34, 0x92] ∧
    Spelt (.jlRel8 0x81) [0x7C, 0x81] ∧
    Spelt (.jlRel 0x92345678) [0x0F, 0x8C, 0x78, 0x56, 0x34, 0x92] ∧
    Spelt (.jgeRel8 0x81) [0x7D, 0x81] ∧
    Spelt (.jgeRel 0x92345678) [0x0F, 0x8D, 0x78, 0x56, 0x34, 0x92] ∧
    Spelt (.jleRel8 0x81) [0x7E, 0x81] ∧
    Spelt (.jleRel 0x92345678) [0x0F, 0x8E, 0x78, 0x56, 0x34, 0x92] ∧
    Spelt (.jgRel8 0x81) [0x7F, 0x81] ∧
    Spelt (.jgRel 0x92345678) [0x0F, 0x8F, 0x78, 0x56, 0x34, 0x92] ∧
    Spelt (.jcxzRel8 0x81) [0xE3, 0x81] ∧
    Spelt (.loopRel8 0x81) [0xE2, 0x81] ∧
    Spelt (.loopeRel8 0x81) [0xE1, 0x81] ∧
    Spelt (.loopneRel8 0x81) [0xE0, 0x81] ∧
    Spelt (.callRel 0x92345678) [0xE8, 0x78, 0x56, 0x34, 0x92] ∧
    Spelt (.callRm (.reg .esi)) [0xFF, 0xD6] ∧
    Spelt (.callPtr 8 0x12345678) [0x9A, 0x78, 0x56, 0x34, 0x12, 0x08, 0x00] ∧
    Spelt (.callMFar (.a32 (some .ecx) none 0x10)) [0xFF, 0x59, 0x10] ∧
    Spelt .retNear [0xC3] ∧
    Spelt (.retNearImm16 0x1234) [0xC2, 0x34, 0x12] ∧
    Spelt .retFar [0xCB] :=
  ⟨rfl, rfl, rfl, rfl, rfl, rfl, rfl, rfl, rfl, rfl, rfl, rfl, rfl, rfl, rfl, rfl, rfl, rfl, rfl, rfl, rfl, rfl, rfl, rfl⟩

theorem decode_control_3 :
    Spelt (.retFarImm16 0x1234) [0xCA, 0x34, 0x12] ∧
    Spelt (.intImm8 0x81) [0xCD, 0x81] ∧
    Spelt .int3 [0xCC] ∧
    Spelt .into [0xCE] ∧
    Spelt .int1 [0xF1] ∧
    Spelt .iret [0xCF] ∧
    Spelt (.enter 0x1234 0x81) [0xC8, 0x34, 0x12, 0x81] ∧
    Spelt .leave [0xC9] ∧
    Spelt (.boundRM .ebx (.a32 (some .ecx) none 0x10)) [0x62, 0x59, 0x10] ∧
    Spelt .hlt [0xF4] ∧
    Spelt .wait [0x9B] ∧
    Spelt .nop [0x90] :=
  ⟨rfl, rfl, rfl, rfl, rfl, rfl, rfl, rfl, rfl, rfl, rfl, rfl⟩

theorem decode_system_1 :
    Spelt (.sldtRm16 (.reg .esi)) [0x0F, 0x00, 0xC6] ∧
    Spelt (.strRm16 (.reg .esi)) [0x0F, 0x00, 0xCE] ∧
    Spelt (.lldtRm16 (.reg .esi)) [0x0F, 0x00, 0xD6] ∧
    Spelt (.ltrRm16 (.reg .esi)) [0x0F, 0x00, 0xDE] ∧
    Spelt (.verrRm16 (.reg .esi)) [0x0F, 0x00, 0xE6] ∧
    Spelt (.verwRm16 (.reg .esi)) [0x0F, 0x00, 0xEE] ∧
    Spelt (.sgdtM (.a32 (some .ecx) none 0x10)) [0x0F, 0x01, 0x41, 0x10] ∧
    Spelt (.sidtM (.a32 (some .ecx) none 0x10)) [0x0F, 0x01, 0x49, 0x10] ∧
    Spelt (.lgdtM (.a32 (some .ecx) none 0x10)) [0x0F, 0x01, 0x51, 0x10] ∧
    Spelt (.lidtM (.a32 (some .ecx) none 0x10)) [0x0F, 0x01, 0x59, 0x10] ∧
    Spelt (.smswRm16 (.reg .esi)) [0x0F, 0x01, 0xE6] ∧
    Spelt (.lmswRm16 (.reg .esi)) [0x0F, 0x01, 0xF6] ∧
    Spelt (.larRRm16 .ebx (.reg .esi)) [0x0F, 0x02, 0xDE] ∧
    Spelt (.lslRRm16 .ebx (.reg .esi)) [0x0F, 0x03, 0xDE] ∧
    Spelt .clts [0x0F, 0x06] ∧
    Spelt (.movRCr .esi .cr3) [0x0F, 0x20, 0xDE] ∧
    Spelt (.movCrR .cr3 .esi) [0x0F, 0x22, 0xDE] ∧
    Spelt (.movRDr .esi 3) [0x0F, 0x21, 0xDE] ∧
    Spelt (.movDrR 3 .esi) [0x0F, 0x23, 0xDE] ∧
    Spelt (.arplRm16R16 (.reg .esi) .ebx) [0x63, 0xDE] ∧
    Spelt .cli [0xFA] ∧
    Spelt .sti [0xFB] :=
  ⟨rfl, rfl, rfl, rfl, rfl, rfl, rfl, rfl, rfl, rfl, rfl, rfl, rfl, rfl, rfl, rfl, rfl, rfl, rfl, rfl, rfl, rfl⟩

theorem decode_x87_a_1 :
    Spelt (.fldM32 (.a32 (some .ecx) none 0x10)) [0xD9, 0x41, 0x10] ∧
    Spelt (.fldM64 (.a32 (some .ecx) none 0x10)) [0xDD, 0x41, 0x10] ∧
    Spelt (.fldM80 (.a32 (some .ecx) none 0x10)) [0xDB, 0x69, 0x10] ∧
    Spelt (.fldSt 5) [0xD9, 0xC5] ∧
    Spelt .fld1 [0xD9, 0xE8] ∧
    Spelt .fldl2t [0xD9, 0xE9] ∧
    Spelt .fldl2e [0xD9, 0xEA] ∧
    Spelt .fldpi [0xD9, 0xEB] ∧
    Spelt .fldlg2 [0xD9, 0xEC] ∧
    Spelt .fldln2 [0xD9, 0xED] ∧
    Spelt .fldz [0xD9, 0xEE] ∧
    Spelt (.fstM32 (.a32 (some .ecx) none 0x10)) [0xD9, 0x51, 0x10] ∧
    Spelt (.fstM64 (.a32 (some .ecx) none 0x10)) [0xDD, 0x51, 0x10] ∧
    Spelt (.fstSt 5) [0xDD, 0xD5] ∧
    Spelt (.fstpM32 (.a32 (some .ecx) none 0x10)) [0xD9, 0x59, 0x10] ∧
    Spelt (.fstpM64 (.a32 (some .ecx) none 0x10)) [0xDD, 0x59, 0x10] ∧
    Spelt (.fstpM80 (.a32 (some .ecx) none 0x10)) [0xDB, 0x79, 0x10] ∧
    Spelt (.fstpSt 5) [0xDD, 0xDD] ∧
    Spelt (.fildM16 (.a32 (some .ecx) none 0x10)) [0xDF, 0x41, 0x10] ∧
    Spelt (.fildM32 (.a32 (some .ecx) none 0x10)) [0xDB, 0x41, 0x10] ∧
    Spelt (.fildM64 (.a32 (some .ecx) none 0x10)) [0xDF, 0x69, 0x10] ∧
    Spelt (.fistM16 (.a32 (some .ecx) none 0x10)) [0xDF, 0x51, 0x10] ∧
    Spelt (.fistM32 (.a32 (some .ecx) none 0x10)) [0xDB, 0x51, 0x10] ∧
    Spelt (.fistpM16 (.a32 (some .ecx) none 0x10)) [0xDF, 0x59, 0x10] :=
  ⟨rfl, rfl, rfl, rfl, rfl, rfl, rfl, rfl, rfl, rfl, rfl, rfl, rfl, rfl, rfl, rfl, rfl, rfl, rfl, rfl, rfl, rfl, rfl, rfl⟩

theorem decode_x87_a_2 :
    Spelt (.fistpM32 (.a32 (some .ecx) none 0x10)) [0xDB, 0x59, 0x10] ∧
    Spelt (.fistpM64 (.a32 (some .ecx) none 0x10)) [0xDF, 0x79, 0x10] ∧
    Spelt (.fbldM80 (.a32 (some .ecx) none 0x10)) [0xDF, 0x61, 0x10] ∧
    Spelt (.fbstpM80 (.a32 (some .ecx) none 0x10)) [0xDF, 0x71, 0x10] ∧
    Spelt (.fxchSt 5) [0xD9, 0xCD] ∧
    Spelt (.faddM32 (.a32 (some .ecx) none 0x10)) [0xD8, 0x41, 0x10] ∧
    Spelt (.faddM64 (.a32 (some .ecx) none 0x10)) [0xDC, 0x41, 0x10] ∧
    Spelt (.faddSt0Sti 5) [0xD8, 0xC5] ∧
    Spelt (.faddStiSt0 5) [0xDC, 0xC5] ∧
    Spelt (.faddpStiSt0 5) [0xDE, 0xC5] ∧
    Spelt (.fiaddM32 (.a32 (some .ecx) none 0x10)) [0xDA, 0x41, 0x10] ∧
    Spelt (.fiaddM16 (.a32 (some .ecx) none 0x10)) [0xDE, 0x41, 0x10] ∧
    Spelt (.fmulM32 (.a32 (some .ecx) none 0x10)) [0xD8, 0x49, 0x10] ∧
    Spelt (.fmulM64 (.a32 (some .ecx) none 0x10)) [0xDC, 0x49, 0x10] ∧
    Spelt (.fmulSt0Sti 5) [0xD8, 0xCD] ∧
    Spelt (.fmulStiSt0 5) [0xDC, 0xCD] ∧
    Spelt (.fmulpStiSt0 5) [0xDE, 0xCD] ∧
    Spelt (.fimulM32 (.a32 (some .ecx) none 0x10)) [0xDA, 0x49, 0x10] ∧
    Spelt (.fimulM16 (.a32 (some .ecx) none 0x10)) [0xDE, 0x49, 0x10] ∧
    Spelt (.fsubM32 (.a32 (some .ecx) none 0x10)) [0xD8, 0x61, 0x10] ∧
    Spelt (.fsubM64 (.a32 (some .ecx) none 0x10)) [0xDC, 0x61, 0x10] ∧
    Spelt (.fsubSt0Sti 5) [0xD8, 0xE5] ∧
    Spelt (.fsubStiSt0 5) [0xDC, 0xED] ∧
    Spelt (.fsubpStiSt0 5) [0xDE, 0xED] :=
  ⟨rfl, rfl, rfl, rfl, rfl, rfl, rfl, rfl, rfl, rfl, rfl, rfl, rfl, rfl, rfl, rfl, rfl, rfl, rfl, rfl, rfl, rfl, rfl, rfl⟩

theorem decode_x87_a_3 :
    Spelt (.fisubM32 (.a32 (some .ecx) none 0x10)) [0xDA, 0x61, 0x10] ∧
    Spelt (.fisubM16 (.a32 (some .ecx) none 0x10)) [0xDE, 0x61, 0x10] ∧
    Spelt (.fsubrM32 (.a32 (some .ecx) none 0x10)) [0xD8, 0x69, 0x10] ∧
    Spelt (.fsubrM64 (.a32 (some .ecx) none 0x10)) [0xDC, 0x69, 0x10] ∧
    Spelt (.fsubrSt0Sti 5) [0xD8, 0xED] ∧
    Spelt (.fsubrStiSt0 5) [0xDC, 0xE5] ∧
    Spelt (.fsubrpStiSt0 5) [0xDE, 0xE5] ∧
    Spelt (.fisubrM32 (.a32 (some .ecx) none 0x10)) [0xDA, 0x69, 0x10] ∧
    Spelt (.fisubrM16 (.a32 (some .ecx) none 0x10)) [0xDE, 0x69, 0x10] ∧
    Spelt (.fdivM32 (.a32 (some .ecx) none 0x10)) [0xD8, 0x71, 0x10] ∧
    Spelt (.fdivM64 (.a32 (some .ecx) none 0x10)) [0xDC, 0x71, 0x10] ∧
    Spelt (.fdivSt0Sti 5) [0xD8, 0xF5] ∧
    Spelt (.fdivStiSt0 5) [0xDC, 0xFD] ∧
    Spelt (.fdivpStiSt0 5) [0xDE, 0xFD] ∧
    Spelt (.fidivM32 (.a32 (some .ecx) none 0x10)) [0xDA, 0x71, 0x10] ∧
    Spelt (.fidivM16 (.a32 (some .ecx) none 0x10)) [0xDE, 0x71, 0x10] ∧
    Spelt (.fdivrM32 (.a32 (some .ecx) none 0x10)) [0xD8, 0x79, 0x10] ∧
    Spelt (.fdivrM64 (.a32 (some .ecx) none 0x10)) [0xDC, 0x79, 0x10] ∧
    Spelt (.fdivrSt0Sti 5) [0xD8, 0xFD] ∧
    Spelt (.fdivrStiSt0 5) [0xDC, 0xF5] ∧
    Spelt (.fdivrpStiSt0 5) [0xDE, 0xF5] ∧
    Spelt (.fidivrM32 (.a32 (some .ecx) none 0x10)) [0xDA, 0x79, 0x10] ∧
    Spelt (.fidivrM16 (.a32 (some .ecx) none 0x10)) [0xDE, 0x79, 0x10] ∧
    Spelt .fsqrt [0xD9, 0xFA] :=
  ⟨rfl, rfl, rfl, rfl, rfl, rfl, rfl, rfl, rfl, rfl, rfl, rfl, rfl, rfl, rfl, rfl, rfl, rfl, rfl, rfl, rfl, rfl, rfl, rfl⟩

theorem decode_x87_a_4 :
    Spelt .fscale [0xD9, 0xFD] ∧
    Spelt .fprem [0xD9, 0xF8] ∧
    Spelt .fprem1 [0xD9, 0xF5] ∧
    Spelt .frndint [0xD9, 0xFC] ∧
    Spelt .fxtract [0xD9, 0xF4] :=
  ⟨rfl, rfl, rfl, rfl, rfl⟩

theorem decode_x87_b_1 :
    Spelt .fabs [0xD9, 0xE1] ∧
    Spelt .fchs [0xD9, 0xE0] ∧
    Spelt (.fcomM32 (.a32 (some .ecx) none 0x10)) [0xD8, 0x51, 0x10] ∧
    Spelt (.fcomM64 (.a32 (some .ecx) none 0x10)) [0xDC, 0x51, 0x10] ∧
    Spelt (.fcomSt 5) [0xD8, 0xD5] ∧
    Spelt (.fcompM32 (.a32 (some .ecx) none 0x10)) [0xD8, 0x59, 0x10] ∧
    Spelt (.fcompM64 (.a32 (some .ecx) none 0x10)) [0xDC, 0x59, 0x10] ∧
    Spelt (.fcompSt 5) [0xD8, 0xDD] ∧
    Spelt .fcompp [0xDE, 0xD9] ∧
    Spelt (.ficomM16 (.a32 (some .ecx) none 0x10)) [0xDE, 0x51, 0x10] ∧
    Spelt (.ficomM32 (.a32 (some .ecx) none 0x10)) [0xDA, 0x51, 0x10] ∧
    Spelt (.ficompM16 (.a32 (some .ecx) none 0x10)) [0xDE, 0x59, 0x10] ∧
    Spelt (.ficompM32 (.a32 (some .ecx) none 0x10)) [0xDA, 0x59, 0x10] ∧
    Spelt .ftst [0xD9, 0xE4] ∧
    Spelt (.fucomSt 5) [0xDD, 0xE5] ∧
    Spelt (.fucompSt 5) [0xDD, 0xED] ∧
    Spelt .fucompp [0xDA, 0xE9] ∧
    Spelt .fxam [0xD9, 0xE5] ∧
    Spelt .f2xm1 [0xD9, 0xF0] ∧
    Spelt .fyl2x [0xD9, 0xF1] ∧
    Spelt .fyl2xp1 [0xD9, 0xF9] ∧
    Spelt .fptan [0xD9, 0xF2] ∧
    Spelt .fpatan [0xD9, 0xF3] ∧
    Spelt .fsin [0xD9, 0xFE] :=
  ⟨rfl, rfl, rfl, rfl, rfl, rfl, rfl, rfl, rfl, rfl, rfl, rfl, rfl, rfl, rfl, rfl, rfl, rfl, rfl, rfl, rfl, rfl, rfl, rfl⟩

theorem decode_x87_b_2 :
    Spelt .fcos [0xD9, 0xFF] ∧
    Spelt .fsincos [0xD9, 0xFB] ∧
    Spelt .fninit [0xDB, 0xE3] ∧
    Spelt .fnclex [0xDB, 0xE2] ∧
    Spelt (.fldcwM16 (.a32 (some .ecx) none 0x10)) [0xD9, 0x69, 0x10] ∧
    Spelt (.fnstcwM16 (.a32 (some .ecx) none 0x10)) [0xD9, 0x79, 0x10] ∧
    Spelt (.fnstswM16 (.a32 (some .ecx) none 0x10)) [0xDD, 0x79, 0x10] ∧
    Spelt .fnstswAx [0xDF, 0xE0] ∧
    Spelt (.fldenvEnv (.a32 (some .ecx) none 0x10)) [0xD9, 0x61, 0x10] ∧
    Spelt (.fnstenvEnv (.a32 (some .ecx) none 0x10)) [0xD9, 0x71, 0x10] ∧
    Spelt (.fnsaveFull (.a32 (some .ecx) none 0x10)) [0xDD, 0x71, 0x10] ∧
    Spelt (.frstorFull (.a32 (some .ecx) none 0x10)) [0xDD, 0x61, 0x10] ∧
    Spelt .fincstp [0xD9, 0xF7] ∧
    Spelt .fdecstp [0xD9, 0xF6] ∧
    Spelt (.ffreeSt 5) [0xDD, 0xC5] ∧
    Spelt .fnop [0xD9, 0xD0] ∧
    Spelt .feni [0xDB, 0xE0] ∧
    Spelt .fdisi [0xDB, 0xE1] ∧
    Spelt .fsetpm [0xDB, 0xE4] :=
  ⟨rfl, rfl, rfl, rfl, rfl, rfl, rfl, rfl, rfl, rfl, rfl, rfl, rfl, rfl, rfl, rfl, rfl, rfl, rfl⟩

theorem decode_prefixes :
    takePrefixes [0xF3, 0x90] = ([.rep], [0x90]) ∧
    takePrefixes [0xF2, 0x90] = ([.repne], [0x90]) ∧
    takePrefixes [0xF0, 0x90] = ([.lock], [0x90]) ∧
    takePrefixes [0x26, 0x90] = ([.segEs], [0x90]) ∧
    takePrefixes [0x2E, 0x90] = ([.segCs], [0x90]) ∧
    takePrefixes [0x36, 0x90] = ([.segSs], [0x90]) ∧
    takePrefixes [0x3E, 0x90] = ([.segDs], [0x90]) ∧
    takePrefixes [0x64, 0x90] = ([.segFs], [0x90]) ∧
    takePrefixes [0x65, 0x90] = ([.segGs], [0x90]) ∧
    takePrefixes [0x66, 0x90] = ([.opsize], [0x90]) ∧
    takePrefixes [0x67, 0x90] = ([.adsize], [0x90]) :=
  ⟨rfl, rfl, rfl, rfl, rfl, rfl, rfl, rfl, rfl, rfl, rfl⟩

/-! ### One instruction each, against the spec's own vectors -/

/-! 95_test_vectors.md, arithmetic, logic, shifts, bits (V40, V41). -/

theorem test_add_overflow : runs (real |> eax 0x7F |> ebx 0x01 |> eflags 2 |> code [0x04, 0x01])
    (fun t => t.regs.eax &&& 0xFF = 0x80 ∧ statusOf t = [true, true, false, true, false, false]) = true := by
  decide +kernel

theorem test_adc_wraps_to_zero : runs (flat |> eax 0xFFFFFFFF |> ebx 0x0 |> eflags 3 |> code [0x83, 0xD0, 0x00])
    (fun t => t.regs.eax &&& 0xFFFFFFFF = 0x00000000 ∧ statusOf t = [false, false, true, true, true,
      true]) = true := by
  decide +kernel

theorem test_sub_borrows : runs (real |> eax 0x35 |> ebx 0x47 |> eflags 2 |> code [0x28, 0xD8])
    (fun t => t.regs.eax &&& 0xFF = 0xEE ∧ statusOf t = [false, true, false, true, true, true]) = true := by
  decide +kernel

theorem test_sbb_counts_the_borrow : runs (flat |> eax 0x0 |> ebx 0xFFFFFFFF |> eflags 3 |> code [0x19, 0xD8])
    (fun t => t.regs.eax &&& 0xFFFFFFFF = 0x00000000 ∧ statusOf t = [false, false, true, true, true,
      true]) = true := by
  decide +kernel

theorem test_cmp_overflow : runs (real |> eax 0x7FFF |> ebx 0xFFFF |> eflags 2 |> code [0x39, 0xD8])
    (fun t => t.regs.eax &&& 0xFFFF = 0x7FFF ∧ statusOf t = [true, true, false, false, true, true]) = true := by
  decide +kernel

theorem test_inc_overflow : runs (flat |> eax 0x7FFFFFFF |> ebx 0x0 |> eflags 2 |> code [0x40])
    (fun t => t.regs.eax &&& 0xFFFFFFFF = 0x80000000 ∧ statusOf t = [true, true, false, true, true,
      false]) = true := by
  decide +kernel

theorem test_dec_keeps_carry : runs (real |> eax 0x80 |> ebx 0x0 |> eflags 3 |> code [0xFE, 0xC8])
    (fun t => t.regs.eax &&& 0xFF = 0x7F ∧ statusOf t = [true, false, false, true, false, true]) = true := by
  decide +kernel

theorem test_neg_sets_carry : runs (real |> eax 0x7FFF |> ebx 0x0 |> eflags 2 |> code [0xF7, 0xD8])
    (fun t => t.regs.eax &&& 0xFFFF = 0x8001 ∧ statusOf t = [false, true, false, true, false, true]) = true := by
  decide +kernel

theorem test_mul_high_half : runs (flat |> eax 0xFFFFFFFF |> ebx 0x2 |> edx 0x0 |> code [0xF7, 0xE3])
    (fun t => t.regs.eax = 0xFFFFFFFE ∧ t.regs.edx = 0x1 ∧ t.flags.cf = true ∧ t.flags.of = t.flags.cf) = true := by
  decide +kernel

theorem test_imul_does_not_fit : runs (real |> eax 0x7F |> ebx 0x2 |> edx 0x0 |> code [0xF6, 0xEB])
    (fun t => t.regs.eax = 0xFE ∧ t.regs.edx = 0x0 ∧ t.flags.cf = true ∧ t.flags.of = t.flags.cf) = true := by
  decide +kernel

theorem test_imul_sign_extends_imm8 : runs (real |> eax 0x0 |> ebx 0x64 |> edx 0x0 |> code [0x6B, 0xC3, 0xFE])
    (fun t => t.regs.eax = 0xFF38 ∧ t.regs.edx = 0x0 ∧ t.flags.cf = false ∧ t.flags.of = t.flags.cf) = true := by
  decide +kernel

theorem test_idiv_of_negatives : runs (real |> eax 0xFFF9 |> ebx 0xFE |> edx 0x0 |> code [0xF6, 0xFB])
    (fun t => t.regs.eax = 0xFF03 ∧ t.regs.edx = 0x0 ∧ t.eip ≠ 0x50) = true := by
  decide +kernel

theorem test_div_overflow_is_DE : runs (real |> word 0 0x20000050 |> eax 0x400 |> ebx 0x4 |> edx 0x0 |> code [0xF6,
    0xF3])
    (fun t => t.regs.eax = 0x400 ∧ t.regs.edx = 0x0 ∧ t.eip = 0x50 ∧ t.segs.cs.selector = 0x2000 ∧
      valueAt t 0xFFA 2 = 0x100) = true := by
  decide +kernel

theorem test_aam_zero_is_DE : runs (real |> word 0 0x20000050 |> eax 0x3F |> ebx 0x0 |> edx 0x0 |> code [0xD4, 0x00])
    (fun t => t.regs.eax = 0x3F ∧ t.regs.edx = 0x0 ∧ t.eip = 0x50 ∧ t.segs.cs.selector = 0x2000 ∧
      valueAt t 0xFFA 2 = 0x100) = true := by
  decide +kernel

theorem test_cbw_keeps_upper_half : runs (real |> eax 0x12340080 |> code [0x98])
    (fun t => t.regs.eax = 0x1234FF80 ∧ statusOf t = statusOf real) = true := by
  decide +kernel

theorem test_cwd_keeps_upper_half : runs (real |> edx 0xAAAAAAAA |> eax 0x8000 |> code [0x99])
    (fun t => t.regs.edx = 0xAAAAFFFF ∧ t.regs.eax = 0x8000) = true := by
  decide +kernel

theorem test_aaa_carries_into_AH_twice : runs (real |> eax 0x00FF |> eflags 2 |> code [0x37])
    (fun t => t.regs.eax = 0x0205 ∧ t.flags.cf = true ∧ t.flags.af = t.flags.cf) = true := by
  decide +kernel

theorem test_aas_borrows_from_AH_twice : runs (real |> eax 0x0000 |> eflags 18 |> code [0x3F])
    (fun t => t.regs.eax = 0xFE0A ∧ t.flags.cf = true ∧ t.flags.af = t.flags.cf) = true := by
  decide +kernel

theorem test_daa_adjusts_both_digits : runs (real |> eax 0xAE |> eflags 0x2 |> code [0x27])
    (fun t => t.regs.eax = 0x14 ∧ (statusOf t).drop 1 = [false, false, true, true, true]) = true := by
  decide +kernel

theorem test_das_carry_from_low_digit : runs (real |> eax 0x05 |> eflags 0x12 |> code [0x2F])
    (fun t => t.regs.eax = 0xFF ∧ (statusOf t).drop 1 = [true, false, true, true, true]) = true := by
  decide +kernel

theorem test_and_clears_carry_and_overflow : runs (real |> eax 0xFF00 |> eflags 0x803 |> code [0x25, 0xFF, 0x00])
    (fun t => t.regs.eax = 0x0 ∧ [t.flags.sf, t.flags.zf, t.flags.pf] = [false, true, true] ∧ t.flags.cf
      = false ∧ t.flags.of = false) = true := by
  decide +kernel

theorem test_shr_to_one : runs (flat |> eax 0x80000000 |> eflags 2 |> code [0xC1, 0xE8, 0x1F])
    (fun t => t.regs.eax = 0x1 ∧ t.flags.sf = false ∧ t.flags.zf = false ∧ t.flags.pf = false ∧
      t.flags.cf = false) = true := by
  decide +kernel

theorem test_rol_sets_carry_from_bit_0 : runs (real |> eax 0x81 |> eflags 2 |> code [0xD0, 0xC0])
    (fun t => t.regs.eax = 0x03 ∧ t.flags.cf = true ∧ t.flags.of = true ∧ ((statusOf t).drop 1).take 4 =
      [false,false,false,false]) = true := by
  decide +kernel

theorem test_rcl_through_carry : runs (flat |> eax 0x80000000 |> eflags 3 |> code [0xD1, 0xD0])
    (fun t => t.regs.eax = 0x1 ∧ t.flags.cf = true ∧ t.flags.of = true ∧ ((statusOf t).drop 1).take 4 =
      [false,false,false,false]) = true := by
  decide +kernel

theorem test_shrd_shifts_register_in : runs (real |> eax 0x1234 |> ebx 0xABCD |> code [0x0F, 0xAC, 0xD8, 0x04])
    (fun t => t.regs.eax = 0xD123 ∧ t.regs.ebx = 0xABCD ∧ t.flags.sf = true ∧ t.flags.zf = false ∧
      t.flags.pf = false ∧ t.flags.cf = false) = true := by
  decide +kernel

theorem test_bt_memory_before_the_operand : runs (flat |> ebx 0x6000 |> eax 0xFFFFFFFF |> word 0x5FFC 0x80000000 |>
    code [0x0F, 0xA3, 0x03])
    (fun t => t.flags.cf = true) = true := by
  decide +kernel

theorem test_bsf_of_zero_sets_ZF : runs (flat |> code [0x0F, 0xBC, 0xC3])
    (fun t => t.flags.zf = true) = true := by
  decide +kernel

/-! 95_test_vectors.md, data movement, strings, ports (V42, V43). -/

theorem test_mov_16_keeps_upper_half : runs (flat |> eax 0xAAAAAAAA |> code [0x66, 0xB8, 0x34, 0x12])
    (fun t => t.regs.eax = 0xAAAA1234) = true := by
  decide +kernel

theorem test_mov_moffs_override : runs (real |> realSeg .es 0x100 |> eax 0x5A |> code [0x26, 0xA2, 0x34, 0x12])
    (fun t => valueAt t 0x2234 1 = 0x5A) = true := by
  decide +kernel

theorem test_mov_to_DS_real : runs (real |> eax 0x2000 |> code [0x8E, 0xD8])
    (fun t => t.segs.ds = { real.segs.ds with selector := 0x2000, base := 0x20000 }) = true := by
  decide +kernel

theorem test_mov_to_CS_is_UD : runs (real |> word 24 0x20000050 |> code [0x8E, 0xC8])
    (fun t => t.eip = 0x50 ∧ t.segs.cs.selector = 0x2000 ∧ valueAt t 0xFFA 2 = 0x100) = true := by
  decide +kernel

theorem test_movsx_to_16_bits : runs (real |> ebx 0xFF |> eax 0x12340000 |> code [0x0F, 0xBE, 0xC3])
    (fun t => t.regs.eax = 0x1234FFFF) = true := by
  decide +kernel

theorem test_movzx_clears_upper_half : runs (flat |> ebx 0xFFFF |> eax 0xFFFFFFFF |> code [0x0F, 0xB7, 0xC3])
    (fun t => t.regs.eax = 0xFFFF) = true := by
  decide +kernel

theorem test_xchg_memory : runs (flat |> ebx 0x6000 |> eax 0x11 |> word 0x6000 0x22 |> code [0x86, 0x03])
    (fun t => t.regs.eax = 0x22 ∧ valueAt t 0x6000 4 = 0x11) = true := by
  decide +kernel

theorem test_lea_wraps_at_16_bits : runs (real |> ebx 0xFFFF |> esi 2 |> code [0x8D, 0x00])
    (fun t => t.regs.eax = 1) = true := by
  decide +kernel

theorem test_xlat_wraps_at_16_bits : runs (real |> ebx 0xFFFF |> eax 2 |> bytes 1 [0x77] |> code [0xD7])
    (fun t => t.regs.eax = 0x77) = true := by
  decide +kernel

theorem test_push_imm8_sign_extends : runs (real |> esp 0x300 |> code [0x6A, 0xFF])
    (fun t => valueAt t 0x2FE 2 = 0xFFFF ∧ t.regs.esp = 0x2FE) = true := by
  decide +kernel

theorem test_push_SP_stores_old_value : runs (real |> esp 0x300 |> code [0x54])
    (fun t => valueAt t 0x2FE 2 = 0x300 ∧ t.regs.esp = 0x2FE) = true := by
  decide +kernel

theorem test_pop_addresses_with_new_ESP : runs (flat |> esp 0x6000 |> word 0x6000 0x1234 |> code [0x8F, 0x04, 0x24])
    (fun t => valueAt t 0x6004 4 = 0x1234 ∧ t.regs.esp = 0x6004) = true := by
  decide +kernel

theorem test_push_16_bit_stack_keeps_upper_ESP : runs (flat |> seg .ss 0x10 0x9200 0xFFFF |> esp 0xAAAA0004 |> eax
    0x99 |> code [0x50])
    (fun t => valueAt t 0 4 = 0x99 ∧ t.regs.esp = 0xAAAA0000) = true := by
  decide +kernel

theorem test_pusha_order : runs (real |> eax 1 |> ecx 2 |> edx 3 |> ebx 4 |> ebp 6 |> esi 7 |> edi 8 |> esp 0x400 |>
    code [0x60])
    (fun t => t.regs.esp = 0x3F0 ∧ valueAt t 0x3F0 16 = 0x00010002000300040400000600070008) = true := by
  decide +kernel

theorem test_pusha_odd_SP_is_GP : runs (real |> esp 7 |> word 52 0x20000050 |> code [0x60])
    (fun t => t.eip = 0x50 ∧ t.segs.cs.selector = 0x2000) = true := by
  decide +kernel

/-- 42_data_move.md R366, in both modes. -/
theorem test_pusha_low_SP_shuts_down : runs (real |> esp 3 |> code [0x60]) (fun t => t.run = .shutdown ∧ t.regs.esp = 3) = true ∧
    runs (v86 3 real |> esp 5 |> code [0x60]) (fun t => t.run = .shutdown ∧ t.regs.esp = 5) = true := by
  decide +kernel

/-- 96_test_vectors_system.md V60.3 row 7: the second instruction runs, then NMI is due. -/
theorem test_nmi_waits_after_mov_ss :
    runs { (flat |> code [0xBC, 0, 0x80, 0, 0]) with shadow := .ssLoad, nmiPending := true, intr := true }
      (fun t => t.eip = 0x400005 ∧ t.regs.esp = 0x8000 ∧ t.nmiReady = true) = true := by
  decide +kernel

/-- The other reading of the parameters (00_scope.md R17). -/
theorem test_nmi_after_mov_ss_by_R17 :
    ({ real with shadow := .ssLoad, nmiPending := true, cfg := { real.cfg with ssShadowBlocksNmi := false } } : State).nmiReady = true ∧
    ({ real with shadow := .ssLoad, nmiPending := true } : State).nmiReady = false := by
  decide +kernel

/-- 60_exceptions.md R735 (d): a trap that cannot be delivered after STI. -/
theorem test_shutdown_ends_shadow : runs { flat with shadow := .sti, pending := { Pending.none with step := true } }
    (fun t => t.run = .shutdown ∧ t.shadow = .none) = true := by
  decide +kernel

theorem test_push_FS_writes_two_bytes : runs (flat |> seg .fs 0x23 0x00CFF200 0xFFFF |> word 0x5FFC 0xFFFFFFFF |> esp
    0x6000 |> code [0x0F, 0xA0])
    (fun t => t.regs.esp = 0x5FFC ∧ valueAt t 0x5FFC 4 = 0xFFFF0023) = true := by
  decide +kernel

theorem test_pop_SS_shadow : runs (real |> esp 0x400 |> bytes 0x400 [0,0x30] |> code [0x17])
    (fun t => t.segs.ss.selector = 0x3000 ∧ t.segs.ss.base = 0x30000 ∧ t.regs.esp = 0x402 ∧ t.shadow =
      .ssLoad) = true := by
  decide +kernel

theorem test_pushf_clears_RF_in_image : runs (flat |> eflags 0x10246 |> esp 0x6000 |> code [0x9C])
    (fun t => valueAt t 0x5FFC 4 = 0x246) = true := by
  decide +kernel

theorem test_popf_at_CPL_3_keeps_IF_and_IOPL : runs (user |> word 0x7000 2 |> code [0x66, 0x9D])
    (fun t => t.flags.toWord = 0x202 ∧ t.regs.esp = 0x7002) = true := by
  decide +kernel

theorem test_lahf_bit_1 : runs (real |> eflags 0x91 |> code [0x9F])
    (fun t => t.regs.eax = 0x9300) = true := by
  decide +kernel

theorem test_sahf_keeps_OF : runs (real |> eax 0x2A00 |> eflags 0xD7 |> code [0x9E])
    (fun t => t.flags.toWord = 2) = true := by
  decide +kernel

theorem test_lds_real : runs (real |> bytes 0x200 [0x34,0x12,0,0x20] |> code [0xC5, 0x1E, 0x00, 0x02])
    (fun t => t.regs.ebx = 0x1234 ∧ t.segs.ds.selector = 0x2000 ∧ t.segs.ds.base = 0x20000) = true := by
  decide +kernel

theorem test_lds_null_selector : runs (flat |> bytes 0x6000 [0,0xF0,0xF,0,0,0] |> code [0xC5, 0x1D, 0x00, 0x60, 0x00,
    0x00])
    (fun t => t.regs.ebx = 0xFF000 ∧ t.segs.ds.selector = 0 ∧ t.segs.ds.valid = false) = true := by
  decide +kernel

theorem test_movs_down : runs (real |> realSeg .ds 0x1000 |> realSeg .es 0x2000 |> esi 0x10 |> edi 0x20 |> eflags
    0x402 |> bytes 0x10010 [0x34,0x12] |> code [0xA5])
    (fun t => valueAt t 0x20020 2 = 0x1234 ∧ t.regs.esi = 0xE ∧ t.regs.edi = 0x1E) = true := by
  decide +kernel

theorem test_cmps_source_minus_destination : runs (real |> realSeg .ds 0x1000 |> realSeg .es 0x2000 |> bytes 0x10000
    [0x41] |> bytes 0x20000 [0x42] |> code [0xA6])
    (fun t => statusOf t = [false,true,false,true,true,true] ∧ t.regs.esi = 1 ∧ t.regs.edi = 1) = true := by
  decide +kernel

theorem test_scas_ignores_override : runs (real |> realSeg .ds 0x1000 |> realSeg .es 0x2000 |> eax 0x1234 |> bytes
    0x20000 [0x35,0x12] |> code [0x3E, 0xAF])
    (fun t => statusOf t = [false,true,false,true,true,true] ∧ t.regs.esi = 0 ∧ t.regs.edi = 2) = true := by
  decide +kernel

theorem test_lodsd_down : runs (real |> realSeg .ds 0x1000 |> realSeg .es 0x2000 |> esi 0x100 |> eflags 0x402 |> word
    0x10100 0x12345678 |> code [0x66, 0xAD])
    (fun t => t.regs.eax = 0x12345678 ∧ t.regs.esi = 0xFC) = true := by
  decide +kernel

theorem test_stos_wraps_DI : runs (real |> realSeg .es 0xB800 |> edi 0xFFFF |> eax 0xCD |> code [0xAA])
    (fun t => valueAt t 0xC7FFF 1 = 0xCD ∧ t.regs.edi = 0) = true := by
  decide +kernel

theorem test_rep_movs_one_iteration : runs (real |> realSeg .ds 0x1000 |> realSeg .es 0x2000 |> ecx 3 |> bytes 0x10000
    [1,2,3] |> code [0xF3, 0xA4])
    (fun t => t.regs.ecx = 2 ∧ t.eip = 0x100 ∧ valueAt t 0x20000 4 = 1) = true := by
  decide +kernel

theorem test_rep_with_zero_count : runs (real |> realSeg .ds 0x1000 |> realSeg .es 0x2000 |> code [0xF3, 0xA4])
    (fun t => t.regs.ecx = 0 ∧ t.eip = 0x102 ∧ t.regs.esi = 0) = true := by
  decide +kernel

theorem test_in_byte : runs (real |> code [0xE4, 0x60])
    (fun t => t.io = [.read [0x60]] ∧ t.eip = 0x102) = true := by
  decide +kernel

theorem test_out_word : runs (real |> edx 0xFFFF |> eax 0xBBAA |> code [0xEF])
    (fun t => t.io = [.write [0xFFFF, 0] 0xBBAA]) = true := by
  decide +kernel

theorem test_in_refused_by_permission_map : runs (gates (user |> mapTss |> edx 0x60 |> bytes 0x5074 [1]) |> code
    [0xEC])
    (fun t => t.eip = 0x30D0 ∧ valueAt t 0x8FE8 4 = 0 ∧ t.regs.esp = 0x8FE8 ∧ t.io = []) = true := by
  decide +kernel

theorem test_ins_byte : runs (real |> realSeg .ds 0x1000 |> realSeg .es 0x2000 |> edx 0x60 |> code [0x6C])
    (fun t => t.io = [.read [0x60]] ∧ t.regs.edi = 1) = true := by
  decide +kernel

/-! 95_test_vectors.md, control and system (V44, V45). -/

theorem test_jmp_wraps_at_16_bits : runs (real |> atEip 0x10 |> code [0xEB, 0x80])
    (fun t => t.eip = 0xFF92) = true := by
  decide +kernel

theorem test_jmp_beyond_limit_is_GP : runs (real |> word 52 0x20000050 |> code [0x66, 0xE9, 0x00, 0x00, 0x01, 0x00])
    (fun t => t.eip = 0x50 ∧ t.segs.cs.selector = 0x2000) = true := by
  decide +kernel

theorem test_jg_taken : runs (real |> code [0x0F, 0x8F, 0x00, 0x10])
    (fun t => t.eip = 0x1104) = true := by
  decide +kernel

theorem test_jcxz_16_bit_count : runs (real |> ecx 0x10000 |> code [0xE3, 0x05])
    (fun t => t.eip = 0x107) = true := by
  decide +kernel

theorem test_loop_16_bit_count : runs (real |> ecx 0xABCD0000 |> code [0xE2, 0xFE])
    (fun t => t.regs.ecx = 0xABCDFFFF ∧ t.eip = 0x100) = true := by
  decide +kernel

theorem test_loopne_ends_at_zero : runs (real |> ecx 1 |> code [0xE0, 0x10])
    (fun t => t.regs.ecx = 0 ∧ t.eip = 0x102) = true := by
  decide +kernel

theorem test_call_reads_before_push : runs (flat |> esp 0x6000 |> word 0x6000 0x3000 |> code [0xFF, 0x14, 0x24])
    (fun t => t.eip = 0x3000 ∧ t.regs.esp = 0x5FFC ∧ valueAt t 0x5FFC 4 = 0x400003) = true := by
  decide +kernel

theorem test_ret_releases : runs (real |> esp 0xFFE |> bytes 0xFFE [0x34,0x12] |> code [0xC2, 0x04, 0x00])
    (fun t => t.eip = 0x1234 ∧ t.regs.esp = 0x1004) = true := by
  decide +kernel

theorem test_far_jmp_from_reset : runs (State.reset |> code [0xEA, 0x5B, 0xE0, 0x00, 0xF0])
    (fun t => t.segs.cs.selector = 0xF000 ∧ t.segs.cs.base = 0xF0000 ∧ t.eip = 0xE05B) = true := by
  decide +kernel

theorem test_far_call_real : runs (real |> realSeg .cs 0x1000 |> atEip 0x10 |> esp 0x300 |> code [0x9A, 0x34, 0x12,
    0x00, 0x20])
    (fun t => valueAt t 0x2FC 4 = 0x10000015 ∧ t.regs.esp = 0x2FC ∧ t.segs.cs.base = 0x20000 ∧ t.eip =
      0x1234) = true := by
  decide +kernel

theorem test_far_ret_releases : runs (real |> esp 0x300 |> word 0x300 0x20001234 |> code [0xCA, 0x02, 0x00])
    (fun t => t.segs.cs.selector = 0x2000 ∧ t.eip = 0x1234 ∧ t.regs.esp = 0x306) = true := by
  decide +kernel

theorem test_far_jmp_protected_sets_accessed : runs (flat |> code [0xEA, 0x00, 0x10, 0x00, 0x00, 0x08, 0x00])
    (fun t => t.segs.cs.selector = 8 ∧ t.eip = 0x1000 ∧ valueAt t 0x100C 4 = 0xCF9B00 ∧ t.cpl = 0) = true := by
  decide +kernel

theorem test_int_real : runs (real |> realSeg .cs 0x1000 |> esp 0x300 |> eflags 0x202 |> word 0x84 0x00701460 |> code
    [0xCD, 0x21])
    (fun t => valueAt t 0x2FA 6 = 0x020210000102 ∧ t.regs.esp = 0x2FA ∧ t.flags.toWord = 2 ∧
      t.segs.cs.base = 0x700 ∧ t.eip = 0x1460) = true := by
  decide +kernel

theorem test_iret_real_flags : runs (real |> esp 0x2FA |> bytes 0x2FA [2,1,0,0x10,0xFF,0xFF] |> code [0xCF])
    (fun t => t.flags.toWord = 0x7FD7) = true := by
  decide +kernel

theorem test_int_to_inner_level : runs (gates user |> word 0x2180 0x00082000 |> word 0x2184 0xEE00 |> code [0xCD,
    0x30])
    (fun t => [valueAt t 0x8FFC 4, valueAt t 0x8FF8 4, valueAt t 0x8FF4 4, valueAt t 0x8FF0 4, valueAt t
      0x8FEC 4] = [0x23,0x7000,0x202,0x1B,0x400002] ∧ t.regs.esp = 0x8FEC ∧ t.eip = 0x2000 ∧ t.cpl =
      0 ∧ t.flags.toWord = 2 ∧ t.segs.ss.selector = 0x10 ∧ t.segs.cs.selector = 8) = true := by
  decide +kernel

theorem test_enter_level_1 : runs (flat |> esp 0x6000 |> ebp 0x7000 |> code [0xC8, 0x08, 0x00, 0x01])
    (fun t => valueAt t 0x5FF8 8 = 0x0000700000005FFC ∧ t.regs.ebp = 0x5FFC ∧ t.regs.esp = 0x5FF0) = true := by
  decide +kernel

theorem test_bound_is_BR : runs (real |> ebx 0x200 |> bytes 0x200 [0,0,4,0] |> word 20 0x20000050 |> eax 5 |> code
    [0x62, 0x07])
    (fun t => t.eip = 0x50 ∧ valueAt t 0xFFA 2 = 0x100) = true := by
  decide +kernel

theorem test_hlt_halts : runs (real |> code [0xF4])
    (fun t => t.run = .halted ∧ t.eip = 0x101) = true := by
  decide +kernel

theorem test_wait_is_NM : runs (real |> word 28 0x20000050 |> (fun s => { s with cr0 := { s.cr0 with mp := true, ts :=
    true } }) |> code [0x9B])
    (fun t => t.eip = 0x50) = true := by
  decide +kernel

theorem test_lgdt_32 : runs (real |> bytes 0x500 [0x3F,0,0,0x10,0,0] |> code [0x66, 0x0F, 0x01, 0x16, 0x00, 0x05])
    (fun t => t.gdtr = { base := 0x1000, limit := 0x3F }) = true := by
  decide +kernel

theorem test_sidt_after_reset : runs (real |> code [0x0F, 0x01, 0x0E, 0x00, 0x06])
    (fun t => valueAt t 0x600 6 = 0x3FF) = true := by
  decide +kernel

theorem test_lldt_of_code_segment_is_GP : runs (gates (flat |> eax 8) |> code [0x0F, 0x00, 0xD0])
    (fun t => t.eip = 0x30D0 ∧ valueAt t 0x7FF0 4 = 8 ∧ t.regs.esp = 0x7FF0 ∧ valueAt t (0x7FF0+4) 4 =
      0x400000) = true := by
  decide +kernel

theorem test_ltr_marks_busy : runs (flat |> eax 0x28 |> word 0x102C 0x8900 |> noTss |> code [0x0F, 0x00, 0xD8])
    (fun t => t.tr = SysReg.mk 0x28 true 0x5000 0x67 11 ∧ valueAt t 0x102C 4 = 0x8B00 ∧ t.cr0.ts =
      false) = true := by
  decide +kernel

theorem test_lmsw_keeps_PE : runs (flat |> eax 0xFFF0 |> code [0x0F, 0x01, 0xF0])
    (fun t => t.cr0.toWord = 0x11) = true := by
  decide +kernel

theorem test_clts : runs (flat |> (fun s => { s with cr0 := { s.cr0 with mp := true, ts := true } }) |> code [0x0F,
    0x06])
    (fun t => t.cr0.toWord = 0x13) = true := by
  decide +kernel

theorem test_mov_cr0_paging_without_protection_is_GP : runs (real |> eax 0x80000000 |> word 52 0x20000050 |> code
    [0x0F, 0x22, 0xC0])
    (fun t => t.eip = 0x50 ∧ t.segs.cs.selector = 0x2000 ∧ t.cr0.toWord = 0x10) = true := by
  decide +kernel

theorem test_mov_cr3_keeps_page_number : runs (flat |> ebx 0x123ABC |> code [0x0F, 0x22, 0xDB])
    (fun t => t.cr3 = 0x123000 ∧ t.tlb = []) = true := by
  decide +kernel

/-! 95_test_vectors.md, the coprocessor (V46, V47). -/

theorem test_fld_single_denormal : runs (flat |> word 0x6000 1 |> code [0xD9, 0x05, 0x00, 0x60, 0x00, 0x00])
    (fun t => t.fpu.st 0 = extOf 0x3F6A 0x8000000000000000 ∧ x87Flags t = 2) = true := by
  decide +kernel

theorem test_fild_minimum : runs (flat |> word 0x6000 0x80000000 |> code [0xDB, 0x05, 0x00, 0x60, 0x00, 0x00])
    (fun t => t.fpu.st 0 = extOf 0xC01E 0x8000000000000000) = true := by
  decide +kernel

theorem test_fst_rounds_up : runs (flat |> stackOf [extOf 0x3FFD 0xAAAAAAAAAAAAAAAB] |> code [0xD9, 0x15, 0x00, 0x60,
    0x00, 0x00])
    (fun t => valueAt t 0x6000 4 = 0x3EAAAAAB ∧ x87Flags t = 0x20 ∧ t.fpu.fsw.c1 ∧ t.fpu.fsw.top = 7) = true := by
  decide +kernel

theorem test_fistp_rounds_to_even : runs (flat |> stackOf [extOf 0x4000 0xE000000000000000] |> code [0xDB, 0x1D, 0x00,
    0x60, 0x00, 0x00])
    (fun t => valueAt t 0x6000 4 = 4 ∧ x87Flags t = 0x20 ∧ t.fpu.fsw.c1) = true := by
  decide +kernel

theorem test_fbstp_digits : runs (flat |> stackOf [extOf 0xC00C 0xC0E4000000000000] |> code [0xDF, 0x35, 0x00, 0x60,
    0x00, 0x00])
    (fun t => valueAt t 0x6000 10 = 0x80000000000000012345 ∧ x87Flags t = 0 ∧ t.fpu.ftw = 0xFFFF) = true := by
  decide +kernel

theorem test_fldpi_nearest : runs (flat |> code [0xD9, 0xEB])
    (fun t => t.fpu.st 0 = extOf 0x4000 0xC90FDAA22168C235 ∧ x87Flags t = 0 ∧ t.fpu.fsw.c1 = false) = true := by
  decide +kernel

theorem test_fadd : runs (flat |> stackOf [extOf 0x3FFF 0x8000000000000000, extOf 0x4000 0x8000000000000000] |> code
    [0xD8, 0xC1])
    (fun t => t.fpu.st 0 = (extOf 0x4000 0xC000000000000000) ∧ x87Flags t = 0 ∧ t.fpu.fsw.c1 = false) = true := by
  decide +kernel

theorem test_fdiv_rounds_up : runs (flat |> stackOf [extOf 0x3FFF 0x8000000000000000, extOf 0x4000 0xC000000000000000]
    |> code [0xD8, 0xF1])
    (fun t => t.fpu.st 0 = (extOf 0x3FFD 0xAAAAAAAAAAAAAAAB) ∧ x87Flags t = 0x20 ∧ t.fpu.fsw.c1 = true) = true := by
  decide +kernel

theorem test_fdiv_by_zero : runs (flat |> stackOf [extOf 0x3FFF 0x8000000000000000, extOf 0 0] |> code [0xD8, 0xF1])
    (fun t => t.fpu.st 0 = (extOf 0x7FFF 0x8000000000000000) ∧ x87Flags t = 4) = true := by
  decide +kernel

theorem test_fsqrt_of_2 : runs (flat |> stackOf [extOf 0x4000 0x8000000000000000] |> code [0xD9, 0xFA])
    (fun t => t.fpu.st 0 = (extOf 0x3FFF 0xB504F333F9DE6484) ∧ x87Flags t = 0x20 ∧ t.fpu.fsw.c1 = false) = true := by
  decide +kernel

theorem test_fscale_truncates_count : runs (flat |> stackOf [extOf 0x4000 0xC000000000000000, extOf 0x3FFE
    0x8000000000000000] |> code [0xD9, 0xFD])
    (fun t => t.fpu.st 0 = (extOf 0x4000 0xC000000000000000) ∧ x87Flags t = 0) = true := by
  decide +kernel

theorem test_fprem_quotient_bits : runs (flat |> stackOf [extOf 0x4001 0xE000000000000000, extOf 0x4000
    0x8000000000000000] |> code [0xD9, 0xF8])
    (fun t => t.fpu.st 0 = (extOf 0x3FFF 0x8000000000000000) ∧
      [t.fpu.fsw.c2,t.fpu.fsw.c0,t.fpu.fsw.c3,t.fpu.fsw.c1] = [false,false,true,true]) = true := by
  decide +kernel

theorem test_fprem1_nearest : runs (flat |> stackOf [extOf 0x4001 0xE000000000000000, extOf 0x4000 0x8000000000000000]
    |> code [0xD9, 0xF5])
    (fun t => t.fpu.st 0 = (extOf 0xBFFF 0x8000000000000000) ∧
      [t.fpu.fsw.c2,t.fpu.fsw.c0,t.fpu.fsw.c3,t.fpu.fsw.c1] = [false,true,false,false]) = true := by
  decide +kernel

theorem test_frndint_to_even : runs (flat |> stackOf [extOf 0x4000 0xA000000000000000] |> code [0xD9, 0xFC])
    (fun t => t.fpu.st 0 = (extOf 0x4000 0x8000000000000000) ∧ x87Flags t = 0x20 ∧ t.fpu.fsw.c1 = false) = true := by
  decide +kernel

theorem test_fxtract : runs (flat |> stackOf [extOf 0x4002 0xC000000000000000] |> code [0xD9, 0xF4])
    (fun t => t.fpu.fsw.top = 6 ∧ t.fpu.st 1 = (extOf 0x4000 0xC000000000000000) ∧ t.fpu.st 0 = (extOf
      0x3FFF 0xC000000000000000) ∧ x87Flags t = 0) = true := by
  decide +kernel

theorem test_fabs : runs (flat |> stackOf [extOf 0xBFFF 0x8000000000000000] |> code [0xD9, 0xE1])
    (fun t => t.fpu.st 0 = (extOf 0x3FFF 0x8000000000000000) ∧ x87Flags t = 0 ∧ t.fpu.fsw.c1 = false) = true := by
  decide +kernel

theorem test_fchs_of_zero : runs (flat |> stackOf [extOf 0 0] |> code [0xD9, 0xE0])
    (fun t => t.fpu.st 0 = (extOf 0x8000 0) ∧ x87Flags t = 0) = true := by
  decide +kernel

theorem test_fcom_quiet_nan_is_IA : runs (flat |> stackOf [extOf 0x3FFF 0x8000000000000000, extOf 0x7FFF
    0xC000000000000000] |> code [0xD8, 0xD1])
    (fun t => t.fpu.fswWord = 0x7501) = true := by
  decide +kernel

theorem test_fucom_quiet_nan : runs (flat |> stackOf [extOf 0x3FFF 0x8000000000000000, extOf 0x7FFF
    0xC000000000000000] |> code [0xDD, 0xE1])
    (fun t => t.fpu.fswWord = 0x7500) = true := by
  decide +kernel

theorem test_fcom_empty_is_IS : runs (flat |> code [0xD8, 0xD1])
    (fun t => t.fpu.fswWord = 0x4541) = true := by
  decide +kernel

theorem test_fxam_denormal : runs (flat |> stackOf [extOf 0 1, extOf 0x3FFF 0x8000000000000000] |> code [0xD9, 0xE5])
    (fun t => t.fpu.fswWord = 0x7400) = true := by
  decide +kernel

theorem test_fnstsw_reports_ES : runs (real |> word 64 0x20000050 |> fcw 0x37B |> fsw 0x3804 |> code [0xDD, 0x3E,
    0x00, 0x02])
    (fun t => valueAt t 0x200 2 = 0xB884 ∧ t.eip = 0x104) = true := by
  decide +kernel

/-! 96_test_vectors_system.md (V20, V60). -/

theorem test_expand_down_at_limit_is_GP : runs (gates (flat |> seg .ds 0x10 0x9600 0xFFF |> ebx 0xFFF) |> code [0x8A,
    0x03])
    (fun t => t.eip = 0x30D0 ∧ valueAt t 0x7FF0 4 = 0 ∧ t.regs.esp = 0x7FF0 ∧ valueAt t (0x7FF0+4) 4 =
      0x400000) = true := by
  decide +kernel

theorem test_push_wraps_at_16_bits : runs (flat |> seg .ss 0x10 0x9200 0xFFFF |> esp 0 |> eax 7 |> code [0x66, 0x50])
    (fun t => valueAt t 0xFFFE 2 = 7 ∧ t.regs.esp = 0xFFFE) = true := by
  decide +kernel

theorem test_DE_frame_in_protected_mode : runs (gates (flat |> eflags 0x202) |> code [0xF7, 0xF3])
    (fun t => [valueAt t 0x7FFC 4,valueAt t 0x7FF8 4,valueAt t 0x7FF4 4] = [0x10202,8,0x400000] ∧
      t.regs.esp = 0x7FF4 ∧ t.eip = 0x3000 ∧ t.flags.toWord = 2 ∧ t.segs.cs.selector = 8) = true := by
  decide +kernel

theorem test_cli_at_CPL_3_enters_ring_0 : runs (gates user |> code [0xFA])
    (fun t => [valueAt t 0x8FFC 4,valueAt t 0x8FF8 4,valueAt t 0x8FF4 4,valueAt t 0x8FF0 4,valueAt t
      0x8FEC 4,valueAt t 0x8FE8 4] = [0x23,0x7000,0x10202,0x1B,0x400000,0] ∧ t.regs.esp = 0x8FE8 ∧
      t.cpl = 0 ∧ t.segs.ds.selector = 0x23 ∧ t.flags.toWord = 2) = true := by
  decide +kernel

theorem test_fault_in_double_fault_is_shutdown : runs (gates (flat |> eflags 0x202) |> eax 0x43 |> word 0x206C 0x0E00
    |> word 0x2044 0x0E00 |> code [0x8E, 0xD8])
    (fun t => t.run = .shutdown ∧ t.eip = 0x400000 ∧ t.regs.esp = 0x8000) = true := by
  decide +kernel

theorem test_nmi_ends_halt : runs (haltedNmi (gates flat) |> code [0x90])
    (fun t => t.run = .running ∧ t.eip = 0x3020 ∧ valueAt t 0x7FF4 4 = 0x400000) = true := by
  decide +kernel

theorem test_faulting_iret_unblocks_NMI : runs ((fun s => { s with nmiBlocked := true }) (gates flat) |> esp 0x7000 |>
    code [0xCF])
    (fun t => t.nmiBlocked = false ∧ t.eip = 0x30D0) = true := by
  decide +kernel

theorem test_int3_returns_to_next : runs (gates (flat |> eflags 0x202) |> code [0xCC])
    (fun t => valueAt t 0x7FFC 4 = 0x202 ∧ valueAt t 0x7FF4 4 = 0x400001 ∧ t.eip = 0x3030) = true := by
  decide +kernel

/-! ### Witnesses: states and operands that meet the premises of the statements -/

/-- The operation gives a result. -/
def isOk {α : Type} : EStateM.Result Stop State α → Bool
  | .ok _ _ => true
  | .error _ _ => false

theorem one {α : Type} {x : M α} {s : State} (h : isOk (x s) = true) : ∃ a t, x s = .ok a t := by
  cases e : x s with
  | ok a t => exact ⟨a, t, rfl⟩
  | error _ _ => rw [e] at h; cases h

theorem done {x : M Unit} {s : State} (h : isOk (x s) = true) : ∃ t, x s = .ok () t := by
  obtain ⟨_, t, e⟩ := one h
  exact ⟨t, e⟩

/-- The operation gives a result, of which `p` holds. -/
def okThen {α : Type} (p : α → State → Bool) : EStateM.Result Stop State α → Bool
  | .ok a t => p a t
  | .error _ _ => false

/-- The operation gives this result and this state. -/
theorem exactly {α : Type} [DecidableEq α] {a : α} {t : State} {r : EStateM.Result Stop State α}
    (h : okThen (fun b u => decide (b = a ∧ u = t)) r = true) : r = .ok a t := by
  cases r with
  | ok b u =>
      obtain ⟨rfl, rfl⟩ := of_decide_eq_true h
      rfl
  | error _ _ => cases h

theorem two {α β : Type} {x : M α} {y : α → State → EStateM.Result Stop State β} {s : State}
    (h : okThen (fun a t => isOk (y a t)) (x s) = true) : ∃ a b t u, x s = .ok a t ∧ y a t = .ok b u := by
  cases e : x s with
  | ok a t =>
      rw [e] at h
      cases e' : y a t with
      | ok b u => exact ⟨a, b, t, u, rfl, e'⟩
      | error _ _ => simp [okThen, e', isOk] at h
  | error _ _ => rw [e] at h; cases h

/-- The operation raises this. -/
def raises {α : Type} (e : Exn) : EStateM.Result Stop State α → Bool
  | .error (.exc b false) _ => decide (e = b)
  | _ => false

theorem stops {α : Type} {x : M α} {s : State} {e : Exn} (h : raises e (x s) = true) : ∃ t, x s = .error (.exc e false) t := by
  revert h
  cases x s with
  | ok _ _ => intro h; cases h
  | error b t =>
      cases b with
      | exc b c =>
          cases c <;> simp only [raises, decide_eq_true_eq] <;> intro h
          · exact ⟨t, by rw [h]⟩
          · cases h
      | wait => intro h; cases h
      | refuse _ => intro h; cases h

theorem goes {o : Host.Outcome State Fault Refusal} (h : goesOn o = true) : ∃ t, o = .next t := by
  cases o with
  | next t => exact ⟨t, rfl⟩
  | fault _ => cases h
  | refused _ => cases h

theorem goesTo {o : Host.Outcome State Fault Refusal} {p : State → Bool}
    (h : (match o with
      | .next t => p t
      | _ => false) = true) : ∃ t, o = .next t ∧ p t = true := by
  cases o with
  | next t => exact ⟨t, rfl, h⟩
  | fault _ => cases h
  | refused _ => cases h

theorem within {g : SegReg} {off : Word} {n : Nat} (hn : 0 < n) (h : g.inLimit off n = true) : Within g off n :=
  (inLimit_iff hn).1 h

theorem room {s : State} {n k : Nat} (hn : 0 < n)
    (h : (List.range k).all (fun j => s.segs.ss.inLimit (below s.stackSize s.sp n (j + 1)) n) = true) : Room s n k := by
  intro j hj
  exact within hn (List.all_eq_true.1 h j (List.mem_range.2 hj))

/-- A gate at a vector of the IDT at 2000H. -/
def gateAt (v hi lo : Nat) (s : State) : State := s |> word (0x2000 + 8 * v) lo |> word (0x2004 + 8 * v) hi

/-- A descriptor in the GDT at 1000H. -/
def descriptor (sel hi lo : Nat) (s : State) : State := s |> word (0x1000 + sel) lo |> word (0x1004 + sel) hi

/-- More descriptors: 40H data not present, 48H accessed data, 50H accessed conforming code, 58H accessed code, 60H an LDT, 68H an
available TSS, 70H accessed data, 78H an LDT not present; an LDT at 6000H; the stack of level 0 in 0070H. -/
def more (s : State) : State :=
  { s with gdtr := { base := 0x1000, limit := 0x7F }, ldtr := SysReg.mk 0x60 true 0x6000 0xF 2 }
    |> descriptor 0x40 0x00CF1200 0xFFFF |> descriptor 0x48 0x00CF9300 0xFFFF |> descriptor 0x50 0x00CF9F00 0xFFFF
    |> descriptor 0x58 0x00CF9B00 0xFFFF |> descriptor 0x60 0x00008200 0x6000000F |> descriptor 0x68 0x00008900 0x51000067
    |> descriptor 0x70 0x00CF9300 0xFFFF |> descriptor 0x78 0x00000200 0x6000000F |> word 0x6008 0xFFFF
    |> word 0x600C 0x00CF9300 |> word 0x5008 0x70

/-- Level 0 and level 3 with those. -/
def ring0 : State := more flat
def ring3 : State := more user

/-! #### The machine -/

theorem wit_StepKeepsMemoryInv : ∃ s t, memoryInv s = true ∧ step s = .next t :=
  have ⟨t, h⟩ := goes (o := step (flat |> eax 7 |> code [0x50])) (by decide +kernel)
  ⟨_, t, by decide +kernel, h⟩

theorem wit_StepKeepsModes : (∃ s t, modesLegal s ∧ step s = .next t) ∧ (modesLegal (v86 3 real) ∧ modesLegal flat) :=
  have ⟨t, h⟩ := goes (o := step (v86 3 real |> code [0x90])) (by decide +kernel)
  ⟨⟨_, t, ⟨by decide +kernel, fun _ => ⟨rfl, rfl⟩, by decide +kernel⟩, h⟩,
    ⟨by decide +kernel, fun _ => ⟨rfl, rfl⟩, by decide +kernel⟩, by decide +kernel, by decide +kernel, by decide +kernel⟩

theorem wit_UserKeepsSystemRegisters :
    (∃ s t, s.cr0.pe = true ∧ s.cpl ≠ 0 ∧ s.resetIn = none ∧ step s = .next t ∧ t.cr0.ts = false) ∧
    (∃ s t, s.cr0.pe = true ∧ s.flags.vm = true ∧ s.resetIn = none ∧ step s = .next t) :=
  have ⟨t, h, e⟩ := goesTo (o := step (user |> code [0x90])) (p := fun t => !t.cr0.ts) (by decide +kernel)
  have ⟨u, g⟩ := goes (o := step (v86 0 real |> code [0x90])) (by decide +kernel)
  ⟨⟨_, t, rfl, by decide, rfl, h, by simpa using e⟩, _, u, rfl, rfl, rfl, g⟩

theorem wit_DecodeEncode :
    (Instr.wf .s16 .s16 (.addEaxImm 0xFFFF) = true ∧ ¬∃ f, PrefixForm (.addEaxImm 0xFFFF) f) ∧ ∃ f, PrefixForm .repne f :=
  ⟨⟨by decide, fun ⟨_, h⟩ => nomatch h⟩, _, .repne⟩

/-- ADD AX,1234H at the start of `real`. -/
def addHere : State := real |> code [0x05, 0x34, 0x12]

theorem wit_StepRunsDecoded :
    ∃ f, boundary addHere = none ∧ addHere.run = .running ∧ addHere.execHits = 0 ∧ addHere.cr0.pg = false ∧
      Spells addHere [0x05, 0x34, 0x12] f ∧ InCode addHere [0x05, 0x34, 0x12] ∧ LegalHere addHere f ∧ f.prefixes = [] := by
  refine ⟨{ prefixes := [], instr := .addEaxImm 0x1234, length := 3, fop := fopOf [0x05, 0x34, 0x12] }, rfl, rfl, by decide, rfl,
    ⟨rfl, ?_⟩, ?_, ⟨.inl rfl, .inl (by decide)⟩, rfl⟩
  · intro k h0 h3
    have : k = 1 ∨ k = 2 := by simp at h3; omega
    rcases this with rfl | rfl <;> exact ⟨rfl, .inr rfl⟩
  · intro k h
    have : k = 0 ∨ k = 1 ∨ k = 2 := by simp at h; omega
    rcases this with rfl | rfl | rfl
    · exact ⟨by decide +kernel, by decide +kernel, show Memory.read _ _ = (0x05 : Byte) by decide +kernel⟩
    · exact ⟨by decide +kernel, by decide +kernel, show Memory.read _ _ = (0x34 : Byte) by decide +kernel⟩
    · exact ⟨by decide +kernel, by decide +kernel, show Memory.read _ _ = (0x12 : Byte) by decide +kernel⟩

theorem wit_StepRunsDecoded_prefix : ∃ f, PrefixForm .lock f := ⟨_, .lock⟩

/-! #### Memory -/

theorem wit_StoreThenLoad : Memory.wf [(0xFFFFFFFF, (7 : Byte))] = true ∧ (2 : Nat) ^ 32 ≤ 2 ^ 32 := by decide

theorem wit_AccessChecks_refused :
    flat.protectedMode = true ∧ (flat.segs.get .fs).writable = true ∧
    (({ flat with segs := { flat.segs with fs := (flat.segs.fs).nulled 0 } } : State).segs.get .fs).valid = false ∧
    (flat.segs.get .cs).writable = false := by decide +kernel

theorem wit_AccessChecks_limit :
    ¬(real.protectedMode = true) ∧ ¬Within (real.segs.get .ss) 0xFFFF 2 ∧ Within (real.segs.get .ss) 0xFFFE 2 ∧
    real.cr0.pg = false := by
  refine ⟨by decide, fun h => ?_, within (by decide) (by decide +kernel), rfl⟩
  exact absurd ((inLimit_iff (by decide)).2 h) (by decide +kernel)

/-- An expand-down segment with limit 0FFFH, 16 bits: the first offset within it is 1000H, the last FFFFH. -/
def downSeg : SegReg := segmentOf 0x10 0x0000960000000FFF

theorem wit_AccessChecks_down : Within downSeg 0x1000 1 ∧ Within downSeg 0xFFFF 1 ∧ ¬Within downSeg 0xFFF 1 ∧
    ¬Within downSeg 0xFFFF 2 := by
  refine ⟨within (by decide) (by decide +kernel), within (by decide) (by decide +kernel), fun h => ?_, fun h => ?_⟩ <;>
    exact absurd ((inLimit_iff (by decide)).2 h) (by decide +kernel)

/-- Page tables for the linear address 00403025H: directory entry and table entry. -/
def paged (pde pte : Nat) : State := { real with cr3 := 0x10000 } |> word 0x10004 pde |> word 0x1200C pte

/-- A bit of the entries. -/
def entryBit (s : State) (a : Word) (j : Nat) : Bool := (BitVec.ofNat 32 (Memory.load s.mem (addrs a 4)) : Word).getLsbD j

theorem wit_PageWalk_entries : Memory.wf (paged 0x12000 0x12003).mem = true ∧ entryBit (paged 0x12000 0x12003) 0x10004 0 = false ∧
    entryBit (paged 0x12001 0x12002) 0x10004 0 = true ∧ entryBit (paged 0x12001 0x12002) 0x1200C 0 = false := by
  decide +kernel

theorem wit_PageWalk_rights :
    (entryBit (paged 0x12007 0x12003) 0x10004 0 = true ∧ entryBit (paged 0x12007 0x12003) 0x1200C 0 = true ∧
      entryBit (paged 0x12007 0x12003) 0x1200C 2 = false) ∧
    (entryBit (paged 0x12005 0x12007) 0x10004 2 = true ∧ entryBit (paged 0x12005 0x12007) 0x1200C 2 = true ∧
      entryBit (paged 0x12005 0x12007) 0x10004 1 = false) := by
  decide +kernel

/-! #### Arithmetic and logic -/

theorem wit_AddSubtract :
    (AluForm real.opSize (.adcRmR (.mem (.a16 .bx 0xFFFE)) .ecx) .adc .w16 (.mem (.a16 .bx 0xFFFE)) (.reg .ecx) ∧
      ∃ b as s1 s2, readOp .w16 (.reg .ecx) (past real) = .ok b s1 ∧ openDest .w16 (.mem (.a16 .bx 0xFFFE)) s1 = .ok as s2) ∧
    (UnaryForm flat.opSize (.negRm (.reg .ebx)) .neg .w32 (.reg .ebx) ∧
      ∃ as s1, openDest .w32 (.reg .ebx) (past flat) = .ok as s1) :=
  ⟨⟨.adcRmR .., two (by decide +kernel)⟩, .negRm _, one (by decide +kernel)⟩

theorem wit_LogicAndCompare :
    (AluForm real.opSize (.xorRm8R8 (.mem (.a16 .none 0xFFFF)) .al) .xor .w8 (.mem (.a16 .none 0xFFFF)) (.reg8 .al) ∧
      ∃ b as s1 s2, readOp .w8 (.reg8 .al) (past real) = .ok b s1 ∧ openDest .w8 (.mem (.a16 .none 0xFFFF)) s1 = .ok as s2) ∧
    (AluForm flat.opSize (.cmpRRm .eax (.mem (.a32 none none 0xFFFFFFFC))) .cmp .w32 (.reg .eax) (.mem (.a32 none none 0xFFFFFFFC)) ∧
      ∃ b a s1 s2, readOp .w32 (.mem (.a32 none none 0xFFFFFFFC)) (past flat) = .ok b s1 ∧ readOp .w32 (.reg .eax) s1 = .ok a s2) ∧
    (TestForm real.opSize (.testAlImm8 1) .w8 (.reg8 .al) (.imm 1) ∧
      ∃ b a s1 s2, readOp .w8 (.imm 1) (past real) = .ok b s1 ∧ readOp .w8 (.reg8 .al) s1 = .ok a s2) :=
  ⟨⟨.xorRm8R8 .., two (by decide +kernel)⟩, ⟨.cmpRRm .., two (by decide +kernel)⟩, .testAlImm8 1, two (by decide +kernel)⟩

theorem wit_Multiply :
    (MulForm flat.opSize (.imulRm (.reg .ebx)) true .w32 (.reg .ebx) ∧ ∃ b s1, readOp .w32 (.reg .ebx) (past flat) = .ok b s1) ∧
    (ImulForm real.opSize (.imulRRmImm8 .ecx (.reg .ebx) 0x80) .w16 .ecx (.reg .ebx) (.imm 0xFFFFFF80) ∧
      ∃ a b s1 s2, readOp .w16 (.reg .ebx) (past real) = .ok a s1 ∧ readOp .w16 (.imm 0xFFFFFF80) s1 = .ok b s2) :=
  ⟨⟨.imulRm _, one (by decide +kernel)⟩, .imulRRmImm8 .ecx (.reg .ebx) 0x80, two (by decide +kernel)⟩

/-- AX = -128 by 1 has the least quotient; AX = 128 by 1 has none, nor has a division by zero. -/
theorem wit_Divide :
    (DivForm real.opSize (.idivRm8 (.reg .bl)) true .w8 (.reg8 .bl) ∧
      ∃ b s1, readOp .w8 (.reg8 .bl) (past (real |> eax 0xFF80 |> ebx 1)) = .ok b s1) ∧
    (dividend true .w8 (real |> eax 0xFF80).regs = -128 ∧ dividend true .w8 (real |> eax 0x80).regs = 128) ∧
    ((-128 : Int) = -128 * 1 + 0 ∧ (0 : Int).natAbs < (1 : Int).natAbs ∧ (0 : Int) ≤ 0 * (-128) ∧ InRange true 8 (-128)) ∧
    (¬∃ q r : Int, 128 = q * 1 + r ∧ r.natAbs < (1 : Int).natAbs ∧ 0 ≤ r * 128 ∧ InRange true 8 q) ∧
    (¬∃ q r : Int, 5 = q * 0 + r ∧ r.natAbs < (0 : Int).natAbs ∧ 0 ≤ r * 5 ∧ InRange true 8 q) := by
  refine ⟨⟨.idivRm8 (.reg .bl), one (by decide +kernel)⟩, by decide +kernel, by decide, ?_, ?_⟩
  · rintro ⟨q, r, h1, h2, -, h3⟩
    have : q ≤ 127 := h3.2
    omega
  · rintro ⟨q, r, -, h2, -⟩
    simp at h2

theorem wit_AccumulatorAdjust : (1 : Byte) ≠ 0 ∧ (0xFF : Byte) ≠ 0 := by decide

theorem wit_Shifts :
    (ShiftForm real.opSize (.sarRm8Cl (.mem (.a16 .si 0))) .sar .w8 (.mem (.a16 .si 0)) .cl ∧
      ∃ as s1, openDest .w8 (.mem (.a16 .si 0)) (past real) = .ok as s1) ∧
    countOf (real |> ecx 0x20) .cl = 0 ∧ countOf (real |> ecx 0x1F) .cl = 31 ∧ countOf real (.imm 1) = 1 ∧
    countOf real (.imm 8) = 8 :=
  ⟨⟨.sarRm8Cl _, one (by decide +kernel)⟩, by decide +kernel⟩

theorem wit_Rotates :
    (ShiftForm flat.opSize (.rcrRmImm8 (.reg .edx) 31) .rcr .w32 (.reg .edx) (.imm 31) ∧
      ∃ as s1, openDest .w32 (.reg .edx) (past flat) = .ok as s1) ∧
    countOf flat (.imm 31) = 31 ∧ countOf flat (.imm 32) = 0 ∧ countOf flat .one = 1 :=
  ⟨⟨.rcrRmImm8 .., one (by decide +kernel)⟩, by decide +kernel⟩

theorem wit_DoubleShifts :
    (DoubleForm real.opSize (.shrdRmRImm8 (.reg .eax) .ebx 16) false .w16 (.reg .eax) .ebx (.imm 16) ∧
      ∃ as s1, openDest .w16 (.reg .eax) (past real) = .ok as s1) ∧
    countOf real (.imm 32) = 0 ∧ countOf real (.imm 1) = 1 ∧ countOf real (.imm 16) = 16 ∧ countOf real (.imm 17) = 17 :=
  ⟨⟨.shrdRmRImm8 .., one (by decide +kernel)⟩, by decide +kernel⟩

/-- A bit offset of -1 from EBX = 6000H reaches the word before it. -/
theorem wit_BitInstructions :
    BitForm (.btsRmR (.mem (.a32 (some .ebx) none 0)) .eax) .set (.mem (.a32 (some .ebx) none 0)) (.reg .eax) ∧
    (bitOffset (flat |> eax 0xFFFFFFFF) (.reg .eax) = -1 ∧ ∃ as s1, access .ds 0x5FFC 4 true (past flat) = .ok as s1) ∧
    BitForm (.btRmImm8 (.reg .ecx) 31) .test (.reg .ecx) (.imm 31) ∧
    (∃ (a : BitVec 16) (s1 : State), readOp .w16 (.reg .esi) (past real) = .ok a s1) ∧ (8 : BitVec 16) ≠ 0 :=
  ⟨.btsRmR .., ⟨by decide +kernel, one (by decide +kernel)⟩, .btRmImm8 .., one (by decide +kernel), by decide⟩

theorem wit_ConditionCodes :
    (SetForm (.setleRm8 (.reg .al)) .le (.reg .al) ∧ ∃ as s1, openDest .w8 (.reg8 .al) (past real) = .ok as s1) ∧
    (Holds .le (real |> eflags 0x40).flags ∧ ¬Holds .le real.flags) ∧ conditions[0]? = some Cond.o ∧
    conditions[15]? = some Cond.g ∧ 0xFFFF < 256 ^ sizeBytes .s16 :=
  ⟨⟨.setleRm8 _, one (by decide +kernel)⟩, ⟨.inl rfl, by unfold Holds; decide +kernel⟩, rfl, rfl, by decide⟩

/-! #### Data movement -/

theorem wit_Moves :
    (MoveForm real.opSize (.movRmR (.mem (.a16 .none 0xFFFE)) .eax) .w16 (.mem (.a16 .none 0xFFFE)) (.reg .eax) ∧
      ∃ v as s1 s2, readOp .w16 (.reg .eax) (past real) = .ok v s1 ∧ openDest .w16 (.mem (.a16 .none 0xFFFE)) s1 = .ok as s2) ∧
    (ExtendForm (.movsxRRm8 .eax (.reg .ah)) true .w8 .eax (.reg8 .ah) ∧ ∃ v s1, readOp .w8 (.reg8 .ah) (past real) = .ok v s1) ∧
    (∃ v s1, memRead real.dsSeg 0xFFFF 1 (past real) = .ok v s1) ∧
    (∃ v s1, memRead flat.dsSeg 0x6000 flat.width.bytes (past flat) = .ok v s1) ∧
    (∃ as s1, access real.dsSeg 0xFFFF 1 true (past real) = .ok as s1) ∧
    (∃ as s1, access flat.dsSeg 0xFFFFFFFC flat.width.bytes true (past flat) = .ok as s1) :=
  ⟨⟨.movRmR .., two (by decide +kernel)⟩, ⟨.movsxRRm8 .., one (by decide +kernel)⟩, one (by decide +kernel),
    one (by decide +kernel), one (by decide +kernel), one (by decide +kernel)⟩

theorem wit_SegmentMoves :
    (∃ as s1, accessMem (.a16 .bx 0) 2 true (past real) = .ok as s1) ∧ real.opSize = .s16 ∧ flat.opSize = .s32 ∧
    (∃ v u s1 s2, readOp .w16 (.reg .eax) (past real) = .ok v s1 ∧ loadSreg .ss v s1 = .ok u s2) ∧
    (FarLoadForm (.lssRM .esp (.a16 .bx 0)) .esp .ss (.a16 .bx 0) ∧
      ∃ v u s1 s2, readMem (.a16 .bx 0) 4 (past real) = .ok v s1 ∧
        loadSreg .ss (BitVec.ofNat 16 (v / 2 ^ real.width.bits)) s1 = .ok u s2) ∧
    (∃ v u s1 s2, readMem (.a32 none none 0x2000) 6 (past flat) = .ok v s1 ∧
      loadSreg .fs (BitVec.ofNat 16 (v / 2 ^ flat.width.bits)) s1 = .ok u s2) :=
  ⟨one (by decide +kernel), rfl, by decide +kernel, two (by decide +kernel), ⟨.lssRM .., two (by decide +kernel)⟩,
    two (by decide +kernel)⟩

theorem wit_SegmentLoad_real : real.protectedMode = false ∧ (v86 0 real).protectedMode = false := by decide

theorem wit_SegmentLoad_null : flat.protectedMode = true ∧ (3 : Half).toNat / 4 = 0 ∧ (4 : Half).toNat / 4 ≠ 0 := by
  decide +kernel

/-- The last descriptor of the GDT and of the LDT, and one beyond each. -/
theorem wit_SegmentLoad_table : descriptorAt ring0 0x78 = some 0x1078 ∧ descriptorAt ring0 0x80 = none ∧
    descriptorAt ring0 0x0C = some 0x6008 ∧ descriptorAt ring0 0x14 = none := by decide +kernel

/-- What a descriptor read gives. -/
def readsDesc (s : State) (a : Word) (d : Desc) : Bool :=
  match linRead a 8 s with
  | .ok v _ => decide ((BitVec.ofNat 64 v : Desc) = d)
  | .error _ _ => false

theorem wit_SegmentLoad_desc : readsDesc ring0 0x1048 0x00CF93000000FFFF = true ∧ readsDesc ring0 0x1040 0x00CF12000000FFFF = true ∧
    readsDesc ring0 0x1010 0x00CF92000000FFFF = true ∧
    ((0x00CF93000000FFFF : Desc).readable = true ∧ (0x00CF93000000FFFF : Desc).p = true ∧
      (0x00CF93000000FFFF : Desc).getLsbD 40 = true ∧ (0x00CF92000000FFFF : Desc).getLsbD 40 = false ∧
      (0x00CF12000000FFFF : Desc).p = false ∧ (0x48 : Half).toNat % 4 = ring0.cpl.toNat ∧
      (0x00CF93000000FFFF : Desc).writableData = true ∧ (0x00CF93000000FFFF : Desc).dpl = ring0.cpl) ∧
    (∃ s2, linWriteSysByte (0x1010 + 5) 0x93 ring0 = .ok () s2) ∧
    ((0x00CF9B000000FFFF : Desc).writableData = false ∧ (0x00CF93000000FFFF : Desc).conforming = false ∧
      ¬((0x4B : Half).toNat % 4 ≤ (0x00CF93000000FFFF : Desc).dpl.toNat)) :=
  ⟨by decide +kernel, by decide +kernel, by decide +kernel, by decide +kernel, done (by decide +kernel), by decide⟩

theorem wit_Moves_exchange :
    (ExchangeForm flat.opSize (.xchgRm8R8 (.mem (.a32 (some .ebx) none 0)) .al) .w8 (.mem (.a32 (some .ebx) none 0)) (.reg8 .al) ∧
      ∃ as s1, openDest .w8 (.mem (.a32 (some .ebx) none 0)) (past flat) = .ok as s1) ∧
    ∃ v s1, memRead real.dsSeg (sizeTrunc real.adSize (real.regs.ebx + zext (real.regs.get8 .al))) 1 (past real) = .ok v s1 :=
  ⟨⟨.xchgRm8R8 .., one (by decide +kernel)⟩, one (by decide +kernel)⟩

theorem wit_Pushes :
    (PushForm (.pushR .eax) (.reg .eax) ∧ ∃ v as s1 s2, readOp real.width (.reg .eax) (past real) = .ok v s1 ∧
      stackAccess real.segs.ss (below real.stackSize real.sp real.width.bytes 1) real.width.bytes true real.user 0 s1 = .ok as s2) ∧
    (PushSegForm .pushFs .fs ∧ ∃ as s1,
      stackAccess flat.segs.ss (below flat.stackSize flat.sp flat.width.bytes 1) flat.width.bytes true flat.user 0 (past flat) =
        .ok as s1) ∧
    ((v86 2 real).v86 = true ∧ (v86 2 real).flags.iopl ≠ 3) ∧ ((v86 3 real).flags.iopl = 3 ∧ user.v86 = false) ∧
    (∃ as s1, stackAccess user.segs.ss (below user.stackSize user.sp user.width.bytes 1) user.width.bytes true user.user 0
      (past user) = .ok as s1) :=
  ⟨⟨.pushR .eax, two (by decide +kernel)⟩, ⟨.pushFs, one (by decide +kernel)⟩, by decide, by decide +kernel, one (by decide +kernel)⟩

/-- Real-address mode, operand size 32, the stack pointer given. -/
def lowSp (v : Word) : State := { real with ins := { Ins.none with opsize := true } } |> esp v

theorem wit_Pushes_shutdown :
    ((lowSp 2).cr0.pe = false ∧ (lowSp 2).opSize = .s32 ∧ (lowSp 2).stackSize = .s16 ∧ (lowSp 2).flags.vm = false) ∧
    (∀ v ∈ ([1, 2, 3] : List Word), ¬Within (lowSp v).segs.ss (below (lowSp v).stackSize (lowSp v).sp 4 1) 4) ∧
    (∃ v s1, readOp (lowSp 2).width (.reg .eax) (past (lowSp 2)) = .ok v s1) := by
  have h : ([1, 2, 3] : List Word).all
      (fun v => !(lowSp v).segs.ss.inLimit (below (lowSp v).stackSize (lowSp v).sp 4 1) 4) = true := by decide +kernel
  refine ⟨by decide +kernel, fun v hv hw => ?_, one (by decide +kernel)⟩
  have hv := List.all_eq_true.1 h v hv
  rw [(inLimit_iff (by decide)).2 hw] at hv
  cases hv

/-- PUSH EAX with SP = 2 and with SP = 4 (42_data_move.md R359). -/
theorem test_wide_push_shuts_down : runs (real |> esp 2 |> code [0x66, 0x50]) (fun t => t.run = .shutdown ∧ t.regs.esp = 2) = true ∧
    runs (real |> esp 4 |> code [0x66, 0x50]) (fun t => t.run = .running ∧ t.regs.esp = 0) = true := by
  decide +kernel

/-- Real-address mode with SP at the top of a stack segment of 128 KB. -/
def wrapping : State := { (real |> esp 0xFFFE) with segs := real.segs.set .ss { real.segs.ss with limit := 0x1FFFF } }

theorem wit_Pops :
    (PopForm (.popRm (.mem (.a32 (some .esp) none 0))) (.mem (.a32 (some .esp) none 0)) ∧
      ∃ as bs s1 s2, stackAccess flat.segs.ss flat.sp flat.width.bytes false flat.user 0 (past flat) = .ok as s1 ∧
        openDest flat.width (.mem (.a32 (some .esp) none 0)) { s1 with
          regs := flat.regs.setV flat.stackSize .esp (flat.sp + BitVec.ofNat 32 flat.width.bytes) } = .ok bs s2) ∧
    (popWraps wrapping (.mem (.a32 (some .esp) none 0)) wrapping.width.bytes = true ∧
      ∀ carry : Bool, ∃ as bs s1 s2,
        stackAccess wrapping.segs.ss wrapping.sp wrapping.width.bytes false wrapping.user 0 (past wrapping) = .ok as s1 ∧
        openDest wrapping.width (.mem (.a32 (some .esp) none 0)) { s1 with
          regs := if carry then wrapping.regs.set .esp (wrapping.regs.esp + 2) else wrapping.regs.setV .s16 .esp (wrapping.sp + 2),
          draws := s1.draws + 1 } = .ok bs s2) ∧
    (popWraps flat (.mem (.a32 (some .esp) none 0)) flat.width.bytes = false) ∧
    (PopSegForm .popSs .ss ∧ ∃ as u s1 s2, stackAccess real.segs.ss real.sp real.width.bytes false real.user 0 (past real) =
      .ok as s1 ∧ loadSreg .ss (BitVec.ofNat 16 (Memory.load s1.mem as)) s1 = .ok u s2) ∧
    ((v86 0 real).v86 = true ∧ (v86 0 real).flags.iopl ≠ 3) ∧ user.v86 = false ∧
    (∃ as s1, stackAccess user.segs.ss user.sp user.width.bytes false user.user 0 (past user) = .ok as s1) :=
  ⟨⟨.popRm _, two (by decide +kernel)⟩, ⟨by decide +kernel, fun c => by cases c <;> exact two (by decide +kernel)⟩, by decide +kernel,
    ⟨.popSs, two (by decide +kernel)⟩, by decide, by decide +kernel, one (by decide +kernel)⟩

theorem wit_PushaPopa :
    (quiet flat ∧ flat.protectedMode = true ∧ Room flat flat.width.bytes 8) ∧
    (quiet real ∧ real.sp ∉ pushaOdd ∧ real.sp ∉ ([1, 3, 5] : List Word) ∧ Room (real |> esp 0) 2 8) ∧
    (real.protectedMode = false ∧ (real |> esp 7).sp ∈ pushaOdd ∧ (real |> esp 15).sp ∈ pushaOdd ∧ (v86 3 real).protectedMode = false ∧
      (real |> esp 1).sp ∈ ([1, 3, 5] : List Word) ∧ (real |> esp 5).sp ∈ ([1, 3, 5] : List Word)) ∧
    (∀ k, k < 8 → Within real.segs.ss (slotAbove real (real.width.bytes * k)) real.width.bytes) := by
  refine ⟨⟨⟨rfl, rfl⟩, by decide +kernel, room (by decide) (by decide +kernel)⟩,
    ⟨⟨rfl, rfl⟩, by decide +kernel, by decide +kernel, room (by decide) (by decide +kernel)⟩, by decide +kernel, fun k hk => within (by decide) ?_⟩
  revert k
  decide +kernel

theorem wit_FlagInstructions :
    ((real.cr0.pe = false ∨ real.cpl ≤ real.flags.iopl) ∧ (user |> eflags 0x3202).cpl ≤ (user |> eflags 0x3202).flags.iopl) ∧
    ¬((user |> eflags 0x2202).cr0.pe = false ∨ (user |> eflags 0x2202).cpl ≤ (user |> eflags 0x2202).flags.iopl) := by
  decide +kernel

/-! #### Strings and ports -/

/-- An element with both of its operands in reach: SI and DI at the last word of the segments. -/
def lastWord : State := real |> esi 0xFFFE |> edi 0xFFFE

theorem wit_StringElement :
    (StringForm real.opSize .movswMovsd .movs .w16 ∧ lastWord.ins.rep = none ∧
      ∃ v as s1 s2, memRead lastWord.dsSeg 0xFFFE 2 (past lastWord) = .ok v s1 ∧ access .es 0xFFFE 2 true s1 = .ok as s2) ∧
    (∃ t, element .movs .w16 (past lastWord) = .ok () t) ∧
    (StringForm real.opSize .cmpswCmpsd .cmps .w16 ∧ ∃ v u s1 s2, memRead lastWord.dsSeg 0xFFFE 2 (past lastWord) = .ok v s1 ∧
      memRead .es 0xFFFE 2 s1 = .ok u s2) ∧
    (StringForm real.opSize .scasb .scas .w8 ∧ ∃ u s1, memRead .es 0xFFFE 1 (past lastWord) = .ok u s1) ∧
    (StringForm real.opSize .lodsb .lods .w8 ∧ ∃ v s1, memRead lastWord.dsSeg 0xFFFE 1 (past lastWord) = .ok v s1) ∧
    (StringForm real.opSize .stosb .stos .w8 ∧ ∃ as s1, access .es 0xFFFE 1 true (past lastWord) = .ok as s1) ∧
    (StringForm real.opSize .insb .ins .w8 ∧ ∃ u as s1 s2, ioAllowed 0x60 1 (past lastWord) = .ok u s1 ∧
      access .es 0xFFFE 1 true s1 = .ok as s2) ∧
    (StringForm real.opSize .outsb .outs .w8 ∧ ∃ u v s1 s2, ioAllowed 0x60 1 (past lastWord) = .ok u s1 ∧
      memRead lastWord.dsSeg 0xFFFE 1 s1 = .ok v s2) :=
  ⟨⟨.movswMovsd, rfl, two (by decide +kernel)⟩, done (by decide +kernel), ⟨.cmpswCmpsd, two (by decide +kernel)⟩,
    ⟨.scasb, one (by decide +kernel)⟩, ⟨.lodsb, one (by decide +kernel)⟩, ⟨.stosb, one (by decide +kernel)⟩,
    ⟨.insb, two (by decide +kernel)⟩, .outsb, two (by decide +kernel)⟩

/-- A repeated scan. -/
def repeating (c : Word) : State := { real with ins := { Ins.none with rep := some .repne } } |> ecx c

theorem wit_RepeatPrefix : StringForm real.opSize .scasb .scas .w8 ∧ (repeating 1).ins.rep = some .repne ∧
    ((repeating 0x10000).regs.getV (repeating 0x10000).adSize .ecx).toNat = 0 ∧
    ((repeating 1).regs.getV (repeating 1).adSize .ecx).toNat ≠ 0 ∧ ∃ t, element .scas .w8 (past (repeating 1)) = .ok () t :=
  ⟨.scasb, rfl, by decide +kernel, by decide +kernel, done (by decide +kernel)⟩

theorem wit_Ports :
    (InForm real.opSize (.inEaxImm8 0xFF) .w16 (.imm 0xFF) ∧ OutForm real.opSize .outDxAl .w8 .dx ∧
      ∃ t, ioAllowed (portOf real (.imm 0xFF)) 2 (past real) = .ok () t) ∧
    (InForm user.opSize .inAlDx .w8 .dx ∧
      ∃ t, ioAllowed (portOf user .dx) 1 (past user) = .error (.exc (.plain 13 (some 0)) false) t) ∧
    (real.cr0.pe = false ∧ ((user |> eflags 0x3202).cpl ≤ (user |> eflags 0x3202).flags.iopl)) ∧
    (user.cr0.pe = true ∧ user.flags.iopl < user.cpl ∧ (v86 3 real).flags.vm = true ∧ user.cr0.pg = false) :=
  ⟨⟨.inEaxImm8 _, .outDxAl, done (by decide +kernel)⟩, ⟨.inAlDx, stops (by decide +kernel)⟩, by decide +kernel, by decide +kernel⟩

/-- Port 100H is byte 88H of the TSS, the last with a byte above it within the limit 89H; its bit is clear in `mapTss user` and
set in the second state. -/
theorem wit_Ports_map :
    ((mapTss user).tr.type.getLsbD 3 = true ∧ 0x67 ≤ (mapTss user).tr.limit.toNat ∧
      Memory.load (mapTss user).mem (addrs ((mapTss user).tr.base + 0x66) 2) = 0x68 ∧ 0x68 + 0x100 / 8 + 1 ≤ 0x89 ∧
      Memory.load (mapTss user).mem (addrs ((mapTss user).tr.base + 0x88) 2) = 0) ∧
    Memory.load (mapTss user |> bytes 0x5088 [1]).mem (addrs ((mapTss user).tr.base + 0x88) 2) = 1 := by decide +kernel

/-! #### Control transfers -/

theorem wit_NearTransfers :
    (JumpForm (.jmpRel 0xFFFF) (.inl 0xFFFF) ∧
      ∃ d t s1, JumpForm (.jmpRm (.reg .ebx)) (.inr d) ∧ readOp real.width d (past real) = .ok t s1) ∧
    (JccForm (.jgRel8 0x80) .g 0xFFFFFF80 ∧ Holds .g real.flags ∧ ¬Holds .g (real |> eflags 0x40).flags) ∧
    ((real |> ecx 0x10000).regs.getV (real |> ecx 0x10000).adSize .ecx = 0 ∧ (real |> ecx 1).regs.getV real.adSize .ecx = 1) ∧
    LoopForm (.loopeRel8 0) (some true) 0 :=
  have ⟨t, s1, h⟩ := one (x := readOp real.width (.reg .ebx)) (s := past real) (by decide +kernel)
  ⟨⟨.jmpRel _, _, t, s1, .jmpRm (.reg .ebx), h⟩,
    ⟨.jgRel8 _, ⟨by decide +kernel, by decide +kernel⟩, by unfold Holds; decide +kernel⟩, by decide +kernel, .loopeRel8 0⟩

/-- A code segment of limit 2FFFH; a call from 2000H to its last byte and to the byte after it. -/
def shortCs : State := { real with segs := real.segs.set .cs { real.segs.cs with limit := 0x2FFF } }

theorem wit_NearTransfers_calls :
    (CallForm (.callRel 0xFFC) (.inl 0xFFC) ∧ ¬(shortCs.segs.cs.limit < sizeTrunc shortCs.opSize (0x2003 + 0xFFC)) ∧
      shortCs.segs.cs.limit < sizeTrunc shortCs.opSize (0x2003 + 0xFFD) ∧
      ∃ as s1, stackAccess shortCs.segs.ss (below shortCs.stackSize shortCs.sp shortCs.width.bytes 1) shortCs.width.bytes true
        shortCs.user 0 (past shortCs) = .ok as s1) ∧
    (CallForm (.callRm (.reg .esp)) (.inr (.reg .esp)) ∧ ∃ (t : BitVec flat.width.bits) (as : List Word) (s1 s2 : State),
      readOp flat.width (.reg .esp) (past flat) = .ok t s1 ∧ stackAccess flat.segs.ss
        (below flat.stackSize flat.sp flat.width.bytes 1) flat.width.bytes true flat.user 0 s1 = .ok as s2) ∧
    (RetForm (.retNearImm16 8) 8 ∧
      ∃ as s1, stackAccess flat.segs.ss flat.sp flat.width.bytes false flat.user 0 (past flat) = .ok as s1 ∧
        BitVec.ofNat 32 (Memory.load s1.mem as) ≤ flat.segs.cs.limit) :=
  have ⟨as, s1, h⟩ := one (x := stackAccess flat.segs.ss flat.sp flat.width.bytes false flat.user 0) (s := past flat)
    (by decide +kernel)
  ⟨⟨.callRel _, by decide +kernel, by decide +kernel, one (by decide +kernel)⟩, ⟨.callRm _, two (by decide +kernel)⟩,
    .retNearImm16 8, as, s1, h, (show ∀ x : Word, x ≤ 0xFFFFFFFF by bv_omega) _⟩

theorem wit_FarTransfersReal :
    (real.protectedMode = false ∧ FarForm (.jmpPtr 0xF000 0xFFFF) .jmp 0xF000 0xFFFF ∧
      sizeTrunc real.opSize 0xFFFF ≤ real.segs.cs.limit) ∧
    (FarMemForm (.jmpMFar (.a16 .bx 0)) .jmp (.a16 .bx 0) ∧ FarMemForm (.callMFar (.a16 .bx 0)) .call (.a16 .bx 0) ∧
      ∃ v s1, readMem (.a16 .bx 0) (real.width.bytes + 2) (past real) = .ok v s1) ∧
    (FarForm (.callPtr 0x2000 0xFFFF) .call 0x2000 0xFFFF ∧ quiet real ∧ Room real real.width.bytes 2) ∧
    (RetFarForm .retFar 0 ∧ Within real.segs.ss (slotAbove real 0) 2 ∧ Within real.segs.ss (slotAbove real 2) 2 ∧
      BitVec.ofNat 32 (stackLoad real 0 2) ≤ real.segs.cs.limit) :=
  ⟨⟨by decide, .jmpPtr .., by decide +kernel⟩, ⟨.jmpMFar _, .callMFar _, one (by decide +kernel)⟩,
    ⟨.callPtr .., ⟨rfl, rfl⟩, room (by decide) (by decide +kernel)⟩, .retFar, within (by decide) (by decide +kernel),
    within (by decide) (by decide +kernel), by decide +kernel⟩

theorem wit_FarTransfersReal_limit : (v86 0 shortCs).protectedMode = false ∧
    (v86 0 shortCs).segs.cs.limit < sizeTrunc (v86 0 shortCs).opSize 0x3000 := by decide +kernel

/-- The descriptor at an address. -/
def descAt (s : State) (a : Word) : Desc := BitVec.ofNat 64 (Memory.load s.mem (addrs a 8))

/-- A far return to 0058H is on the stack. -/
def farStack (s : State) (sel : Nat) : State := s |> word s.regs.esp.toNat 0x1000 |> word (s.regs.esp.toNat + 4) sel

/-- A selector's descriptor as it lies in the table. -/
theorem names {s : State} {sel : Half} {a : Word} (h : sel.toNat / 4 ≠ 0 ∧ descriptorAt s sel = some a) :
    Names s sel a (descAt s a) := ⟨h.1, h.2, rfl⟩

theorem wit_FarTransfersProtected :
    (ring0.protectedMode = true ∧ quiet ring0 ∧ Names ring0 0x58 0x1058 (descAt ring0 0x1058) ∧
      CodeOf (descAt ring0 0x1058) ring0.cpl.toNat ∧ (descAt ring0 0x1058).getLsbD 40 = true) ∧
    (FarOperand ring0 (.jmpPtr 0x58 0xFFFFFFFF) .jmp 0x58 0xFFFFFFFF ∧ FarOperand ring0 (.callPtr 0x58 0) .call 0x58 0 ∧
      sizeTrunc ring0.opSize 0xFFFFFFFF ≤ (descAt ring0 0x1058).limit ∧ Room ring0 ring0.width.bytes 2) ∧
    (Names ring3 0x50 0x1050 (descAt ring3 0x1050) ∧ CodeOf (descAt ring3 0x1050) ring3.cpl.toNat) ∧
    (Names ring0 8 0x1008 (descAt ring0 0x1008) ∧ (descAt ring0 0x1008).getLsbD 40 = false) ∧ (3 : Half).toNat / 4 = 0 :=
  ⟨⟨by decide +kernel, ⟨rfl, rfl⟩, names (by decide +kernel), by unfold CodeOf; decide +kernel, by decide +kernel⟩,
    ⟨.inl (.jmpPtr ..), .inl (.callPtr ..), by decide +kernel, room (by decide) (by decide +kernel)⟩,
    ⟨names (by decide +kernel), by unfold CodeOf; decide +kernel⟩, ⟨names (by decide +kernel), by decide +kernel⟩, by decide⟩

/-- A far pointer at 6100H in memory. -/
def pointing (sel : Nat) (s : State) : State := s |> word 0x6100 0x3000 |> word 0x6104 sel

theorem wit_FarTransfersProtected_memory :
    FarOperand (pointing 0x58 ring0) (.callMFar (.a32 none none 0x6100)) .call 0x58 0x3000 :=
  .inr ⟨_, 0x58 * 256 ^ 4 + 0x3000, .callMFar _, exactly (by decide +kernel), by decide +kernel, by decide +kernel⟩

/-- 00D8H to 00DFH, the last descriptor of a longer table, is code of limit FFH. -/
def shortCode : State := { ring0 with gdtr := { base := 0x1000, limit := 0xDF } } |> descriptor 0xD8 0x00409B00 0xFF

theorem wit_FarTransfersProtected_limit : descriptorAt shortCode 0xD8 = some 0x10D8 ∧ (descAt shortCode 0x10D8).isCode = true ∧
    (descAt shortCode 0x10D8).limit < sizeTrunc shortCode.opSize 0x100 ∧ sizeTrunc shortCode.opSize 0xFF ≤ (descAt shortCode 0x10D8).limit := by
  decide +kernel

theorem wit_FarTransfersProtected_ret :
    RetFarForm (.retFarImm16 8) 8 ∧ Within (farStack ring0 0x58).segs.ss (slotAbove (farStack ring0 0x58) 0) 4 ∧
    Within (farStack ring0 0x58).segs.ss (slotAbove (farStack ring0 0x58) 4) 4 ∧
    BitVec.ofNat 16 (stackLoad (farStack ring0 0x58) 4 2) = (0x58 : Half) ∧ (0x58 : Half).toNat % 4 = ring0.cpl.toNat ∧
    BitVec.ofNat 32 (stackLoad (farStack ring0 0x58) 0 4) ≤ (descAt ring0 0x1058).limit ∧
    Names (farStack ring0 0x58) 0x58 0x1058 (descAt (farStack ring0 0x58) 0x1058) :=
  ⟨.retFarImm16 8, within (by decide) (by decide +kernel), within (by decide) (by decide +kernel), by decide +kernel,
    by decide +kernel, by decide +kernel, names (by decide +kernel)⟩

/-- More gates and code: 88H and 90H call gates of 32 bits with 3 parameters and of 16 bits with 2; 98H code of level 0, A0H code
and A8H data of level 3 and C8H a 16-bit stack of level 0, none accessed; B0H a task gate to 68H; B8H an available 16-bit TSS;
D0H a busy TSS at 5100H. Values lie on the stack of level 3. -/
def gates2 (s : State) : State :=
  { s with gdtr := { base := 0x1000, limit := 0xFF }, ins := { s.ins with nextEip := s.eip + 2 } }
    |> descriptor 0x88 0x1234EC03 0x00585678 |> descriptor 0x90 0xE402 0x00985678 |> descriptor 0x98 0x00CF9A00 0xFFFF
    |> descriptor 0xA0 0x00CFFA00 0xFFFF |> descriptor 0xA8 0x00CFF200 0xFFFF |> descriptor 0xB0 0xE500 0x00680000
    |> descriptor 0xB8 0xE100 0x5200002B |> descriptor 0xC8 0x9200 0xFFFF |> descriptor 0xD0 0xEB00 0x51000067
    |> word 0x7000 0x11111111 |> word 0x7004 0x22222222 |> word 0x7008 0x33333333

/-- The stack of level 0 for a CALL of level 3. -/
def onInnerCall : State :=
  let s := gates2 ring3
  onStack 0x70 (descAt s 0x1070) 0x9000 (past s)

set_option maxRecDepth 4000 in
theorem room_onInnerCall : Room onInnerCall 4 (3 + 4) :=
  have h : (List.range 7).all (fun j => onInnerCall.segs.ss.inLimit (below onInnerCall.stackSize onInnerCall.sp 4 (j + 1)) 4) = true := by
    decide +kernel
  room (s := onInnerCall) (by decide) h

set_option maxRecDepth 4000 in
theorem wit_CallGates :
    ((gates2 ring3).protectedMode = true ∧ quiet (gates2 ring3) ∧ FarOperand (gates2 ring3) (.callPtr 0x8B 0) .call 0x8B 0 ∧
      Names (gates2 ring3) 0x8B 0x1088 (descAt (gates2 ring3) 0x1088) ∧
      ((descAt (gates2 ring3) 0x1088).s = false ∧ (descAt (gates2 ring3) 0x1088).type = 12 ∧ (gates2 ring3).cpl ≤
        (descAt (gates2 ring3) 0x1088).dpl ∧ (descAt (gates2 ring3) 0x1088).p = true)) ∧
    (Names (gates2 ring3) (descAt (gates2 ring3) 0x1088).gateSel 0x1058 (descAt (gates2 ring3) 0x1058) ∧
      (descAt (gates2 ring3) 0x1088).gateOff ≤ (descAt (gates2 ring3) 0x1058).limit ∧
      (descAt (gates2 ring3) 0x1058).dpl < (gates2 ring3).cpl ∧ CodeOf (descAt (gates2 ring3) 0x1058) 0) ∧
    (TssStack (gates2 ring3) 0 0x70 0x9000 ∧ Names (gates2 ring3) 0x70 0x1070 (descAt (gates2 ring3) 0x1070) ∧
      StackOf 0x70 (descAt (gates2 ring3) 0x1070) 0 ∧ Room onInnerCall 4 (3 + 4) ∧
      ∀ j, j < 3 → Within (gates2 ring3).segs.ss (slotAbove (gates2 ring3) (4 * j)) 4) ∧
    (CodeOf (descAt (gates2 ring0) 0x1058) (gates2 ring0).cpl.toNat ∧ Room (gates2 ring0) 4 2 ∧
      (descAt (gates2 ring0) 0x1090).type = 4) := by
  refine ⟨⟨by decide +kernel, ⟨rfl, rfl⟩, .inl (.callPtr ..), names (by decide +kernel), by decide +kernel⟩,
    ⟨names (by decide +kernel), by decide +kernel, by decide +kernel, by unfold CodeOf; decide +kernel⟩,
    ⟨by unfold TssStack; decide +kernel, names (by decide +kernel), by unfold StackOf; decide +kernel, room_onInnerCall,
      fun j hj => within (by decide) ?_⟩,
    by unfold CodeOf; decide +kernel, room (by decide) (by decide +kernel), by decide +kernel⟩
  revert j
  decide +kernel

theorem test_call_gate_copies_parameters : runs (gates2 ring3 |> code [0x9A, 0, 0, 0, 0, 0x8B, 0])
    (fun t => t.cpl = 0 ∧ t.eip = 0x12345678 ∧ t.regs.esp = 0x8FE4 ∧ valueAt t 0x8FE4 8 = 0x1B00400007 ∧
      valueAt t 0x8FEC 4 = 0x11111111 ∧ valueAt t 0x8FF4 8 = 0x700033333333 ∧ valueAt t 0x8FFC 4 = 0x23) = true := by
  decide +kernel

/-- A return to 00A3H:1234H with the stack 00ABH:7000H, after the bytes or the flags between. -/
def outward (l : List Nat) : State :=
  let s := gates2 ring0
  (([0x1234, 0xA3] ++ l ++ [0x7000, 0xAB]).zipIdx).foldl
    (fun (s : State) (x : Nat × Nat) => word (s.regs.esp.toNat + 4 * x.2) x.1 s) s

set_option maxRecDepth 4000 in
theorem wit_OuterReturns :
    ((outward [1, 2]).protectedMode = true ∧ quiet (outward [1, 2]) ∧ (outward [1, 2]).cpl.toNat < 3 ∧
      BitVec.ofNat 16 (stackLoad (outward [1, 2]) 4 2) = (0xA3 : Half) ∧
      Names (outward [1, 2]) 0xA3 0x10A0 (descAt (outward [1, 2]) 0x10A0) ∧ CodeOf (descAt (outward [1, 2]) 0x10A0) 3) ∧
    (RetFarForm (.retFarImm16 8) 8 ∧ (∀ j, j < 8 → Within (outward [1, 2]).segs.ss (slotAbove (outward [1, 2]) (8 + j)) 1) ∧
      (∀ k, k < 6 → Within (outward [1, 2]).segs.ss (slotAbove (outward [1, 2]) (k * 4)) 4) ∧
      BitVec.ofNat 16 (stackLoad (outward [1, 2]) 20 2) = (0xAB : Half) ∧
      Names (outward [1, 2]) 0xAB 0x10A8 (descAt (outward [1, 2]) 0x10A8) ∧ StackOf 0xAB (descAt (outward [1, 2]) 0x10A8) 3) ∧
    ((outward [0x3202]).flags.nt = false ∧ ¬(Flags.ofWord (BitVec.ofNat 32 (stackLoad (outward [0x3202]) 8 4))).vm = true ∧
      BitVec.ofNat 16 (stackLoad (outward [0x3202]) 16 2) = (0xAB : Half)) := by
  refine ⟨⟨by decide +kernel, ⟨rfl, rfl⟩, by decide +kernel, by decide +kernel, names (by decide +kernel),
    by unfold CodeOf; decide +kernel⟩,
    ⟨.retFarImm16 8, fun j hj => within (by decide) ?_, fun k hk => within (by decide) ?_, by decide +kernel,
      names (by decide +kernel), by unfold StackOf; decide +kernel⟩, by decide +kernel⟩
  · revert j
    decide +kernel
  · revert k
    decide +kernel

theorem test_far_ret_to_outer_level : runs (outward [1, 2] |> code [0xCA, 8, 0])
    (fun t => t.cpl = 3 ∧ t.eip = 0x1234 ∧ t.segs.cs.selector = 0xA3 ∧ t.regs.esp = 0x7008 ∧ t.segs.ss.selector = 0xAB ∧
      t.segs.ds.selector = 0 ∧ t.segs.ds.valid = false ∧ valueAt t 0x10A5 1 = 0xFB) = true := by
  decide +kernel

/-- The frame of an IRET to virtual-8086 mode, with an EIP. -/
def frame86 (eip : Nat) : State :=
  ([eip, 0x2000, 0x23202, 0x1000, 0x3000, 0x4000, 0x5000, 0x6000, 0x7000].zipIdx).foldl
    (fun (s : State) (x : Nat × Nat) => word (s.regs.esp.toNat + 4 * x.2) x.1 s) ring0

/-- FFFFH is the last EIP of virtual-8086 mode. -/
theorem wit_Virtual8086Returns :
    ((frame86 0xFFFF).protectedMode = true ∧ quiet (frame86 0xFFFF) ∧ (frame86 0xFFFF).flags.nt = false ∧
      (frame86 0xFFFF).opSize = .s32 ∧ (frame86 0xFFFF).cpl = 0 ∧
      (Flags.ofWord (BitVec.ofNat 32 (stackLoad (frame86 0xFFFF) 8 4))).vm = true ∧
      (∀ k, k < 9 → Within (frame86 0xFFFF).segs.ss (slotAbove (frame86 0xFFFF) (4 * k)) 4) ∧
      BitVec.ofNat 32 (stackLoad (frame86 0xFFFF) 0 4) ≤ (0xFFFF : Word) ∧
      (0xFFFF : Word) < BitVec.ofNat 32 (stackLoad (frame86 0x10000) 0 4)) ∧
    ((v86 2 real).v86 = true ∧ (v86 2 real).flags.iopl ≠ 3 ∧ (v86 3 real).v86 = true ∧ (v86 3 real).flags.iopl = 3 ∧
      quiet (v86 3 real) ∧ (∀ k, k < 3 → Within (v86 3 real).segs.ss (slotAbove (v86 3 real) (k * 2)) 2) ∧
      BitVec.ofNat 32 (stackLoad (v86 3 real) 0 2) ≤ (v86 3 real).segs.cs.limit ∧
      (v86 3 (shortCs |> word 0x1000 0x3000)).segs.cs.limit < BitVec.ofNat 32 (stackLoad (v86 3 (shortCs |> word 0x1000 0x3000)) 0 2)) := by
  refine ⟨⟨by decide +kernel, ⟨rfl, rfl⟩, by decide +kernel, by decide +kernel, by decide +kernel, by decide +kernel,
    fun k hk => within (by decide) ?_, by decide +kernel, by decide +kernel⟩, by decide +kernel, by decide +kernel,
    by decide +kernel, by decide +kernel, ⟨rfl, rfl⟩, fun k hk => within (by decide) ?_, by decide +kernel, by decide +kernel⟩
  · revert k
    decide +kernel
  · revert k
    decide +kernel

theorem test_iret_to_virtual_8086 : runs (frame86 0x1234 |> code [0xCF])
    (fun t => t.flags.vm = true ∧ t.cpl = 3 ∧ t.eip = 0x1234 ∧ t.segs.cs.base = 0x20000 ∧ t.regs.esp = 0x1000 ∧
      t.segs.gs.base = 0x70000) = true := by
  decide +kernel

/-- The TSS at 5100H: EIP 1234H, its flags, level 0 of 0058H with the stack 0070H:6000H and data in 0048H. -/
def incoming (flags : Nat) (s : State) : State :=
  gates2 s |> word 0x5120 0x1234 |> word 0x5124 flags |> word 0x5138 0x6000 |> word 0x514C 0x58 |> word 0x5150 0x70
    |> word 0x5154 0x48 |> word 0x5160 0x60

set_option maxRecDepth 4000 in
theorem wit_TaskSwitches :
    (quiet (incoming 2 ring0) ∧ Names (incoming 2 ring0) 0x68 0x1068 (descAt (incoming 2 ring0) 0x1068) ∧
      0x67 ≤ (descAt (incoming 2 ring0) 0x1068).limit.toNat ∧ (descAt (incoming 2 ring0) 0x1068).type = 9 ∧
      (descAt (incoming 2 ring0) 0x10B8).limit.toNat = 0x2B ∧ (descAt (incoming 2 ring0) 0x10B8).is32 = false ∧
      (incoming 2 ring0).protectedMode = true ∧ FarOperand (incoming 2 ring0) (.jmpPtr 0x68 0) .jmp 0x68 0) ∧
    (∃ t, switchTasks 0x68 (descAt (incoming 2 ring0) 0x1068) .jmp 0 { sel := 8, off := 0 } (incoming 2 ring0).flags
      (past (incoming 2 ring0)) = .ok () t) ∧
    ((descAt (incoming 2 ring3) 0x10B0).type = 5 ∧ Names (incoming 2 ring3) 0xB0 0x10B0 (descAt (incoming 2 ring3) 0x10B0) ∧
      (incoming 2 ring3).cpl ≤ (descAt (incoming 2 ring3) 0x10B0).dpl ∧ (descAt (incoming 2 ring3) 0x10B0).gateSel = 0x68 ∧
      ∃ t, switchTasks 0x68 (descAt (incoming 2 ring3) 0x1068) .call 0 { sel := 8, off := 0 } (incoming 2 ring3).flags
        (past (incoming 2 ring3)) = .ok () t) ∧
    (LdtLoads (incoming 2 ring0) 0x60 (SysReg.mk 0x60 true 0x6000 0xF 2) ∧
      DataLoads (incoming 2 ring0) 0x48 SegReg.resetData (segmentOf 0x48 (descAt (incoming 2 ring0) 0x1048)) ∧
      CodeOf (descAt (incoming 2 ring0) 0x1058) ((0x58 : Half).toNat % 4) ∧ (descAt (incoming 2 ring0) 0x1058).getLsbD 40 = true ∧
      StackOf 0x70 (descAt (incoming 2 ring0) 0x1070) 0 ∧ (descAt (incoming 2 ring0) 0x1070).getLsbD 40 = true) ∧
    (fieldOf (incoming 2 ring0 |> word 0x5000 0xD0).mem 0x5000 0 2 = 0xD0 ∧
      Names (incoming 2 ring0 |> word 0x5000 0xD0) 0xD0 0x10D0 (descAt (incoming 2 ring0 |> word 0x5000 0xD0) 0x10D0) ∧
      (descAt (incoming 2 ring0 |> word 0x5000 0xD0) 0x10D0).type = 11 ∧
      ((incoming 2 ring0 |> eflags 0x4002).flags.nt = true)) := by
  refine ⟨⟨⟨rfl, rfl⟩, names (by decide +kernel), by decide +kernel, by decide +kernel, by decide +kernel, by decide +kernel,
      by decide +kernel, .inl (.jmpPtr ..)⟩, done (by decide +kernel),
    ⟨by decide +kernel, names (by decide +kernel), by decide +kernel, by decide +kernel, done (by decide +kernel)⟩,
    ⟨.inr ⟨0x1060, _, names (by decide +kernel), by decide +kernel⟩, .inr ⟨0x1048, _, names (by decide +kernel), by decide +kernel⟩,
      by unfold CodeOf; decide +kernel, by decide +kernel, by unfold StackOf; decide +kernel, by decide +kernel⟩,
    by decide +kernel, names (by decide +kernel), by decide +kernel, by decide +kernel⟩

/-- An exception through the task gate of vector 31H: the new task has room for its error code. -/
theorem wit_TaskSwitches_event :
    (descAt (incoming 2 ring0 |> gateAt 0x31 0xE500 0x00680000) 0x2188).type = 5 ∧
    ∃ t, switchTasks 0x68 (descAt (incoming 2 ring0) 0x1068) .int 1 { sel := 8, off := 0 } (incoming 2 ring0).flags
      (incoming 2 ring0 |> gateAt 0x31 0xE500 0x00680000) = .ok () t ∧ quiet t ∧ t.eip ≤ t.segs.cs.limit ∧ Room t 4 1 := by
  refine ⟨by decide +kernel, ?_⟩
  have h : okThen (fun _ t => decide (t.cr0.pg = false ∧ t.dbg.dr7 &&& 0x11110000 = 0 ∧ t.eip ≤ t.segs.cs.limit) &&
      t.segs.ss.inLimit (below t.stackSize t.sp 4 1) 4)
      (switchTasks 0x68 (descAt (incoming 2 ring0) 0x1068) .int 1 { sel := 8, off := 0 } (incoming 2 ring0).flags
        (incoming 2 ring0 |> gateAt 0x31 0xE500 0x00680000)) = true := by decide +kernel
  revert h
  cases switchTasks 0x68 (descAt (incoming 2 ring0) 0x1068) .int 1 { sel := 8, off := 0 } (incoming 2 ring0).flags
    (incoming 2 ring0 |> gateAt 0x31 0xE500 0x00680000) with
  | error _ _ => intro h; cases h
  | ok _ t =>
    intro h
    simp only [okThen, Bool.and_eq_true, decide_eq_true_eq] at h
    obtain ⟨⟨hp, hd, he⟩, hr⟩ := h
    refine ⟨t, rfl, ⟨hp, hd⟩, he, fun j hj => ?_⟩
    obtain rfl : j = 0 := by omega
    exact within (by decide) hr

theorem test_task_switch : runs (incoming 0x4202 ring0 |> eax 0x77 |> code [0xEA, 0, 0, 0, 0, 0x68, 0])
    (fun t => t.tr.selector = 0x68 ∧ t.cr0.ts = true ∧ t.eip = 0x1234 ∧ t.regs.esp = 0x6000 ∧ t.segs.cs.selector = 0x58 ∧
      t.ldtr.base = 0x6000 ∧ valueAt t 0x5028 4 = 0x77 ∧ valueAt t 0x5020 4 = 0x400007 ∧ valueAt t 0x102D 1 = 0x89 ∧
      valueAt t 0x106D 1 = 0x8B) = true := by
  decide +kernel

/-- Vector 21H is the last of the first table and outside the second. -/
def idtTo (limit : Half) : State := { real with idtr := { base := 0, limit := limit } }

theorem wit_InterruptsReal :
    (real.cr0.pe = false ∧ quiet real ∧ SoftForm (.intImm8 0x21) 0x21 false ∧ (idtTo 0x86).idtr.limit.toNat < (0x21 : BitVec 8).toNat * 4 + 3) ∧
    ((0x21 : BitVec 8).toNat * 4 + 3 ≤ (idtTo 0x87).idtr.limit.toNat ∧ Room (idtTo 0x87) 2 3) ∧
    (SoftForm .into 4 false ∧ (real |> eflags 0x802).flags.of = true ∧ real.flags.of = false) ∧
    ((∀ k, k < 3 → Within real.segs.ss (slotAbove real (k * real.width.bytes)) real.width.bytes) ∧
      BitVec.ofNat 32 (stackLoad real 0 2) ≤ real.segs.cs.limit) := by
  refine ⟨⟨by decide, ⟨rfl, rfl⟩, .intImm8 _, by decide⟩, ⟨by decide, room (by decide) (by decide +kernel)⟩,
    ⟨.into, by decide +kernel, by decide⟩, fun k hk => within (by decide) ?_, by decide +kernel⟩
  revert k
  decide +kernel

/-- Delivery of a software interrupt and of an exception. -/
def softly (v : BitVec 8) : Delivery := { vec := v, kind := .soft, ec := none, ret := { sel := 8, off := 0x400002 }, rf := false }
def asFault (v : BitVec 8) (ec : Option Half) : Delivery :=
  { vec := v, kind := .fault, ec := ec, ret := { sel := 8, off := 0x400000 }, rf := true }

theorem wit_InterruptGates :
    (ring0.cr0.pe = true ∧ ring0.cr0.pg = false ∧ ({ ring0 with idtr := { base := 0x2000, limit := 0x106 } } : State).idtr.limit.toNat <
      (softly 0x20).vec.toNat * 8 + 7 ∧ (softly 0xFF).vec.toNat * 8 + 7 ≤ ring0.idtr.limit.toNat) ∧
    ((descAt ring0 0x2180).type = 0 ∧ (descAt (ring3 |> gateAt 0x30 0x8E00 0x00583000) 0x2180).dpl < ring3.cpl) ∧
    ((descAt (ring0 |> gateAt 0x30 0x0E00 0x00583000) 0x2180).type = 14 ∧
      (descAt (ring0 |> gateAt 0x30 0x0E00 0x00583000) 0x2180).p = false) ∧
    ((descAt (ring0 |> gateAt 0x30 0x8F00 0x00033000) 0x2180).p = true ∧
      (descAt (ring0 |> gateAt 0x30 0x8F00 0x00033000) 0x2180).gateSel.toNat / 4 = 0) := by decide +kernel

/-- INT3 through a gate to 0058H and through no gate. -/
theorem wit_InterruptGates_soft :
    (SoftForm .int3 3 false ∧ SoftForm .int1 1 true ∧ (v86 2 real).flags.vm = true ∧ (v86 2 real).flags.iopl ≠ 3) ∧
    (∃ t, deliver { vec := 3, kind := .soft, ec := none, ret := { sel := 8, off := 0 }, rf := false }
      (past (ring0 |> gateAt 3 0x8E00 0x00583000)) = .ok () t) ∧
    (∃ t, deliver { vec := 3, kind := .soft, ec := none, ret := { sel := 8, off := 0 }, rf := false } (past ring0) =
      .error (.exc (.plain 13 (some 0x1A)) false) t) :=
  ⟨⟨.int3, .int1, by decide +kernel⟩, done (by decide +kernel), stops (by decide +kernel)⟩

/-- The gate of vector 30H leads to 0058H:3000H. -/
def gated (s : State) : State := s |> gateAt 0x30 0xEE00 0x00583000

theorem wit_GateEntry :
    GateOpen (gated ring0) (asFault 0x30 (some 8)) 0x0000EE0000583000 ∧ quiet (gated ring0) ∧ (gated ring0).flags.vm = false ∧
    Names (gated ring0) (0x0000EE0000583000 : Desc).gateSel 0x1058 (descAt (gated ring0) 0x1058) ∧
    CodeOf (descAt (gated ring0) 0x1058) (gated ring0).cpl.toNat ∧
    (0x0000EE0000583000 : Desc).gateOff ≤ (descAt (gated ring0) 0x1058).limit ∧ Room (gated ring0) 4 4 :=
  ⟨⟨by decide +kernel, by decide +kernel, by decide +kernel, by decide, by decide, by decide, by decide⟩, ⟨rfl, rfl⟩,
    by decide +kernel, names (by decide +kernel), by unfold CodeOf; decide +kernel, by decide +kernel,
    room (by decide) (by decide +kernel)⟩

/-- The stack of level 0 in those states, from level 3 and from virtual-8086 mode. -/
def onInner (s : State) : State := onStack 0x70 (descAt (gated s) 0x1070) 0x9000 (gated s)

/-- Virtual-8086 mode over the tables of level 3. -/
def ring86 : State := v86 0 ring3

set_option maxRecDepth 4000 in
theorem room_onInner : Room (onInner ring3) 4 5 ∧ Room (onInner ring86) 4 10 :=
  have h : (List.range 5).all (fun j => (onInner ring3).segs.ss.inLimit
      (below (onInner ring3).stackSize (onInner ring3).sp 4 (j + 1)) 4) = true := by decide +kernel
  have g : (List.range 10).all (fun j => (onInner ring86).segs.ss.inLimit
      (below (onInner ring86).stackSize (onInner ring86).sp 4 (j + 1)) 4) = true := by decide +kernel
  ⟨room (s := onInner ring3) (by decide) h, room (s := onInner ring86) (by decide) g⟩

set_option maxRecDepth 4000 in
theorem wit_GateEntry_inner :
    (GateOpen (gated ring3) (softly 0x30) 0x0000EE0000583000 ∧ quiet (gated ring3) ∧ (gated ring3).flags.vm = false) ∧
    (Names (gated ring3) (0x0000EE0000583000 : Desc).gateSel 0x1058 (descAt (gated ring3) 0x1058) ∧
      CodeOf (descAt (gated ring3) 0x1058) 0 ∧ (descAt (gated ring3) 0x1058).conforming = false ∧
      (descAt (gated ring3) 0x1058).dpl < (gated ring3).cpl) ∧
    (TssStack (gated ring3) 0 0x70 0x9000 ∧ Names (gated ring3) 0x70 0x1070 (descAt (gated ring3) 0x1070) ∧
      StackOf 0x70 (descAt (gated ring3) 0x1070) 0 ∧ Room (onInner ring3) 4 5) ∧
    (GateOpen (gated ring86) (asFault 0x30 (some 8)) 0x0000EE0000583000 ∧ quiet (gated ring86) ∧ (gated ring86).flags.vm = true ∧
      (descAt (gated ring86) 0x1058).dpl = 0 ∧ (descAt (gated ring86) 0x1058).dpl < (gated ring86).cpl ∧
      TssStack (gated ring86) 0 0x70 0x9000 ∧ Room (onInner ring86) 4 10) ∧
    ((descAt ring86 0x1050).p = true ∧ (descAt ring86 0x1050).conforming = true) :=
  ⟨⟨⟨by decide +kernel, by decide +kernel, by decide +kernel, by decide, by decide, by decide +kernel, by decide⟩, ⟨rfl, rfl⟩,
      by decide +kernel⟩,
    ⟨names (by decide +kernel), by unfold CodeOf; decide +kernel, by decide +kernel⟩,
    ⟨by unfold TssStack; decide +kernel, names (by decide +kernel), by unfold StackOf; decide +kernel, room_onInner.1⟩,
    ⟨⟨by decide +kernel, by decide +kernel, by decide +kernel, by decide, by decide, by decide, by decide⟩, ⟨rfl, rfl⟩,
      by decide +kernel, by decide +kernel, by decide +kernel, by unfold TssStack; decide +kernel, room_onInner.2⟩,
    by decide +kernel⟩

/-- A frame for IRET: 0058H:1000H and flags without VM. -/
def framed : State := farStack ring0 0x58 |> word 0x8008 0x3202

theorem wit_ReturnFromInterrupt :
    framed.protectedMode = true ∧ quiet framed ∧ framed.flags.nt = false ∧
    (∀ k, k < 3 → Within framed.segs.ss (slotAbove framed (k * framed.width.bytes)) framed.width.bytes) ∧
    ((0x58 : Half) = BitVec.ofNat 16 (stackLoad framed 4 2) ∧
      ¬(Flags.ofWord (BitVec.ofNat 32 (stackLoad framed 8 4))).vm = true ∧ Names framed 0x58 0x1058 (descAt framed 0x1058) ∧
      CodeOf (descAt framed 0x1058) framed.cpl.toNat ∧
      BitVec.ofNat 32 (stackLoad framed 0 4) ≤ (descAt framed 0x1058).limit) := by
  refine ⟨by decide +kernel, ⟨rfl, rfl⟩, by decide +kernel, fun k hk => within (by decide) ?_, by decide +kernel, by decide +kernel,
    names (by decide +kernel), by unfold CodeOf; decide +kernel, by decide +kernel⟩
  revert k
  decide +kernel

/-- ENTER with two display levels: the pushes, the copy and the probe. -/
theorem wit_FramesBoundHaltWait_enter : ∃ s1 s2 s3 t, push flat.opSize (flat.regs.getV flat.opSize .ebp) (past flat) = .ok () s1 ∧
    copyDisplay flat.opSize ((2 : Byte).toNat % 32 - 1) s1 = .ok () s2 ∧
    push flat.opSize (s1.regs.getV flat.opSize .esp) s2 = .ok () s3 ∧
    probeStack flat.width.bytes { s3 with
      regs := (s3.regs.setV flat.opSize .ebp (s1.regs.getV flat.opSize .esp)).setV flat.opSize .esp
        ((s3.regs.setV flat.opSize .ebp (s1.regs.getV flat.opSize .esp)).getV flat.opSize .esp - zext (8 : Half)) } = .ok () t := by
  have h : okThen (fun _ s1 => okThen (fun _ s2 => okThen (fun _ s3 => isOk (probeStack flat.width.bytes { s3 with
      regs := (s3.regs.setV flat.opSize .ebp (s1.regs.getV flat.opSize .esp)).setV flat.opSize .esp
        ((s3.regs.setV flat.opSize .ebp (s1.regs.getV flat.opSize .esp)).getV flat.opSize .esp - zext (8 : Half)) }))
      (push flat.opSize (s1.regs.getV flat.opSize .esp) s2)) (copyDisplay flat.opSize ((2 : Byte).toNat % 32 - 1) s1))
      (push flat.opSize (flat.regs.getV flat.opSize .ebp) (past flat)) = true := by decide +kernel
  cases e1 : push flat.opSize (flat.regs.getV flat.opSize .ebp) (past flat) with
  | error _ _ => rw [e1] at h; cases h
  | ok _ s1 =>
      rw [e1] at h
      simp only [okThen] at h
      cases e2 : copyDisplay flat.opSize ((2 : Byte).toNat % 32 - 1) s1 with
      | error _ _ => rw [e2] at h; cases h
      | ok _ s2 =>
          rw [e2] at h
          simp only at h
          cases e3 : push flat.opSize (s1.regs.getV flat.opSize .esp) s2 with
          | error _ _ => rw [e3] at h; cases h
          | ok _ s3 =>
              rw [e3] at h
              obtain ⟨t, e4⟩ := done h
              exact ⟨s1, s2, s3, t, rfl, e2, e3, e4⟩

theorem wit_FramesBoundHaltWait :
    (quiet flat ∧ Within flat.segs.ss (flat.regs.getV flat.stackSize .ebp - BitVec.ofNat 32 4) 4 ∧ Room flat 4 1 ∧
      Within flat.segs.ss flat.sp flat.width.bytes) ∧
    (∃ as s1, stackAccess flat.segs.ss (flat.regs.getV flat.stackSize .ebp) 4 false flat.user 0
      { past flat with regs := flat.regs.setV flat.stackSize .esp (flat.regs.getV flat.stackSize .ebp) } = .ok as s1) ∧
    (∃ v s1, readMem (.a16 .bx 0) (2 * real.width.bytes) (past real) = .ok v s1) ∧
    ((real.cr0.pe = false ∨ real.cpl = 0) ∧ ¬(user.cr0.pe = false ∨ user.cpl = 0)) :=
  ⟨⟨⟨rfl, rfl⟩, within (by decide) (by decide +kernel), room (by decide) (by decide +kernel), within (by decide) (by decide +kernel)⟩,
    one (by decide +kernel), one (by decide +kernel), by decide +kernel⟩

theorem wit_FramesBoundHaltWait_wait :
    (({ real with cr0 := { real.cr0 with mp := true, ts := true } } : State).cr0.mp = true ∧ ¬(real.cr0.mp = true ∧ real.cr0.ts = true)) ∧
    (({ real with cfg := { real.cfg with hasX87 := false } } : State).cfg.hasX87 = false ∧ real.cfg.hasX87 = true ∧ real.fpu.es = false) ∧
    ((real |> fcw 0x37B |> fsw 4).fpu.es = true ∧ (real |> fcw 0x37B |> fsw 4).cfg.x87ErrorViaMf = true) := by decide +kernel

/-! #### System instructions -/

theorem wit_TableRegisters :
    (∃ as s1, accessMem (.a16 .none 0x600) 6 true (past real) = .ok as s1) ∧
    (MayPrivileged real ∧ MayPrivileged flat ∧ ∃ v s1, readMem (.a16 .none 0x600) 6 (past real) = .ok v s1) ∧
    (user.protectedMode = true ∧ ∃ as s1, accessMem (.a32 none none 0x600) 2 true (past user) = .ok as s1) ∧
    (ring0.protectedMode = true ∧ ring0.cpl = 0 ∧ (3 : Half).toNat / 4 = 0) :=
  ⟨one (by decide +kernel), ⟨.inl rfl, .inr ⟨rfl, rfl⟩, one (by decide +kernel)⟩, ⟨by decide +kernel, one (by decide +kernel)⟩,
    by decide +kernel⟩

/-- A 16-bit operand with a value. -/
theorem wit_TableRegisters_load :
    (∃ s1, readOp .w16 (.reg .eax) (past (ring0 |> eax 0x60)) = .ok (0x60 : Half) s1 ∧ readsDesc s1 0x1060 0x000082006000000F = true) ∧
    (descriptorAt ring0 0x60 = some 0x1060 ∧ (0x000082006000000F : Desc).s = false ∧ (0x000082006000000F : Desc).type = 2 ∧
      (0x000082006000000F : Desc).p = true) ∧
    (descriptorAt ring0 0x78 = some 0x1078 ∧ readsDesc ring0 0x1078 0x000002006000000F = true ∧ (0x000002006000000F : Desc).p = false) ∧
    (descriptorAt ring0 0x68 = some 0x1068 ∧ readsDesc ring0 0x1068 0x0000890051000067 = true ∧ (0x0000890051000067 : Desc).type = 9 ∧
      (0x0000890051000067 : Desc).p = true ∧ ∃ s3, linWriteSysByte (0x1068 + 5) 0x8B ring0 = .ok () s3) ∧
    (descriptorAt ring0 0x80 = none ∧ (0x0C : Half).toNat / 4 % 2 = 1) :=
  ⟨⟨_, rfl, by decide +kernel⟩, by decide +kernel, by decide +kernel,
    ⟨by decide +kernel, by decide +kernel, by decide, by decide, done (by decide +kernel)⟩, by decide +kernel⟩

theorem wit_ControlRegisters :
    (∃ as s1, accessMem (.a16 .none 0xFFFE) 2 true (past real) = .ok as s1) ∧ real.opSize = .s16 ∧ flat.opSize = .s32 ∧
    (MayPrivileged flat ∧ ∃ v s1, readOp .w16 (.reg .eax) (past flat) = .ok v s1) ∧
    ((0x80000000 : Word).getLsbD 31 = true ∧ (0x80000000 : Word).getLsbD 0 = false ∧ (0x80000001 : Word).getLsbD 0 = true) :=
  ⟨one (by decide +kernel), by decide, by decide +kernel, ⟨.inr ⟨rfl, rfl⟩, one (by decide +kernel)⟩, by decide⟩

theorem wit_DebugRegisters : MayPrivileged real ∧ real.dbg.dr7.getLsbD 13 = false ∧
    (MayPrivileged flat ∧ ({ flat with dbg := { flat.dbg with dr7 := 0x2000 } } : State).dbg.dr7.getLsbD 13 = true) :=
  ⟨.inl rfl, by decide, .inr ⟨rfl, rfl⟩, by decide +kernel⟩

theorem wit_SelectorChecks :
    (ring3.protectedMode = true ∧ ∃ s1, readOp .w16 (.reg .eax) (past (ring3 |> eax 0x1B)) = .ok (0x1B : Half) s1) ∧
    (descriptorAt ring3 0x80 = none ∧ descriptorAt ring3 0x1B = some 0x1018 ∧ readsDesc ring3 0x1018 0x00CFFA000000FFFF = true) ∧
    (ring3.cpl ≤ (0x00CFFA000000FFFF : Desc).dpl ∧ (0x1B : Half).toNat % 4 ≤ (0x00CFFA000000FFFF : Desc).dpl.toNat ∧
      (0x00CFFA000000FFFF : Desc).readable = true ∧ (0x00CFFA000000FFFF : Desc).writableData = false) ∧
    (descriptorAt ring3 0x48 = some 0x1048 ∧ readsDesc ring3 0x1048 0x00CF93000000FFFF = true ∧
      (0x00CF93000000FFFF : Desc).conforming = false ∧ ¬(ring3.cpl ≤ (0x00CF93000000FFFF : Desc).dpl)) ∧
    (∃ as s1, openDest .w16 (.reg .ebx) (past ring3) = .ok as s1) :=
  ⟨⟨by decide +kernel, _, rfl⟩, by decide +kernel, by decide +kernel, by decide +kernel, one (by decide +kernel)⟩

theorem wit_PrivilegeAndEscapeGates :
    (PrivilegedForm .clts ∧ user.cr0.pe = true ∧ user.cpl ≠ 0) ∧ (user.protectedMode = true) ∧
    (ProtectedForm (.arplRm16R16 (.reg .eax) .ebx) ∧ real.protectedMode = false ∧ (v86 3 real).protectedMode = false) ∧
    (NoWaitForm .fninit ∧ WaitingForm .fnop ∧ ({ real with cr0 := { real.cr0 with ts := true } } : State).cr0.ts = true) ∧
    (({ real with cfg := { real.cfg with hasX87 := false } } : State).cfg.hasX87 = false ∧ real.cr0.em = false ∧ real.cr0.ts = false) ∧
    ((real |> fcw 0x37B |> fsw 4).fpu.es = true ∧ (real |> fcw 0x37B |> fsw 4).cfg.x87ErrorViaMf = true) :=
  ⟨⟨.clts, by decide +kernel⟩, by decide +kernel, ⟨.arplRm16R16 .., by decide⟩, ⟨.fninit, .fnop, rfl⟩, by decide, by decide +kernel⟩

/-! #### Exceptions and events -/

/-- A general protection fault through its gate; one whose gate is missing, whose delivery raises another. -/
theorem wit_FaultEntry :
    (∃ u, deliver (asFault 13 (some 0)) (ring0 |> gateAt 13 0x8E00 0x00583000) = .ok () u) ∧
    (∃ u, deliver (asFault 13 (some 0)) ring0 = .error (.exc (.plain 13 (some 0x6B)) false) u) ∧
    (∃ v, deliver { asFault 8 (some 0) with kind := .abort } (ring0 |> gateAt 8 0x8E00 0x00583000) = .ok () v) ∧
    ((8 : BitVec 8) ≠ 13 ∧ real.cr0.pe = false) ∧
    ((∃ u, deliver (asFault 5 none) ring0 = .error (.exc (.plain 13 (some 0x2B)) false) u) ∧ doubleFaults 5 13 = false ∧
      doubleFaults 13 13 = true ∧ ∃ v, deliver { asFault 8 (some 0) with kind := .abort } ring0 =
        .error (.exc (.plain 13 (some 0x43)) false) v) ∧
    ((lowSp 1).sp ∈ ([1, 2, 3] : List Word) ∧ (lowSp 3).sp ∈ ([1, 2, 3] : List Word) ∧ (lowSp 4).sp ∉ ([1, 2, 3] : List Word)) :=
  ⟨done (by decide +kernel), stops (by decide +kernel), done (by decide +kernel), by decide, ⟨stops (by decide +kernel),
    by decide, by decide, stops (by decide +kernel)⟩, by decide +kernel⟩

/-- #BR, #GP and #DF without a gate, one after another. -/
theorem test_third_failed_delivery_is_shutdown : runs (flat |> ebx 0x6000 |> eax 5 |> code [0x62, 0x03])
    (fun t => t.run = .shutdown ∧ t.eip = 0x400000) = true := by
  decide +kernel

/-- RESET of a halted machine (70_reset_and_hazards.md R800, R801). -/
def resetting : State := { flat with run := .halted, nmiPending := true, resetIn := some { ResetParams.default flat.cfg with edx := 0x1FF07, ebx := 5 } }

theorem test_reset_keeps_memory : runs resetting
    (fun t => t.run = .running ∧ t.eip = 0xFFF0 ∧ t.cr0.pe = false ∧ t.regs.edx = 0x10307 ∧ t.regs.ebx = 5 ∧ t.mem = flat.mem ∧
      t.resetIn = none ∧ t.nmiPending = false) = true := by
  decide +kernel

/-- INTR is delivered in real-address mode whatever vector the acknowledge cycle gives. -/
theorem intr_delivered (s : State) (h : ∀ v : BitVec 8,
    isOk (deliver { vec := v, kind := .intr, ec := none, ret := { sel := 0, off := 0x100 }, rf := false } s) = true) :
    ∃ u, deliver { vec := Config.intAck 0, kind := .intr, ec := none, ret := { sel := 0, off := 0x100 }, rf := false } s = .ok () u :=
  done (h _)

/-- Pending single-step trap, NMI, INTR, and nothing. -/
theorem wit_BoundaryAndEnd :
    (({ real with pending := { Pending.none with step := true } } : State).pending.step = true ∧ real.run ≠ .shutdown ∧
      real.resetIn = none ∧ resetting.resetIn ≠ none) ∧
    (haltedNmi real).nmiReady = true ∧ (haltedNmi real).pending.any = false ∧
    (({ real with intr := true } |> eflags 0x202).intrReady = true ∧ ({ real with intr := true } |> eflags 0x202).nmiReady = false) ∧
    (({ real with run := .halted } : State).run ≠ .running ∧ ({ real with run := .halted } : State).nmiReady = false) ∧
    (∃ u, deliver { vec := 1, kind := .trap, ec := none, ret := { sel := 0, off := 0x100 }, rf := false } real = .ok () u) ∧
    (∃ u, deliver { vec := 2, kind := .nmi, ec := none, ret := { sel := 0, off := 0x100 }, rf := false } real = .ok () u) ∧
    (∃ u, deliver { vec := Config.intAck 0, kind := .intr, ec := none, ret := { sel := 0, off := 0x100 }, rf := false } real = .ok () u) :=
  ⟨by decide, by decide, by decide, by decide +kernel, by decide, done (by decide +kernel), done (by decide +kernel),
    intr_delivered _ (by decide +kernel)⟩

/-! #### The coprocessor -/

/-- ST(0) and ST(1) on the stack, every exception masked. -/
def fpu (x y : Ext) : State := flat |> stackOf [x, y]

/-- 46_x87_a.md R635: C0 to C3 were set. -/
theorem test_fxch_self : runs (flat |> fsw 0x4700 |> stackOf [extOne] |> code [0xD9, 0xC8])
    (fun t => t.fpu.fsw.c0 = true ∧ t.fpu.fsw.c1 = false ∧ t.fpu.fsw.c2 = true ∧ t.fpu.fsw.c3 = true ∧ t.fpu.st 0 = extOne) = true := by
  decide +kernel

/-- 2.5, 1.0, -infinity, a signaling NaN. -/
def twoAndHalf : Ext := extOf 0x4000 0xA000000000000000
def snan : Ext := extOf 0x7FFF 0xA000000000000000

theorem wit_FpuLoads :
    (ConstForm .fldpi constPi ∧ FpuReady flat ∧ flat.fpu.empty 7 = true ∧ (fpu 0 0).fpu.empty 1 = false) ∧
    (FldForm (.fldM32 (.a32 none none 0x6000)) (.real fmtSingle) (.a32 none none 0x6000) ∧
      ∃ v s1, readMem (.a32 none none 0x6000) 4 (notedMem flat (.a32 none none 0x6000)) = .ok v s1) ∧
    (flat.fpu.fcw.getLsbD 0 = true ∧ (flat |> fcw 0x37E).fpu.fcw.getLsbD 0 = false ∧ extCls snan = .snan) :=
  ⟨⟨.fldpi, ⟨⟨rfl, rfl, rfl⟩, rfl⟩, by decide, by decide +kernel⟩, ⟨.fldM32 _, one (by decide +kernel)⟩, by decide +kernel⟩

theorem wit_FpuStores :
    (FstForm (.fbstpM80 (.a32 none none 0x6000)) .bcd (.a32 none none 0x6000) true ∧ FpuReady flat ∧
      ∃ as s1, accessMem (.a32 none none 0x6000) 10 true (notedMem flat (.a32 none none 0x6000)) = .ok as s1) ∧
    (FstStForm (.fstpSt 7) 7 true ∧ FpuReady (fpu 0 0) ∧ (fpu 0 0).fpu.empty 0 = false ∧ (fpu 0 0).fpu.empty 1 = false) :=
  ⟨⟨.fbstpM80 _, ⟨⟨rfl, rfl, rfl⟩, rfl⟩, one (by decide +kernel)⟩, .fstpSt 7, ⟨⟨rfl, rfl, rfl⟩, by decide +kernel⟩, by decide +kernel⟩

theorem masked (s : State) (h : s.fpu.fcw = 0x37F) : AllMasked s.fpu := by
  intro j hj
  rw [h]
  revert j
  decide

/-- The exponent of a number rounded to single precision. -/
def single (e m : Nat) : Int :=
  topExp (roundPrec fmtSingle.prec .nearest (numOf (extOf e m))).mant (roundPrec fmtSingle.prec .nearest (numOf (extOf e m))).exp

/-- The largest number of single precision and the next above it that rounds away; the least normal number and the next
below; an exception masked and not; an unsupported operand. -/
theorem wit_FpuImages_ends :
    (extCls (extOf 0x407E 0xFFFFFF7FFFFFFFFF) = .normal ∧ single 0x407E 0xFFFFFF7FFFFFFFFF = fmtSingle.emax ∧
      single 0x407E 0xFFFFFF8000000000 = fmtSingle.emax + 1) ∧
    (single 0x3F81 0x8000000000000000 = fmtSingle.emin ∧ single 0x3F80 0xFFFFFF7FFFFFFFFF = fmtSingle.emin - 1 ∧
      extCls (extOf 0 1) = .denormal) ∧
    (flat.fpu.fcw.getLsbD 3 = true ∧ flat.fpu.fcw.getLsbD 4 = true ∧ (flat |> fcw 0x366).fpu.fcw.getLsbD 3 = false ∧
      (flat |> fcw 0x366).fpu.fcw.getLsbD 4 = false ∧ (flat |> fcw 0x366).fpu.fcw.getLsbD 0 = false) ∧
    extCls (extOf 0x4000 1) = .unsupported := by decide +kernel

/-- 32767 fits 16 bits, 32768 does not; the largest BCD integer and the next; the least and the greatest exponent of single
precision. -/
theorem wit_FpuImages : AllMasked flat.fpu ∧
    ((extCls (extOf 0x400D 0xFFFE000000000000) = .normal ∧
      (roundAt .nearest (numOf (extOf 0x400D 0xFFFE000000000000)) 0).mant * 2 ^ (roundAt .nearest (numOf (extOf 0x400D 0xFFFE000000000000)) 0).exp.toNat = 32767) ∧
     (roundAt .nearest (numOf (extOf 0x400E 0x8000000000000000)) 0).mant * 2 ^ (roundAt .nearest (numOf (extOf 0x400E 0x8000000000000000)) 0).exp.toNat = 32768) ∧
    ((roundAt .nearest (numOf (extOf 0x403A 0xDE0B6B3A763FFFF0)) 0).mant *
        2 ^ (roundAt .nearest (numOf (extOf 0x403A 0xDE0B6B3A763FFFF0)) 0).exp.toNat = 10 ^ 18 - 1 ∧
     (roundAt .nearest (numOf (extOf 0x403A 0xDE0B6B3A76400000)) 0).mant *
        2 ^ (roundAt .nearest (numOf (extOf 0x403A 0xDE0B6B3A76400000)) 0).exp.toNat = 10 ^ 18) ∧
    (extCls (extZero true) = .zero ∧ extCls (extInf true) = .infinity ∧ extCls indefinite = .qnan ∧ extCls snan = .snan) ∧
    (extCls extOne = .normal ∧ fmtSingle.emin ≤ topExp (roundPrec fmtSingle.prec .nearest (numOf extOne)).mant
      (roundPrec fmtSingle.prec .nearest (numOf extOne)).exp) :=
  ⟨masked _ rfl, by decide +kernel, by decide +kernel, by decide +kernel, by decide +kernel⟩

theorem wit_FpuArithmetic :
    (FpuReady (fpu 0 0) ∧ PrecisionIs (fpu 0 0).fpu 64 ∧ PrecisionIs (flat |> fcw 0x27F).fpu 53 ∧ PrecisionIs (flat |> fcw 0x7F).fpu 24) ∧
    (ArithStForm (.fdivrpStiSt0 1) .divr 1 0 true ∧ (fpu 0 0).fpu.empty 0 = false ∧ (fpu 0 0).fpu.empty 1 = false ∧
      (fpu 0 0).fpu.empty 2 = true) ∧
    (ArithMemForm (.fiaddM16 (.a32 none none 0x6000)) .add (.int 2) (.a32 none none 0x6000) ∧
      ∃ v s1, readMem (.a32 none none 0x6000) 2 (notedMem (fpu 0 0) (.a32 none none 0x6000)) = .ok v s1) :=
  ⟨⟨⟨⟨rfl, rfl, rfl⟩, by decide +kernel⟩, .inr (.inr ⟨by decide +kernel, rfl⟩), .inr (.inl ⟨by decide +kernel, rfl⟩),
    .inl ⟨by decide +kernel, rfl⟩⟩, ⟨.fdivrpStiSt0 1, by decide +kernel⟩, .fiaddM16 _, one (by decide +kernel)⟩

theorem value_one : value (numOf extOne) = 1 := by
  have h : numOf extOne = { neg := false, mant := 2 ^ 63, exp := -63 } := by decide +kernel
  rw [h]
  norm_num [value]

/-- An integer of 17 bits as an extended number. -/
def wide (n : Nat) : Ext := extOf 0x400F (n * 2 ^ 47)

/-- 70000 and 70001 are the integers where the two clauses of FSCALE meet; 3/4 truncates to 0; the last pair of NaNs differs in
its sign alone. -/
theorem wit_FpuValuesDelivered_scale :
    (extCls (wide 70000) = .normal ∧ |value (numOf (wide 70000))| < 70001 ∧ extCls (wide 70001) = .normal ∧
      70001 ≤ |value (numOf (wide 70001))|) ∧
    (extCls (extOf 0x3FFE 0xC000000000000000) = .normal ∧ scaleCount (numOf (extOf 0x3FFE 0xC000000000000000)) = 0 ∧
      scaleCount (numOf (wide 70000)) = 70000) ∧
    (isNan snan = true ∧ isNan extOne = false ∧ isNan indefinite = true ∧ extSig snan < extSig indefinite ∧
      isNan (extOf 0x7FFF 0xC000000000000000) = true ∧ extNeg indefinite = true ∧ extNeg (extOf 0x7FFF 0xC000000000000000) = false ∧
      extSig (extOf 0x7FFF 0xC000000000000000) = extSig indefinite) := by
  have h : ∀ n ∈ [70000, 70001], numOf (wide n) = { neg := false, mant := n * 2 ^ 47, exp := -47 } := by decide +kernel
  refine ⟨⟨by decide +kernel, ?_, by decide +kernel, ?_⟩, by decide +kernel, by decide +kernel⟩
  · rw [h _ (by decide)]
    norm_num [value]
  · rw [h _ (by decide)]
    norm_num [value]

theorem wit_FpuValuesDelivered :
    (extCls extOne = .normal ∧ value (numOf extOne) + value (numOf extOne) ≠ 0 ∧ value (numOf extOne) > 0 ∧
      extCls (extZero false) = .zero ∧ extCls (extInf true) = .infinity) ∧
    ((2 ^ 63 : Nat) ≠ 0 ∧ topExp (roundPrec 24 .nearest { neg := false, mant := 1, exp := -16382 }).mant
        (roundPrec 24 .nearest { neg := false, mant := 1, exp := -16382 }).exp = -16382 ∧
      topExp (roundPrec 24 .nearest { neg := false, mant := 1, exp := -16383 }).mant
        (roundPrec 24 .nearest { neg := false, mant := 1, exp := -16383 }).exp < -16382 ∧
      topExp (roundPrec 64 .nearest { neg := false, mant := 1, exp := 16383 }).mant
        (roundPrec 64 .nearest { neg := false, mant := 1, exp := 16383 }).exp = 16383 ∧
      16383 < topExp (roundPrec 64 .nearest { neg := false, mant := 1, exp := 16384 }).mant
        (roundPrec 64 .nearest { neg := false, mant := 1, exp := 16384 }).exp) ∧
    (flat.fpu.fcw.getLsbD 2 = true ∧ flat.fpu.fcw.getLsbD 3 = true ∧ flat.fpu.fcw.getLsbD 4 = true ∧
      (flat |> fcw 0x37B).fpu.fcw.getLsbD 2 = false) :=
  ⟨⟨by decide +kernel, by rw [value_one]; norm_num, by rw [value_one]; norm_num, by decide +kernel, by decide +kernel⟩,
    by decide +kernel, by decide +kernel⟩

/-- The bounds of the ranges: the largest denormal and the least normal, the largest finite pattern and infinity. -/
theorem wit_RoundingAndFormats :
    (0x007FFFFF / 2 ^ 23 % 2 ^ 8 = 0 ∧ 0x00800000 / 2 ^ 23 % 2 ^ 8 = 1 ∧ 0x7F7FFFFF / 2 ^ 23 % 2 ^ 8 + 1 = 2 ^ 8 - 1 ∧
      0x7F800000 / 2 ^ 23 % 2 ^ 8 + 1 = 2 ^ 8 ∧ 0xFFFFFFFF < 2 ^ (8 * fmtSingle.bytes)) ∧
    (-(2 ^ 64 - 1) : ℤ).natAbs < 2 ^ 64 := by decide +kernel

theorem wit_FpuUnary :
    (FpuReady (fpu twoAndHalf extOne) ∧ (fpu twoAndHalf extOne).fpu.empty 0 = false ∧ (fpu twoAndHalf extOne).fpu.empty 1 = false ∧
      (fpu twoAndHalf extOne).fpu.empty 7 = true) ∧
    ((fpu twoAndHalf extOne).fpu.st 0 = twoAndHalf ∧ (fpu twoAndHalf extOne).fpu.st 1 = extOne ∧ extCls twoAndHalf = .normal ∧
      extCls extOne = .normal ∧ (numOf (extOf 0x403E 0x8000000000000000)).top - (numOf extOne).top = 63) ∧
    AllMasked (fpu twoAndHalf extOne).fpu :=
  ⟨⟨⟨⟨rfl, rfl, rfl⟩, by decide +kernel⟩, by decide +kernel⟩, by decide +kernel, masked _ (by decide +kernel)⟩

theorem wit_FpuCompare :
    (CompareStForm (.fucompSt 1) true 1 1 ∧ FpuReady (fpu snan extOne) ∧ (fpu snan extOne).fpu.empty 0 = false) ∧
    (CompareMemForm (.ficomM16 (.a32 none none 0x6000)) (.int 2) (.a32 none none 0x6000) 0 ∧
      ∃ v s1, readMem (.a32 none none 0x6000) 2 (notedMem (fpu snan extOne) (.a32 none none 0x6000)) = .ok v s1) ∧
    flat.fpu.empty 0 = true :=
  ⟨⟨.fucompSt 1, ⟨⟨rfl, rfl, rfl⟩, by decide +kernel⟩, by decide +kernel⟩, ⟨.ficomM16 _, one (by decide +kernel)⟩, by decide⟩

/-- 1.0 on top of the stack, with the answers that the step supplies. -/
noncomputable def answered : State := { fpu extOne extOne with ins := { Ins.none with x87 := x87Answers (fpu extOne extOne).fpu } }

theorem wit_FpuTranscendental_answers : FpuReady answered ∧ answered.fpu.empty 0 = false ∧
    answered.ins.x87 = x87Answers answered.fpu ∧ extCls (answered.fpu.st 0) = .normal ∧
    1 ≤ |value (numOf (answered.fpu.st 0))| * 2 ^ 64 ∧ |value (numOf (answered.fpu.st 0))| ≤ 1 := by
  have h : answered.fpu.st 0 = extOne := by decide +kernel
  refine ⟨⟨⟨rfl, rfl, rfl⟩, by decide +kernel⟩, by decide +kernel, rfl, by decide +kernel, ?_, ?_⟩
  · rw [h, value_one]; norm_num
  · rw [h, value_one]; norm_num

/-- 2^63 is the least operand out of range. -/
theorem wit_FpuTranscendental :
    (FpuReady (fpu extOne extOne) ∧ (fpu extOne extOne).fpu.empty 0 = false ∧ (fpu extOne extOne).fpu.empty 1 = false ∧
      (fpu extOne extOne).fpu.empty 7 = true ∧ (fpu extOne extOne).fpu.st 0 = extOne) ∧ AllMasked (fpu extOne extOne).fpu ∧
    ¬((2 : ℚ) ^ 63 ≤ |value (numOf extOne)|) ∧
    (extCls (extOf 0x403E 0x8000000000000000) = .normal ∧ (2 : ℚ) ^ 63 ≤ |value (numOf (extOf 0x403E 0x8000000000000000))|) ∧
    (fpu (extZero true) extOne).fpu.st 0 = extZero true ∧ extCls (extZero true) = .zero := by
  refine ⟨⟨⟨⟨rfl, rfl, rfl⟩, by decide +kernel⟩, by decide +kernel⟩, masked _ (by decide +kernel), ?_, ⟨by decide +kernel, ?_⟩,
    by decide +kernel, by decide +kernel⟩
  · rw [value_one]; norm_num
  · have h : numOf (extOf 0x403E 0x8000000000000000) = { neg := false, mant := 2 ^ 63, exp := 0 } := by decide +kernel
    rw [h]
    norm_num [value]

theorem wit_FpuControl :
    (FpuPresent flat ∧ flat.fpu.es = false ∧ FpuPresent (flat |> fcw 0x37B |> fsw 4)) ∧
    (∃ as s1, accessMem (.a32 none none 0x6000) 2 true (past flat) = .ok as s1) ∧
    (∃ v s1, readMem (.a32 none none 0x6000) 2 (past flat) = .ok v s1) ∧
    (∃ as s1, accessMem (.a32 none none 0x6000) 28 true { past flat with draws := 7 } = .ok as s1) ∧
    (∃ as s1, accessMem (.a16 .none 0x6000) 94 true { past real with draws := 7 } = .ok as s1) ∧
    (∃ v s1, readMem (.a32 none none 0x6000) 28 (past flat) = .ok v s1) ∧
    (∃ v s1, readMem (.a16 .none 0x6000) 94 (past real) = .ok v s1) :=
  ⟨⟨⟨rfl, rfl, rfl⟩, by decide, ⟨rfl, rfl, rfl⟩⟩, one (by decide +kernel), one (by decide +kernel), one (by decide +kernel),
    one (by decide +kernel), one (by decide +kernel), one (by decide +kernel)⟩

end Sys2Proof.Tests
end

section
/-!
PROOFS. The condition codes (10_state.md R62): what SETcc writes, which condition denies which, and the opcodes that carry
their numbers.
-/

namespace Sys2Proof.Machine

open Claims

/-! ### The value of a condition -/

/-- The model's condition is the one of R62. -/
theorem cond_eq_true_iff (c : Cond) (f : Flags) : cond f c = true ↔ Holds c f := by
  cases c <;> simp [cond, Holds]

/-- A condition whose value is the other's negation holds when the other does not. -/
theorem holds_iff_not_holds_of_cond {c c' : Cond} {f : Flags} (h : cond f c' = !cond f c) : Holds c' f ↔ ¬Holds c f := by
  rw [← cond_eq_true_iff, ← cond_eq_true_iff, h, Bool.not_eq_true', Bool.not_eq_true]

/-- An odd number is the negation of the number before it. -/
theorem odd_conditions_negate (f : Flags) :
    (Holds .no f ↔ ¬Holds .o f) ∧ (Holds .ae f ↔ ¬Holds .b f) ∧ (Holds .ne f ↔ ¬Holds .e f) ∧
    (Holds .a f ↔ ¬Holds .be f) ∧ (Holds .ns f ↔ ¬Holds .s f) ∧ (Holds .np f ↔ ¬Holds .p f) ∧
    (Holds .ge f ↔ ¬Holds .l f) ∧ (Holds .g f ↔ ¬Holds .le f) := by
  have above : cond f .a = !cond f .be := by simp [cond]
  have notLess : cond f .ge = !cond f .l := by simp [cond, bne]
  have greater : cond f .g = !cond f .le := by simp [cond, bne]
  exact ⟨holds_iff_not_holds_of_cond rfl, holds_iff_not_holds_of_cond rfl, holds_iff_not_holds_of_cond rfl,
    holds_iff_not_holds_of_cond above, holds_iff_not_holds_of_cond rfl, holds_iff_not_holds_of_cond rfl,
    holds_iff_not_holds_of_cond notLess, holds_iff_not_holds_of_cond greater⟩

/-! ### SETcc -/

/-- Every form of SETcc is `setcc` with its condition. -/
theorem exec_setForm {i : Instr} {c : Cond} {d : RM8} (h : SetForm i c d) (s : State) :
    exec i s = runInstr (setcc c (rm8Op d)) s := by
  cases h <;> rfl

/-- SETcc puts the value of its condition in its destination. -/
theorem exec_setForm_of_openDest {i : Instr} {c : Cond} {d : RM8} {s t : State} {as : List Word} (h : SetForm i c d)
    (ho : openDest .w8 (rm8Op d) (past s) = .ok as t) :
    exec i s = .next (putDest .w8 (rm8Op d) as (if cond s.flags c then 1 else 0) t) := by
  rw [exec_setForm h]
  exact runInstr_of_ok (setcc_ok ho)

/-! ### Reading the bytes of an instruction -/

theorem byte_bind {α : Type} (f : Byte → Dec α) (b : Byte) (bs : List Byte) : (byte >>= f) (b :: bs) = f b bs := rfl

theorem dec_bind_of_ok {α β : Type} {x : Dec α} {v : α} {bs rest : List Byte} (h : x bs = .ok v rest) (f : α → Dec β) :
    (x >>= f) bs = f v rest := by
  show EStateM.bind x f bs = _
  rw [EStateM.bind, h]

theorem decode_of_ok {o a : Size} {bs rest : List Byte} {i : Instr} (h : decodeInstr o a bs = .ok i rest) :
    decode o a bs = .ok (i, rest) := by
  rw [decode, h]

/-- The two halves of a number stand together as the number. -/
theorem ofNat_high_append_low (m n v : Nat) :
    BitVec.ofNat m (v / 2 ^ n) ++ BitVec.ofNat n v = BitVec.ofNat (m + n) v := by
  apply BitVec.eq_of_toNat_eq
  rw [BitVec.toNat_append, BitVec.toNat_ofNat, BitVec.toNat_ofNat, BitVec.toNat_ofNat,
    ← Nat.shiftLeft_add_eq_or_of_lt (Nat.mod_lt _ (Nat.two_pow_pos n)), Nat.shiftLeft_eq, Nat.add_comm m n, Nat.pow_add,
    Nat.mod_mul]
  ring

theorem bytes16_ofNat (v : Nat) : bytes16 (BitVec.ofNat 8 v) (BitVec.ofNat 8 (v / 256)) = BitVec.ofNat 16 v :=
  ofNat_high_append_low 8 8 v

theorem immV_s16 (b0 b1 : Byte) (rest : List Byte) :
    immV .s16 (b0 :: b1 :: rest) = .ok ((bytes16 b0 b1).setWidth 32) rest := rfl

theorem immV_s32 (b0 b1 b2 b3 : Byte) (rest : List Byte) :
    immV .s32 (b0 :: b1 :: b2 :: b3 :: rest) = .ok (bytes16 b2 b3 ++ bytes16 b0 b1) rest := rfl

/-- A field of a size, read from the bytes of a number it can hold, is the number (30_encoding.md R160, R167). -/
theorem immV_littleEndian (o : Size) {v : Nat} (hv : v < 256 ^ sizeBytes o) (rest : List Byte) :
    immV o ((List.range (sizeBytes o)).map (fun j => BitVec.ofNat 8 (v / 256 ^ j)) ++ rest) =
      .ok (BitVec.ofNat 32 v) rest := by
  cases o with
  | s16 =>
    have fits : v < 2 ^ 16 := hv
    have value : (BitVec.ofNat 16 v).setWidth 32 = BitVec.ofNat 32 v := BitVec.setWidth_ofNat_of_le_of_lt (by decide) fits
    simp [sizeBytes, List.range_succ, immV_s16, bytes16_ofNat, value]
  | s32 =>
    have value : BitVec.ofNat 16 (v / 65536) ++ BitVec.ofNat 16 v = BitVec.ofNat 32 v := ofNat_high_append_low 16 16 v
    have high : bytes16 (BitVec.ofNat 8 (v / 65536)) (BitVec.ofNat 8 (v / 16777216)) = BitVec.ofNat 16 (v / 65536) := by
      rw [← bytes16_ofNat, Nat.div_div_eq_div_mul]
    simp [sizeBytes, List.range_succ, immV_s32, bytes16_ofNat, high, value]

/-- A number that a size can hold is kept whole when an offset is cut to that size. -/
theorem sizeTrunc_ofNat_toNat (o : Size) {v : Nat} (hv : v < 256 ^ sizeBytes o) :
    (sizeTrunc o (BitVec.ofNat 32 v)).toNat = v := by
  cases o with
  | s16 =>
    have fits : v < 2 ^ 16 := hv
    have whole : (BitVec.ofNat 32 v).toNat = v := Nat.mod_eq_of_lt (by omega)
    calc (BitVec.ofNat 32 v &&& 0xFFFF).toNat
        = v &&& (2 ^ 16 - 1) := by rw [BitVec.toNat_and, whole]; rfl
      _ = v % 2 ^ 16 := Nat.and_two_pow_sub_one_eq_mod v 16
      _ = v := Nat.mod_eq_of_lt fits
  | s32 => exact Nat.mod_eq_of_lt hv

/-! ### The opcodes -/

/-- Row `k` of the opcodes 70+k, 0F 80+k and 0F 90+k carries condition `c`, in the instructions `short`, `near` and `set`. -/
structure CarriedAt (k : Nat) (c : Cond) (short : Byte → Instr) (near : Word → Instr) (set : RM8 → Instr) : Prop where
  short_form (i : Byte) : JccForm (short i) c (sext i)
  near_form (i : Word) : JccForm (near i) c i
  set_form (d : RM8) : SetForm (set d) c d
  short_row (o a : Size) : decode1Row7 o a k = imm8 >>= fun i => pure (short i)
  near_row (o a : Size) : decode0FRow8 o a k = immV o >>= fun i => pure (near i)
  set_row (o a : Size) : decode0FRow9 o a k = byte >>= fun b => rm8 a b >>= fun d => pure (set d)

/-- The decoder's rows carry the conditions in the order of their numbers. -/
theorem conditions_carried {k : Nat} {c : Cond} (h : conditions[k]? = some c) :
    ∃ short near set, CarriedAt k c short near set :=
  match k, h with
  | 0, rfl => ⟨_, _, _, .joRel8, .joRel, .setoRm8, fun _ _ => rfl, fun _ _ => rfl, fun _ _ => rfl⟩
  | 1, rfl => ⟨_, _, _, .jnoRel8, .jnoRel, .setnoRm8, fun _ _ => rfl, fun _ _ => rfl, fun _ _ => rfl⟩
  | 2, rfl => ⟨_, _, _, .jbRel8, .jbRel, .setbRm8, fun _ _ => rfl, fun _ _ => rfl, fun _ _ => rfl⟩
  | 3, rfl => ⟨_, _, _, .jaeRel8, .jaeRel, .setaeRm8, fun _ _ => rfl, fun _ _ => rfl, fun _ _ => rfl⟩
  | 4, rfl => ⟨_, _, _, .jeRel8, .jeRel, .seteRm8, fun _ _ => rfl, fun _ _ => rfl, fun _ _ => rfl⟩
  | 5, rfl => ⟨_, _, _, .jneRel8, .jneRel, .setneRm8, fun _ _ => rfl, fun _ _ => rfl, fun _ _ => rfl⟩
  | 6, rfl => ⟨_, _, _, .jbeRel8, .jbeRel, .setbeRm8, fun _ _ => rfl, fun _ _ => rfl, fun _ _ => rfl⟩
  | 7, rfl => ⟨_, _, _, .jaRel8, .jaRel, .setaRm8, fun _ _ => rfl, fun _ _ => rfl, fun _ _ => rfl⟩
  | 8, rfl => ⟨_, _, _, .jsRel8, .jsRel, .setsRm8, fun _ _ => rfl, fun _ _ => rfl, fun _ _ => rfl⟩
  | 9, rfl => ⟨_, _, _, .jnsRel8, .jnsRel, .setnsRm8, fun _ _ => rfl, fun _ _ => rfl, fun _ _ => rfl⟩
  | 10, rfl => ⟨_, _, _, .jpRel8, .jpRel, .setpRm8, fun _ _ => rfl, fun _ _ => rfl, fun _ _ => rfl⟩
  | 11, rfl => ⟨_, _, _, .jnpRel8, .jnpRel, .setnpRm8, fun _ _ => rfl, fun _ _ => rfl, fun _ _ => rfl⟩
  | 12, rfl => ⟨_, _, _, .jlRel8, .jlRel, .setlRm8, fun _ _ => rfl, fun _ _ => rfl, fun _ _ => rfl⟩
  | 13, rfl => ⟨_, _, _, .jgeRel8, .jgeRel, .setgeRm8, fun _ _ => rfl, fun _ _ => rfl, fun _ _ => rfl⟩
  | 14, rfl => ⟨_, _, _, .jleRel8, .jleRel, .setleRm8, fun _ _ => rfl, fun _ _ => rfl, fun _ _ => rfl⟩
  | 15, rfl => ⟨_, _, _, .jgRel8, .jgRel, .setgRm8, fun _ _ => rfl, fun _ _ => rfl, fun _ _ => rfl⟩
  | k + 16, h => by simp [conditions] at h

theorem conditions_index_lt {k : Nat} {c : Cond} (h : conditions[k]? = some c) : k < 16 :=
  (List.getElem?_eq_some_iff.1 h).1

/-- The opcode byte of number `k` in a row of sixteen. -/
theorem opcode_fields {row k : Nat} (hrow : row < 16) (hk : k < 16) :
    (BitVec.ofNat 8 (16 * row + k)).toNat / 16 = row ∧ (BitVec.ofNat 8 (16 * row + k)).toNat % 16 = k := by
  rw [BitVec.toNat_ofNat]
  omega

theorem decodeInstr_0F (o a : Size) (bs : List Byte) : decodeInstr o a (0x0F :: bs) = decode0F o a bs := rfl

theorem decodeInstr_row7 (o a : Size) {k : Nat} (hk : k < 16) (bs : List Byte) :
    decodeInstr o a (BitVec.ofNat 8 (0x70 + k) :: bs) = decode1Row7 o a k bs := by
  obtain ⟨row, low⟩ := opcode_fields (row := 7) (by decide) hk
  simp only [decodeInstr, byte_bind, row, low]

theorem decodeInstr_0F_row8 (o a : Size) {k : Nat} (hk : k < 16) (bs : List Byte) :
    decodeInstr o a (0x0F :: BitVec.ofNat 8 (0x80 + k) :: bs) = decode0FRow8 o a k bs := by
  obtain ⟨row, low⟩ := opcode_fields (row := 8) (by decide) hk
  simp only [decodeInstr_0F, decode0F, byte_bind, row, low]

theorem decodeInstr_0F_row9 (o a : Size) {k : Nat} (hk : k < 16) (bs : List Byte) :
    decodeInstr o a (0x0F :: BitVec.ofNat 8 (0x90 + k) :: bs) = decode0FRow9 o a k bs := by
  obtain ⟨row, low⟩ := opcode_fields (row := 9) (by decide) hk
  simp only [decodeInstr_0F, decode0F, byte_bind, row, low]

section

variable {k : Nat} {c : Cond} {short : Byte → Instr} {near : Word → Instr} {set : RM8 → Instr} (o a : Size)

/-- 70+k is the short jump on condition `c`. -/
theorem CarriedAt.decode_short (h : CarriedAt k c short near set) (hk : k < 16) (b : Byte) :
    decode o a [BitVec.ofNat 8 (0x70 + k), b] = .ok (short b, []) := by
  apply decode_of_ok
  rw [decodeInstr_row7 o a hk, h.short_row]
  exact byte_bind _ b []

/-- 0F 80+k is the near jump on condition `c`. -/
theorem CarriedAt.decode_near (h : CarriedAt k c short near set) (hk : k < 16) {v : Nat} (hv : v < 256 ^ sizeBytes o) :
    decode o a (0x0F :: BitVec.ofNat 8 (0x80 + k) ::
      (List.range (sizeBytes o)).map fun j => BitVec.ofNat 8 (v / 256 ^ j)) = .ok (near (BitVec.ofNat 32 v), []) := by
  have field := immV_littleEndian o hv []
  rw [List.append_nil] at field
  apply decode_of_ok
  rw [decodeInstr_0F_row8 o a hk, h.near_row]
  exact dec_bind_of_ok field _

/-- 0F 90+k is SETcc on condition `c`; the ModRM byte C0 names AL. -/
theorem CarriedAt.decode_set (h : CarriedAt k c short near set) (hk : k < 16) :
    decode o a [0x0F, BitVec.ofNat 8 (0x90 + k), 0xC0] = .ok (set (.reg .al), []) := by
  apply decode_of_ok
  rw [decodeInstr_0F_row9 o a hk, h.set_row]
  rfl

end

/-! ### The obligation -/

/-- Settles O21: SETcc by the value of its condition, the negations by that value, the opcodes by the rows of the
decoder. -/
theorem conditionCodes : Obligations.ConditionCodes := by
  unfold Obligations.ConditionCodes
  refine ⟨fun s i c d hset as s1 ho => ⟨fun hc => ?_, fun hc => ?_⟩, odd_conditions_negate, fun o a k c hk => ?_⟩
  · rw [exec_setForm_of_openDest hset ho, if_pos ((cond_eq_true_iff c s.flags).2 hc)]
  · rw [exec_setForm_of_openDest hset ho, if_neg (mt (cond_eq_true_iff c s.flags).1 hc)]
  · obtain ⟨short, near, set, carried⟩ := conditions_carried hk
    have hlt : k < 16 := conditions_index_lt hk
    exact ⟨fun b => ⟨short b, carried.decode_short o a hlt b, carried.short_form b⟩,
      fun v hv => ⟨near (BitVec.ofNat 32 v), BitVec.ofNat 32 v, carried.near_form _, sizeTrunc_ofNat_toNat o hv,
        carried.decode_near o a hlt hv⟩,
      set (.reg .al), carried.decode_set o a hlt, carried.set_form _⟩

end Sys2Proof.Machine
end

section
/-!
PROOFS. The checks of a data access (20_memory.md R110, R111, R120, R121): what each of them answers, their order, and the
addresses where all of them pass.
-/

namespace Sys2Proof.Machine

open Claims

/-! ### The segment checks -/

/-- In protected mode the segment register is invalid, or its type does not allow the access (R120 (1) and (2)). -/
def SegmentRefuses (s : State) (r : SReg) (write : Bool) : Prop :=
  s.protectedMode = true ∧ ((s.segs.get r).valid = false ∨
    (if write then (s.segs.get r).writable else (s.segs.get r).readable) = false)

theorem run_raiseLimit {α : Type} (r : SReg) (s : State) :
    (raiseLimit r : M α) s = .error (.exc (.plain (if r = .ss then 12 else 13) (some 0)) false) s := by
  unfold raiseLimit
  split
  · rw [run_raiseSS]
  · rw [run_raiseGP]

section

variable {s : State} {r : SReg} {off : Word} {n : Nat} {write : Bool}

/-- A segment that refuses the access is #GP(0), whatever its limit. -/
theorem checkSeg_of_refuses (h : SegmentRefuses s r write) :
    checkSeg r off n write s = .error (.exc (.plain 13 (some 0)) false) s := by
  obtain ⟨hpm, hvalid | htype⟩ := h
  · simp [checkSeg, run_bind, hpm, hvalid]
  · cases hvalid : (s.segs.get r).valid <;> simp [checkSeg, run_bind, hpm, hvalid, htype]

/-- A segment that does not refuse the access leaves its limit to decide. -/
theorem checkSeg_of_not_refuses (h : ¬SegmentRefuses s r write) :
    checkSeg r off n write s = check ((s.segs.get r).inLimit off n) (raiseLimit r) s := by
  unfold checkSeg
  rw [run_bind, run_getS]
  refine bind_of_ok (a := ()) (t := s) ?_ _
  by_cases hpm : s.protectedMode = true
  · obtain ⟨hvalid, htype⟩ := not_or.mp fun bad => h ⟨hpm, bad⟩
    rw [Bool.not_eq_false] at hvalid htype
    simp [run_bind, hpm, hvalid, htype]
  · simp [hpm]

theorem checkSeg_outside (h : ¬SegmentRefuses s r write) (hn : 0 < n) (hw : ¬Within (s.segs.get r) off n) :
    checkSeg r off n write s = .error (.exc (.plain (if r = .ss then 12 else 13) (some 0)) false) s := by
  rw [checkSeg_of_not_refuses h, run_check, if_neg (mt (inLimit_iff hn).1 hw), run_raiseLimit]

theorem checkSeg_within (h : ¬SegmentRefuses s r write) (hn : 0 < n) (hw : Within (s.segs.get r) off n) :
    checkSeg r off n write s = .ok () s := by
  rw [checkSeg_of_not_refuses h, run_check, if_pos ((inLimit_iff hn).2 hw)]

end

/-! ### The access -/

/-- Noting an access changes the two breakpoint records at most, and neither where no breakpoint watches data. -/
theorem noteAccess_records (s : State) (la : Word) (n : Nat) (write : Bool) :
    ∃ h l, noteAccess la n write s = .ok () { s with ins := { s.ins with hits := h, loose := l } } ∧
      (s.dbg.dr7 &&& 0x11110000 = 0 → h = s.ins.hits ∧ l = s.ins.loose) := by
  by_cases hq : s.dbg.dr7 &&& 0x11110000 = 0
  · exact ⟨s.ins.hits, s.ins.loose, noteAccess_quiet hq la n write, fun _ => ⟨rfl, rfl⟩⟩
  · unfold noteAccess
    rw [run_upd]
    split
    · exact ⟨_, _, rfl, fun h => absurd h hq⟩
    · exact ⟨s.ins.hits, s.ins.loose, rfl, fun h => absurd h hq⟩

/-- An access that fails its segment checks fails as they do. -/
theorem access_of_checkSeg_error {s t : State} {r : SReg} {off : Word} {n : Nat} {write : Bool} {e : Stop}
    (h : checkSeg r off n write s = .error e t) : access r off n write s = .error e t :=
  bind_of_error h _

/-- An unpaged access that passes its segment checks reaches the bytes from base + offset on, and is noted. -/
theorem access_unpaged {s t : State} {r : SReg} {off : Word} {n : Nat} {write : Bool}
    (hc : checkSeg r off n write s = .ok () s) (hp : s.cr0.pg = false)
    (hnote : noteAccess ((s.segs.get r).base + off) n write s = .ok () t) :
    access r off n write s = .ok (addrs ((s.segs.get r).base + off) n) t := by
  unfold access
  rw [bind_of_ok hc, run_bind, run_getS]
  dsimp only
  rw [bind_of_ok (physOf_unpaged hp _ _ _ _), bind_of_ok hnote, run_pure]

/-- Settles O10: the segment's refusal, its limit, and the address of an unpaged access, in the order of the checks. -/
theorem accessChecks : Obligations.AccessChecks := by
  unfold Obligations.AccessChecks
  intro s r off n write hn _ g refused
  refine ⟨fun h => ?_, fun h hw => ?_, fun h hw hp => ?_⟩
  · exact access_of_checkSeg_error (checkSeg_of_refuses h)
  · exact access_of_checkSeg_error (checkSeg_outside h hn hw)
  · obtain ⟨hits, loose, hnote, hquiet⟩ := noteAccess_records s (g.base + off) n write
    exact ⟨hits, loose, access_unpaged (checkSeg_within h hn hw) hp hnote, hquiet⟩

end Sys2Proof.Machine
end


section
/-!
PROOFS. The values after reset (70_reset_and_hazards.md R801): what Reset(params) puts in each register from any state, and
the host's start state as one such reset.
-/

namespace Sys2Proof.Machine

open Claims

/-! ### Fields of a masked word -/

section
variable {n start len : Nat} {m : BitVec n}

/-- A field that the mask keeps whole is the word's. -/
theorem extractLsb'_and_of_allOnes (hm : m.extractLsb' start len = BitVec.allOnes len) (w : BitVec n) :
    (w &&& m).extractLsb' start len = w.extractLsb' start len := by
  rw [BitVec.extractLsb'_and, hm, BitVec.and_allOnes]

/-- A field that the mask clears is the one merged in. -/
theorem extractLsb'_merge_of_zero (hm : m.extractLsb' start len = 0) (w v : BitVec n) :
    ((w &&& m) ||| v).extractLsb' start len = v.extractLsb' start len := by
  rw [BitVec.extractLsb'_or, BitVec.extractLsb'_and, hm, BitVec.ofNat_eq_ofNat, BitVec.and_zero, BitVec.zero_or]

/-- A field that the mask keeps whole, and into which nothing is merged, is the word's. -/
theorem extractLsb'_merge_of_allOnes {v : BitVec n} (hm : m.extractLsb' start len = BitVec.allOnes len)
    (hv : v.extractLsb' start len = 0) (w : BitVec n) :
    ((w &&& m) ||| v).extractLsb' start len = w.extractLsb' start len := by
  rw [BitVec.extractLsb'_or, extractLsb'_and_of_allOnes hm, hv, BitVec.ofNat_eq_ofNat, BitVec.or_zero]

end

/-! ### EDX, CR3 and DR6: the registers that reset gives in part -/

theorem State.resetBy_edx (p : ResetParams) (s : State) :
    (s.resetBy p).regs.edx = (p.edx &&& 0xFFFF00FF) ||| 0x300 := rfl

/-- DH holds the component number of the 80386. -/
theorem State.resetBy_dh (p : ResetParams) (s : State) : (s.resetBy p).regs.get8 .dh = 3 :=
  calc (s.resetBy p).regs.get8 .dh
    _ = ((p.edx &&& 0xFFFF00FF) ||| 0x300).extractLsb' 8 8 := BitVec.setWidth_ushiftRight_eq_extractLsb
    _ = (0x300 : Word).extractLsb' 8 8 := extractLsb'_merge_of_zero (by decide) _ _
    _ = 3 := by decide

theorem State.resetBy_dl (p : ResetParams) (s : State) : (s.resetBy p).regs.get8 .dl = p.edx.setWidth 8 :=
  calc (s.resetBy p).regs.get8 .dl
    _ = ((p.edx &&& 0xFFFF00FF) ||| 0x300).extractLsb' 0 8 := BitVec.setWidth_eq_extractLsb' (by decide)
    _ = p.edx.extractLsb' 0 8 := extractLsb'_merge_of_allOnes (by decide) (by decide) _
    _ = p.edx.setWidth 8 := (BitVec.setWidth_eq_extractLsb' (by decide)).symm

theorem State.resetBy_edx_upper (p : ResetParams) (s : State) : (s.resetBy p).regs.edx >>> 16 = p.edx >>> 16 := by
  have kept : ((p.edx &&& 0xFFFF00FF) ||| 0x300).extractLsb' 16 (32 - 16) = p.edx.extractLsb' 16 (32 - 16) :=
    extractLsb'_merge_of_allOnes (by decide) (by decide) _
  rw [resetBy_edx, BitVec.ushiftRight_eq_extractLsb'_of_lt (by decide), kept,
    ← BitVec.ushiftRight_eq_extractLsb'_of_lt (by decide)]

theorem State.resetBy_cr3_base (p : ResetParams) (s : State) :
    (s.resetBy p).cr3.extractLsb' 12 20 = p.cr3.extractLsb' 12 20 := by
  rw [resetBy_cr3]
  exact extractLsb'_and_of_allOnes (by decide) p.cr3

/-- The defined bits of DR6 are the parameter's, whether or not the reserved ones are kept (R67). -/
theorem State.resetBy_dr6_defined (p : ResetParams) (s : State) :
    (s.resetBy p).dbg.dr6 &&& dr6Mask = p.dr6 &&& dr6Mask := by
  change (if s.cfg.hasDebugRegs then p.dr6 &&& dr6Mask else p.dr6) &&& dr6Mask = p.dr6 &&& dr6Mask
  split
  · rw [BitVec.and_assoc, BitVec.and_self]
  · rfl

/-! ### The segments and the coprocessor -/

theorem State.resetBy_segs_get (p : ResetParams) (s : State) {r : SReg} (hr : r ≠ .cs) :
    (s.resetBy p).segs.get r = .resetData := by
  cases r with
  | cs => exact absurd rfl hr
  | es | ss | ds | fs | gs => rfl

theorem Oct.get_all {α : Type} (x : α) (i : BitVec 3) : (Oct.all x).get i = x := by
  unfold Oct.get
  split <;> rfl

/-- Every x87 register is empty, wherever TOP points (R605, D32). -/
theorem State.resetBy_fpu_empty (p : ResetParams) (s : State) (i : BitVec 3) : (s.resetBy p).fpu.empty i = true :=
  decide_eq_true (Oct.get_all Tag.empty _)

/-- The status word does not depend on the data registers. -/
theorem State.resetBy_fpu_fswWord (p : ResetParams) (s : State) : (s.resetBy p).fpu.fswWord = 0 :=
  calc (s.resetBy p).fpu.fswWord
    _ = Fpu.reset.fswWord := rfl
    _ = 0 := by decide

/-! ### The table of R801 -/

/-- Reset(params) gives every register its value of R801, from any state. -/
theorem State.afterReset_resetBy (p : ResetParams) (s : State) : AfterReset p (s.resetBy p) := by
  have flags : State.reset.flags.toWord = 0x00000002 := by decide
  refine ⟨resetBy_eip p s, flags, ?code, fun r hr => ?data, rfl, rfl, rfl, resetBy_cr3_base p s,
    ⟨rfl, resetBy_dh p s, resetBy_dl p s, resetBy_edx_upper p s, rfl, rfl, rfl, rfl, rfl, rfl⟩,
    rfl, rfl, rfl, rfl, ⟨rfl, rfl, rfl, rfl, rfl, resetBy_dr6_defined p s⟩, rfl, rfl, rfl, rfl, rfl,
    ⟨rfl, resetBy_fpu_fswWord p s, resetBy_fpu_empty p s, rfl, rfl, rfl, rfl⟩⟩
  case code =>
    rw [resetBy_segs]
    decide
  case data =>
    rw [resetBy_segs_get p s hr]
    decide

/-- Settles O1: the host's start state is the reset with the default arguments, and every reset gives the values of R801. -/
theorem resetValues : Obligations.ResetValues := by
  unfold Obligations.ResetValues
  have start : AfterReset (.default State.reset.cfg) State.reset := by
    have h := State.afterReset_resetBy (.default State.reset.cfg) State.reset
    rwa [reset_eq] at h
  exact ⟨⟨.default State.reset.cfg, rfl, start⟩, State.afterReset_resetBy⟩

end Sys2Proof.Machine
end

section
/-!
PROOFS. Addition, subtraction and the logical operations: the model's results and flags are those that the statements say by
integers and single bits (10_state.md R60, 40_arith.md R230 to R237, 41_logic_shift_bit.md R290 to R294).
-/

namespace Sys2Proof.Machine

open Claims

/-! ### The flags by integers (10_state.md R60) -/

/-- Eight bits have an even number of ones when their exclusive or is 0. -/
theorem parity_eq_evenOnes {n : Nat} (r : BitVec n) : parity r = evenOnes r := by
  have eight : ∀ b0 b1 b2 b3 b4 b5 b6 b7 : Bool, (!(b0 ^^ b1 ^^ b2 ^^ b3 ^^ b4 ^^ b5 ^^ b6 ^^ b7)) =
      decide ([b0, b1, b2, b3, b4, b5, b6, b7].countP (fun b => b) % 2 = 0) := by decide
  unfold parity evenOnes
  rw [eight]
  simp [List.range_succ, List.countP_cons]

/-- SF, ZF and PF of a result. -/
theorem szp_eq_signZeroParity {n : Nat} (f : Flags) (r : BitVec n) : f.szp r = signZeroParity f r := by
  have zero : decide (r = 0) = decide (r.toNat = 0) := decide_eq_decide.mpr BitVec.toNat_eq
  unfold Flags.szp signZeroParity
  rw [BitVec.msb_eq_toInt, zero, parity_eq_evenOnes]

theorem carry_eq_toNat (c : Bool) : carry c = (c.toNat : Int) := by
  cases c <;> rfl

/-- The sum with carry is the bit vectors' sum. -/
theorem sumOf_eq_add {n : Nat} (a b : BitVec n) (c : Bool) : sumOf a b c = a + b + BitVec.ofNat n c.toNat := by
  unfold sumOf
  rw [carry_eq_toNat]
  apply BitVec.eq_of_toNat_eq
  rw [← Int.natCast_add, ← Int.natCast_add, BitVec.ofInt_natCast]
  simp [Nat.add_mod]

/-- The difference with borrow is the bit vectors' difference. -/
theorem diffOf_eq_sub {n : Nat} (a b : BitVec n) (c : Bool) : diffOf a b c = a - (b + BitVec.ofNat n c.toNat) := by
  unfold diffOf
  rw [carry_eq_toNat, Int.sub_sub, ← Int.natCast_add, sub_eq_add_neg, BitVec.ofInt_add, BitVec.ofInt_neg,
    BitVec.ofInt_natCast, BitVec.ofInt_natCast, BitVec.ofNat_add]
  simp [BitVec.sub_eq_add_neg]

section
variable {n : Nat} (a b : BitVec n) (c : Bool)

/-- The sum is the integers' sum, or that less 2^n. -/
theorem toNat_sumOf : (a.toNat + b.toNat + c.toNat < 2 ^ n → (sumOf a b c).toNat = a.toNat + b.toNat + c.toNat) ∧
    (2 ^ n ≤ a.toNat + b.toNat + c.toNat → (sumOf a b c).toNat + 2 ^ n = a.toNat + b.toNat + c.toNat) := by
  have ha := a.isLt
  have hb := b.isLt
  have hc := Bool.toNat_le c
  have value : (sumOf a b c).toNat = (a.toNat + b.toNat + c.toNat) % 2 ^ n := by
    rw [sumOf_eq_add]
    simp
  refine ⟨fun h => value.trans (Nat.mod_eq_of_lt h), fun h => ?_⟩
  rw [value, Nat.mod_eq_sub_mod h, Nat.mod_eq_of_lt (by omega)]
  omega

/-- The difference is the integers' difference, or that and 2^n. -/
theorem toNat_diffOf : (b.toNat + c.toNat ≤ a.toNat → (diffOf a b c).toNat + b.toNat + c.toNat = a.toNat) ∧
    (a.toNat < b.toNat + c.toNat → (diffOf a b c).toNat + b.toNat + c.toNat = a.toNat + 2 ^ n) := by
  have ha := a.isLt
  have hb := b.isLt
  have hc := Bool.toNat_le c
  have value : ((diffOf a b c).toNat : Int) = ((a.toNat : Int) - b.toNat - c.toNat) % ((2 ^ n : Nat) : Int) := by
    unfold diffOf
    rw [BitVec.toNat_ofInt, carry_eq_toNat]
    exact Int.toNat_of_nonneg (Int.emod_nonneg _ (by have := Nat.two_pow_pos n; omega))
  refine ⟨fun h => ?_, fun h => ?_⟩
  · rw [Int.emod_eq_of_lt (by omega) (by omega)] at value
    omega
  · rw [← Int.add_emod_right, Int.emod_eq_of_lt (by omega) (by omega)] at value
    omega

/-- CF of a sum. -/
theorem cfAdd_eq : cfAdd a b c = decide (2 ^ n ≤ (a.toNat + b.toNat + carry c : Int)) := by
  unfold cfAdd
  rw [carry_eq_toNat]
  apply decide_eq_decide.mpr
  exact_mod_cast Iff.rfl

/-- CF of a difference. -/
theorem cfSub_eq : cfSub a b c = decide ((a.toNat - b.toNat - carry c : Int) < 0) := by
  unfold cfSub
  rw [carry_eq_toNat]
  apply decide_eq_decide.mpr
  omega

/-- OF of a sum: the operands have one sign and the result the other. -/
theorem ofAdd_eq (hn : 0 < n) :
    ofAdd a b (sumOf a b c) = decide (a.toInt + b.toInt + carry c ≠ (sumOf a b c).toInt) := by
  have ha := a.isLt
  have hb := b.isLt
  have hc := Bool.toNat_le c
  obtain ⟨small, large⟩ := toNat_sumOf a b c
  have two : 2 ^ n = 2 * 2 ^ (n - 1) := by rw [Nat.mul_comm, Nat.two_pow_pred_mul_two hn]
  unfold ofAdd
  rw [carry_eq_toNat, BitVec.toInt_eq_msb_cond, BitVec.toInt_eq_msb_cond, BitVec.toInt_eq_msb_cond,
    BitVec.msb_eq_decide, BitVec.msb_eq_decide, BitVec.msb_eq_decide, two]
  generalize (sumOf a b c).toNat = r at *
  generalize 2 ^ (n - 1) = p at *
  rw [Bool.eq_iff_iff]
  by_cases h1 : p ≤ a.toNat <;> by_cases h2 : p ≤ b.toNat <;> by_cases h3 : p ≤ r <;> simp [h1, h2, h3] <;> omega

/-- OF of a difference: the operands have different signs and the result not that of the first. -/
theorem ofSub_eq (hn : 0 < n) :
    ofSub a b (diffOf a b c) = decide (a.toInt - b.toInt - carry c ≠ (diffOf a b c).toInt) := by
  have ha := a.isLt
  have hb := b.isLt
  have hc := Bool.toNat_le c
  obtain ⟨small, large⟩ := toNat_diffOf a b c
  have two : 2 ^ n = 2 * 2 ^ (n - 1) := by rw [Nat.mul_comm, Nat.two_pow_pred_mul_two hn]
  have hr := (diffOf a b c).isLt
  unfold ofSub
  rw [carry_eq_toNat, BitVec.toInt_eq_msb_cond, BitVec.toInt_eq_msb_cond, BitVec.toInt_eq_msb_cond,
    BitVec.msb_eq_decide, BitVec.msb_eq_decide, BitVec.msb_eq_decide, two]
  generalize (diffOf a b c).toNat = r at *
  generalize 2 ^ (n - 1) = p at *
  rw [Bool.eq_iff_iff]
  by_cases h1 : p ≤ a.toNat <;> by_cases h2 : p ≤ b.toNat <;> by_cases h3 : p ≤ r <;> simp [h1, h2, h3] <;> omega

/-- Bit 4 of a sum differs from that of the operands' exclusive or by the carry out of the low digit. -/
theorem afAdd_eq (hn : 4 < n) : afAdd a b c = (a ^^^ b ^^^ sumOf a b c).getLsbD 4 := by
  have width : BitVec.ofNat n c.toNat = (BitVec.ofBool c).setWidth n := by
    cases c
    · simp
    · exact (BitVec.setWidth_ofNat_of_le_of_lt (by omega) (by decide)).symm
  have bit : (sumOf a b c).getLsbD 4 = (a.getLsbD 4 ^^ (b.getLsbD 4 ^^ BitVec.carry 4 a b c)) := by
    rw [sumOf_eq_add, width, BitVec.getLsbD_add_add_bool hn]
  have digits : BitVec.carry 4 a b c = afAdd a b c := by
    rfl
  rw [BitVec.getLsbD_xor, BitVec.getLsbD_xor, bit, digits]
  cases a.getLsbD 4 <;> cases b.getLsbD 4 <;> simp

/-- A difference and what was taken from it make up the first operand. -/
theorem sumOf_diffOf : sumOf (diffOf a b c) b c = a := by
  rw [sumOf_eq_add, diffOf_eq_sub, BitVec.add_assoc, BitVec.sub_add_cancel]

/-- Bit 4 of a difference tells the borrow of the low digit: the difference is added up again. -/
theorem afSub_eq (hn : 4 < n) : afSub a b c = (a ^^^ b ^^^ diffOf a b c).getLsbD 4 := by
  have back := afAdd_eq (diffOf a b c) b c hn
  rw [sumOf_diffOf] at back
  have order : a ^^^ b ^^^ diffOf a b c = diffOf a b c ^^^ b ^^^ a := by
    rw [BitVec.xor_comm _ (diffOf a b c), BitVec.xor_comm a b, BitVec.xor_assoc]
  obtain ⟨small, large⟩ := toNat_diffOf a b c
  have hc := Bool.toNat_le c
  have digits : 2 ^ n % 16 = 0 := Nat.mod_eq_zero_of_dvd (Nat.pow_dvd_pow 2 (m := 4) (by omega))
  rw [order, ← back]
  unfold afSub afAdd
  apply decide_eq_decide.mpr
  omega

end

/-- The model's flags of a sum. -/
theorem afterAdd_eq_sumFlags {n : Nat} (hn : 4 < n) (f : Flags) (a b : BitVec n) (c : Bool) :
    f.afterAdd a b c (sumOf a b c) = sumFlags f a b c := by
  unfold Flags.afterAdd sumFlags
  rw [cfAdd_eq, ofAdd_eq a b c (by omega), afAdd_eq a b c hn, szp_eq_signZeroParity]

/-- The model's flags of a difference. -/
theorem afterSub_eq_diffFlags {n : Nat} (hn : 4 < n) (f : Flags) (a b : BitVec n) (c : Bool) :
    f.afterSub a b c (diffOf a b c) = diffFlags f a b c := by
  unfold Flags.afterSub diffFlags
  rw [cfSub_eq, ofSub_eq a b c (by omega), afSub_eq a b c hn, szp_eq_signZeroParity]

/-- The model's flags of a logical result. -/
theorem afterLogic_eq_logicFlags {n : Nat} (f : Flags) (r : BitVec n) (u : Bool) : f.afterLogic r u = logicFlags f r u := by
  unfold Flags.afterLogic logicFlags
  rw [szp_eq_signZeroParity]

theorem Width.four_lt_bits (w : Width) : 4 < w.bits := by
  cases w <;> decide

/-! ### The forms are the shared operations -/

/-- Meanings that agree past the instruction run alike. -/
theorem runInstr_congr {f g : M Unit} {s : State} (h : f (past s) = g (past s)) : runInstr f s = runInstr g s := by
  unfold runInstr
  rw [show f { s with eip := s.ins.nextEip } = g { s with eip := s.ins.nextEip } from h]

theorem exec_aluForm {s : State} {i : Instr} {op : AluOp} {w : Width} {d src : Opnd} (h : AluForm s.opSize i op w d src) :
    exec i s = runInstr (alu op w d src) s := by
  cases h <;> first | exact runInstr_congr (by rfl) | rfl

theorem exec_testForm {s : State} {i : Instr} {w : Width} {d src : Opnd} (h : TestForm s.opSize i w d src) :
    exec i s = runInstr (test w d src) s := by
  cases h <;> first | exact runInstr_congr (by rfl) | rfl

/-- The meaning of a one-operand form. -/
def unaryOp (op : UnaryOp) (w : Width) (d : Opnd) : M Unit :=
  match op with
  | .inc => inc w d
  | .dec => dec w d
  | .neg => neg w d
  | .not => not w d

theorem exec_unaryForm {s : State} {i : Instr} {op : UnaryOp} {w : Width} {d : Opnd} (h : UnaryForm s.opSize i op w d) :
    exec i s = runInstr (unaryOp op w d) s := by
  cases h <;> exact runInstr_congr (by rfl)

/-- Reading the source and opening the destination leave the flags. -/
theorem flags_of_operands {s s1 s2 : State} {w : Width} {src d : Opnd} {b : BitVec w.bits} {as : List Word}
    (hr : readOp w src (past s) = .ok b s1) (ho : openDest w d s1 = .ok as s2) : s2.flags = s.flags :=
  ((Confined.openDest w d).ok ho).flags.trans ((Confined.readOp w src).ok hr).flags

/-! ### Addition and subtraction -/

theorem aluResult_eq_sumOf {n : Nat} (a b : BitVec n) (c : Bool) :
    aluResult .add a b c = sumOf a b false ∧ aluResult .adc a b c = sumOf a b c := by
  simp [aluResult, sumOf_eq_add]

theorem aluResult_eq_diffOf {n : Nat} (a b : BitVec n) (c : Bool) :
    aluResult .sub a b c = diffOf a b false ∧ aluResult .sbb a b c = diffOf a b c ∧
      aluResult .cmp a b c = diffOf a b false := by
  simp [aluResult, diffOf_eq_sub]

theorem aluFlags_eq_sumFlags {n : Nat} (hn : 4 < n) (f : Flags) (a b : BitVec n) (u : Bool) :
    aluFlags .add f a b u = sumFlags f a b false ∧ aluFlags .adc f a b u = sumFlags f a b f.cf := by
  rw [← afterAdd_eq_sumFlags hn, ← afterAdd_eq_sumFlags hn, ← (aluResult_eq_sumOf a b f.cf).1,
    ← (aluResult_eq_sumOf a b f.cf).2]
  exact ⟨rfl, rfl⟩

theorem aluFlags_eq_diffFlags {n : Nat} (hn : 4 < n) (f : Flags) (a b : BitVec n) (u : Bool) :
    aluFlags .sub f a b u = diffFlags f a b false ∧ aluFlags .sbb f a b u = diffFlags f a b f.cf ∧
      aluFlags .cmp f a b u = diffFlags f a b false := by
  obtain ⟨sub, sbb, cmp⟩ := aluResult_eq_diffOf a b f.cf
  rw [← afterSub_eq_diffFlags hn, ← afterSub_eq_diffFlags hn, ← sbb]
  refine ⟨?_, rfl, ?_⟩
  · rw [← sub]; rfl
  · rw [← cmp]; rfl

theorem sumOf_one {n : Nat} (a : BitVec n) : sumOf a 1 false = a + 1 := by
  simp [sumOf_eq_add]

theorem diffOf_false {n : Nat} (a b : BitVec n) : diffOf a b false = a - b := by
  simp [diffOf_eq_sub]

/-- The complement of a word is what it lacks of all ones. -/
theorem not_eq_ofNat {n : Nat} (a : BitVec n) : ~~~a = BitVec.ofNat n (2 ^ n - 1 - a.toNat) := by
  apply BitVec.eq_of_toNat_eq
  have ha := a.isLt
  rw [BitVec.toNat_not, BitVec.toNat_ofNat, Nat.mod_eq_of_lt (by omega)]

/-- Settles O12: each form is its shared operation, whose result and flags are those said by integers. -/
theorem addSubtract : Obligations.AddSubtract := by
  unfold Obligations.AddSubtract
  refine ⟨?_, ?_⟩
  · intro s i op w d src form b as s1 s2 hr ho a f
    have flags : s2.flags = f := flags_of_operands hr ho
    rw [exec_aluForm form]
    refine ⟨?_, ?_, ?_, ?_⟩ <;> rintro rfl <;> refine (runInstr_of_ok (alu_arith hr ho (by decide) rfl)).trans ?_ <;>
      rw [flags]
    · rw [(aluResult_eq_sumOf _ _ _).1, (aluFlags_eq_sumFlags w.four_lt_bits _ _ _ _).1]
    · rw [(aluResult_eq_sumOf _ _ _).2, (aluFlags_eq_sumFlags w.four_lt_bits _ _ _ _).2]
    · rw [(aluResult_eq_diffOf _ _ _).1, (aluFlags_eq_diffFlags w.four_lt_bits _ _ _ _).1]
    · rw [(aluResult_eq_diffOf _ _ _).2.1, (aluFlags_eq_diffFlags w.four_lt_bits _ _ _ _).2.1]
  · intro s i op w d form as s1 ho a f
    have flags : s1.flags = f := ((Confined.openDest w d).ok ho).flags
    have hn := w.four_lt_bits
    rw [exec_unaryForm form]
    refine ⟨?_, ?_, ?_, ?_⟩ <;> rintro rfl
    · refine (runInstr_of_ok (inc_ok ho)).trans ?_
      rw [← afterAdd_eq_sumFlags hn, sumOf_one, flags]
    · refine (runInstr_of_ok (dec_ok ho)).trans ?_
      rw [← afterSub_eq_diffFlags hn, diffOf_false, flags]
    · refine (runInstr_of_ok (neg_ok ho)).trans ?_
      rw [← afterSub_eq_diffFlags hn, diffOf_false, flags]
    · refine (runInstr_of_ok (not_ok ho)).trans ?_
      rw [not_eq_ofNat]

/-! ### Logic and comparison -/

theorem getLsbD_aluResult_logic {n : Nat} {op : AluOp} (h : op = .and ∨ op = .or ∨ op = .xor) (a b : BitVec n) (c : Bool)
    (j : Nat) : (aluResult op a b c).getLsbD j = logicBit op (a.getLsbD j) (b.getLsbD j) := by
  rcases h with rfl | rfl | rfl <;> simp [aluResult, logicBit]

theorem aluFlags_eq_logicFlags {n : Nat} {op : AluOp} (h : op = .and ∨ op = .or ∨ op = .xor) (f : Flags) (a b : BitVec n)
    (u : Bool) : aluFlags op f a b u = logicFlags f (aluResult op a b f.cf) u := by
  rw [← afterLogic_eq_logicFlags]
  rcases h with rfl | rfl | rfl <;> rfl

/-- A new destination leaves the flags and the draws, whatever they are. -/
theorem putDest_flags_draws (w : Width) (d : Opnd) (as : List Word) (v : BitVec w.bits) (s : State) (f : Flags) (k : Nat) :
    putDest w d as v { s with flags := f, draws := k } = { putDest w d as v s with flags := f, draws := k } := by
  cases d <;> rfl

/-- Settles O13: the logical operations bit by bit, CMP by the difference, TEST by the conjunction. -/
theorem logicAndCompare : Obligations.LogicAndCompare := by
  unfold Obligations.LogicAndCompare
  refine ⟨fun s i op w d src form logical b as s1 s2 hr ho => ?_, fun s i w d src form a b s1 s2 hr hd => ?_,
    fun s i w d src form a b s1 s2 hr hd => ?_⟩
  · have flags : s2.flags = s.flags := flags_of_operands hr ho
    have isLogical : op.logical = true := by rcases logical with rfl | rfl | rfl <;> rfl
    refine ⟨aluResult op (destValue w d as s2) b s.flags.cf, Config.freeBit s2.draws, s2.draws + 1, ?_,
      fun j _ => getLsbD_aluResult_logic logical _ _ _ j⟩
    rw [exec_aluForm form]
    refine (runInstr_of_ok (alu_logic hr ho isLogical)).trans ?_
    rw [putDest_flags_draws, aluFlags_eq_logicFlags logical, flags]
  all_goals
    have flags : s2.flags = s.flags := ((Confined.readOp w d).ok hd).flags.trans ((Confined.readOp w src).ok hr).flags
  · rw [exec_aluForm form]
    refine (runInstr_of_ok (alu_cmp hr hd)).trans ?_
    rw [(aluFlags_eq_diffFlags w.four_lt_bits _ _ _ _).2.2, flags]
  · refine ⟨Config.freeBit s2.draws, s2.draws + 1, ?_⟩
    rw [exec_testForm form]
    refine (runInstr_of_ok (test_ok hr hd)).trans ?_
    rw [afterLogic_eq_logicFlags, flags]

end Sys2Proof.Machine
end

section
/-!
PROOFS. Multiplication, division and the adjustments of the accumulator (40_arith.md R238 to R251): the model's results are
the integers' products, quotients and digits.
-/

namespace Sys2Proof.Machine

open Claims

/-! ### Numbers that a width holds -/

/-- A signed value is in range when its bits give it back. -/
theorem mulOverflows_eq {n : Nat} (hn : 0 < n) (p : Int) : mulOverflows n p = decide (¬InRange true n p) := by
  have lower := BitVec.le_toInt (BitVec.ofInt n p)
  have upper := BitVec.toInt_lt (x := BitVec.ofInt n p)
  unfold mulOverflows
  apply decide_eq_decide.mpr
  simp only [InRange, least, greatest, if_true]
  refine not_congr ⟨fun h => by omega, fun h => BitVec.toInt_ofInt_eq_self hn h.1 (by omega)⟩

/-- A product of unsigned values is in range when it is below the width's power of two. -/
theorem unsignedOverflows_eq (n p : Nat) : decide (2 ^ n ≤ p) = decide (¬InRange false n p) := by
  apply decide_eq_decide.mpr
  simp only [InRange, least, greatest, Bool.false_eq_true, if_false]
  have cast : ((2 ^ n : Nat) : Int) = 2 ^ n := by push_cast; rfl
  omega

theorem Width.bits_pos (w : Width) : 0 < w.bits := lt_trans (by decide) w.four_lt_bits

/-- Bits of a number taken again are the bits of the number. -/
theorem ofInt_toNat_ofInt (n : Nat) (p : Int) : BitVec.ofInt n ((BitVec.ofInt n p).toNat : Int) = BitVec.ofInt n p := by
  rw [BitVec.ofInt_natCast, BitVec.ofNat_toNat, BitVec.setWidth_eq]

theorem ofInt_eq_ofInt {n : Nat} {p q : Int} (h : p % (2 ^ n : Nat) = q % (2 ^ n : Nat)) :
    BitVec.ofInt n p = BitVec.ofInt n q := by
  apply BitVec.eq_of_toNat_eq
  rw [BitVec.toNat_ofInt, BitVec.toNat_ofInt, h]

/-! ### Products -/

/-- The register pair takes a number modulo twice its width. -/
theorem putPair_toNat (w : Width) (g : Regs) (p : Int) :
    putPair w g ((BitVec.ofInt (2 * w.bits) p).toNat : Int) = putPair w g p := by
  have value : ((BitVec.ofInt (2 * w.bits) p).toNat : Int) = p % (2 ^ (2 * w.bits) : Nat) := by
    rw [BitVec.toNat_ofInt]
    exact Int.toNat_of_nonneg (Int.emod_nonneg _ (by have := Nat.two_pow_pos (2 * w.bits); omega))
  rw [value]
  cases w with
  | w8 =>
    have low : BitVec.ofInt 16 (p % (2 ^ 16 : Nat)) = BitVec.ofInt 16 p := ofInt_eq_ofInt (by omega)
    exact congrArg (fun v => g.set16 .eax v) low
  | w16 =>
    have low : BitVec.ofInt 16 (p % (2 ^ 32 : Nat)) = BitVec.ofInt 16 p := ofInt_eq_ofInt (by omega)
    have high : BitVec.ofInt 16 (p % (2 ^ 32 : Nat) / 2 ^ 16) = BitVec.ofInt 16 (p / 2 ^ 16) := ofInt_eq_ofInt (by omega)
    exact congrArg₂ (fun v u => (g.set16 .eax v).set16 .edx u) low high
  | w32 =>
    have low : BitVec.ofInt 32 (p % (2 ^ 64 : Nat)) = BitVec.ofInt 32 p := ofInt_eq_ofInt (by omega)
    have high : BitVec.ofInt 32 (p % (2 ^ 64 : Nat) / 2 ^ 32) = BitVec.ofInt 32 (p / 2 ^ 32) := ofInt_eq_ofInt (by omega)
    exact congrArg₂ (fun v u => (g.set .eax v).set .edx u) low high

@[simp] theorem run_setPair (w : Width) (p : Nat) (s : State) :
    setPair w p s = .ok () { s with regs := putPair w s.regs p } := by
  cases w <;> rfl

/-- The meaning of MUL and of one-operand IMUL. -/
def product1 (signed : Bool) (w : Width) (src : Opnd) : M Unit := if signed then imul1 w src else mul w src

theorem exec_mulForm {s : State} {i : Instr} {signed : Bool} {w : Width} {src : Opnd} (h : MulForm s.opSize i signed w src) :
    exec i s = runInstr (product1 signed w src) s := by
  cases h <;> exact runInstr_congr (by rfl)

theorem exec_imulForm {s : State} {i : Instr} {w : Width} {r : Reg} {x y : Opnd} (h : ImulForm s.opSize i w r x y) :
    exec i s = runInstr (imulTo w r x y) s := by
  cases h <;> exact runInstr_congr (by rfl)

/-- The product goes to the register pair; CF and OF tell whether one register would hold it. -/
theorem run_product1 {signed : Bool} {w : Width} {src : Opnd} {b : BitVec w.bits} {s t : State}
    (hr : readOp w src s = .ok b t) :
    let p := valueOf signed (destValue w (accOp w) [] t) * valueOf signed b
    ∃ (sf zf af pf : Bool) (k : Nat), product1 signed w src s = .ok () { t with
      regs := putPair w t.regs p, draws := k,
      flags := { t.flags with cf := decide (¬InRange signed w.bits p), of := decide (¬InRange signed w.bits p),
                              sf := sf, zf := zf, af := af, pf := pf } } := by
  intro p
  cases signed with
  | false =>
    have cast : p = (((destValue w (accOp w) [] t).toNat * b.toNat : Nat) : Int) := by
      rw [Int.natCast_mul]
      rfl
    obtain ⟨sf, zf, af, pf, run⟩ := run_flagsAfterMul (decide (¬InRange false w.bits p)) { t with regs := putPair w t.regs p }
    refine ⟨sf, zf, af, pf, t.draws + 4, Eq.trans ?_ run⟩
    refine (bind_of_ok hr _).trans ((bind_of_ok (run_readOp_acc w t) _).trans ((bind_of_ok (run_setPair w _ t) _).trans ?_))
    rw [cast, ← unsignedOverflows_eq]
  | true =>
    obtain ⟨sf, zf, af, pf, run⟩ := run_flagsAfterMul (decide (¬InRange true w.bits p)) { t with regs := putPair w t.regs p }
    refine ⟨sf, zf, af, pf, t.draws + 4, Eq.trans ?_ run⟩
    refine (bind_of_ok hr _).trans ((bind_of_ok (run_readOp_acc w t) _).trans ((bind_of_ok (run_setPair w _ t) _).trans ?_))
    rw [putPair_toNat, ← mulOverflows_eq w.bits_pos]
    rfl

/-- Settles O14: the products are the integers', the flags tell the range. -/
theorem multiply : Obligations.Multiply := by
  unfold Obligations.Multiply
  refine ⟨?_, ?_⟩
  · intro s i signed w src form b s1 hr a p
    have flags : s1.flags = s.flags := ((Confined.readOp w src).ok hr).flags
    obtain ⟨sf, zf, af, pf, k, run⟩ := run_product1 (signed := signed) hr
    refine ⟨sf, zf, af, pf, k, ?_⟩
    rw [exec_mulForm form, runInstr_of_ok run, flags]
  · intro s i w r x y form a b s1 s2 hx hy p
    have flags : s2.flags = s.flags := ((Confined.readOp w y).ok hy).flags.trans ((Confined.readOp w x).ok hx).flags
    obtain ⟨sf, zf, af, pf, run⟩ := run_flagsAfterMul (decide (¬InRange true w.bits p))
      { s2 with regs := putReg w s2.regs r (BitVec.ofInt w.bits p) }
    refine ⟨sf, zf, af, pf, s2.draws + 4, ?_⟩
    rw [exec_imulForm form, ← flags]
    refine runInstr_of_ok (Eq.trans ?_ run)
    refine (bind_of_ok hx _).trans ((bind_of_ok hy _).trans ((bind_of_ok (run_writeReg w r _ s2) _).trans ?_))
    rw [mulOverflows_eq w.bits_pos]

/-! ### Quotients -/

/-- A quotient and a remainder with the sign of the dividend are those of truncated division. -/
theorem eq_tdiv_tmod {n d q r : Int} (hn : n = q * d + r) (hr : r.natAbs < d.natAbs) (hs : 0 ≤ r * n) :
    q = n.tdiv d ∧ r = n.tmod d := by
  have hd : d ≠ 0 := by rintro rfl; simp at hr
  have sum : r + d * q = n := by rw [hn]; ring
  rcases lt_trichotomy n 0 with neg | zero | pos
  · have sign : r ≤ 0 := nonpos_of_mul_nonneg_left hs neg
    obtain ⟨hq, hm⟩ := (Int.tdiv_tmod_unique' neg.le hd).mpr ⟨sum, by omega, sign⟩
    exact ⟨hq.symm, hm.symm⟩
  · have divides : d ∣ r := ⟨-q, by rw [zero] at hn; linarith⟩
    have hz : r = 0 := Int.eq_zero_of_dvd_of_natAbs_lt_natAbs divides hr
    subst hz
    have hq : q = 0 := by
      rcases mul_eq_zero.mp (show q * d = 0 by omega) with h | h
      · exact h
      · exact absurd h hd
    simp [zero, hq]
  · have sign : 0 ≤ r := nonneg_of_mul_nonneg_left hs pos
    obtain ⟨hq, hm⟩ := (Int.tdiv_tmod_unique pos.le hd).mpr ⟨sum, sign, by omega⟩
    exact ⟨hq.symm, hm.symm⟩

/-- Truncated division is such a division. -/
theorem tdiv_tmod_spec (n : Int) {d : Int} (hd : d ≠ 0) :
    n = n.tdiv d * d + n.tmod d ∧ (n.tmod d).natAbs < d.natAbs ∧ 0 ≤ n.tmod d * n := by
  refine ⟨(Int.tdiv_mul_add_tmod n d).symm, ?_, ?_⟩
  · rw [Int.natAbs_tmod]
    exact Nat.mod_lt _ (Int.natAbs_pos.mpr hd)
  · rcases le_total 0 n with h | h
    · exact mul_nonneg (Int.tmod_nonneg d h) h
    · have : 0 ≤ (-n).tmod d := Int.tmod_nonneg d (by omega)
      rw [Int.neg_tmod] at this
      exact mul_nonneg_of_nonpos_of_nonpos (by omega) h

/-- The number in the register pair. -/
def pairOf (w : Width) (g : Regs) : Nat :=
  match w with
  | .w8 => (g.get16 .eax).toNat
  | .w16 => (g.get16 .edx).toNat * 65536 + (g.get16 .eax).toNat
  | .w32 => g.edx.toNat * 4294967296 + g.eax.toNat

@[simp] theorem run_getPair (w : Width) (s : State) : getPair w s = .ok (pairOf w s.regs) s := by
  cases w <;> rfl

theorem dividend_unsigned (w : Width) (g : Regs) : dividend false w g = pairOf w g := by
  cases w <;> simp [dividend, pairOf, valueOf]

/-- The upper and the lower half of a signed number make it up. -/
theorem toInt_ofNat_halves {n : Nat} (hn : 0 < n) (hi lo : BitVec n) :
    (BitVec.ofNat (2 * n) (hi.toNat * 2 ^ n + lo.toNat)).toInt = hi.toInt * 2 ^ n + lo.toNat := by
  have hh := hi.isLt
  have hl := lo.isLt
  have square : 2 ^ (2 * n) = 2 ^ n * 2 ^ n := by rw [Nat.two_mul, Nat.pow_add]
  have two : 2 ^ n = 2 * 2 ^ (n - 1) := by rw [Nat.mul_comm, Nat.two_pow_pred_mul_two hn]
  have fits : hi.toNat * 2 ^ n + lo.toNat < 2 ^ (2 * n) := by
    rw [square]
    calc hi.toNat * 2 ^ n + lo.toNat < hi.toNat * 2 ^ n + 2 ^ n := by omega
      _ = (hi.toNat + 1) * 2 ^ n := by ring
      _ ≤ 2 ^ n * 2 ^ n := Nat.mul_le_mul_right _ hh
  have msb : 2 * (hi.toNat * 2 ^ n + lo.toNat) < 2 ^ (2 * n) ↔ 2 * hi.toNat < 2 ^ n := by
    rw [square]
    constructor
    · intro h
      by_contra hc
      have : 2 ^ n * 2 ^ n ≤ 2 * hi.toNat * 2 ^ n := Nat.mul_le_mul_right _ (by omega)
      have : 2 * hi.toNat * 2 ^ n = 2 * (hi.toNat * 2 ^ n) := by ring
      omega
    · intro h
      have : (2 * hi.toNat + 2) * 2 ^ n ≤ 2 ^ n * 2 ^ n := Nat.mul_le_mul_right _ (by omega)
      have : (2 * hi.toNat + 2) * 2 ^ n = 2 * (hi.toNat * 2 ^ n) + 2 * 2 ^ n := by ring
      omega
  rw [BitVec.toInt_eq_toNat_cond, BitVec.toInt_eq_toNat_cond, BitVec.toNat_ofNat, Nat.mod_eq_of_lt fits]
  by_cases h : 2 * hi.toNat < 2 ^ n
  · rw [if_pos (msb.mpr h), if_pos h]
    push_cast
    ring
  · rw [if_neg (mt msb.mp h), if_neg h, square]
    push_cast
    ring

theorem dividend_signed (w : Width) (g : Regs) :
    dividend true w g = (BitVec.ofNat (2 * w.bits) (pairOf w g)).toInt := by
  cases w with
  | w8 =>
    show (g.get16 .eax).toInt = (BitVec.ofNat 16 (g.get16 .eax).toNat).toInt
    rw [BitVec.ofNat_toNat, BitVec.setWidth_eq]
  | w16 => exact (toInt_ofNat_halves (by decide) _ _).symm
  | w32 => exact (toInt_ofNat_halves (by decide) _ _).symm

@[simp] theorem run_setQuotient (w : Width) (q r : Nat) (s : State) :
    setQuotient w q r s = .ok () { s with regs := putQuotient w s.regs q r } := by
  cases w <;> rfl

theorem putQuotient_toNat (w : Width) (g : Regs) (q r : Int) :
    putQuotient w g ((BitVec.ofInt w.bits q).toNat : Int) ((BitVec.ofInt w.bits r).toNat : Int) = putQuotient w g q r := by
  cases w <;> unfold putQuotient <;> dsimp only <;> rw [ofInt_toNat_ofInt, ofInt_toNat_ofInt]

/-- The meaning of DIV and IDIV. -/
def division (signed : Bool) (w : Width) (src : Opnd) : M Unit := if signed then idiv w src else div w src

theorem exec_divForm {s : State} {i : Instr} {signed : Bool} {w : Width} {src : Opnd} (h : DivForm s.opSize i signed w src) :
    exec i s = runInstr (division signed w src) s := by
  cases h <;> exact runInstr_congr (by rfl)

section
variable {signed : Bool} {w : Width} {src : Opnd} {b : BitVec w.bits} {s t : State}

/-- A division whose quotient fits. -/
theorem run_division (hr : readOp w src s = .ok b t) (hd : valueOf signed b ≠ 0)
    (hq : InRange signed w.bits ((dividend signed w t.regs).tdiv (valueOf signed b))) :
    division signed w src s = drawAllFlags { t with
      regs := putQuotient w t.regs ((dividend signed w t.regs).tdiv (valueOf signed b))
        ((dividend signed w t.regs).tmod (valueOf signed b)) } := by
  cases signed with
  | false =>
    rw [dividend_unsigned] at *
    have hb : b.toNat ≠ 0 := by simpa [valueOf] using hd
    have fits : pairOf w t.regs / b.toNat < 2 ^ w.bits := by
      have := hq.2
      simp only [greatest, valueOf, Bool.false_eq_true, if_false, ← Int.ofNat_tdiv] at this
      have cast : ((2 ^ w.bits : Nat) : Int) = 2 ^ w.bits := by push_cast; rfl
      omega
    refine (bind_of_ok hr _).trans ((bind_of_ok (run_getPair w t) _).trans ?_)
    simp only [run_bind, run_check, hb, fits, ne_eq, not_false_eq_true, decide_true, if_true, run_setQuotient,
      Int.natCast_ediv, Int.natCast_emod]
    simp only [valueOf, Bool.false_eq_true, if_false, ← Int.ofNat_tdiv, ← Int.ofNat_tmod]
    rfl
  | true =>
    have bounds := hq
    rw [dividend_signed] at *
    simp only [InRange, least, greatest, valueOf, if_true] at bounds
    refine (bind_of_ok hr _).trans ((bind_of_ok (run_getPair w t) _).trans ?_)
    have hb : b.toInt ≠ 0 := hd
    have below := Int.lt_of_le_sub_one bounds.2
    simp only [run_bind, run_check, hb, bounds.1, below, ne_eq, not_false_eq_true, decide_true, Bool.and_self, if_true,
      run_setQuotient, putQuotient_toNat]
    rfl

/-- A division by zero, or whose quotient does not fit. -/
theorem run_division_fails (hr : readOp w src s = .ok b t)
    (h : valueOf signed b = 0 ∨ ¬InRange signed w.bits ((dividend signed w t.regs).tdiv (valueOf signed b))) :
    division signed w src s = .error (.exc (.plain 0 none) false) t := by
  cases signed with
  | false =>
    rw [dividend_unsigned] at h
    refine (bind_of_ok hr _).trans ((bind_of_ok (run_getPair w t) _).trans ?_)
    by_cases hb : b.toNat = 0
    · simp [run_bind, hb]
    · have large : ¬pairOf w t.regs / b.toNat < 2 ^ w.bits := by
        rcases h with h | h
        · exact absurd (by simpa [valueOf] using h) hb
        · have := of_decide_eq_true ((unsignedOverflows_eq w.bits (pairOf w t.regs / b.toNat)).trans (decide_eq_true h))
          omega
      simp [run_bind, hb, large]
  | true =>
    rw [dividend_signed] at h
    refine (bind_of_ok hr _).trans ((bind_of_ok (run_getPair w t) _).trans ?_)
    by_cases hb : b.toInt = 0
    · simp [run_bind, hb]
    · rcases h with h | h
      · exact absurd h hb
      · have outside : ¬(((BitVec.ofNat (2 * w.bits) (pairOf w t.regs)).toInt.tdiv b.toInt < 2 ^ (w.bits - 1)) ∧
            -(2 ^ (w.bits - 1)) ≤ (BitVec.ofNat (2 * w.bits) (pairOf w t.regs)).toInt.tdiv b.toInt) := by
          simp only [InRange, least, greatest, valueOf, if_true] at h
          omega
        simp only [run_bind, run_check, hb, ne_eq, not_false_eq_true, decide_true, if_true, ← Bool.decide_and, outside,
          decide_false, Bool.false_eq_true, if_false, run_raiseDE]

end

/-- Settles O15: a quotient and a remainder as the statement says are those of truncated division, which the model makes. -/
theorem divide : Obligations.Divide := by
  unfold Obligations.Divide
  intro s i signed w src form b s1 hr n d
  have flags : s1.flags = s.flags := ((Confined.readOp w src).ok hr).flags
  refine ⟨fun q r hn habs hsign fits => ?_, fun none => ?_⟩
  · obtain ⟨rfl, rfl⟩ := eq_tdiv_tmod hn habs hsign
    have hd : d ≠ 0 := by
      intro h
      rw [h] at habs
      simp at habs
    obtain ⟨cf, pf, af, zf, sf, of, draws⟩ := run_drawAllFlags { s1 with regs := putQuotient w s1.regs (n.tdiv d) (n.tmod d) }
    refine ⟨cf, pf, af, zf, sf, of, s1.draws + 6, ?_⟩
    rw [exec_divForm form, runInstr_of_ok ((run_division hr hd fits).trans draws), flags]
  · unfold faults
    rw [exec_divForm form]
    refine runInstr_of_exc (run_division_fails hr ?_)
    by_contra hc
    obtain ⟨hd, fits⟩ := not_or.mp hc
    obtain ⟨sum, small, sign⟩ := tdiv_tmod_spec n hd
    exact none ⟨_, _, sum, small, sign, not_not.mp fits⟩

end Sys2Proof.Machine
end

section
/-!
PROOFS. The adjustments of the accumulator (40_arith.md R244 to R251): AX as the pair of its bytes, and its digits.
-/

namespace Sys2Proof.Machine

open Claims

/-! ### AL and AH (10_state.md R41, R42) -/

/-- A bit of a word of two bytes is one of theirs. -/
theorem getLsbD_bytes (h l : Byte) (i : Nat) :
    (h ++ l : Half).getLsbD i = if i < 8 then l.getLsbD i else h.getLsbD (i - 8) := BitVec.getLsbD_append

/-- Replacing the low byte, then the next one, of a word. -/
theorem withBytes_get (e : Word) (l h : Byte) :
    (((e &&& 0xFFFFFF00) ||| l.setWidth 32) &&& 0xFFFF00FF) ||| (h.setWidth 32 <<< 8) = withLow16 e (h ++ l) := by
  apply BitVec.eq_of_getLsbD_eq
  intro i hi
  unfold withLow16
  interval_cases i <;> simp [-BitVec.getLsbD_eq_getElem, getLsbD_bytes]

/-- The low byte does not depend on the next. -/
theorem lowByte_withLow16 (e : Word) (l h : Byte) : (withLow16 e (h ++ l)).setWidth 8 = l := by
  apply BitVec.eq_of_getLsbD_eq
  intro i hi
  unfold withLow16
  interval_cases i <;> simp [-BitVec.getLsbD_eq_getElem, getLsbD_bytes]

theorem highByte_withLow16 (e : Word) (l h : Byte) : (withLow16 e (h ++ l) >>> 8).setWidth 8 = h := by
  apply BitVec.eq_of_getLsbD_eq
  intro i hi
  unfold withLow16
  interval_cases i <;> simp [-BitVec.getLsbD_eq_getElem, getLsbD_bytes]

theorem lowByte_again (e : Word) (l h l' : Byte) :
    (withLow16 e (h ++ l) &&& 0xFFFFFF00) ||| l'.setWidth 32 = withLow16 e (h ++ l') := by
  apply BitVec.eq_of_getLsbD_eq
  intro i hi
  unfold withLow16
  interval_cases i <;> simp [-BitVec.getLsbD_eq_getElem, getLsbD_bytes]

theorem highByte_again (e : Word) (l h h' : Byte) :
    (withLow16 e (h ++ l) &&& 0xFFFF00FF) ||| (h'.setWidth 32 <<< 8) = withLow16 e (h' ++ l) := by
  apply BitVec.eq_of_getLsbD_eq
  intro i hi
  unfold withLow16
  interval_cases i <;> simp [-BitVec.getLsbD_eq_getElem, getLsbD_bytes]

theorem low16_bytes (e : Word) : e.setWidth 16 = (e >>> 8).setWidth 8 ++ e.setWidth 8 := by
  apply BitVec.eq_of_getLsbD_eq
  intro i hi
  interval_cases i <;> simp [-BitVec.getLsbD_eq_getElem, getLsbD_bytes]

section
variable (g : Regs)

/-- AX written byte by byte. -/
theorem Regs.set8_al_ah (l h : Byte) : (g.set8 .al l).set8 .ah h = g.set16 .eax (h ++ l) := by
  show { g with eax := _ } = _
  exact congrArg (fun e => { g with eax := e }) (withBytes_get g.eax l h)

theorem Regs.get8_al_set16 (l h : Byte) : (g.set16 .eax (h ++ l)).get8 .al = l := lowByte_withLow16 g.eax l h

theorem Regs.get8_ah_set16 (l h : Byte) : (g.set16 .eax (h ++ l)).get8 .ah = h := highByte_withLow16 g.eax l h

theorem Regs.set8_al_set16 (l h l' : Byte) : (g.set16 .eax (h ++ l)).set8 .al l' = g.set16 .eax (h ++ l') :=
  congrArg (fun e => { g with eax := e }) (lowByte_again g.eax l h l')

theorem Regs.set8_ah_set16 (l h h' : Byte) : (g.set16 .eax (h ++ l)).set8 .ah h' = g.set16 .eax (h' ++ l) :=
  congrArg (fun e => { g with eax := e }) (highByte_again g.eax l h h')

/-- AX is its two bytes. -/
theorem Regs.get16_eax : g.get16 .eax = g.get8 .ah ++ g.get8 .al := low16_bytes g.eax

theorem Regs.set16_self (r : Reg) : g.set16 r (g.get16 r) = g := by
  have whole : withLow16 (g.get r) ((g.get r).setWidth 16) = g.get r := by
    apply BitVec.eq_of_getLsbD_eq
    intro i hi
    unfold withLow16
    interval_cases i <;> simp
  unfold Regs.set16 Regs.get16
  rw [whole, Regs.set_get]

end

/-- A word of two bytes as a number. -/
theorem toNat_append_byte (h l : Byte) : (h ++ l).toNat = h.toNat * 256 + l.toNat := by
  rw [BitVec.toNat_append, ← Nat.shiftLeft_add_eq_or_of_lt l.isLt, Nat.shiftLeft_eq]

/-- Two bytes added to, with the carry into the upper one. -/
theorem append_add (h l : Byte) (k m : Nat) :
    (h ++ l) + BitVec.ofNat 16 (k * 256 + m) =
      BitVec.ofNat 8 (h.toNat + k + (l.toNat + m) / 256) ++ BitVec.ofNat 8 (l.toNat + m) := by
  apply BitVec.eq_of_toNat_eq
  rw [BitVec.toNat_add, toNat_append_byte, toNat_append_byte]
  simp only [BitVec.toNat_ofNat]
  omega

/-- The low digit of a byte. -/
theorem and_low_digit (l : Byte) : l &&& 0x0F = BitVec.ofNat 8 (l.toNat % 16) := by
  apply BitVec.eq_of_toNat_eq
  rw [BitVec.toNat_and, BitVec.toNat_ofNat]
  show l.toNat &&& (2 ^ 4 - 1) = _
  rw [Nat.and_two_pow_sub_one_eq_mod]
  omega

/-! ### Sign extension -/

/-- The upper half of the sign extension of a number is all ones or all zeros. -/
theorem ofInt_sign {n : Nat} (hn : 0 < n) (a : BitVec n) :
    BitVec.ofInt n (a.toInt / 2 ^ n) = if a.msb then BitVec.allOnes n else 0 := by
  have ha := a.isLt
  have lower := BitVec.le_toInt a
  have pos : (0 : Int) < 2 ^ n := by positivity
  have half : (2 : Int) ^ (n - 1) < 2 ^ n := pow_lt_pow_right₀ (by decide) (by omega)
  have upper := BitVec.toInt_lt (x := a)
  rw [BitVec.msb_eq_toInt]
  by_cases h : a.toInt < 0
  · have q : a.toInt / 2 ^ n = -1 := by
      rw [Int.ediv_eq_iff_of_pos pos]
      omega
    rw [q, decide_eq_true h, if_pos rfl]
    rw [BitVec.ofInt_neg]
    exact BitVec.neg_one_eq_allOnes
  · have q : a.toInt / 2 ^ n = 0 := Int.ediv_eq_zero_of_lt (by omega) (by omega)
    rw [q, decide_eq_false h]
    simp

/-! ### The accumulator's instructions -/

theorem exec_cbwCwde_ok (s : State) : exec .cbwCwde s = .next { past s with regs := match s.opSize with
    | .s16 => s.regs.set16 .eax (BitVec.ofInt 16 (s.regs.get8 .al).toInt)
    | .s32 => s.regs.set .eax (BitVec.ofInt 32 (s.regs.get16 .eax).toInt) } := by
  refine runInstr_of_ok (body := atOpSize cbw) ?_
  show cbw s.opSize (past s) = _
  cases s.opSize <;> rfl

theorem exec_cwdCdq_ok (s : State) : exec .cwdCdq s = .next { past s with regs := match s.opSize with
    | .s16 => s.regs.set16 .edx (BitVec.ofInt 16 ((s.regs.get16 .eax).toInt / 2 ^ 16))
    | .s32 => s.regs.set .edx (BitVec.ofInt 32 (s.regs.eax.toInt / 2 ^ 32)) } := by
  refine runInstr_of_ok (body := atOpSize cwd) ?_
  show cwd s.opSize (past s) = _
  rw [ofInt_sign (by decide), ofInt_sign (by decide)]
  cases s.opSize <;> rfl

theorem exec_aam_ok (s : State) {b : Byte} (hb : b ≠ 0) : ∃ (of af cf : Bool) (k : Nat),
    let q := BitVec.ofNat 8 ((s.regs.get8 .al).toNat / b.toNat)
    let r := BitVec.ofNat 8 ((s.regs.get8 .al).toNat % b.toNat)
    exec (.aamImm8 b) s = .next { past s with
      regs := (s.regs.set8 .ah q).set8 .al r, draws := k,
      flags := { signZeroParity s.flags r with of := of, af := af, cf := cf } } := by
  refine ⟨Config.freeBit s.draws, Config.freeBit (s.draws + 1), Config.freeBit (s.draws + 2), s.draws + 3, ?_⟩
  dsimp only
  rw [← szp_eq_signZeroParity]
  refine runInstr_of_ok (body := doAam b) ?_
  unfold doAam
  rw [run_bind, run_check, if_pos (decide_eq_true hb)]
  rfl

theorem exec_aam_zero (s : State) : faults (.aamImm8 0) s (.plain 0 none) (past s) :=
  runInstr_of_exc (body := doAam 0) rfl

theorem exec_aad_ok (s : State) (b : Byte) : ∃ (of af cf : Bool) (k : Nat),
    let r := BitVec.ofNat 8 ((s.regs.get8 .al).toNat + (s.regs.get8 .ah).toNat * b.toNat)
    exec (.aadImm8 b) s = .next { past s with
      regs := (s.regs.set8 .al r).set8 .ah 0, draws := k,
      flags := { signZeroParity s.flags r with of := of, af := af, cf := cf } } := by
  have value : BitVec.ofNat 8 ((s.regs.get8 .al).toNat + (s.regs.get8 .ah).toNat * b.toNat) =
      s.regs.get8 .al + s.regs.get8 .ah * b := by
    rw [BitVec.ofNat_add, BitVec.ofNat_mul]
    simp
  refine ⟨Config.freeBit s.draws, Config.freeBit (s.draws + 1), Config.freeBit (s.draws + 2), s.draws + 3, ?_⟩
  dsimp only
  rw [← szp_eq_signZeroParity, value]
  exact runInstr_of_ok (body := doAad b) rfl

/-- AL and AH after the correction that AAA makes. -/
theorem aaa_regs (g : Regs) (c : Bool) :
    let al := (g.get8 .al).toNat
    let h := if c then g.set16 .eax (g.get16 .eax + 0x106) else g
    h.set8 .al (h.get8 .al &&& 0x0F) = (g.set8 .al (BitVec.ofNat 8 ((al + if c then 6 else 0) % 16))).set8 .ah
      (BitVec.ofNat 8 ((g.get8 .ah).toNat + if c then 1 + (al + 6) / 256 else 0)) := by
  intro al h
  have bytes : h = g.set16 .eax (BitVec.ofNat 8 ((g.get8 .ah).toNat + if c then 1 + (al + 6) / 256 else 0) ++
      BitVec.ofNat 8 (al + if c then 6 else 0)) := by
    cases c with
    | false =>
      refine (g.set16_self .eax).symm.trans (congrArg (g.set16 .eax) (g.get16_eax.trans ?_))
      simp [al]
    | true =>
      refine congrArg (g.set16 .eax) ?_
      rw [g.get16_eax]
      refine (append_add _ _ 1 6).trans ?_
      rw [if_pos rfl, if_pos rfl, Nat.add_assoc]
  have digit : BitVec.ofNat 8 (al + if c then 6 else 0) &&& 0x0F = BitVec.ofNat 8 ((al + if c then 6 else 0) % 16) := by
    rw [and_low_digit, BitVec.toNat_ofNat, Nat.mod_mod_of_dvd _ (by decide)]
  rw [bytes, Regs.get8_al_set16, Regs.set8_al_set16, Regs.set8_al_ah, digit]

/-- AL and AH after the correction that AAS makes. -/
theorem aas_regs (g : Regs) (c : Bool) :
    let al := (g.get8 .al).toNat
    let h := g.set16 .eax (g.get16 .eax - 6)
    let h := if c then h.set8 .ah (h.get8 .ah - 1) else g
    h.set8 .al (h.get8 .al &&& 0x0F) = (g.set8 .al (BitVec.ofInt 8 ((al - (if c then 6 else 0) : Int) % 16))).set8 .ah
      (BitVec.ofInt 8 ((g.get8 .ah).toNat - if c then (if al < 6 then 2 else 1) else 0)) := by
  intro al h0 h
  have hal : al < 256 := (g.get8 .al).isLt
  have bytes : h = g.set16 .eax (BitVec.ofInt 8 ((g.get8 .ah).toNat - if c then (if al < 6 then 2 else 1) else 0) ++
      BitVec.ofInt 8 (al - if c then 6 else 0)) := by
    cases c with
    | false =>
      refine (g.set16_self .eax).symm.trans (congrArg (g.set16 .eax) (g.get16_eax.trans ?_))
      simp [al]
    | true =>
      have less : g.get16 .eax - 6 = BitVec.ofNat 8 ((g.get8 .ah).toNat + 255 + (al + 250) / 256) ++
          BitVec.ofNat 8 (al + 250) := by
        rw [g.get16_eax, BitVec.sub_eq_add_neg]
        exact append_add _ _ 255 250
      have h0eq : h0 = g.set16 .eax (BitVec.ofNat 8 ((g.get8 .ah).toNat + 255 + (al + 250) / 256) ++
          BitVec.ofNat 8 (al + 250)) := congrArg (g.set16 .eax) less
      show h0.set8 .ah (h0.get8 .ah - 1) = _
      rw [h0eq, Regs.get8_ah_set16, Regs.set8_ah_set16]
      refine congrArg (g.set16 .eax) (congrArg₂ (fun x y : Byte => x ++ y) ?_ ?_)
      · apply BitVec.eq_of_toNat_eq
        rw [BitVec.toNat_sub, BitVec.toNat_ofNat, BitVec.toNat_ofInt, if_pos rfl]
        split <;> simp <;> omega
      · apply BitVec.eq_of_toNat_eq
        rw [BitVec.toNat_ofNat, BitVec.toNat_ofInt, if_pos rfl]
        omega
  have digit : BitVec.ofInt 8 (al - if c then 6 else 0) &&& 0x0F =
      BitVec.ofInt 8 ((al - (if c then 6 else 0) : Int) % 16) := by
    rw [and_low_digit]
    apply BitVec.eq_of_toNat_eq
    rw [BitVec.toNat_ofNat, BitVec.toNat_ofInt, BitVec.toNat_ofInt]
    omega
  rw [bytes, Regs.get8_al_set16, Regs.set8_al_set16, Regs.set8_al_ah, digit]

theorem exec_aaa_ok (s : State) (low : Bool) (hl : low = digitAdjust (s.regs.get8 .al) s.flags) :
    ∃ (of sf zf pf : Bool) (k : Nat), exec .aaa s = .next { past s with
      regs := (s.regs.set8 .al (BitVec.ofNat 8 (((s.regs.get8 .al).toNat + if low then 6 else 0) % 16))).set8 .ah
        (BitVec.ofNat 8 ((s.regs.get8 .ah).toNat + if low then 1 + ((s.regs.get8 .al).toNat + 6) / 256 else 0)), draws := k,
      flags := { s.flags with cf := low, af := low, of := of, sf := sf, zf := zf, pf := pf } } := by
  refine ⟨Config.freeBit s.draws, Config.freeBit (s.draws + 1), Config.freeBit (s.draws + 2), Config.freeBit (s.draws + 3),
    s.draws + 4, ?_⟩
  rw [← aaa_regs]
  refine runInstr_of_ok (body := doAaa) ?_
  unfold doAaa
  rw [run_bind, run_getS]
  dsimp only
  rw [run_bind, run_onlyIf, ← hl]
  cases low <;> rfl

theorem exec_aas_ok (s : State) (low : Bool) (hl : low = digitAdjust (s.regs.get8 .al) s.flags) :
    ∃ (of sf zf pf : Bool) (k : Nat), exec .aas s = .next { past s with
      regs := (s.regs.set8 .al (BitVec.ofInt 8 (((s.regs.get8 .al).toNat - (if low then 6 else 0) : Int) % 16))).set8 .ah
        (BitVec.ofInt 8 ((s.regs.get8 .ah).toNat - if low then (if (s.regs.get8 .al).toNat < 6 then 2 else 1) else 0)),
      draws := k,
      flags := { s.flags with cf := low, af := low, of := of, sf := sf, zf := zf, pf := pf } } := by
  refine ⟨Config.freeBit s.draws, Config.freeBit (s.draws + 1), Config.freeBit (s.draws + 2), Config.freeBit (s.draws + 3),
    s.draws + 4, ?_⟩
  rw [← aas_regs]
  refine runInstr_of_ok (body := doAas) ?_
  unfold doAas
  rw [run_bind, run_getS]
  dsimp only
  rw [run_bind, run_onlyIf, ← hl]
  cases low <;> rfl

theorem exec_daa_ok (s : State) (low high : Bool) (hl : low = digitAdjust (s.regs.get8 .al) s.flags)
    (hh : high = highAdjust (s.regs.get8 .al) s.flags.cf) : ∃ (of : Bool) (k : Nat),
    let r := BitVec.ofNat 8 ((s.regs.get8 .al).toNat + (if low then 6 else 0) + if high then 0x60 else 0)
    exec .daa s = .next { past s with
      regs := s.regs.set8 .al r, draws := k,
      flags := { signZeroParity s.flags r with cf := high, af := low, of := of } } := by
  refine ⟨Config.freeBit s.draws, s.draws + 1, ?_⟩
  have value : BitVec.ofNat 8 ((s.regs.get8 .al).toNat + (if low then 6 else 0) + if high then 0x60 else 0) =
      (if low then s.regs.get8 .al + 6 else s.regs.get8 .al) + (if high then 0x60 else 0) := by
    cases low <;> cases high <;> simp [BitVec.ofNat_add]
  dsimp only
  rw [← szp_eq_signZeroParity, value, hl, hh]
  exact runInstr_of_ok (body := doDaa) rfl

theorem exec_das_ok (s : State) (low high : Bool) (hl : low = digitAdjust (s.regs.get8 .al) s.flags)
    (hh : high = highAdjust (s.regs.get8 .al) s.flags.cf) : ∃ (of : Bool) (k : Nat),
    let r := BitVec.ofInt 8 ((s.regs.get8 .al).toNat - (if low then 6 else 0) - if high then 0x60 else 0)
    exec .das s = .next { past s with
      regs := s.regs.set8 .al r, draws := k,
      flags := { signZeroParity s.flags r with cf := high || (low && decide ((s.regs.get8 .al).toNat < 6)), af := low,
                                               of := of } } := by
  refine ⟨Config.freeBit s.draws, s.draws + 1, ?_⟩
  have value : BitVec.ofInt 8 ((s.regs.get8 .al).toNat - (if low then 6 else 0) - if high then 0x60 else 0) =
      (if low then s.regs.get8 .al - 6 else s.regs.get8 .al) - (if high then 0x60 else 0) := by
    cases low <;> cases high <;> simp [sub_eq_add_neg, BitVec.ofInt_add]
  have borrow : (high || (low && decide ((s.regs.get8 .al).toNat < 6))) =
      (high || (low && (s.flags.cf || decide ((s.regs.get8 .al).toNat < 6)))) := by
    rw [hh]
    unfold highAdjust
    cases s.flags.cf <;> simp
  dsimp only
  rw [← szp_eq_signZeroParity, value, borrow, hl, hh]
  exact runInstr_of_ok (body := doDas) rfl

/-- Settles O16: the sign extensions, the two conversions, and the four corrections by digits. -/
theorem accumulatorAdjust : Obligations.AccumulatorAdjust := by
  unfold Obligations.AccumulatorAdjust
  refine ⟨?_, ?_⟩
  · intro s g al ah
    exact ⟨exec_cbwCwde_ok s, exec_cwdCdq_ok s, fun b hb => exec_aam_ok s hb, exec_aam_zero s, exec_aad_ok s⟩
  · intro s g f al ah low high
    exact ⟨exec_aaa_ok s low rfl, exec_aas_ok s low rfl, exec_daa_ok s low high rfl rfl, exec_das_ok s low high rfl rfl⟩

end Sys2Proof.Machine
end

section
/-!
PROOFS. Shifts, rotates and double shifts (41_logic_shift_bit.md R295 to R305): the results as numbers and as rings of bits.
-/

namespace Sys2Proof.Machine

open Claims

/-! ### Values that are draws unless a condition holds -/

/-- A flag defined only for a count of 1. -/
theorem run_ifOne (m : Nat) (b : Bool) (s : State) :
    ∃ v k, ifOne m b s = .ok v { s with draws := k } ∧ (m = 1 → v = b) := by
  by_cases h : m = 1
  · exact ⟨b, s.draws, by rw [ifOne, if_pos h]; rfl, fun _ => rfl⟩
  · exact ⟨Config.freeBit s.draws, s.draws + 1, by rw [ifOne, if_neg h]; rfl, fun e => absurd e h⟩

/-- A flag defined only under a condition. -/
theorem run_pure_or_drawBit {α : Type} (c : Prop) [Decidable c] (b : Bool) (f : Bool → M α) (s : State) :
    ∃ v k, (if c then (pure b >>= f) else (drawBit >>= f)) s = f v { s with draws := k } ∧ (c → v = b) := by
  by_cases h : c
  · exact ⟨b, s.draws, by rw [if_pos h]; rfl, fun _ => rfl⟩
  · exact ⟨Config.freeBit s.draws, s.draws + 1, by rw [if_neg h]; rfl, fun e => absurd e h⟩

theorem run_flagsAfterShift {n : Nat} (r : BitVec n) (cf of : Bool) (s : State) : flagsAfterShift r cf of s = .ok () { s with
    flags := { signZeroParity s.flags r with cf := cf, of := of, af := Config.freeBit s.draws }, draws := s.draws + 1 } := by
  rw [← szp_eq_signZeroParity]
  rfl

/-! ### The forms are the shared operations -/

/-- The count as the instruction has it. -/
def countByte (s : State) : Count → Byte
  | .one => 1
  | .cl => s.regs.get8 .cl
  | .imm i => i

theorem countOf_eq (s : State) (c : Count) : countOf s c = (countByte s c).toNat % 32 := by
  cases c <;> rfl


theorem exec_shiftForm {s : State} {i : Instr} {op : ShiftOp} {w : Width} {d : Opnd} {c : Count}
    (h : ShiftForm s.opSize i op w d c) : exec i s = runInstr (shift op w d (countByte s c)) s := by
  cases h <;> exact runInstr_congr (by rfl)

theorem exec_doubleForm {s : State} {i : Instr} {left : Bool} {w : Width} {d : Opnd} {r : Reg} {c : Count}
    (h : DoubleForm s.opSize i left w d r c) : exec i s = runInstr (doubleShift left w d r (countByte s c)) s := by
  cases h <;> exact runInstr_congr (by rfl)

section
variable {op : ShiftOp} {w : Width} {d : Opnd} {count : Byte} {s t u : State} {as : List Word} {r : BitVec w.bits}

theorem shift_zero (ho : openDest w d s = .ok as t) (h : count.toNat % 32 = 0) : shift op w d count s = .ok () t :=
  modify_of_none ho (by rw [if_pos h]; rfl)

theorem shift_nonzero (ho : openDest w d s = .ok as t) (h : count.toNat % 32 ≠ 0)
    (hs : shiftBits op (destValue w d as t) (count.toNat % 32) t = .ok r u) :
    shift op w d count s = .ok () (putDest w d as r u) :=
  modify_of_some ho (by rw [if_neg h]; exact bind_of_ok hs _)

end

/-! ### Shifts (R296 to R298) -/

theorem getLsbD_eq_decide {n : Nat} (a : BitVec n) (i : Nat) : a.getLsbD i = decide (a.toNat / 2 ^ i % 2 = 1) :=
  Nat.testBit_eq_decide_div_mod_eq

/-- The lowest bit tells whether the signed value is odd. -/
theorem getLsbD_zero_eq_toInt {n : Nat} (hn : 0 < n) (a : BitVec n) : a.getLsbD 0 = decide (a.toInt % 2 = 1) := by
  have even : (2 : Int) ∣ ((2 ^ n : Nat) : Int) := by
    exact_mod_cast dvd_pow_self 2 (by omega)
  rw [getLsbD_eq_decide, BitVec.toInt_eq_toNat_cond]
  apply decide_eq_decide.mpr
  split <;> omega

/-- The bit that SAR shifts out last. -/
theorem sar_carry {n m : Nat} (hn : 0 < n) (_hm : m ≠ 0) (a : BitVec n) :
    (if m ≤ n then a.getLsbD (m - 1) else a.msb) = decide (a.toInt / 2 ^ (m - 1) % 2 = 1) := by
  have shifted : (a.sshiftRight (m - 1)).toInt = a.toInt / 2 ^ (m - 1) := by
    rw [BitVec.toInt_sshiftRight, Int.shiftRight_eq_div_pow]
    push_cast
    rfl
  rw [← shifted, ← getLsbD_zero_eq_toInt hn, BitVec.getLsbD_sshiftRight]
  have inside : m - 1 < n ↔ m ≤ n := by omega
  simp [inside, Nat.not_le.mpr hn]

/-- What a shift leaves, as the statement says it. -/
def ShiftResult (op : ShiftOp) {n : Nat} (a : BitVec n) (m : Nat) (r : BitVec n) (cf of : Bool) : Prop :=
  (op = .shl → r.toNat = a.toNat * 2 ^ m % 2 ^ n ∧
    (m < n → cf = decide (a.toNat / 2 ^ (n - m) % 2 = 1)) ∧ (m = 1 → of = (r.msb ^^ cf))) ∧
  (op = .shr → r.toNat = a.toNat / 2 ^ m ∧
    (m < n → cf = decide (a.toNat / 2 ^ (m - 1) % 2 = 1)) ∧ (m = 1 → of = a.msb)) ∧
  (op = .sar → r.toInt = a.toInt / 2 ^ m ∧ cf = decide (a.toInt / 2 ^ (m - 1) % 2 = 1) ∧ (m = 1 → of = false))

/-- The end of a shift once CF is known. -/
def shiftTail {n : Nat} (r : BitVec n) (m : Nat) (ofOne : Bool → Bool) (cf : Bool) : M (BitVec n) := do
  let of ← ifOne m (ofOne cf)
  flagsAfterShift r cf of
  pure r

theorem run_shiftBits {op : ShiftOp} {n m : Nat} (hop : op = .shl ∨ op = .shr ∨ op = .sar) (hn : 0 < n) (hm : m ≠ 0)
    (a : BitVec n) (s : State) : ∃ (r : BitVec n) (cf of af : Bool) (k : Nat),
      shiftBits op a m s = .ok r { s with
        flags := { signZeroParity s.flags r with cf := cf, of := of, af := af }, draws := k } ∧
      ShiftResult op a m r cf of := by
  rcases hop with rfl | rfl | rfl
  · obtain ⟨cf, k1, hcf, cfIs⟩ := run_pure_or_drawBit (m < n) (a.getLsbD (n - m))
      (shiftTail (a <<< m) m fun cf => (a <<< m).msb ^^ cf) s
    obtain ⟨of, k2, hof, ofIs⟩ := run_ifOne m ((a <<< m).msb ^^ cf) { s with draws := k1 }
    refine ⟨a <<< m, cf, of, Config.freeBit k2, k2 + 1, ?_, ⟨fun _ => ⟨?_, fun h => ?_, ofIs⟩, nofun, nofun⟩⟩
    · unfold shiftBits
      rw [bind_of_ok (run_getS s)]
      refine hcf.trans ?_
      unfold shiftTail
      rw [bind_of_ok hof, bind_of_ok (run_flagsAfterShift _ _ _ _)]
      rfl
    · rw [BitVec.toNat_shiftLeft, Nat.shiftLeft_eq]
    · rw [cfIs h, getLsbD_eq_decide]
  · obtain ⟨cf, k1, hcf, cfIs⟩ := run_pure_or_drawBit (m < n) (a.getLsbD (m - 1))
      (shiftTail (a >>> m) m fun _ => a.msb) s
    obtain ⟨of, k2, hof, ofIs⟩ := run_ifOne m a.msb { s with draws := k1 }
    refine ⟨a >>> m, cf, of, Config.freeBit k2, k2 + 1, ?_, ⟨nofun, fun _ => ⟨?_, fun h => ?_, ofIs⟩, nofun⟩⟩
    · unfold shiftBits
      rw [bind_of_ok (run_getS s)]
      refine hcf.trans ?_
      unfold shiftTail
      rw [bind_of_ok hof, bind_of_ok (run_flagsAfterShift _ _ _ _)]
      rfl
    · rw [BitVec.toNat_ushiftRight, Nat.shiftRight_eq_div_pow]
    · rw [cfIs h, getLsbD_eq_decide]
  · obtain ⟨of, k2, hof, ofIs⟩ := run_ifOne m false s
    refine ⟨a.sshiftRight m, _, of, _, _, (bind_of_ok hof _).trans ((bind_of_ok (run_flagsAfterShift _ _ _ _) _).trans rfl),
      ⟨nofun, nofun, fun _ => ⟨?_, sar_carry hn hm a, ofIs⟩⟩⟩
    rw [BitVec.toInt_sshiftRight, Int.shiftRight_eq_div_pow]
    push_cast
    rfl

/-- Settles O17: a count of zero writes nothing; else the result and the flags are those of the shifted value. -/
theorem shifts : Obligations.Shifts := by
  unfold Obligations.Shifts
  intro s i op w d c form hop as s1 ho a m
  have count : m = (countByte s c).toNat % 32 := countOf_eq s c
  have flags : s1.flags = s.flags := ((Confined.openDest w d).ok ho).flags
  rw [exec_shiftForm form]
  refine ⟨fun h => runInstr_of_ok (shift_zero ho (count ▸ h)), fun h => ?_⟩
  obtain ⟨r, cf, of, af, k, run, result⟩ := run_shiftBits hop w.bits_pos h a s1
  refine ⟨r, cf, of, af, k, ?_, result⟩
  rw [count] at run h
  rw [runInstr_of_ok (shift_nonzero ho h run), putDest_flags_draws, flags]

/-! ### Rotates (R300 to R303) -/

/-- One step of RCL moves every bit of the ring up by one place. -/
theorem ringBit_rcl_step {n : Nat} (hn : 0 < n) (a : BitVec n) (cf : Bool) {j : Nat} (hj : j ≤ n) :
    ringBit ((a <<< 1) ||| BitVec.ofNat n cf.toNat) a.msb ((j + 1) % (n + 1)) = ringBit a cf j := by
  unfold ringBit
  rcases Nat.lt_or_ge j n with h | h
  · rw [Nat.mod_eq_of_lt (by omega), if_neg (by omega : j ≠ n)]
    split
    · next e => rw [BitVec.msb_eq_getLsbD_last, show n - 1 = j by omega]
    · cases cf <;> simp [BitVec.getLsbD_one] <;> omega
  · obtain rfl : j = n := by omega
    rw [Nat.mod_self, if_neg (by omega), if_pos rfl]
    cases cf <;> simp [hn]

/-- One step of RCR moves every bit of the ring down by one place. -/
theorem ringBit_rcr_step {n : Nat} (hn : 0 < n) (a : BitVec n) (cf : Bool) {j : Nat} (hj : j ≤ n) :
    ringBit ((a >>> 1) ||| (BitVec.ofNat n cf.toNat <<< (n - 1))) (a.getLsbD 0) j = ringBit a cf ((j + 1) % (n + 1)) := by
  unfold ringBit
  rcases Nat.lt_or_ge j n with h | h
  · rw [Nat.mod_eq_of_lt (by omega), if_neg (by omega : j ≠ n)]
    split
    · next e =>
      have top : j = n - 1 := by omega
      subst top
      cases cf <;> simp [hn, show 1 + (n - 1) = n by omega]
    · next e =>
      have low : j < n - 1 := by omega
      simp [low, Nat.add_comm 1 j]
  · obtain rfl : j = n := by omega
    rw [Nat.mod_self, if_pos rfl, if_neg (by omega)]

theorem ringBit_rclBits {n : Nat} (hn : 0 < n) (c : Nat) (a : BitVec n) (cf : Bool) {j : Nat} (hj : j ≤ n) :
    ringBit (rclBits c (a, cf)).1 (rclBits c (a, cf)).2 ((j + c) % (n + 1)) = ringBit a cf j := by
  induction c generalizing a cf j with
  | zero => rw [Nat.add_zero, Nat.mod_eq_of_lt (by omega)]; rfl
  | succ c ih =>
    have next := ih ((a <<< 1) ||| BitVec.ofNat n cf.toNat) a.msb (j := (j + 1) % (n + 1))
      (by have := Nat.mod_lt (j + 1) (show 0 < n + 1 by omega); omega)
    rw [ringBit_rcl_step hn a cf hj, Nat.mod_add_mod, Nat.add_assoc, Nat.add_comm 1 c] at next
    exact next

theorem ringBit_rcrBits {n : Nat} (hn : 0 < n) (c : Nat) (a : BitVec n) (cf : Bool) {j : Nat} (hj : j ≤ n) :
    ringBit (rcrBits c (a, cf)).1 (rcrBits c (a, cf)).2 j = ringBit a cf ((j + c) % (n + 1)) := by
  induction c generalizing a cf with
  | zero => rw [Nat.add_zero, Nat.mod_eq_of_lt (by omega)]; rfl
  | succ c ih =>
    have next := ih ((a >>> 1) ||| (BitVec.ofNat n cf.toNat <<< (n - 1))) (a.getLsbD 0)
    rw [ringBit_rcr_step hn a cf (by have := Nat.mod_lt (j + c) (show 0 < n + 1 by omega); omega), Nat.mod_add_mod,
      Nat.add_assoc] at next
    exact next

/-- Counting modulo the ring changes no place. -/
theorem add_rcCount_mod (n m j : Nat) : (j + rcCount n m) % (n + 1) = (j + m) % (n + 1) := by
  unfold rcCount
  split
  · exact Nat.add_mod_mod _ _ _
  · rfl

theorem getLsbD_rotateLeft_mod {n : Nat} (a : BitVec n) (m : Nat) {j : Nat} (hj : j < n) :
    (a.rotateLeft (m % n)).getLsbD ((j + m) % n) = a.getLsbD j := by
  have hm := Nat.mod_lt m (show 0 < n by omega)
  rw [BitVec.getLsbD_rotateLeft, Nat.mod_mod, ← Nat.add_mod_mod]
  rcases Nat.lt_or_ge (j + m % n) n with h | h
  · rw [Nat.mod_eq_of_lt h, decide_eq_false (by omega), cond_false, decide_eq_true h, Bool.true_and,
      Nat.add_sub_cancel]
  · rw [Nat.mod_eq_sub_mod h, Nat.mod_eq_of_lt (a := j + m % n - n) (by omega), decide_eq_true (by omega), cond_true]
    congr 1
    omega

theorem getLsbD_rotateRight_mod {n : Nat} (a : BitVec n) (m : Nat) {j : Nat} (hj : j < n) :
    (a.rotateRight (m % n)).getLsbD j = a.getLsbD ((j + m) % n) := by
  have hm := Nat.mod_lt m (show 0 < n by omega)
  rw [BitVec.getLsbD_rotateRight, Nat.mod_mod, ← Nat.add_mod_mod]
  rcases Nat.lt_or_ge (j + m % n) n with h | h
  · rw [Nat.mod_eq_of_lt h, decide_eq_true (by omega), cond_true, Nat.add_comm]
  · rw [Nat.mod_eq_sub_mod h, Nat.mod_eq_of_lt (a := j + m % n - n) (by omega), decide_eq_false (by omega), cond_false,
      decide_eq_true hj,
      Bool.true_and]
    congr 1
    omega

/-- What a rotate leaves, as the statement says it. -/
def RotateResult (op : ShiftOp) {n : Nat} (a : BitVec n) (cf0 : Bool) (m : Nat) (r : BitVec n) (cf of : Bool) : Prop :=
  (op = .rol → (∀ j, j < n → r.getLsbD ((j + m) % n) = a.getLsbD j) ∧ cf = r.getLsbD 0 ∧ (m = 1 → of = (r.msb ^^ cf))) ∧
  (op = .ror → (∀ j, j < n → r.getLsbD j = a.getLsbD ((j + m) % n)) ∧ cf = r.msb ∧
    (m = 1 → of = (r.getLsbD (n - 1) ^^ r.getLsbD (n - 2)))) ∧
  (op = .rcl → (∀ j, j ≤ n → ringBit r cf ((j + m) % (n + 1)) = ringBit a cf0 j) ∧ (m = 1 → of = (r.msb ^^ cf))) ∧
  (op = .rcr → (∀ j, j ≤ n → ringBit r cf j = ringBit a cf0 ((j + m) % (n + 1))) ∧ (m = 1 → of = (a.msb ^^ cf0)))

theorem run_rotateBits {op : ShiftOp} {n m : Nat} (hop : op = .rol ∨ op = .ror ∨ op = .rcl ∨ op = .rcr) (hn : 1 < n)
    (a : BitVec n) (s : State) : ∃ (r : BitVec n) (cf of : Bool) (k : Nat),
      shiftBits op a m s = .ok r { s with flags := { s.flags with cf := cf, of := of }, draws := k } ∧
      RotateResult op a s.flags.cf m r cf of := by
  have pos : 0 < n := by omega
  rcases hop with rfl | rfl | rfl | rfl
  · obtain ⟨of, k, hof, ofIs⟩ := run_ifOne m ((a.rotateLeft (m % n)).msb ^^ (a.rotateLeft (m % n)).getLsbD 0) s
    exact ⟨a.rotateLeft (m % n), _, of, k, (bind_of_ok hof _).trans rfl,
      fun _ => ⟨fun j hj => getLsbD_rotateLeft_mod a m hj, rfl, ofIs⟩, nofun, nofun, nofun⟩
  · obtain ⟨of, k, hof, ofIs⟩ := run_ifOne m ((a.rotateRight (m % n)).msb ^^ (a.rotateRight (m % n)).getMsbD 1) s
    refine ⟨a.rotateRight (m % n), _, of, k, (bind_of_ok hof _).trans rfl, nofun,
      fun _ => ⟨fun j hj => getLsbD_rotateRight_mod a m hj, rfl, fun h => ?_⟩, nofun, nofun⟩
    rw [ofIs h, BitVec.msb_eq_getLsbD_last, BitVec.getMsbD_eq_getLsbD, decide_eq_true hn, Bool.true_and, Nat.sub_sub]
  · obtain ⟨of, k, hof, ofIs⟩ := run_ifOne m
      ((rclBits (rcCount n m) (a, s.flags.cf)).1.msb ^^ (rclBits (rcCount n m) (a, s.flags.cf)).2) s
    refine ⟨_, _, of, k, (bind_of_ok hof _).trans rfl, nofun, nofun, fun _ => ⟨fun j hj => ?_, ofIs⟩, nofun⟩
    rw [← add_rcCount_mod]
    exact ringBit_rclBits pos _ a _ hj
  · obtain ⟨of, k, hof, ofIs⟩ := run_ifOne m (a.msb ^^ s.flags.cf) s
    refine ⟨_, _, of, k, (bind_of_ok hof _).trans rfl, nofun, nofun, nofun, fun _ => ⟨fun j hj => ?_, ofIs⟩⟩
    rw [← add_rcCount_mod]
    exact ringBit_rcrBits pos _ a _ hj

/-- Settles O18: the bits of the operand, or of the operand with CF, in their ring. -/
theorem rotates : Obligations.Rotates := by
  unfold Obligations.Rotates
  intro s i op w d c form hop as s1 ho a m n
  have count : m = (countByte s c).toNat % 32 := countOf_eq s c
  have flags : s1.flags = s.flags := ((Confined.openDest w d).ok ho).flags
  rw [exec_shiftForm form]
  refine ⟨fun h => runInstr_of_ok (shift_zero ho (count ▸ h)), fun h => ?_⟩
  obtain ⟨r, cf, of, k, run, result⟩ := run_rotateBits (m := m) hop (lt_trans (by decide) w.four_lt_bits) a s1
  rw [flags] at run result
  refine ⟨r, cf, of, k, ?_, result⟩
  rw [count] at run h
  rw [runInstr_of_ok (shift_nonzero ho h run), putDest_flags_draws]

/-! ### Double shifts (R304, R305) -/

/-- A bit of two words side by side. -/
theorem testBit_pair {n : Nat} (a b : BitVec n) (i : Nat) :
    (a.toNat * 2 ^ n + b.toNat).testBit i = if i < n then b.getLsbD i else a.getLsbD (i - n) := by
  have pair : a.toNat * 2 ^ n + b.toNat = (a ++ b).toNat := by
    rw [BitVec.toNat_append, ← Nat.shiftLeft_add_eq_or_of_lt b.isLt, Nat.shiftLeft_eq]
  rw [pair]
  exact BitVec.getLsbD_append

theorem toNat_shld {n m : Nat} (hm : m ≤ n) (a b : BitVec n) :
    ((a <<< m) ||| (b >>> (n - m))).toNat = (a.toNat * 2 ^ n + b.toNat) * 2 ^ m / 2 ^ n % 2 ^ n := by
  apply Nat.eq_of_testBit_eq
  intro i
  rw [Nat.testBit_mod_two_pow, Nat.testBit_div_two_pow, Nat.testBit_mul_two_pow, testBit_pair]
  show ((a <<< m) ||| (b >>> (n - m))).getLsbD i = _
  rw [BitVec.getLsbD_or, BitVec.getLsbD_shiftLeft, BitVec.getLsbD_ushiftRight]
  by_cases hi : i < n
  · by_cases him : i < m
    · rw [decide_eq_true hi, decide_eq_true him, decide_eq_true (by omega), if_pos (by omega),
        show n - m + i = i + n - m by omega]
      simp
    · rw [decide_eq_true hi, decide_eq_false him, decide_eq_true (by omega), if_neg (by omega),
        BitVec.getLsbD_of_ge b _ (by omega), show i + n - m - n = i - m by omega]
      simp
  · rw [decide_eq_false hi, BitVec.getLsbD_of_ge b _ (by omega)]
    simp

theorem toNat_shrd {n m : Nat} (hm : m ≤ n) (a b : BitVec n) :
    ((a >>> m) ||| (b <<< (n - m))).toNat = (b.toNat * 2 ^ n + a.toNat) / 2 ^ m % 2 ^ n := by
  apply Nat.eq_of_testBit_eq
  intro i
  rw [Nat.testBit_mod_two_pow, Nat.testBit_div_two_pow, testBit_pair]
  show ((a >>> m) ||| (b <<< (n - m))).getLsbD i = _
  rw [BitVec.getLsbD_or, BitVec.getLsbD_shiftLeft, BitVec.getLsbD_ushiftRight]
  by_cases hi : i < n
  · by_cases him : i + m < n
    · rw [decide_eq_true hi, if_pos him, decide_eq_true (by omega), Nat.add_comm]
      simp
    · rw [decide_eq_true hi, if_neg him, decide_eq_false (by omega), BitVec.getLsbD_of_ge a _ (by omega),
        show i - (n - m) = i + m - n by omega]
      simp
  · rw [decide_eq_false hi, BitVec.getLsbD_of_ge a _ (by omega)]
    simp

section
variable {left : Bool} {w : Width} {d : Opnd} {src : Reg} {count : Byte} {s t : State} {as : List Word}

theorem doubleShift_zero (ho : openDest w d s = .ok as t) (h : count.toNat % 32 = 0) :
    doubleShift left w d src count s = .ok () t :=
  (bind_of_ok (run_readOp_reg w src s) _).trans (modify_of_none ho (by rw [if_pos h]; rfl))

theorem doubleShift_within (ho : openDest w d s = .ok as t) (h0 : count.toNat % 32 ≠ 0) (h : count.toNat % 32 ≤ w.bits) :
    let a := destValue w d as t
    let x := doubleBits left a (destValue w (.reg src) [] s) (count.toNat % 32)
    ∃ (of af : Bool) (k : Nat), doubleShift left w d src count s = .ok () (putDest w d as x.1 { t with
        flags := { signZeroParity t.flags x.1 with cf := x.2, of := of, af := af }, draws := k }) ∧
      (count.toNat % 32 = 1 → of = (x.1.msb ^^ a.msb)) := by
  intro a x
  obtain ⟨of, k, hof, ofIs⟩ := run_ifOne (count.toNat % 32) (x.1.msb != a.msb) t
  refine ⟨of, Config.freeBit k, k + 1, (bind_of_ok (run_readOp_reg w src s) _).trans (modify_of_some ho ?_), ofIs⟩
  rw [if_neg h0, if_neg (Nat.not_lt.mpr h)]
  exact (bind_of_ok hof _).trans ((bind_of_ok (run_flagsAfterShift _ _ _ _) _).trans rfl)

theorem doubleShift_above (ho : openDest w d s = .ok as t) (h : w.bits < count.toNat % 32) :
    ∃ (r : BitVec w.bits) (cf pf af zf sf of : Bool) (k : Nat),
      doubleShift left w d src count s = .ok () (putDest w d as r { t with
        flags := { t.flags with cf := cf, pf := pf, af := af, zf := zf, sf := sf, of := of }, draws := k }) := by
  obtain ⟨cf, pf, af, zf, sf, of, run⟩ := run_drawAllFlags { t with draws := t.draws + 1 }
  refine ⟨(Config.freeWord t.draws).setWidth w.bits, cf, pf, af, zf, sf, of, t.draws + 7,
    (bind_of_ok (run_readOp_reg w src s) _).trans (modify_of_some ho ?_)⟩
  rw [if_neg (by omega), if_pos h]
  exact (bind_of_ok (run_drawWord t) _).trans ((bind_of_ok run _).trans rfl)

end

/-- Settles O19: the two operands side by side, shifted. -/
theorem doubleShifts : Obligations.DoubleShifts := by
  unfold Obligations.DoubleShifts
  intro s i left w d src c form as s1 ho a b m
  have count : m = (countByte s c).toNat % 32 := countOf_eq s c
  have flags : s1.flags = s.flags := ((Confined.openDest w d).ok ho).flags
  rw [exec_doubleForm form]
  refine ⟨fun h => runInstr_of_ok (doubleShift_zero ho (count ▸ h)), fun h0 h => ?_, fun h => ?_⟩
  · obtain ⟨of, af, k, run, ofIs⟩ := doubleShift_within (left := left) (src := src) ho (count ▸ h0.ne') (count ▸ h)
    refine ⟨(doubleBits left a b m).1, (doubleBits left a b m).2, of, af, k, ?_, ?_, ?_, count ▸ ofIs⟩
    · rw [runInstr_of_ok run, putDest_flags_draws, flags, count]
      rfl
    · rintro rfl
      exact ⟨toNat_shld h a b, getLsbD_eq_decide a _⟩
    · rintro rfl
      exact ⟨toNat_shrd h a b, getLsbD_eq_decide a _⟩
  · obtain ⟨r, cf, pf, af, zf, sf, of, k, run⟩ := doubleShift_above (left := left) (src := src) ho (count ▸ h)
    refine ⟨r, cf, pf, af, zf, sf, of, k, ?_⟩
    rw [runInstr_of_ok run, putDest_flags_draws, flags]

end Sys2Proof.Machine
end

section
/-!
PROOFS. Bit test and bit scan (41_logic_shift_bit.md R306 to R312): one bit tested and changed, the first and the last bit
that is set.
-/

namespace Sys2Proof.Machine

open Claims

/-! ### One bit -/

/-- The bit an instruction changes, and the others. -/
theorem getLsbD_bitChanged {n : Nat} (op : BitOp) (a : BitVec n) {j y : Nat} (hy : y < n) :
    (bitChanged op a j).getLsbD y = if y = j then bitAfter op (a.getLsbD j) else a.getLsbD y := by
  cases op <;> by_cases h : y = j <;> simp [bitChanged, bitAfter, BitVec.getLsbD_twoPow, hy, h] <;> grind

theorem run_flagsAfterBit (b : Bool) (s : State) : ∃ (of sf af pf : Bool), flagsAfterBit b s = .ok () { s with
    flags := { s.flags with cf := b, of := of, sf := sf, af := af, pf := pf }, draws := s.draws + 4 } :=
  ⟨_, _, _, _, rfl⟩

/-- The place of a bit in its word: the offset modulo the width, whether read as signed or not. -/
theorem toInt_emod_bits (w : Width) (a : BitVec w.bits) : (a.toInt % w.bits).toNat = a.toNat % w.bits := by
  have dvd : (w.bits : Int) ∣ ((2 ^ w.bits : Nat) : Int) := by cases w <;> decide
  obtain ⟨k, hk⟩ := dvd
  have same : a.toInt % w.bits = (a.toNat : Int) % w.bits := by
    rw [BitVec.toInt_eq_toNat_cond]
    split
    · rfl
    · rw [hk, Int.sub_mul_emod_self_left]
  rw [same]
  omega

/-- The place of the bit that an offset names. -/
def bitPlace (s : State) (x : BitIndex) : Nat := (bitOffset s x % s.width.bits).toNat

theorem bitPlace_imm (s : State) (i : Byte) : i.toNat % s.width.bits = bitPlace s (.imm i) := by
  show i.toNat % s.width.bits = ((i.toNat : Int) % (s.width.bits : Int)).toNat
  omega

theorem bitPlace_reg (s : State) (r : Reg) :
    (destValue s.width (.reg r) [] s).toNat % s.width.bits = bitPlace s (.reg r) :=
  (toInt_emod_bits s.width _).symm

/-- Where the word lies that a memory form works on. -/
def bitStart (s : State) (m : MemOp) (x : BitIndex) : Word :=
  match x with
  | .imm _ => ea s.regs m
  | .reg _ => sizeTrunc (sizeOf m) (ea s.regs m + BitVec.ofInt 32 (bitOffset s x / s.width.bits * s.width.bytes))

/-! ### The forms are the shared operations -/

theorem exec_bitForm_imm {s : State} {i : Instr} {op : BitOp} {d : RM} {v : Byte} (h : BitForm i op d (.imm v)) :
    exec i s = runInstr (atSize fun w => bitByImm op w d v) s := by
  cases h <;> rfl

theorem exec_bitForm_ofReg {s : State} {i : Instr} {op : BitOp} {d : RM} {r : Reg} (h : BitForm i op d (.reg r)) :
    exec i s = runInstr (atSize fun w => bitByReg op w d r) s := by
  cases h <;> rfl

theorem exec_bitForm_reg {s : State} {i : Instr} {op : BitOp} {q : Reg} {x : BitIndex} (h : BitForm i op (.reg q) x) :
    exec i s = runInstr (bitInReg op s.width q (bitPlace s x)) s := by
  cases x with
  | imm v =>
    rw [exec_bitForm_imm h, ← bitPlace_imm]
    exact runInstr_congr rfl
  | reg r =>
    rw [exec_bitForm_ofReg h, ← bitPlace_reg]
    exact runInstr_congr rfl

theorem exec_bitForm_mem {s : State} {i : Instr} {op : BitOp} {m : MemOp} {x : BitIndex} (h : BitForm i op (.mem m) x) :
    exec i s = runInstr (bitInMem op s.width (s.segFor m) (bitStart s m x) (bitPlace s x)) s := by
  cases x with
  | imm v =>
    rw [exec_bitForm_imm h, ← bitPlace_imm]
    exact runInstr_congr rfl
  | reg r =>
    rw [exec_bitForm_ofReg h, ← bitPlace_reg]
    exact runInstr_congr rfl

theorem run_bitInReg (op : BitOp) (w : Width) (q : Reg) (j : Nat) (s : State) :
    let a := destValue w (.reg q) [] s
    ∃ (of sf af pf : Bool) (k : Nat), bitInReg op w q j s = .ok () { s with
      regs := if op = .test then s.regs else putReg w s.regs q (bitChanged op a j), draws := k,
      flags := { s.flags with cf := a.getLsbD j, of := of, sf := sf, af := af, pf := pf } } := by
  intro a
  obtain ⟨of, sf, af, pf, run⟩ := run_flagsAfterBit (a.getLsbD j)
    { s with regs := if op = .test then s.regs else putReg w s.regs q (bitChanged op a j) }
  refine ⟨of, sf, af, pf, s.draws + 4, Eq.trans ?_ run⟩
  refine (bind_of_ok (run_readOp_reg w q s) _).trans ?_
  rw [run_bind, run_onlyIf]
  by_cases h : op = .test
  · simp only [h, ne_eq, not_true_eq_false, decide_false, Bool.false_eq_true, if_false, if_true]
    rfl
  · simp only [h, ne_eq, not_false_eq_true, decide_true, if_true, if_false, run_writeReg]
    rfl

theorem run_bitInMem {op : BitOp} {w : Width} {g : SReg} {off : Word} {s t : State} {as : List Word}
    (ha : access g off w.bytes (decide (op ≠ .test)) s = .ok as t) (j : Nat) :
    let a : BitVec w.bits := BitVec.ofNat w.bits (Memory.load t.mem as)
    ∃ (of sf af pf : Bool) (k : Nat), bitInMem op w g off j s = .ok () { t with
      mem := if op = .test then t.mem else Memory.store t.mem as (bitChanged op a j).toNat, draws := k,
      flags := { t.flags with cf := a.getLsbD j, of := of, sf := sf, af := af, pf := pf } } := by
  intro a
  obtain ⟨of, sf, af, pf, run⟩ := run_flagsAfterBit (a.getLsbD j)
    { t with mem := if op = .test then t.mem else Memory.store t.mem as (bitChanged op a j).toNat }
  refine ⟨of, sf, af, pf, t.draws + 4, Eq.trans ?_ run⟩
  refine (bind_of_ok ha _).trans ((bind_of_ok (run_loadAt as t) _).trans ?_)
  rw [run_bind, run_onlyIf]
  by_cases h : op = .test
  · simp only [h, ne_eq, not_true_eq_false, decide_false, Bool.false_eq_true, if_false, if_true]
    rfl
  · simp only [h, ne_eq, not_false_eq_true, decide_true, if_true, if_false, run_storeAt]
    rfl

/-! ### Scans -/

theorem exists_getLsbD {n : Nat} {a : BitVec n} (h : a ≠ 0) : ∃ i, i < n ∧ a.getLsbD i = true := by
  by_contra none
  refine h (BitVec.eq_of_getLsbD_eq fun i hi => ?_)
  have : a.getLsbD i ≠ true := fun e => none ⟨i, hi, e⟩
  simpa using this

/-- The lowest bit that is set. -/
theorem lowestSet_spec {n : Nat} {a : BitVec n} (h : a ≠ 0) :
    lowestSet a < n ∧ a.getLsbD (lowestSet a) = true ∧ ∀ j, j < lowestSet a → a.getLsbD j = false := by
  obtain ⟨i, hi, hb⟩ := exists_getLsbD h
  have found : ((List.range n).find? a.getLsbD).isSome := List.find?_isSome.mpr ⟨i, List.mem_range.mpr hi, hb⟩
  obtain ⟨k, hk⟩ := Option.isSome_iff_exists.mp found
  obtain ⟨bit, inRange, before⟩ := List.find?_range_eq_some.mp hk
  have value : lowestSet a = k := by rw [lowestSet, hk]; rfl
  rw [value]
  exact ⟨List.mem_range.mp inRange, bit, fun j hj => by simpa using before j hj⟩

/-- Searching the numbers below `n` from above finds the last that fits. -/
theorem find?_range_reverse {n k : Nat} {p : Nat → Bool} (h : (List.range n).reverse.find? p = some k) :
    k < n ∧ p k = true ∧ ∀ j, k < j → j < n → p j = false := by
  induction n with
  | zero => simp at h
  | succ n ih =>
    rw [List.range_succ, List.reverse_concat, List.find?_cons] at h
    cases hp : p n with
    | true =>
      rw [hp] at h
      obtain rfl : n = k := by simpa using h
      exact ⟨by omega, hp, fun j h1 h2 => by omega⟩
    | false =>
      rw [hp] at h
      obtain ⟨hk, bit, after⟩ := ih h
      refine ⟨by omega, bit, fun j h1 h2 => ?_⟩
      rcases Nat.lt_or_ge j n with hj | hj
      · exact after j h1 hj
      · obtain rfl : j = n := by omega
        exact hp

/-- The highest bit that is set. -/
theorem highestSet_spec {n : Nat} {a : BitVec n} (h : a ≠ 0) :
    highestSet a < n ∧ a.getLsbD (highestSet a) = true ∧ ∀ j, highestSet a < j → a.getLsbD j = false := by
  obtain ⟨i, hi, hb⟩ := exists_getLsbD h
  have found : ((List.range n).reverse.find? a.getLsbD).isSome :=
    List.find?_isSome.mpr ⟨i, List.mem_reverse.mpr (List.mem_range.mpr hi), hb⟩
  obtain ⟨k, hk⟩ := Option.isSome_iff_exists.mp found
  obtain ⟨below, bit, after⟩ := find?_range_reverse hk
  have value : highestSet a = k := by rw [highestSet, hk]; rfl
  rw [value]
  refine ⟨below, bit, fun j hj => ?_⟩
  rcases Nat.lt_or_ge j n with h1 | h1
  · exact after j hj h1
  · exact BitVec.getLsbD_of_ge a j h1

theorem run_flagsAfterScan (zf : Bool) (s : State) : ∃ (cf pf af sf of : Bool), flagsAfterScan zf s = .ok () { s with
    flags := { s.flags with cf := cf, pf := pf, af := af, zf := zf, sf := sf, of := of }, draws := s.draws + 6 } := by
  obtain ⟨cf, pf, af, zf', sf, of, run⟩ := run_drawAllFlags s
  exact ⟨cf, pf, af, sf, of, (bind_of_ok run _).trans rfl⟩

/-- What a scan puts in its destination. -/
def ScanResult (up : Bool) {n : Nat} (a v : BitVec n) : Prop :=
  a ≠ 0 → a.getLsbD v.toNat = true ∧ (up = true → ∀ j, j < v.toNat → a.getLsbD j = false) ∧
    (up = false → ∀ j, v.toNat < j → a.getLsbD j = false)

theorem run_scan {up : Bool} {w : Width} {r : Reg} {src : Opnd} {s t : State} {a : BitVec w.bits}
    (hr : readOp w src s = .ok a t) : ∃ (v : BitVec w.bits) (cf pf af sf of : Bool) (k : Nat),
      scan up w r src s = .ok () { t with
        regs := putReg w t.regs r v, draws := k,
        flags := { t.flags with cf := cf, pf := pf, af := af, zf := decide (a = 0), sf := sf, of := of } } ∧
      ScanResult up a v := by
  by_cases h : a = 0
  · obtain ⟨cf, pf, af, sf, of, run⟩ := run_flagsAfterScan (decide (a = 0)) { t with
      draws := t.draws + 1, regs := putReg w t.regs r ((Config.freeWord t.draws).setWidth w.bits) }
    refine ⟨(Config.freeWord t.draws).setWidth w.bits, cf, pf, af, sf, of, t.draws + 1 + 6, Eq.trans ?_ run, fun e => absurd h e⟩
    refine (bind_of_ok hr _).trans ?_
    rw [if_pos h, bind_of_ok (run_drawWord t), bind_of_ok (run_writeReg w r _ _), decide_eq_true h]
  · obtain ⟨lowLt, lowSet, lowFirst⟩ := lowestSet_spec h
    obtain ⟨highLt, highSet, highLast⟩ := highestSet_spec h
    have fits : w.bits < 2 ^ w.bits := Nat.lt_two_pow_self
    obtain ⟨cf, pf, af, sf, of, run⟩ := run_flagsAfterScan (decide (a = 0)) { t with
      regs := putReg w t.regs r (BitVec.ofNat w.bits (if up then lowestSet a else highestSet a)) }
    refine ⟨BitVec.ofNat w.bits (if up then lowestSet a else highestSet a), cf, pf, af, sf, of, t.draws + 6,
      Eq.trans ?_ run, fun _ => ?_⟩
    · refine (bind_of_ok hr _).trans ?_
      rw [if_neg h, bind_of_ok (run_writeReg w r _ _), decide_eq_false h]
    · rw [BitVec.toNat_ofNat]
      cases up with
      | true =>
        rw [if_pos rfl, Nat.mod_eq_of_lt (by omega)]
        exact ⟨lowSet, fun _ => lowFirst, nofun⟩
      | false =>
        rw [if_neg Bool.false_ne_true, Nat.mod_eq_of_lt (by omega)]
        exact ⟨highSet, nofun, fun _ => highLast⟩

/-- Settles O20: the bit instructions by the place of their bit, the scans by the first and the last bit that is set. -/
theorem bitInstructions : Obligations.BitInstructions := by
  unfold Obligations.BitInstructions
  refine ⟨?_, ?_⟩
  · intro s i op d x form w off j
    refine ⟨?_, ?_⟩
    · rintro q rfl
      obtain ⟨of, sf, af, pf, k, run⟩ := run_bitInReg op w q j (past s)
      refine ⟨bitChanged op (destValue w (.reg q) [] s) j, of, sf, af, pf, k, ?_, fun y hy => getLsbD_bitChanged op _ hy⟩
      rw [exec_bitForm_reg form]
      exact runInstr_of_ok run
    · rintro m rfl start as s1 ha
      have where_ : start = bitStart s m x := by cases x <;> rfl
      have flags : s1.flags = s.flags := ((Confined.access _ _ _ _).ok ha).flags
      obtain ⟨of, sf, af, pf, k, run⟩ := run_bitInMem ha j
      refine ⟨bitChanged op (BitVec.ofNat w.bits (Memory.load s1.mem as)) j, of, sf, af, pf, k, ?_,
        fun y hy => getLsbD_bitChanged op _ hy⟩
      rw [exec_bitForm_mem form]
      rw [where_, flags] at run
      exact runInstr_of_ok run
  · intro s i r m scans w a s1 hr
    have flags : s1.flags = s.flags := ((Confined.readOp w _).ok hr).flags
    rcases scans with rfl | rfl
    · obtain ⟨v, cf, pf, af, sf, of, k, run, result⟩ := run_scan (up := true) (r := r) hr
      rw [flags] at run
      refine ⟨v, cf, pf, af, sf, of, k, runInstr_of_ok (body := atSize fun w => scan true w r (rmOp m)) run, fun h => ?_⟩
      obtain ⟨bit, first, -⟩ := result h
      exact ⟨bit, fun _ => first rfl, nofun⟩
    · obtain ⟨v, cf, pf, af, sf, of, k, run, result⟩ := run_scan (up := false) (r := r) hr
      rw [flags] at run
      refine ⟨v, cf, pf, af, sf, of, k, runInstr_of_ok (body := atSize fun w => scan false w r (rmOp m)) run, fun h => ?_⟩
      obtain ⟨bit, -, last⟩ := result h
      exact ⟨bit, nofun, fun _ => last rfl⟩

end Sys2Proof.Machine
end

section
/-!
PROOFS. Memory read back (20_memory.md R100), the state after reset, words of the opcode map, and the flag instructions
(42_data_move.md R370, R371, R377 to R381; 45_system.md R576, R577).
-/

namespace Sys2Proof.Machine

open Claims

/-! ### Memory read back -/

theorem addrs_nodup (a : Word) {n : Nat} (h : n ≤ 2 ^ 32) : (addrs a n).Nodup := by
  induction n generalizing a with
  | zero => exact List.nodup_nil
  | succ n ih =>
    refine List.nodup_cons.mpr ⟨fun hm => ?_, ih (a + 1) (by omega)⟩
    obtain ⟨k, hk, e⟩ := mem_addrs.mp hm
    have := congrArg BitVec.toNat e
    simp [BitVec.toNat_add] at this
    have := a.isLt
    omega

/-- The byte at place `k` of a stored number. -/
theorem Memory.read_store_addrs {m : Memory} (h : Memory.wf m = true) (a : Word) {n : Nat} (hn : n ≤ 2 ^ 32) (v : Nat)
    {k : Nat} (hk : k < n) :
    Memory.read (Memory.store m (addrs a n) v) (a + BitVec.ofNat 32 k).toNat = BitVec.ofNat 8 (v / 256 ^ k) := by
  induction n generalizing m a v k with
  | zero => omega
  | succ n ih =>
    have first := (List.nodup_cons.mp (addrs_nodup a hn)).1
    have wf := Memory.wf_write h a.isLt (BitVec.ofNat 8 v)
    show Memory.read (Memory.store (Memory.write m a.toNat (BitVec.ofNat 8 v)) (addrs (a + 1) n) (v / 256)) _ = _
    cases k with
    | zero =>
      rw [show a + BitVec.ofNat 32 0 = a by simp, Memory.read_store_other wf _ _ _ fun b hb e => ?_,
        Memory.read_write h, if_pos rfl, Nat.pow_zero, Nat.div_one]
      exact first (BitVec.eq_of_toNat_eq e ▸ hb)
    | succ k =>
      have next : a + BitVec.ofNat 32 (k + 1) = a + 1 + BitVec.ofNat 32 k := by
        apply BitVec.eq_of_toNat_eq
        simp [BitVec.toNat_add]
        omega
      rw [next, ih wf (a + 1) (by omega) _ (by omega), Nat.div_div_eq_div_mul, ← Nat.pow_succ']

/-- Settles O9: the bytes stored lie at different addresses, so each is read back and no other is touched. -/
theorem storeThenLoad : Obligations.StoreThenLoad := by
  unfold Obligations.StoreThenLoad
  intro m a n v wf hn
  refine ⟨Memory.wf_store wf _ _, ?_, fun k hk => Memory.read_store_addrs wf a hn v hk, fun x hx => ?_⟩
  · rw [Memory.load_store wf (addrs_nodup a hn), addrs_length]
  · refine Memory.read_store_other wf _ _ _ fun b hb => ?_
    obtain ⟨k, hk, rfl⟩ := mem_addrs.mp hb
    exact hx k hk

/-! ### Reset and words -/

/-- Settles O2: memory and the log are empty after reset, and neither paging nor protected mode is on. -/
theorem resetInvariants : Obligations.ResetInvariants := by
  unfold Obligations.ResetInvariants
  refine ⟨rfl, ?_⟩
  unfold modesLegal
  decide

/-- Settles O7: the decoder run on each word. -/
theorem decodeWords : Obligations.DecodeWords := by
  unfold Obligations.DecodeWords
  refine ⟨?_, ?_, ?_, ?_, ?_, ?_, ?_, ?_, ?_, ?_, ?_, ?_⟩ <;> rfl

/-! ### Flag instructions -/

/-- LAHF's byte: the five status flags at their places, and bit 1. -/
theorem setWidth_toWord (f : Flags) : f.toWord.setWidth 8 = BitVec.ofNat 8
    (128 * f.sf.toNat + 64 * f.zf.toNat + 16 * f.af.toNat + 4 * f.pf.toNat + 2 + f.cf.toNat) := by
  have low : f.toWord.setWidth 8 = (2 ||| bitAt f.cf 0 ||| bitAt f.pf 2 ||| bitAt f.af 4 ||| bitAt f.zf 6 |||
      bitAt f.sf 7).setWidth 8 := by
    have high : ∀ b k, 8 ≤ k → (bitAt b k).setWidth 8 = 0 := by
      intro b k hk
      ext i hi
      (cases b <;> simp [bitAt]); omega
    have level : (f.iopl.setWidth 32 <<< 12 : Word).setWidth 8 = 0 := by
      ext i hi
      simp
    simp only [Flags.toWord, BitVec.setWidth_or, high _ _ (by decide : 8 ≤ 8), high _ _ (by decide : 8 ≤ 9),
      high _ _ (by decide : 8 ≤ 10), high _ _ (by decide : 8 ≤ 11), high _ _ (by decide : 8 ≤ 14),
      high _ _ (by decide : 8 ≤ 16), high _ _ (by decide : 8 ≤ 17), level]
    simp
  rw [low]
  generalize f.cf = a, f.pf = b, f.af = c, f.zf = d, f.sf = e
  revert a b c d e
  decide

theorem run_ioplOk {s : State} (h : s.cr0.pe = false ∨ s.cpl ≤ s.flags.iopl) : ioplOk s = .ok () s := by
  have allowed : (!s.cr0.pe || decide (s.cpl ≤ s.flags.iopl)) = true := by simpa using h
  show check _ _ s = _
  rw [run_check, if_pos allowed]

theorem run_ioplOk_refused {s : State} (h : ¬(s.cr0.pe = false ∨ s.cpl ≤ s.flags.iopl)) :
    ioplOk s = .error (.exc (.plain 13 (some 0)) false) s := by
  have refused : ¬(!s.cr0.pe || decide (s.cpl ≤ s.flags.iopl)) = true := by simpa using h
  show check _ _ s = _
  rw [run_check, if_neg refused, run_raiseGP]

/-- Settles O28: the flag updates themselves; CLI and STI by their test of IOPL. -/
theorem flagInstructions : Obligations.FlagInstructions := by
  unfold Obligations.FlagInstructions
  intro s f w may
  refine ⟨rfl, rfl, rfl, rfl, rfl, ?_, rfl, fun h => ?_, fun h => ?_, fun h => ⟨?_, ?_⟩⟩
  · rw [← setWidth_toWord]
    rfl
  · exact runInstr_of_ok ((bind_of_ok (run_ioplOk (s := past s) h) _).trans rfl)
  · exact runInstr_of_ok ((bind_of_ok (run_ioplOk (s := past s) h) _).trans rfl)
  · exact runInstr_of_exc (bind_of_error (run_ioplOk_refused (s := past s) h) _)
  · exact runInstr_of_exc (bind_of_error (run_ioplOk_refused (s := past s) h) _)

end Sys2Proof.Machine
end

section
/-!
PROOFS. Fetching (20_memory.md R123, 30_encoding.md R160): the bytes at CS:EIP are fetched until they spell an instruction,
and the step runs it.
-/

namespace Sys2Proof.Machine

open Claims

/-! ### Fetching -/

theorem run_fetchByte {s : State} {k : Nat} (hpg : s.cr0.pg = false)
    (inLimit : s.segs.cs.inLimit (s.eip + BitVec.ofNat 32 k) 1 = true) (below : s.eip.toNat + k < 2 ^ 32) :
    fetchByte k s = .ok (Memory.read s.mem (s.segs.cs.base + (s.eip + BitVec.ofNat 32 k)).toNat) s := by
  have inSegment : (s.segs.cs.inLimit (s.eip + BitVec.ofNat 32 k) 1 && decide (s.eip.toNat + k < 2 ^ 32)) = true := by
    rw [inLimit, Bool.true_and, decide_eq_true below]
  have checked : check (s.segs.cs.inLimit (s.eip + BitVec.ofNat 32 k) 1 && decide (s.eip.toNat + k < 2 ^ 32)) (raiseGP 0) s
      = .ok () s := by rw [run_check, if_pos inSegment]
  refine (bind_of_ok checked _).trans ((bind_of_ok (physOf_unpaged hpg _ _ _ _) _).trans ?_)
  refine congrArg (EStateM.Result.ok · s) (BitVec.eq_of_toNat_eq ?_)
  simp [Memory.load, addrs]

theorem run_checkLegal {s : State} {f : Fetched} (h : LegalHere s f) : checkLegal f s = .ok () s := by
  obtain ⟨int1, lock⟩ := h
  have first : (s.cfg.hasInt1 || decide (f.instr ≠ .int1)) = true := by simpa using int1
  have second : (!f.prefixes.contains .lock || f.instr.lockLegal) = true := by simpa using lock
  show (check _ _ >>= fun _ => check _ _) s = _
  rw [run_bind, run_check, if_pos first]
  show check _ _ s = _
  rw [run_check, if_pos second]

/-- From any number of bytes already fetched the fetch ends with the instruction that all of them spell. -/
theorem run_fetchMore {s : State} {bs : List Byte} {f : Fetched} (hpg : s.cr0.pg = false) (spells : Spells s bs f)
    (code : InCode s bs) (legal : LegalHere s f) {fuel k : Nat} (hk : k < bs.length) (enough : bs.length ≤ k + fuel) :
    fetchMore fuel (bs.take k) s = .ok f s := by
  induction fuel generalizing k with
  | zero => omega
  | succ fuel ih =>
    have len : (bs.take k).length = k := by rw [List.length_take]; omega
    obtain ⟨inLimit, below, byte⟩ := code k hk
    have got : fetchByte (bs.take k).length s = .ok bs[k] s := by rw [len, run_fetchByte hpg inLimit below, byte]
    have more : bs.take k ++ [bs[k]] = bs.take (k + 1) := List.take_concat_get' bs k hk
    refine (bind_of_ok got _).trans ?_
    rw [more, bind_of_ok (run_getS s)]
    rcases Nat.lt_or_ge (k + 1) bs.length with short | all
    · obtain ⟨unfinished, known⟩ := spells.2 (k + 1) (by omega) short
      have goOn : ¬(!s.protectedMode && protectedOpcode (takePrefixes (bs.take (k + 1))).2) = true := by
        rcases known with h | h <;> simp [h]
      simp only [unfinished]
      rw [if_neg goOn]
      exact ih short (by omega)
    · rw [List.take_of_length_le all]
      simp only [spells.1]
      rw [bind_of_ok (run_checkLegal legal)]
      rfl

theorem run_fetch {s : State} {bs : List Byte} {f : Fetched} (hpg : s.cr0.pg = false) (short : bs.length ≤ 15)
    (spells : Spells s bs f) (code : InCode s bs) (legal : LegalHere s f) : fetch s = .ok f s := by
  have some_ : 0 < bs.length := by
    rcases bs with - | ⟨b, bs⟩
    · exact nomatch (show Except.error DecErr.more = Except.ok f from spells.1)
    · exact Nat.succ_pos _
  exact run_fetchMore (k := 0) hpg spells code legal some_ (by omega)

/-! ### A step -/

/-- Where nothing is due and no breakpoint is met, the step is the instruction that is fetched. -/
theorem step_of_fetch {s : State} {f : Fetched} (idle : boundary s = none) (running : s.run = .running)
    (hits : s.execHits = 0) (fetched : fetch s.starting = .ok f s.starting) :
    step s = settleOutcome s (runAll f.all (f.entry s.starting)) := by
  unfold step cycle
  rw [idle]
  show (if s.run = .running then runOne s else .next s) = _
  rw [if_pos running]
  unfold runOne
  dsimp only
  rw [if_neg (not_not.mpr hits), fetched]

theorem runAll_single (i : Instr) (s : State) : runAll [i] s = exec i s := by
  unfold runAll
  cases exec i s <;> rfl

/-- Settles O8: the bytes are fetched one by one, and what stands before the instruction only changes its record. -/
theorem stepRunsDecoded : Obligations.StepRunsDecoded := by
  unfold Obligations.StepRunsDecoded
  refine ⟨fun s bs f idle running hits hpg short spells code legal => ?_, fun s i f form => ?_⟩
  · have fetched : fetch s.starting = .ok f s.starting := run_fetch hpg short spells code legal
    have run := step_of_fetch idle running hits fetched
    refine ⟨run, fun bare => ?_⟩
    have alone : f.all = [f.instr] := by rw [Fetched.all, bare]; rfl
    rw [run, alone, runAll_single]
  · cases form <;> rfl

end Sys2Proof.Machine
end

section
/-!
PROOFS. The page walk (20_memory.md R130 to R133): the addresses of its entries, the rights, and the bits it sets.
-/

namespace Sys2Proof.Machine

open Claims

/-! ### Entries -/

theorem toNat_append_add {n m : Nat} (x : BitVec n) (y : BitVec m) : (x ++ y).toNat = x.toNat * 2 ^ m + y.toNat := by
  rw [BitVec.toNat_append, ← Nat.shiftLeft_add_eq_or_of_lt y.isLt, Nat.shiftLeft_eq]

theorem toNat_entryAddr (frame : BitVec 20) (index : BitVec 10) :
    (entryAddr frame index).toNat = frame.toNat * 4096 + index.toNat * 4 := by
  unfold entryAddr
  rw [toNat_append_add, toNat_append_add]
  simp
  omega

/-- A directory entry's address. -/
theorem entryAddr_directory (cr3 la : Word) : entryAddr (cr3.extractLsb' 12 20) (la.extractLsb' 22 10) =
    BitVec.ofNat 32 (cr3.toNat / 4096 * 4096 + la.toNat / 2 ^ 22 * 4) := by
  apply BitVec.eq_of_toNat_eq
  rw [toNat_entryAddr]
  simp only [BitVec.extractLsb'_toNat, BitVec.toNat_ofNat, Nat.shiftRight_eq_div_pow]
  omega

/-- A table entry's address. -/
theorem entryAddr_table (pde la : Word) : entryAddr (pde.extractLsb' 12 20) (la.extractLsb' 12 10) =
    BitVec.ofNat 32 (pde.toNat / 4096 * 4096 + la.toNat / 4096 % 1024 * 4) := by
  apply BitVec.eq_of_toNat_eq
  rw [toNat_entryAddr]
  simp only [BitVec.extractLsb'_toNat, BitVec.toNat_ofNat, Nat.shiftRight_eq_div_pow]
  omega

/-- The low byte of an entry is the byte at its address. -/
theorem setWidth_load (m : Memory) (a : Word) :
    (BitVec.ofNat 32 (Memory.load m (addrs a 4))).setWidth 8 = Memory.read m a.toNat := by
  apply BitVec.eq_of_toNat_eq
  simp only [BitVec.toNat_setWidth, BitVec.toNat_ofNat, addrs, Memory.load]
  omega

theorem or_bits_of_and {a b c : Byte} (h : a &&& b = b) (hc : b &&& c = c) : a ||| c = a := by
  rw [← hc, ← h]
  ext i hi
  simp
  grind

/-- Setting bits of an entry: they are set at its address, and no other byte changes. An entry that has them all is left. -/
theorem run_setEntryBits {s : State} (wf : Memory.wf s.mem = true) {a entry : Word} {bits : Byte}
    (unset : entry.setWidth 8 &&& bits = bits → Memory.read s.mem a.toNat = entry.setWidth 8) :
    ∃ t, setEntryBits a entry bits s = .ok () t ∧ t = { s with mem := t.mem, ins := { s.ins with sysLog := t.ins.sysLog } } ∧
      Memory.wf t.mem = true ∧
      ∀ x, Memory.read t.mem x = if x = a.toNat then entry.setWidth 8 ||| bits else Memory.read s.mem x := by
  by_cases h : entry.setWidth 8 &&& bits = bits
  · refine ⟨s, ?_, rfl, wf, fun x => ?_⟩
    · simp [setEntryBits, h]
    · split
      · next here => rw [here, unset h, or_bits_of_and h (BitVec.and_self)]
      · rfl
  · refine ⟨{ s with
      mem := Memory.write s.mem a.toNat (entry.setWidth 8 ||| bits),
      ins := { s.ins with sysLog := s.ins.sysLog ++ [(a.toNat, entry.setWidth 8 ||| bits)] } }, ?_, rfl,
    Memory.wf_write wf a.isLt _,
      fun x => Memory.read_write wf _ _ _⟩
    simp only [setEntryBits, h, ne_eq, not_false_eq_true, decide_true, run_onlyIf, if_true]
    rfl

/-! ### The walk -/

theorem rightsOk_iff (u w write user : Bool) :
    rightsOk u w write user = true ↔ user = false ∨ (u = true ∧ (write = true → w = true)) := by
  revert u w write user
  decide

theorem raisePF_eq {α : Type} (present write user : Bool) (la : Word) (s : State) :
    (raisePF present write user la : M α) s = .error (.exc (pageFault present write user la) false) s := by
  cases present <;> cases write <;> cases user <;> rfl

/-- What a walk sets in the table entry. -/
theorem entryBits_and (write : Bool) : (if write then 0x60 else 0x20 : Byte) &&& 0x20 = 0x20 := by cases write <;> rfl

/-- Settles O11: the walk goes by the presence of its entries and by the rights; each entry's bits are set at its address. -/
theorem pageWalk : Obligations.PageWalk := by
  unfold Obligations.PageWalk
  intro s la write user wf pdeAddr pde pteAddr pte allowed
  have directory : entryAddr (s.cr3.extractLsb' 12 20) (la.extractLsb' 22 10) = pdeAddr := entryAddr_directory _ _
  have table : entryAddr (pde.extractLsb' 12 20) (la.extractLsb' 12 10) = pteAddr := entryAddr_table _ _
  have pdeRead : BitVec.ofNat 32 (Memory.load s.mem (addrs pdeAddr 4)) = pde := rfl
  have pteRead : BitVec.ofNat 32 (Memory.load s.mem (addrs pteAddr 4)) = pte := rfl
  have pdeLow : pde.setWidth 8 = Memory.read s.mem pdeAddr.toNat := setWidth_load _ _
  have pteLow : pte.setWidth 8 = Memory.read s.mem pteAddr.toNat := setWidth_load _ _
  have rights : rightsOk (pde.getLsbD 2 && pte.getLsbD 2) (pde.getLsbD 1 && pte.getLsbD 1) write user = true ↔ allowed := by
    rw [rightsOk_iff, Bool.and_eq_true, Bool.and_eq_true, and_assoc]
  obtain ⟨t1, set1, same1, wf1, read1⟩ := run_setEntryBits (bits := 0x20) wf fun _ => pdeLow.symm
  have pteStill : pte.setWidth 8 &&& (if write then 0x60 else 0x20) = (if write then 0x60 else 0x20) →
      Memory.read t1.mem pteAddr.toNat = pte.setWidth 8 := by
    intro full
    rw [read1]
    split
    · next same => rw [pdeLow, ← same, ← pteLow, or_bits_of_and full (entryBits_and write)]
    · exact pteLow.symm
  obtain ⟨t2, set2, same2, -, read2⟩ := run_setEntryBits wf1 pteStill
  refine ⟨fun absent => ?_, fun present absent => ?_, fun present presentTable refused => ?_,
    fun present presentTable granted => ?_⟩
  · unfold walk
    simp only [run_bind, run_getS, directory, run_loadAt, pdeRead, run_check, absent, raisePF_eq]
    rfl
  · refine ⟨t1, ?_, same1, fun x => by rw [read1, pdeLow]; grind⟩
    unfold walk
    simp only [run_bind, run_getS, directory, run_loadAt, pdeRead, run_check, present, if_true, table, pteRead, absent,
      Bool.false_eq_true, if_false, set1]
    rw [raisePF_eq]
  · unfold walk
    simp only [run_bind, run_getS, directory, run_loadAt, pdeRead, run_check, present, if_true, table, pteRead, presentTable,
      rights, refused, if_false, raisePF_eq]
  · let entry : TlbEntry := {
      page := la.extractLsb' 12 20, frame := pte.extractLsb' 12 20, user := pde.getLsbD 2 && pte.getLsbD 2,
      writable := pde.getLsbD 1 && pte.getLsbD 1, dirty := write || pte.getLsbD 6 }
    refine ⟨{ t2 with tlb := entry :: t2.tlb.filter fun x => x.page != entry.page }, ?_, ?_, fun x => ?_, rfl⟩
    · unfold walk
      simp only [run_bind, run_getS, directory, run_loadAt, pdeRead, run_check, present, if_true, table, pteRead,
        presentTable, rights, granted, set1, set2]
      rfl
    · rw [same2, same1]
    · rw [read2, read1, pdeLow, pteLow]
      grind

end Sys2Proof.Machine
end

section
/-!
PROOFS. What an operation keeps of the machine, whether it completes or stops: the invariant of memory and the registers that
only system instructions, deliveries and task switches change. The relations, and how they pass through a sequence.
-/

namespace Sys2Proof.Machine

open Claims

variable {α β : Type}

/-! ### Relations between the state before and the state after -/

/-- A relation that an operation which does nothing gives, and that two operations in a row pass on. -/
structure StateRel where
  rel : State → State → Prop
  refl : ∀ s, rel s s
  trans : ∀ {s t u}, rel s t → rel t u → rel s u

/-- Wherever the operation ends from a state, completed or stopped, the relation holds. -/
def EndsAt (R : StateRel) (x : M α) (s : State) : Prop :=
  match x s with
  | .ok _ t => R.rel s t
  | .error _ t => R.rel s t

/-- From every state the operation ends as the relation says. -/
def Ends (R : StateRel) (x : M α) : Prop := ∀ s, EndsAt R x s

variable {R S : StateRel}

theorem EndsAt.ok {x : M α} {s t : State} (h : EndsAt R x s) {a : α} (e : x s = .ok a t) : R.rel s t := by
  unfold EndsAt at h
  rwa [e] at h

theorem EndsAt.error {x : M α} {s t : State} (h : EndsAt R x s) {e : Stop} (he : x s = .error e t) : R.rel s t := by
  unfold EndsAt at h
  rwa [he] at h

theorem Ends.ok {x : M α} (h : Ends R x) {s t : State} {a : α} (e : x s = .ok a t) : R.rel s t := (h s).ok e

theorem Ends.error {x : M α} (h : Ends R x) {s t : State} {e : Stop} (he : x s = .error e t) : R.rel s t := (h s).error he

/-- An operation that stops where it began. -/
theorem EndsAt.of_error {x : M α} {e : Stop} {s : State} (h : x s = .error e s) : EndsAt R x s := by
  unfold EndsAt
  rw [h]
  exact R.refl s

theorem EndsAt.mono {x : M α} {s : State} (h : EndsAt R x s) (le : ∀ t, R.rel s t → S.rel s t) : EndsAt S x s := by
  unfold EndsAt at *
  revert h
  cases x s <;> exact le _

/-- After a completed operation the rest needs the relation only from the states it can be in. -/
theorem EndsAt.bind {x : M α} {f : α → M β} {s : State} (hx : EndsAt R x s)
    (hf : ∀ a t, x s = .ok a t → EndsAt R (f a) t) : EndsAt R (x >>= f) s := by
  unfold EndsAt at *
  rw [run_bind]
  cases e : x s with
  | error e t =>
    rw [e] at hx
    exact hx
  | ok a t =>
    rw [e] at hx
    have g := hf a t e
    revert g
    dsimp only
    cases f a t <;> exact R.trans hx

theorem Ends.mono (le : ∀ s t, R.rel s t → S.rel s t) {x : M α} (h : Ends R x) : Ends S x :=
  fun s => (h s).mono (le s)

theorem Ends.pure (a : α) : Ends R (Pure.pure a : M α) := R.refl
theorem Ends.getS : Ends R getS := R.refl
theorem Ends.getFlags : Ends R getFlags := R.refl
theorem Ends.skip : Ends R skip := R.refl
theorem Ends.stop (e : Stop) : Ends R (stop e : M α) := R.refl

/-- What comes after a completed operation needs the relation only for what that operation can answer. -/
theorem Ends.bind_of {x : M α} {f : α → M β} (hx : Ends R x) (hf : ∀ s t a, x s = .ok a t → Ends R (f a)) :
    Ends R (x >>= f) := fun s => (hx s).bind fun a t e => hf s t a e t

theorem Ends.bind {x : M α} {f : α → M β} (hx : Ends R x) (hf : ∀ a, Ends R (f a)) : Ends R (x >>= f) :=
  .bind_of hx fun _ _ a _ => hf a

theorem Ends.ite {c : Prop} [Decidable c] {x y : M α} (hx : Ends R x) (hy : Ends R y) : Ends R (if c then x else y) := by
  split
  · exact hx
  · exact hy

theorem Ends.check {c : Bool} {e : M Unit} (h : Ends R e) : Ends R (check c e) := .ite .skip h

theorem Ends.onlyIf {c : Bool} {x : M Unit} (h : Ends R x) : Ends R (onlyIf c x) := .ite h .skip

theorem Ends.forEach {l : List α} {x : α → M Unit} (h : ∀ a, Ends R (x a)) : Ends R (forEach l x) := by
  induction l with
  | nil => exact .skip
  | cons a l ih => exact .bind (h a) fun _ => ih

theorem Ends.inNewTask {x : M α} (h : Ends R x) : Ends R (inNewTask x) := by
  intro s
  have := h s
  unfold EndsAt Machine.inNewTask at *
  revert this
  rcases x s with ⟨a, t⟩ | ⟨e, t⟩
  · exact id
  · cases e <;> exact id

theorem Ends.atSize {f : Width → M Unit} (h : ∀ w, Ends R (f w)) : Ends R (atSize f) := fun s => h _ s
theorem Ends.atOpSize {f : Size → M Unit} (h : ∀ o, Ends R (f o)) : Ends R (atOpSize f) := fun s => h _ s

/-! ### Exceptions -/

theorem Ends.raise (e : Exn) : Ends R (raise e : M α) := .stop _
theorem Ends.raiseDE : Ends R (raiseDE : M α) := .stop _
theorem Ends.raiseBR : Ends R (raiseBR : M α) := .stop _
theorem Ends.raiseUD : Ends R (raiseUD : M α) := .stop _
theorem Ends.raiseNM : Ends R (raiseNM : M α) := .stop _
theorem Ends.raiseMF : Ends R (raiseMF : M α) := .stop _
theorem Ends.raiseTS (ec : Half) : Ends R (raiseTS ec : M α) := .stop _
theorem Ends.raiseNP (ec : Half) : Ends R (raiseNP ec : M α) := .stop _
theorem Ends.raiseSS (ec : Half) : Ends R (raiseSS ec : M α) := .stop _
theorem Ends.raiseGP (ec : Half) : Ends R (raiseGP ec : M α) := .stop _
theorem Ends.raisePF (present write user : Bool) (la : Word) : Ends R (raisePF present write user la : M α) := .stop _
theorem Ends.raiseDeadSS (dead : List Word) (ec : Half) : Ends R (raiseDeadSS dead ec : M α) := .stop _
theorem Ends.raisePush (n : Nat) (ec : Half) : Ends R (raisePush n ec : M α) := R.refl
theorem Ends.raiseLimit (r : SReg) : Ends R (raiseLimit r : M α) := .ite (.raiseSS _) (.raiseGP _)

/-! ### Operations that keep the system registers and modes -/

/-- The registers that no ordinary operation writes. -/
def State.system (s : State) :
    Config × Cr0 × Bool × BitVec 2 × Word × TableReg × TableReg × SysReg × SysReg × Word × Word × Word × Word :=
  (s.cfg, s.cr0, s.flags.vm, s.cpl, s.cr3, s.gdtr, s.idtr, s.ldtr, s.tr, s.dbg.dr0, s.dbg.dr1, s.dbg.dr2, s.dbg.dr3)

/-- The invariant of memory is kept, and the system registers are as they were. -/
def steady : StateRel where
  rel s t := (memoryInv s = true → memoryInv t = true) ∧ t.system = s.system
  refl _ := ⟨id, rfl⟩
  trans h g := ⟨g.1 ∘ h.1, g.2.trans h.2⟩

/-- The operation ends with the system registers as they were. -/
abbrev Steady (x : M α) : Prop := Ends steady x

theorem Ends.upd {f : State → State} (h : ∀ s, R.rel s (f s)) : Ends R (upd f) := h

theorem Ends.updFlags {f : Flags → Flags} (h : ∀ g, (f g).vm = g.vm) : Steady (updFlags f) :=
  fun s => ⟨id, by simp only [State.system, h]⟩

/-- A state with another log of bytes keeps the invariant when they have addresses of 32 bits. -/
theorem memoryInv_log {s t : State} (h : memoryInv s = true) (mem : t.mem = s.mem) (log : logWf t.ins.sysLog = true) :
    memoryInv t = true := by
  obtain ⟨wf, -⟩ := Bool.and_eq_true_iff.mp h
  exact Bool.and_eq_true_iff.mpr ⟨mem ▸ wf, log⟩

theorem Ends.storeAt (as : List Word) (v : Nat) : Steady (storeAt as v) := by
  refine .upd fun s => ⟨fun h => ?_, rfl⟩
  obtain ⟨wf, log⟩ := Bool.and_eq_true_iff.mp h
  exact Bool.and_eq_true_iff.mpr ⟨Memory.wf_store wf as v, log⟩

theorem Ends.sysStoreByte (a : Word) (v : Byte) : Steady (sysStoreByte a v) := by
  refine .upd fun s => ⟨fun h => ?_, rfl⟩
  obtain ⟨wf, log⟩ := Bool.and_eq_true_iff.mp h
  have added : logWf (s.ins.sysLog ++ [(a.toNat, v)]) = true := by
    unfold logWf at *
    rw [List.all_append, log, List.all_cons, decide_eq_true a.isLt]
    rfl
  exact Bool.and_eq_true_iff.mpr ⟨Memory.wf_write wf a.isLt v, added⟩

end Sys2Proof.Machine
end

section
/-!
PROOFS. The operations of the machine that keep the system registers and the form of memory: registers, memory, the stack,
descriptors, task images, and the parts of deliveries and returns.
-/

namespace Sys2Proof.Machine

open Claims

variable {α β : Type} {R : StateRel}

theorem Ends.drawBit : Steady drawBit := fun _ => ⟨id, rfl⟩
theorem Ends.drawWord : Steady drawWord := fun _ => ⟨id, rfl⟩
theorem Ends.drawExt : Steady drawExt := fun _ => ⟨id, rfl⟩
theorem Ends.reg (r : Reg) : Steady (reg r) := fun _ => ⟨id, rfl⟩
theorem Ends.setReg (r : Reg) (v : Word) : Steady (setReg r v) := .upd fun _ => ⟨id, rfl⟩
theorem Ends.setReg16 (r : Reg) (v : Half) : Steady (setReg16 r v) := .upd fun _ => ⟨id, rfl⟩
theorem Ends.setReg8 (r : Reg8) (v : Byte) : Steady (setReg8 r v) := .upd fun _ => ⟨id, rfl⟩
theorem Ends.regV (o : Size) (r : Reg) : Steady (regV o r) := fun _ => ⟨id, rfl⟩
theorem Ends.setRegV (o : Size) (r : Reg) (v : Word) : Steady (setRegV o r v) := .upd fun _ => ⟨id, rfl⟩
theorem Ends.setSeg (r : SReg) (v : SegReg) : Steady (setSeg r v) := .upd fun _ => ⟨id, rfl⟩
theorem Ends.setSp (v : Word) : Steady (setSp v) := .upd fun _ => ⟨id, rfl⟩
theorem Ends.flushTlb : Steady flushTlb := .upd fun _ => ⟨id, rfl⟩
theorem Ends.setEip (v : Word) : Steady (setEip v) := .upd fun _ => ⟨id, rfl⟩
theorem Ends.loadAt (as : List Word) : Steady (loadAt as) := fun _ => ⟨id, rfl⟩
theorem Ends.keepTlb (e : TlbEntry) : Steady (keepTlb e) := .upd fun _ => ⟨id, rfl⟩

theorem Ends.setEntryBits (a : Word) (entry : Word) (bits : Byte) : Steady (setEntryBits a entry bits) :=
  .onlyIf (.sysStoreByte _ _)

theorem Ends.walk (la : Word) (write user : Bool) : Steady (walk la write user) :=
  .bind .getS fun _ => .bind (.loadAt _) fun _ => .bind (.check (.raisePF _ _ _ _)) fun _ =>
    .bind (.loadAt _) fun _ => .ite (.bind (.check (.raisePF _ _ _ _)) fun _ => .bind (.setEntryBits _ _ _) fun _ =>
    .bind (.setEntryBits _ _ _) fun _ => .bind (.keepTlb _) fun _ => .pure _) (.bind (.setEntryBits _ _ _) fun _ =>
    .raisePF _ _ _ _)

theorem Ends.tlbKeeps : Steady tlbKeeps := fun _ => ⟨id, rfl⟩

theorem Ends.frameOf (la : Word) (write user : Bool) : Steady (frameOf la write user) := by
  refine .bind .getS fun s => ?_
  split
  · exact .walk _ _ _
  · exact .bind .tlbKeeps fun _ => .ite (.bind (.check (.raisePF _ _ _ _)) fun _ => .pure _) (.walk _ _ _)

theorem Ends.physPaged (write user : Bool) (n : Nat) (la : Word) (known : Option (BitVec 20 × BitVec 20)) :
    Steady (physPaged write user n la known) := by
  induction n generalizing la known with
  | zero => exact .pure _
  | succ n ih =>
    have rest : ∀ f : BitVec 20, Steady (do
        let rest ← Machine.physPaged write user n (la + 1) (some (la.extractLsb' 12 20, f))
        Pure.pure ((f ++ la.extractLsb' 0 12) :: rest)) := fun f => .bind (ih _ _) fun _ => .pure _
    cases known with
    | none => exact .bind (.frameOf _ _ _) rest
    | some k => exact .ite (.bind (.pure _) rest) (.bind (.frameOf _ _ _) rest)

theorem Ends.physOf (la : Word) (n : Nat) (write user : Bool) : Steady (physOf la n write user) :=
  .bind .getS fun _ => .ite (.physPaged _ _ _ _ _) (.pure _)

theorem Ends.linRead (la : Word) (n : Nat) : Steady (linRead la n) := .bind (.physOf _ _ _ _) fun _ => .loadAt _

theorem Ends.linWrite (la : Word) (n : Nat) (v : Nat) : Steady (linWrite la n v) :=
  .bind (.physOf _ _ _ _) fun _ => .storeAt _ _

theorem Ends.linWriteSysByte (la : Word) (v : Byte) : Steady (linWriteSysByte la v) :=
  .bind (.physOf _ _ _ _) fun _ => .forEach fun _ => .sysStoreByte _ _

theorem Ends.noteAccess (la : Word) (n : Nat) (write : Bool) : Steady (noteAccess la n write) := by
  refine .upd fun s => ?_
  split
  · exact ⟨id, rfl⟩
  · exact steady.refl s

theorem Ends.checkSeg (r : SReg) (off : Word) (n : Nat) (write : Bool) : Steady (checkSeg r off n write) :=
  .bind .getS fun _ => .bind (.onlyIf (.bind (.check (.raiseGP _)) fun _ => .check (.raiseGP _))) fun _ =>
    .check (.raiseLimit _)

theorem Ends.access (r : SReg) (off : Word) (n : Nat) (write : Bool) : Steady (access r off n write) :=
  .bind (.checkSeg _ _ _ _) fun _ => .bind .getS fun _ => .bind (.physOf _ _ _ _) fun _ =>
    .bind (.noteAccess _ _ _) fun _ => .pure _

theorem Ends.memRead (r : SReg) (off : Word) (n : Nat) : Steady (memRead r off n) :=
  .bind (.access _ _ _ _) fun _ => .loadAt _

theorem Ends.memWrite (r : SReg) (off : Word) (n : Nat) (v : Nat) : Steady (memWrite r off n v) :=
  .bind (.access _ _ _ _) fun _ => .storeAt _ _

theorem Ends.stackAccess (g : SegReg) (off : Word) (n : Nat) (write user : Bool) (ec : Half) :
    Steady (stackAccess g off n write user ec) :=
  .bind (.check (.raiseSS _)) fun _ => .bind (.physOf _ _ _ _) fun _ => .bind (.noteAccess _ _ _) fun _ => .pure _

theorem Ends.roomFor (g : SegReg) (sp : Word) (n : Nat) (ec : Half) (k : Nat) : Ends R (roomFor g sp n ec k) := by
  induction k with
  | zero => exact .skip
  | succ k ih => exact .bind ih fun _ => .check (.raisePush _ _)

theorem Ends.pushSlot (g : SegReg) (sp : Word) (n : Nat) (user : Bool) (ec : Half) (k : Nat) :
    Steady (pushSlot g sp n user ec k) :=
  .stackAccess _ _ _ _ _ _

theorem Ends.pushSlots (g : SegReg) (sp : Word) (n : Nat) (user : Bool) (ec : Half) (k : Nat) :
    Steady (pushSlots g sp n user ec k) := by
  induction k with
  | zero => exact .pure _
  | succ k ih => exact .bind ih fun _ => .bind (.pushSlot _ _ _ _ _ _) fun _ => .pure _

theorem Ends.storeSlots (slots : List (List Word)) (vs : List Nat) : Steady (storeSlots slots vs) := by
  induction slots generalizing vs with
  | nil => exact .skip
  | cons as slots ih =>
    cases vs with
    | nil => exact .skip
    | cons v vs => exact .bind (.storeAt _ _) fun _ => ih _

theorem Ends.pushOn (g : SegReg) (sp : Word) (user : Bool) (ec : Half) (n : Nat) (vs : List Nat) :
    Steady (pushOn g sp user ec n vs) :=
  .bind (.roomFor _ _ _ _ _) fun _ => .bind (.pushSlots _ _ _ _ _ _) fun _ => .storeSlots _ _

theorem Ends.pushAll (n : Nat) (vs : List Nat) : Steady (pushAll n vs) :=
  .bind .getS fun _ => .bind (.pushOn _ _ _ _ _ _) fun _ => .setSp _

theorem Ends.push (o : Size) (v : Word) : Steady (push o v) := .pushAll _ _

theorem Ends.peek (k n : Nat) : Steady (peek k n) :=
  .bind .getS fun _ => .bind (.stackAccess _ _ _ _ _ _) fun _ => .loadAt _

theorem Ends.popBytes (n : Nat) : Steady (popBytes n) := .bind .getS fun _ => .setSp _
theorem Ends.pop (o : Size) : Steady (pop o) := .bind (.peek _ _) fun _ => .bind (.popBytes _) fun _ => .pure _

theorem Ends.readDesc (sel : Half) {outside : M Desc} (h : Steady outside) : Steady (readDesc sel outside) := by
  refine .bind .getS fun s => ?_
  split
  · exact h
  · exact .bind (.linRead _ _) fun _ => .pure _

theorem Ends.writeAccess (sel : Half) (v : Byte) : Steady (writeAccess sel v) := by
  refine .bind .getS fun s => ?_
  split
  · exact .skip
  · exact .linWriteSysByte _ _

theorem Ends.setAccessed (sel : Half) (d : Desc) : Steady (setAccessed sel d) := .onlyIf (.writeAccess _ _)
theorem Ends.setBusy (sel : Half) (d : Desc) : Steady (setBusy sel d) := .writeAccess _ _

theorem Ends.clearBusy (sel : Half) : Steady (clearBusy sel) := by
  refine .bind .getS fun s => ?_
  split
  · exact .skip
  · exact .bind (.linRead _ _) fun _ => .linWriteSysByte _ _

theorem Ends.loadSeg (r : SReg) (sel : Half) (d : Desc) : Steady (loadSeg r sel d) :=
  .bind (.setAccessed _ _) fun _ => .setSeg _ _

theorem Ends.loadCsReal (sel : Half) : Steady (loadCsReal sel) := .upd fun _ => ⟨id, rfl⟩

theorem Ends.loadDataProt {bad : LoadFail} (h : ∀ ec, Steady (bad ec)) (ext : Half) (r : SReg) (sel : Half) :
    Steady (loadDataProt bad ext r sel) :=
  .ite (.upd fun _ => ⟨id, rfl⟩) (.bind (.readDesc _ (h _)) fun _ => .bind .getS fun _ =>
    .bind (.check (.bind (h _) fun _ => .skip)) fun _ => .bind (.check (.bind (h _) fun _ => .skip)) fun _ =>
    .bind (.check (.raiseNP _)) fun _ => .loadSeg _ _ _)

theorem Ends.loadDataSeg (r : SReg) (sel : Half) : Steady (loadDataSeg r sel) :=
  .bind .getS fun _ => .ite (.loadDataProt (fun _ => .raiseGP _) _ _ _) (.setSeg _ _)

theorem Ends.checkStackSeg {bad : LoadFail} (h : ∀ ec, Steady (bad ec)) (ext : Half) (sel : Half) (n : BitVec 2) :
    Steady (checkStackSeg bad ext sel n) :=
  .bind (.readDesc _ (h _)) fun _ => .bind (.check (.bind (h _) fun _ => .skip)) fun _ =>
    .bind (.check (.raiseSS _)) fun _ => .pure _

theorem Ends.loadSs (sel : Half) : Steady (loadSs sel) :=
  .bind .getS fun _ => .ite (.bind (.check (.raiseGP _)) fun _ => .bind (.checkStackSeg (fun _ => .raiseGP _) _ _ _) fun _ =>
    .loadSeg _ _ _) (.setSeg _ _)

theorem Ends.loadSreg (r : SReg) (sel : Half) : Steady (loadSreg r sel) := .ite (.loadSs _) (.loadDataSeg _ _)
theorem Ends.loadCs (sel : Half) (d : Desc) (cpl : BitVec 2) : Steady (loadCs sel d cpl) := .loadSeg _ _ _
theorem Ends.dropDataSegs (cpl : BitVec 2) : Steady (dropDataSegs cpl) := .upd fun _ => ⟨id, rfl⟩
theorem Ends.checkTarget (limit off : Word) (ec : Half) : Steady (checkTarget limit off ec) := .check (.raiseGP _)

theorem Ends.tssStack (n : BitVec 2) (ext : Half) : Steady (tssStack n ext) :=
  .bind .getS fun _ => .ite (.bind (.check (.raiseTS _)) fun _ => .bind (.linRead _ _) fun _ =>
    .bind (.linRead _ _) fun _ => .pure _) (.bind (.check (.raiseTS _)) fun _ => .bind (.linRead _ _) fun _ =>
    .bind (.linRead _ _) fun _ => .pure _)

theorem Ends.loadField (as : List Word) (off n : Nat) : Steady (loadField as off n) := .loadAt _

theorem Ends.loadField32 (as : List Word) (off : Nat) : Steady (loadField32 as off) :=
  .bind (.loadField _ _ _) fun _ => .pure _

theorem Ends.loadField16 (as : List Word) (off : Nat) : Steady (loadField16 as off) :=
  .bind (.loadField _ _ _) fun _ => .pure _

theorem Ends.storeFields (as : List Word) (start n : Nat) (l : List (Nat × Nat)) :
    Steady (storeFields as start n l) :=
  .forEach fun _ => .storeAt _ _

theorem Ends.saveTask (wide : Bool) (as : List Word) (ret : FarPtr) (flags : Word) :
    Steady (saveTask wide as ret flags) :=
  .bind .getS fun _ => .ite (.bind (.storeFields _ _ _ _) fun _ => .storeFields _ _ _ _) (.storeFields _ _ _ _)

theorem Ends.loadReg16 (as : List Word) (off : Nat) : Steady (loadReg16 as off) :=
  .bind (.loadField16 _ _) fun _ => .bind .drawWord fun _ => .pure _

theorem Ends.readTask (wide : Bool) (as : List Word) : Steady (readTask wide as) :=
  .ite (.bind (.loadField32 _ _) fun _ => .bind (.loadField32 _ _) fun _ => .bind (.loadField32 _ _) fun _ =>
    .bind (.loadField32 _ _) fun _ => .bind (.loadField32 _ _) fun _ => .bind (.loadField32 _ _) fun _ =>
    .bind (.loadField32 _ _) fun _ => .bind (.loadField32 _ _) fun _ => .bind (.loadField32 _ _) fun _ =>
    .bind (.loadField32 _ _) fun _ => .bind (.loadField32 _ _) fun _ => .bind (.loadField16 _ _) fun _ =>
    .bind (.loadField16 _ _) fun _ => .bind (.loadField16 _ _) fun _ => .bind (.loadField16 _ _) fun _ =>
    .bind (.loadField16 _ _) fun _ => .bind (.loadField16 _ _) fun _ => .bind (.loadField16 _ _) fun _ =>
    .bind (.loadField16 _ _) fun _ => .pure _) (.bind (.loadField16 _ _) fun _ => .bind (.loadField16 _ _) fun _ =>
    .bind (.loadReg16 _ _) fun _ => .bind (.loadReg16 _ _) fun _ => .bind (.loadReg16 _ _) fun _ =>
    .bind (.loadReg16 _ _) fun _ => .bind (.loadReg16 _ _) fun _ => .bind (.loadReg16 _ _) fun _ =>
    .bind (.loadReg16 _ _) fun _ => .bind (.loadReg16 _ _) fun _ => .bind (.loadField16 _ _) fun _ =>
    .bind (.loadField16 _ _) fun _ => .bind (.loadField16 _ _) fun _ => .bind (.loadField16 _ _) fun _ =>
    .bind (.loadField16 _ _) fun _ => .pure _)

theorem Ends.loadTaskCs (ext sel : Half) : Steady (loadTaskCs ext sel) :=
  .bind (.check (.raiseTS _)) fun _ => .bind (.readDesc _ (.raiseTS _)) fun _ => .bind
    (.check (.raiseTS _)) fun _ => .bind (.check (.raiseTS _)) fun _ => .bind (.check (.raiseNP _)) fun _ =>
    .loadSeg _ _ _

theorem Ends.loadTaskSs (ext sel : Half) : Steady (loadTaskSs ext sel) :=
  .bind (.check (.raiseTS _)) fun _ => .bind .getS fun _ => .bind (.checkStackSeg (fun _ => .raiseTS _) _ _ _) fun _ =>
    .loadSeg _ _ _

theorem Ends.readTss (tsel : Half) (types : List (BitVec 4)) (ext : Half) : Steady (readTss tsel types ext) :=
  .bind (.check (.raiseGP _)) fun _ => .bind (.check (.raiseGP _)) fun _ =>
    .bind (.readDesc _ (.raiseGP _)) fun _ => .bind (.check (.raiseGP _)) fun _ => .bind
    (.check (.raiseNP _)) fun _ => .pure _

theorem Ends.deliverReal (d : Delivery) : Steady (deliverReal d) :=
  .bind .getS fun _ => .bind (.check (.raiseGP _)) fun _ => .bind (.roomFor _ _ _ _ _) fun _ =>
    .bind (.linRead _ _) fun _ => .bind (.linRead _ _) fun _ => .bind (.pushAll _ _) fun _ =>
    .bind (.updFlags fun _ => rfl) fun _ => .bind (.loadCsReal _) fun _ => .setEip _

theorem Ends.innerStack (n : BitVec 2) (ext : Half) (rplFirst : Bool) : Steady (innerStack n ext rplFirst) :=
  .bind (.tssStack _ _) fun _ => .bind (.check (.raiseTS _)) fun _ => .bind (.check (.raiseTS _)) fun _ =>
    .bind (.checkStackSeg (fun _ => .raiseTS _) _ _ _) fun _ => .pure _

theorem Ends.takeStack (ss : Half) (sd : Desc) (esp : Word) : Steady (takeStack ss sd esp) :=
  .bind (.loadSeg _ _ _) fun _ => .upd fun _ => ⟨id, rfl⟩

theorem Ends.checkSlots (n : Nat) (ks : List Nat) : Steady (checkSlots n ks) := by
  induction ks with
  | nil => exact .skip
  | cons k ks ih => exact .bind .getS fun _ => .bind (.check (.raiseSS _)) fun _ => ih

theorem Ends.checkSpan (k n : Nat) : Steady (checkSpan k n) := .bind .getS fun _ => .check (.raiseSS _)
theorem Ends.slotV (o : Size) (k : Nat) : Steady (slotV o k) := .bind (.peek _ _) fun _ => .pure _
theorem Ends.slotSel (o : Size) (k : Nat) : Steady (slotSel o k) := .bind (.slotV _ _) fun _ => .pure _

theorem Ends.checkReturnCs (sel : Half) : Steady (checkReturnCs sel) :=
  .bind (.check (.raiseGP _)) fun _ => .bind (.readDesc _ (.raiseGP _)) fun _ => .bind .getS fun _ => .bind
    (.check (.raiseGP _)) fun _ => .bind (.check (.raiseGP _)) fun _ => .bind (.check (.raiseGP _)) fun _ => .bind
    (.check (.raiseNP _)) fun _ => .pure _

theorem Ends.checkOuterSs (ssel : Half) (rpl : BitVec 2) : Steady (checkOuterSs ssel rpl) :=
  .bind (.check (.raiseGP _)) fun _ => .checkStackSeg (fun _ => .raiseGP _) _ _ _

theorem Ends.markRf (o : Size) : Steady (markRf o) := .upd fun _ => ⟨id, rfl⟩

/-- IRET in real-address and virtual-8086 mode leaves VM. -/
theorem Flags.vm_ite (c : Bool) (g w : Flags) (o : Size) : (if c then g.iretV86 w o else g.iretReal w o).vm = g.vm := by
  cases c <;> rfl

theorem Ends.iretReal (o : Size) : Steady (iretReal o) :=
  .bind .getS fun _ => .bind (.check (.raiseGP _)) fun _ => .bind (.checkSlots _ _) fun _ => .bind (.slotV _ _) fun _ =>
    .bind (.slotSel _ _) fun _ => .bind (.slotV _ _) fun _ => .bind (.checkTarget _ _ _) fun _ => .bind (.popBytes _) fun _ =>
    .bind (.setEip _) fun _ => .bind (.loadCsReal _) fun _ => .bind (.updFlags fun _ => Flags.vm_ite _ _ _ _) fun _ =>
    .markRf _

end Sys2Proof.Machine
end

section
/-!
PROOFS. The integer instructions that keep the system registers and the form of memory.
-/

namespace Sys2Proof.Machine

open Claims

variable {α β : Type} {R : StateRel}

theorem Ends.flagsAfterMul (big : Bool) : Steady (flagsAfterMul big) :=
  .bind .drawBit fun _ => .bind .drawBit fun _ => .bind .drawBit fun _ => .bind .drawBit fun _ =>
    .updFlags fun _ => rfl

theorem Ends.drawAllFlags : Steady drawAllFlags :=
  .bind .drawBit fun _ => .bind .drawBit fun _ => .bind .drawBit fun _ => .bind .drawBit fun _ =>
    .bind .drawBit fun _ => .bind .drawBit fun _ => .updFlags fun _ => rfl

theorem Ends.accessMem (m : MemOp) (n : Nat) (write : Bool) : Steady (accessMem m n write) :=
  .bind .getS fun _ => .access _ _ _ _

theorem Ends.readMem (m : MemOp) (n : Nat) : Steady (readMem m n) := .bind (.accessMem _ _ _) fun _ => .loadAt _

theorem Ends.writeMem (m : MemOp) (n : Nat) (v : Nat) : Steady (writeMem m n v) :=
  .bind (.accessMem _ _ _) fun _ => .storeAt _ _

theorem Ends.readOp (w : Width) (d : Opnd) : Steady (readOp w d) := by
  cases d with
  | reg8 r => exact .bind .getS fun _ => .pure _
  | reg r => exact .bind .getS fun _ => .pure _
  | mem m => exact .bind (.readMem _ _) fun _ => .pure _
  | imm v => exact .pure _

theorem Ends.writeReg (w : Width) (r : Reg) (v : BitVec w.bits) : Steady (writeReg w r v) := by
  cases w <;> exact .upd fun _ => ⟨id, rfl⟩

theorem Ends.writeOp (w : Width) (d : Opnd) (v : BitVec w.bits) : Steady (writeOp w d v) := by
  cases d with
  | reg8 r => exact .setReg8 _ _
  | reg r => exact .writeReg _ _ _
  | mem m => exact .writeMem _ _ _
  | imm v => exact .skip

theorem Ends.modify (w : Width) (d : Opnd) {f : BitVec w.bits → M (Option (BitVec w.bits))} (h : ∀ a, Steady (f a)) :
    Steady (modify w d f) := by
  have write : ∀ {k : BitVec w.bits → M Unit}, (∀ v, Steady (k v)) → ∀ r : Option (BitVec w.bits),
      Steady (match r with | some r => k r | none => Machine.skip) := by
    intro k hk r
    cases r with
    | some r => exact hk r
    | none => exact .skip
  cases d with
  | mem m => exact .bind (.accessMem _ _ _) fun _ => .bind (.loadAt _) fun _ => .bind (h _) (write fun _ => .storeAt _ _)
  | reg8 r => exact .bind (.readOp _ _) fun _ => .bind (h _) (write fun _ => .writeOp _ _ _)
  | reg r => exact .bind (.readOp _ _) fun _ => .bind (h _) (write fun _ => .writeOp _ _ _)
  | imm v => exact .bind (.readOp _ _) fun _ => .bind (h _) (write fun _ => .writeOp _ _ _)

theorem Ends.drawAf (op : AluOp) : Steady (drawAf op) := .ite .drawBit (.pure _)

/-- The arithmetic flags leave VM. -/
theorem aluFlags_vm {n : Nat} (op : AluOp) (f : Flags) (a b : BitVec n) (u : Bool) : (aluFlags op f a b u).vm = f.vm := by
  cases op <;> rfl

theorem Ends.alu (op : AluOp) (w : Width) (d s : Opnd) : Steady (alu op w d s) :=
  .bind (.readOp _ _) fun _ => .ite (.bind (.readOp _ _) fun _ => .updFlags fun _ => rfl) (.modify _ _ fun _ =>
    .bind .getFlags fun _ => .bind (.drawAf _) fun _ => .bind (.updFlags fun _ => aluFlags_vm _ _ _ _ _) fun _ => .pure _)

theorem Ends.test (w : Width) (d s : Opnd) : Steady (test w d s) :=
  .bind (.readOp _ _) fun _ => .bind (.readOp _ _) fun _ => .bind .drawBit fun _ => .updFlags fun _ => rfl

theorem Ends.inc (w : Width) (d : Opnd) : Steady (inc w d) :=
  .modify _ _ (fun _ => .bind (.updFlags fun _ => rfl) fun _ => .pure _)

theorem Ends.dec (w : Width) (d : Opnd) : Steady (dec w d) :=
  .modify _ _ (fun _ => .bind (.updFlags fun _ => rfl) fun _ => .pure _)

theorem Ends.neg (w : Width) (d : Opnd) : Steady (neg w d) :=
  .modify _ _ (fun _ => .bind (.updFlags fun _ => rfl) fun _ => .pure _)

theorem Ends.not (w : Width) (d : Opnd) : Steady (not w d) := .modify _ _ (fun _ => .pure _)

theorem Ends.setPair (w : Width) (p : Nat) : Steady (setPair w p) := by
  cases w with
  | w8 => exact .setReg16 _ _
  | w16 => exact .bind (.setReg16 _ _) fun _ => .setReg16 _ _
  | w32 => exact .bind (.setReg _ _) fun _ => .setReg _ _

theorem Ends.getPair (w : Width) : Steady (getPair w) := by
  cases w <;> exact .bind .getS fun _ => .pure _

theorem Ends.mul (w : Width) (src : Opnd) : Steady (mul w src) :=
  .bind (.readOp _ _) fun _ => .bind (.readOp _ _) fun _ => .bind (.setPair _ _) fun _ => .flagsAfterMul _

theorem Ends.imul1 (w : Width) (src : Opnd) : Steady (imul1 w src) :=
  .bind (.readOp _ _) fun _ => .bind (.readOp _ _) fun _ => .bind (.setPair _ _) fun _ => .flagsAfterMul _

theorem Ends.imulTo (w : Width) (r : Reg) (x y : Opnd) : Steady (imulTo w r x y) :=
  .bind (.readOp _ _) fun _ => .bind (.readOp _ _) fun _ => .bind (.writeReg _ _ _) fun _ => .flagsAfterMul _

theorem Ends.setQuotient (w : Width) (q r : Nat) : Steady (setQuotient w q r) := by
  cases w with
  | w8 => exact .bind (.setReg8 _ _) fun _ => .setReg8 _ _
  | w16 => exact .bind (.setReg16 _ _) fun _ => .setReg16 _ _
  | w32 => exact .bind (.setReg _ _) fun _ => .setReg _ _

theorem Ends.div (w : Width) (src : Opnd) : Steady (div w src) :=
  .bind (.readOp _ _) fun _ => .bind (.getPair _) fun _ => .bind (.check .raiseDE) fun _ => .bind
    (.check .raiseDE) fun _ => .bind (.setQuotient _ _ _) fun _ => .drawAllFlags

theorem Ends.idiv (w : Width) (src : Opnd) : Steady (idiv w src) :=
  .bind (.readOp _ _) fun _ => .bind (.getPair _) fun _ => .bind (.check .raiseDE) fun _ => .bind
    (.check .raiseDE) fun _ => .bind (.setQuotient _ _ _) fun _ => .drawAllFlags

theorem Ends.cbw (o : Size) : Steady (cbw o) := by
  cases o with
  | s16 => exact .bind .getS fun _ => .setReg16 _ _
  | s32 => exact .bind .getS fun _ => .setReg _ _

theorem Ends.cwd (o : Size) : Steady (cwd o) := by
  cases o with
  | s16 => exact .bind .getS fun _ => .setReg16 _ _
  | s32 => exact .bind .getS fun _ => .setReg _ _

theorem Ends.flagsAfterAscii (c : Bool) : Steady (flagsAfterAscii c) :=
  .bind .drawBit fun _ => .bind .drawBit fun _ => .bind .drawBit fun _ => .bind .drawBit fun _ =>
    .updFlags fun _ => rfl

theorem Ends.maskAl : Steady maskAl := .upd fun _ => ⟨id, rfl⟩

theorem Ends.doAaa : Steady doAaa :=
  .bind .getS fun _ => .bind (.onlyIf (.setReg16 _ _)) fun _ => .bind (.flagsAfterAscii _) fun _ => .maskAl

theorem Ends.doAas : Steady doAas :=
  .bind .getS fun _ => .bind (.onlyIf (.bind (.setReg16 _ _) fun _ => .upd fun _ => ⟨id, rfl⟩)) fun _ =>
    .bind (.flagsAfterAscii _) fun _ => .maskAl

theorem Ends.flagsAfterAam (r : Byte) : Steady (flagsAfterAam r) :=
  .bind .drawBit fun _ => .bind .drawBit fun _ => .bind .drawBit fun _ => .updFlags fun _ => rfl

theorem Ends.doAam (base : Byte) : Steady (doAam base) :=
  .bind (.check .raiseDE) fun _ => .bind .getS fun _ => .bind (.setReg8 _ _) fun _ =>
    .bind (.setReg8 _ _) fun _ => .flagsAfterAam _

theorem Ends.doAad (base : Byte) : Steady (doAad base) :=
  .bind .getS fun _ => .bind (.setReg8 _ _) fun _ => .bind (.setReg8 _ _) fun _ => .flagsAfterAam _

theorem Ends.flagsAfterDecimal (al : Byte) (cf af : Bool) : Steady (flagsAfterDecimal al cf af) :=
  .bind .drawBit fun _ => .updFlags fun _ => rfl

theorem Ends.doDaa : Steady doDaa := .bind .getS fun _ => .bind (.setReg8 _ _) fun _ => .flagsAfterDecimal _ _ _
theorem Ends.doDas : Steady doDas := .bind .getS fun _ => .bind (.setReg8 _ _) fun _ => .flagsAfterDecimal _ _ _

theorem Ends.nearTarget (o : Size) (t : Word) : Steady (nearTarget o t) :=
  .bind .getS fun _ => .bind (.checkTarget _ _ _) fun _ => .setEip _

theorem Ends.jumpRel (rel : Word) : Steady (jumpRel rel) := .bind .getS fun _ => .nearTarget _ _

theorem Ends.jumpOpnd (d : Opnd) : Steady (jumpOpnd d) :=
  .atOpSize fun _ => .bind (.readOp _ _) fun _ => .nearTarget _ _

theorem Ends.jumpIf (c : Cond) (rel : Word) : Steady (jumpIf c rel) := .bind .getS fun _ => .onlyIf (.jumpRel _)
theorem Ends.jumpIfNoCount (rel : Word) : Steady (jumpIfNoCount rel) := .bind .getS fun _ => .onlyIf (.jumpRel _)

theorem Ends.loopWhile (want : Option Bool) (rel : Word) : Steady (loopWhile want rel) :=
  .bind .getS fun _ => .bind (.setRegV _ _ _) fun _ => .bind .getS fun _ => .onlyIf (.jumpRel _)

theorem Ends.callNear (o : Size) (t : Word) : Steady (callNear o t) :=
  .bind .getS fun _ => .bind (.checkTarget _ _ _) fun _ => .bind (.push _ _) fun _ => .setEip _

theorem Ends.callRelative (rel : Word) : Steady (callRelative rel) := .bind .getS fun _ => .callNear _ _

theorem Ends.callOpnd (d : Opnd) : Steady (callOpnd d) :=
  .atOpSize fun _ => .bind (.readOp _ _) fun _ => .callNear _ _

theorem Ends.returnNear (imm : Half) : Steady (returnNear imm) :=
  .atOpSize fun _ => .bind (.pop _) fun _ => .bind (.nearTarget _ _) fun _ => .popBytes _

theorem Ends.stackRead (off : Word) (n : Nat) : Steady (stackRead off n) :=
  .bind .getS fun _ => .bind (.stackAccess _ _ _ _ _ _) fun _ => .loadAt _

theorem Ends.copyDisplay (o : Size) (n : Nat) : Steady (copyDisplay o n) := by
  induction n with
  | zero => exact .skip
  | succ n ih =>
    exact .bind .getS fun _ => .bind (.setRegV _ _ _) fun _ => .bind .getS fun _ => .bind (.stackRead _ _) fun _ =>
      .bind (.push _ _) fun _ => ih

theorem Ends.probeStack (n : Nat) : Steady (probeStack n) :=
  .bind .getS fun _ => .bind (.check (.raiseSS _)) fun _ => .bind (.physOf _ _ _ _) fun _ => .pure _

theorem Ends.enterFrame (o : Size) (size : Half) (level : BitVec 8) : Steady (enterFrame o size level) :=
  .bind .getS fun _ => .bind (.push _ _) fun _ => .bind (.regV _ _) fun _ => .bind (.copyDisplay _ _) fun _ =>
    .bind (.onlyIf (.push _ _)) fun _ => .bind (.setRegV _ _ _) fun _ => .bind (.regV _ _) fun _ =>
    .bind (.setRegV _ _ _) fun _ => .probeStack _

theorem Ends.leaveFrame (o : Size) : Steady (leaveFrame o) :=
  .bind .getS fun _ => .bind (.setSp _) fun _ => .bind (.pop _) fun _ => .setRegV _ _ _

theorem Ends.bound (w : Width) (r : Reg) (m : MemOp) : Steady (bound w r m) :=
  .bind (.readMem _ _) fun _ => .bind (.readOp _ _) fun _ => .check .raiseBR

theorem Ends.halt : Steady halt := .bind .getS fun _ => .bind (.check (.raiseGP _)) fun _ => .upd fun _ => ⟨id, rfl⟩
theorem Ends.move (w : Width) (d s : Opnd) : Steady (move w d s) := .bind (.readOp _ _) fun _ => .writeOp _ _ _

theorem Ends.loadMoffs (w : Width) (off : Word) : Steady (loadMoffs w off) :=
  .bind .getS fun _ => .bind (.memRead _ _ _) fun _ => .writeOp _ _ _

theorem Ends.storeMoffs (w : Width) (off : Word) : Steady (storeMoffs w off) :=
  .bind .getS fun _ => .bind (.readOp _ _) fun _ => .memWrite _ _ _ _

theorem Ends.storeHalf (o : Size) (d : RM) (v : Half) : Steady (storeHalf o d v) := by
  cases d with
  | mem m => exact .writeMem _ _ _
  | reg r =>
    cases o with
    | s16 => exact .setReg16 _ _
    | s32 => exact .bind .drawWord fun _ => .setReg _ _

theorem Ends.moveFromSreg (o : Size) (d : RM) (r : SReg) : Steady (moveFromSreg o d r) :=
  .bind .getS fun _ => .storeHalf _ _ _

theorem Ends.shadowSs (r : SReg) : Steady (shadowSs r) := .onlyIf (.upd fun _ => ⟨id, rfl⟩)

theorem Ends.moveToSreg (r : SReg) (src : RM) : Steady (moveToSreg r src) :=
  .bind (.check .raiseUD) fun _ => .bind (.readOp _ _) fun _ => .bind (.loadSreg _ _) fun _ => .shadowSs _

theorem Ends.moveExtend (signed : Bool) (narrow wide : Width) (r : Reg) (src : Opnd) :
    Steady (moveExtend signed narrow wide r src) :=
  .bind (.readOp _ _) fun _ => .writeReg _ _ _

theorem Ends.exchange (w : Width) (d s : Opnd) : Steady (exchange w d s) :=
  .modify _ _ fun _ => .bind (.readOp _ _) fun _ => .bind (.writeOp _ _ _) fun _ => .pure _

theorem Ends.lea (w : Width) (r : Reg) (m : MemOp) : Steady (lea w r m) := .bind .getS fun _ => .writeReg _ _ _
theorem Ends.doXlat : Steady doXlat := .bind .getS fun _ => .bind (.memRead _ _ _) fun _ => .setReg8 _ _
theorem Ends.pushOpnd (o : Size) (src : Opnd) : Steady (pushOpnd o src) := .bind (.readOp _ _) fun _ => .push _ _

theorem Ends.pushSreg (o : Size) (r : SReg) : Steady (pushSreg o r) :=
  .bind .getS fun _ => .ite (.bind (.roomFor _ _ _ _ _) fun _ => .bind (.stackAccess _ _ _ _ _ _) fun _ =>
    .bind (.storeAt _ _) fun _ => .setSp _) (.push _ _)

theorem Ends.popOpnd (o : Size) (d : Opnd) : Steady (popOpnd o d) := by
  have write : ∀ (s : State) (v : Word) (carry : Bool), Steady (do
      let t ← Machine.getS
      Machine.onlyIf carry (Machine.upd fun u =>
        { u with regs := u.regs.set .esp (s.regs.esp + BitVec.ofNat 32 (sizeBytes o)) })
      Machine.writeOp (widthOf o) d (v.setWidth (widthOf o).bits)
      Machine.onlyIf carry (Machine.upd fun u => { u with regs := t.regs })) := fun s v carry =>
    .bind .getS fun _ => .bind (.onlyIf (.upd fun _ => ⟨id, rfl⟩)) fun _ => .bind (.writeOp _ _ _) fun _ =>
      .onlyIf (.upd fun _ => ⟨id, rfl⟩)
  refine .bind .getS fun s => .bind (.pop _) fun v => ?_
  exact .ite (.bind .drawBit (write s v)) (.bind (.pure _) (write s v))

theorem Ends.popSreg (o : Size) (r : SReg) : Steady (popSreg o r) :=
  .bind (.peek _ _) fun _ => .bind (.loadSreg _ _) fun _ => .bind (.popBytes _) fun _ => .shadowSs _

theorem Ends.doPusha (o : Size) : Steady (doPusha o) :=
  .bind .getS fun _ => .bind (.check (.raiseGP _)) fun _ => .bind (.check (.raiseDeadSS _ _)) fun _ =>
    .pushAll _ _

theorem Ends.doPopa (o : Size) : Steady (doPopa o) :=
  .bind .getS fun _ => .bind (.check (.raiseSS _)) fun _ => .bind (.peek _ _) fun _ => .bind (.peek _ _) fun _ =>
    .bind (.peek _ _) fun _ => .bind (.peek _ _) fun _ => .bind (.peek _ _) fun _ => .bind (.peek _ _) fun _ =>
    .bind (.peek _ _) fun _ => .bind (.peek _ _) fun _ => .bind (.popBytes _) fun _ => .forEach fun _ =>
    .setRegV _ _ _

theorem Ends.doPushf (o : Size) : Steady (doPushf o) :=
  .bind .getS fun _ => .bind (.check (.raiseGP _)) fun _ => .push _ _

theorem Ends.doPopf (o : Size) : Steady (doPopf o) :=
  .bind .getS fun _ => .bind (.check (.raiseGP _)) fun _ => .bind (.pop _) fun _ => .updFlags fun _ => rfl

theorem Ends.doLahf : Steady doLahf := .bind .getS fun _ => .setReg8 _ _
theorem Ends.doSahf : Steady doSahf := .bind .getS fun _ => .updFlags fun _ => rfl

theorem Ends.loadFar (w : Width) (r : Reg) (g : SReg) (m : MemOp) : Steady (loadFar w r g m) :=
  .bind (.readMem _ _) fun _ => .bind (.loadSreg _ _) fun _ => .writeReg _ _ _

theorem Ends.readFarPtr (o : Size) (m : MemOp) : Steady (readFarPtr o m) := .bind (.readMem _ _) fun _ => .pure _
theorem Ends.pushFarReturn (n : Nat) : Steady (pushFarReturn n) := .bind .getS fun _ => .pushAll _ _
theorem Ends.roomForReturn (n : Nat) : Steady (roomForReturn n) := .bind .getS fun _ => .roomFor _ _ _ _ _

theorem Ends.farReal (k : FarKind) (o : Size) (sel : Half) (off : Word) : Steady (farReal k o sel off) :=
  .bind .getS fun _ => .bind (.onlyIf (.bind (.roomForReturn _) fun _ => .check (.raiseGP _))) fun _ => .bind
    (.checkTarget _ _ _) fun _ => .bind (.onlyIf (.pushFarReturn _)) fun _ => .bind (.loadCsReal _) fun _ =>
    .setEip _

theorem Ends.farCode (k : FarKind) (o : Size) (sel : Half) (off : Word) (d : Desc) : Steady (farCode k o sel off d) :=
  .bind .getS fun _ => .bind (.check (.raiseGP _)) fun _ => .bind (.check (.raiseNP _)) fun _ => .bind
    (.onlyIf (.roomForReturn _)) fun _ => .bind (.checkTarget _ _ _) fun _ => .bind
    (.onlyIf (.pushFarReturn _)) fun _ => .bind (.loadCs _ _ _) fun _ => .setEip _

theorem Ends.checkGate (gsel : Half) (gate : Desc) : Steady (checkGate gsel gate) :=
  .bind .getS fun _ => .bind (.check (.raiseGP _)) fun _ => .check (.raiseNP _)

theorem Ends.gateTarget (gate : Desc) (ok : Desc → Bool) : Steady (gateTarget gate ok) :=
  .bind (.check (.raiseGP _)) fun _ => .bind (.readDesc _ (.raiseGP _)) fun _ => .bind (.check (.raiseGP _)) fun _ =>
    .bind (.check (.raiseNP _)) fun _ => .pure _

theorem Ends.jumpGate (gsel : Half) (gate : Desc) : Steady (jumpGate gsel gate) :=
  .bind (.checkGate _ _) fun _ => .bind .getS fun _ => .bind (.gateTarget _ _) fun _ => .bind
    (.checkTarget _ _ _) fun _ => .bind (.loadCs _ _ _) fun _ => .setEip _

theorem Ends.callGateSame (gate cd : Desc) : Steady (callGateSame gate cd) :=
  .bind .getS fun _ => .bind (.roomForReturn _) fun _ => .bind (.checkTarget _ _ _) fun _ =>
    .bind (.pushFarReturn _) fun _ => .bind (.loadCs _ _ _) fun _ => .setEip _

theorem Ends.paramSlots (g : SegReg) (sp : Word) (n : Nat) (ec : Half) (c k : Nat) :
    Steady (paramSlots g sp n ec c k) := by
  induction c generalizing k with
  | zero => exact .pure _
  | succ c ih =>
    exact .bind .getS fun _ => .bind (.stackAccess _ _ _ _ _ _) fun _ => .bind (.pushSlot _ _ _ _ _ _) fun _ =>
      .bind (ih _) fun _ => .pure _

theorem Ends.copyParams (l : List (List Word × List Word)) : Steady (copyParams l) :=
  .forEach fun _ => .bind (.loadAt _) fun _ => .storeAt _ _

theorem Ends.returnFarReal (o : Size) (imm : Nat) : Steady (returnFarReal o imm) :=
  .bind .getS fun _ => .bind (.checkSlots _ _) fun _ => .bind (.slotV _ _) fun _ => .bind (.slotSel _ _) fun _ =>
    .bind (.checkTarget _ _ _) fun _ => .bind (.popBytes _) fun _ => .bind (.setEip _) fun _ =>
    .bind (.loadCsReal _) fun _ => .popBytes _

theorem Ends.returnFarSame (o : Size) (imm : Nat) (sel : Half) (cd : Desc) : Steady (returnFarSame o imm sel cd) :=
  .bind (.slotV _ _) fun _ => .bind (.checkTarget _ _ _) fun _ => .bind (.popBytes _) fun _ =>
    .bind (.setEip _) fun _ => .bind (.loadSeg _ _ _) fun _ => .popBytes _

theorem Ends.ifOne (m : Nat) (b : Bool) : Steady (ifOne m b) := .ite (.pure _) .drawBit

theorem Ends.flagsAfterShift {n : Nat} (r : BitVec n) (cf of : Bool) : Steady (flagsAfterShift r cf of) :=
  .bind .drawBit fun _ => .updFlags fun _ => rfl

theorem Ends.flagsAfterRotate (cf of : Bool) : Steady (flagsAfterRotate cf of) := .updFlags fun _ => rfl

theorem Ends.shiftBits {n : Nat} (op : ShiftOp) (a : BitVec n) (m : Nat) : Steady (shiftBits op a m) := by
  have rotate : ∀ (x : M Bool), Steady x → ∀ (cf : Bool) (r : BitVec n), Steady (do
      let of ← x
      Machine.flagsAfterRotate cf of
      Pure.pure r) := fun x hx cf r => .bind hx fun _ => .bind (.flagsAfterRotate _ _) fun _ => .pure _
  have shift : ∀ (r : BitVec n) (of cf : Bool), Steady (do
      let of ← Machine.ifOne m of
      Machine.flagsAfterShift r cf of
      Pure.pure r) := fun r of cf => .bind (.ifOne _ _) fun _ => .bind (.flagsAfterShift _ _ _) fun _ => .pure _
  refine .bind .getS fun s => ?_
  cases op with
  | rol => exact rotate _ (.ifOne _ _) _ _
  | ror => exact rotate _ (.ifOne _ _) _ _
  | rcl => exact rotate _ (.ifOne _ _) _ _
  | rcr => exact rotate _ (.ifOne _ _) _ _
  | shl => exact .ite (.bind (.pure _) fun cf => shift _ (_ ^^ cf) cf) (.bind .drawBit fun cf => shift _ (_ ^^ cf) cf)
  | shr => exact .ite (.bind (.pure _) (shift _ _)) (.bind .drawBit (shift _ _))
  | sar => exact shift _ _ _

theorem Ends.shift (op : ShiftOp) (w : Width) (d : Opnd) (count : Byte) : Steady (shift op w d count) :=
  .modify _ _ (fun _ => .ite (.pure _) (.bind (.shiftBits _ _ _) fun _ => .pure _))

theorem Ends.withCl {f : Byte → M Unit} (h : ∀ c, Ends R (f c)) : Ends R (withCl f) := fun s => h _ s

theorem Ends.doubleShift (left : Bool) (w : Width) (d : Opnd) (src : Reg) (count : Byte) :
    Steady (doubleShift left w d src count) :=
  .bind (.readOp _ _) fun _ => .modify _ _ fun _ => .ite (.pure _)
    (.ite (.bind .drawWord fun _ => .bind .drawAllFlags fun _ => .pure _)
      (.bind (.ifOne _ _) fun _ => .bind (.flagsAfterShift _ _ _) fun _ => .pure _))

theorem Ends.flagsAfterBit (b : Bool) : Steady (flagsAfterBit b) :=
  .bind .drawBit fun _ => .bind .drawBit fun _ => .bind .drawBit fun _ => .bind .drawBit fun _ =>
    .updFlags fun _ => rfl

theorem Ends.bitInMem (op : BitOp) (w : Width) (seg : SReg) (off : Word) (i : Nat) :
    Steady (bitInMem op w seg off i) :=
  .bind (.access _ _ _ _) fun _ => .bind (.loadAt _) fun _ => .bind (.onlyIf (.storeAt _ _)) fun _ =>
    .flagsAfterBit _

theorem Ends.bitInReg (op : BitOp) (w : Width) (r : Reg) (i : Nat) : Steady (bitInReg op w r i) :=
  .bind (.readOp _ _) fun _ => .bind (.onlyIf (.writeReg _ _ _)) fun _ => .flagsAfterBit _

theorem Ends.bitByReg (op : BitOp) (w : Width) (d : RM) (r : Reg) : Steady (bitByReg op w d r) := by
  refine .bind (.readOp _ _) fun _ => ?_
  cases d with
  | reg q => exact .bitInReg _ _ _ _
  | mem m => exact .bind .getS fun _ => .bitInMem _ _ _ _ _

theorem Ends.bitByImm (op : BitOp) (w : Width) (d : RM) (i : Byte) : Steady (bitByImm op w d i) := by
  cases d with
  | reg q => exact .bitInReg _ _ _ _
  | mem m => exact .bind .getS fun _ => .bitInMem _ _ _ _ _

theorem Ends.flagsAfterScan (zf : Bool) : Steady (flagsAfterScan zf) :=
  .bind .drawAllFlags fun _ => .updFlags fun _ => rfl

theorem Ends.scan (up : Bool) (w : Width) (r : Reg) (src : Opnd) : Steady (scan up w r src) :=
  .bind (.readOp _ _) fun _ => .ite (.bind .drawWord fun _ => .bind (.writeReg _ _ _) fun _ => .flagsAfterScan _)
    (.bind (.writeReg _ _ _) fun _ => .flagsAfterScan _)

theorem Ends.setcc (c : Cond) (d : Opnd) : Steady (setcc c d) := .bind .getFlags fun _ => .writeOp _ _ _
theorem Ends.ioRead (port : Half) (n : Nat) : Steady (ioRead port n) := fun _ => ⟨id, rfl⟩
theorem Ends.ioWrite (port : Half) (n : Nat) (v : Word) : Steady (ioWrite port n v) := .upd fun _ => ⟨id, rfl⟩

theorem Ends.checkIoMap (port : Half) (n : Nat) : Steady (checkIoMap port n) :=
  .bind .getS fun _ => .bind (.check (.raiseGP _)) fun _ => .bind (.linRead _ _) fun _ => .bind
    (.check (.raiseGP _)) fun _ => .bind (.linRead _ _) fun _ => .check (.raiseGP _)

theorem Ends.ioAllowed (port : Half) (n : Nat) : Steady (ioAllowed port n) :=
  .bind .getS fun _ => .onlyIf (.checkIoMap _ _)

theorem Ends.portIn (w : Width) (port : Half) : Steady (portIn w port) :=
  .bind (.ioAllowed _ _) fun _ => .bind (.ioRead _ _) fun _ => .writeOp _ _ _

theorem Ends.portOut (w : Width) (port : Half) : Steady (portOut w port) :=
  .bind (.ioAllowed _ _) fun _ => .bind (.readOp _ _) fun _ => .ioWrite _ _ _

theorem Ends.withDx {f : Half → M Unit} (h : ∀ c, Ends R (f c)) : Ends R (withDx f) := fun s => h _ s
theorem Ends.advance (w : Width) (r : Reg) : Steady (advance w r) := .bind .getS fun _ => .setRegV _ _ _

theorem Ends.readSource (w : Width) : Steady (readSource w) :=
  .bind .getS fun _ => .bind (.memRead _ _ _) fun _ => .pure _

theorem Ends.readDest (w : Width) : Steady (readDest w) :=
  .bind .getS fun _ => .bind (.memRead _ _ _) fun _ => .pure _

theorem Ends.writeDest (w : Width) (v : BitVec w.bits) : Steady (writeDest w v) :=
  .bind .getS fun _ => .memWrite _ _ _ _

theorem Ends.movs (w : Width) : Steady (movs w) :=
  .bind (.readSource _) fun _ => .bind (.writeDest _ _) fun _ => .bind (.advance _ _) fun _ => .advance _ _

theorem Ends.cmps (w : Width) : Steady (cmps w) :=
  .bind (.readSource _) fun _ => .bind (.readDest _) fun _ => .bind (.updFlags fun _ => rfl) fun _ =>
    .bind (.advance _ _) fun _ => .advance _ _

theorem Ends.scas (w : Width) : Steady (scas w) :=
  .bind (.readOp _ _) fun _ => .bind (.readDest _) fun _ => .bind (.updFlags fun _ => rfl) fun _ => .advance _ _

theorem Ends.lods (w : Width) : Steady (lods w) :=
  .bind (.readSource _) fun _ => .bind (.writeOp _ _ _) fun _ => .advance _ _

theorem Ends.stos (w : Width) : Steady (stos w) :=
  .bind (.readOp _ _) fun _ => .bind (.writeDest _ _) fun _ => .advance _ _

theorem Ends.insElement (w : Width) : Steady (insElement w) :=
  .withDx fun _ => .bind (.ioAllowed _ _) fun _ => .bind .getS fun _ => .bind (.access _ _ _ _) fun _ =>
    .bind (.ioRead _ _) fun _ => .bind (.storeAt _ _) fun _ => .advance _ _

theorem Ends.outsElement (w : Width) : Steady (outsElement w) :=
  .withDx fun _ => .bind (.ioAllowed _ _) fun _ => .bind (.readSource _) fun _ => .bind (.ioWrite _ _ _) fun _ =>
    .advance _ _

theorem Ends.repeated (cmp : Bool) {element : M Unit} (h : Steady element) : Steady (repeated cmp element) := by
  refine .bind .getS fun s => ?_
  split
  · exact h
  · exact .ite .skip (.bind h fun _ => .bind .getS fun _ => .bind (.setRegV _ _ _) fun _ =>
      .onlyIf (.upd fun _ => ⟨id, rfl⟩))

theorem Ends.protectedOnly : Steady protectedOnly := .bind .getS fun _ => .check .raiseUD
theorem Ends.privileged : Steady privileged := .bind .getS fun _ => .check (.raiseGP _)
theorem Ends.readTableReg (o : Size) (m : MemOp) : Steady (readTableReg o m) := .bind (.readMem _ _) fun _ => .pure _

theorem Ends.storeTable (t : State → TableReg) (m : MemOp) : Steady (storeTable t m) :=
  .bind .getS fun _ => .writeMem _ _ _

theorem Ends.storeLdt (d : RM) : Steady (storeLdt d) :=
  .atOpSize fun _ => .bind .protectedOnly fun _ => .bind .getS fun _ => .storeHalf _ _ _

theorem Ends.storeTask (d : RM) : Steady (storeTask d) := by
  refine .atOpSize fun _ => .bind .protectedOnly fun _ => .bind .getS fun _ => ?_
  cases d with
  | mem m => exact .writeMem _ _ _
  | reg r => exact .setRegV _ _ _

theorem Ends.storeMsw (d : RM) : Steady (storeMsw d) := .atOpSize fun _ => .bind .getS fun _ => .storeHalf _ _ _

theorem Ends.moveFromCr (r : Reg) (c : CReg) : Steady (moveFromCr r c) :=
  .bind .privileged fun _ => .bind .getS fun _ => .bind (.setReg _ _) fun _ => .drawAllFlags

theorem Ends.debugAccess : Steady debugAccess := .bind .privileged fun _ => .bind .getS fun _ => .check (.raise _)

theorem Ends.moveFromDr (r : Reg) (n : BitVec 3) : Steady (moveFromDr r n) :=
  .bind .debugAccess fun _ => .bind .getS fun _ => .ite (.bind .drawWord fun _ => .bind (.setReg _ _) fun _ =>
    .drawAllFlags) (.ite (.bind (.setReg _ _) fun _ => .drawAllFlags) (.bind (.setReg _ _) fun _ => .drawAllFlags))

theorem Ends.visibleDesc (sel : Half) : Steady (visibleDesc sel) := by
  refine .bind .getS fun s => ?_
  split
  · exact .pure _
  · exact .bind (.linRead _ _) fun _ => .pure _

theorem Ends.setZf (z : Bool) : Steady (setZf z) := .updFlags fun _ => rfl

theorem Ends.describe (w : Width) (r : Reg) (src : RM) (types : List (BitVec 4)) (value : Desc → Word) :
    Steady (describe w r src types value) := by
  refine .bind .protectedOnly fun _ => .bind (.readOp _ _) fun _ => .bind (.visibleDesc _) fun _ => ?_
  split
  · exact .setZf _
  · exact .bind (.writeReg _ _ _) fun _ => .setZf _

theorem Ends.verify (ok : Desc → Bool) (src : RM) : Steady (verify ok src) :=
  .bind .protectedOnly fun _ => .bind (.readOp _ _) fun _ => .bind (.visibleDesc _) fun _ => .setZf _

theorem Ends.adjustRpl (d : RM) (r : Reg) : Steady (adjustRpl d r) :=
  .bind .protectedOnly fun _ => .bind .getS fun _ => .modify _ _ fun _ => .bind (.setZf _) fun _ => .pure _

theorem Ends.ioplOk : Steady ioplOk := .bind .getS fun _ => .check (.raiseGP _)
theorem Ends.clearIf : Steady clearIf := .bind .ioplOk fun _ => .updFlags fun _ => rfl
theorem Ends.setIf : Steady setIf := .bind .ioplOk fun _ => .upd fun _ => ⟨id, rfl⟩

end Sys2Proof.Machine
end

section
/-!
PROOFS. The escape instructions: those without memory operand complete and change only the coprocessor once they have begun,
and all keep the system registers and the form of memory.
-/

namespace Sys2Proof.Machine

open Claims

variable {α β : Type} {R : StateRel}

/-! ### Bodies that complete and change only the coprocessor -/

theorem FpuOnly.ite {c : Prop} [Decidable c] {x y : M α} (hx : FpuOnly x) (hy : FpuOnly y) :
    FpuOnly (if c then x else y) := by
  split
  · exact hx
  · exact hy

theorem FpuOnly.drawAllCodes : FpuOnly drawAllCodes := .bind .drawCodes fun _ => .bind .drawBit fun _ => .setC1 _

theorem FpuOnly.arith (op : FOp) (i : BitVec 3) (s : Option FVal) (pops : Bool) : FpuOnly (arith op i s pops) := by
  refine .bind .drawCodes fun _ => .bind (.stOperand _) fun d => ?_
  cases d with
  | none => exact .bind (.underflowTo _) fun _ => .popIf _
  | some d =>
    cases s with
    | none => exact .bind (.underflowTo _) fun _ => .popIf _
    | some s =>
      exact .bind .precision fun _ => .bind .roundingControl fun _ => .bind (.deliverCalc _ _ _ _) fun _ => .popIf _

theorem FpuOnly.noQuotient (c : Calc) : FpuOnly (noQuotient c) :=
  .bind (.deliver0 _ _ _) fun _ => .bind .drawBit fun _ => .setC1 _

theorem FpuOnly.setQuotientCodes (q : Nat) : FpuOnly (setQuotientCodes q) := .updFsw _

theorem FpuOnly.replaceAndPush (x y : Ext) : FpuOnly (replaceAndPush x y) := .bind (.setSt _ _) fun _ => .updFpu _

theorem FpuOnly.extracting {f : FVal → M Unit} (h : ∀ v, FpuOnly (f v)) : FpuOnly (extracting f) := by
  refine .bind .getFpu fun p => .bind (.stOperand _) fun v => ?_
  cases v with
  | none => exact .bind (.stackFault _) fun _ => .onlyIf _ (.replaceAndPush _ _)
  | some v => exact .ite (h v) (.bind (.stackFault _) fun _ => .onlyIf _ (.replaceAndPush _ _))

theorem FpuOnly.popTimes (n : Nat) : FpuOnly (popTimes n) := by
  induction n with
  | zero => exact .skip
  | succ n ih => exact .bind .fpuPop fun _ => ih

theorem FpuOnly.unordered {m : M Bool} (h : FpuOnly m) (pops : Nat) : FpuOnly (unordered m pops) :=
  .bind h fun _ => .onlyIf _ (.bind (.setCodes _ _ _) fun _ => .popTimes _)

theorem FpuOnly.compareWith (quiet : Bool) (b : Option FVal) (pops : Nat) : FpuOnly (compareWith quiet b pops) := by
  refine .bind (.setC1 _) fun _ => .bind (.stOperand _) fun a => ?_
  cases a with
  | none => exact .unordered (.stackFault _) _
  | some a =>
    cases b with
    | none => exact .unordered (.stackFault _) _
    | some b =>
      dsimp only
      split
      · exact .unordered (.ite (.pure _) .invalid) _
      · exact .unordered .invalid _
      · refine .bind (.denormalIf _) fun _ => ?_
        split <;> exact .bind (.setCodes _ _ _) fun _ => .popTimes _

theorem FpuOnly.exchangeRegs (i : BitVec 3) : FpuOnly (exchangeRegs i) :=
  .bind .getFpu fun _ => .ite (.bind (.stackFault _) fun _ => .onlyIf _ (.updFpu _)) (.updFpu _)

theorem FpuOnly.invalidPair (ia : Bool) (x y : Ext) : FpuOnly (invalidPair ia x y) := by
  cases ia
  · exact .bind (.pure true) fun _ => .onlyIf _ (.replaceAndPush _ _)
  · exact .bind .invalid fun _ => .onlyIf _ (.replaceAndPush _ _)

theorem FpuOnly.ifMasked {m : M Bool} (h : FpuOnly m) (v : Nat) : FpuOnly (ifMasked m v) := .bind h fun _ => .pure _

theorem FpuOnly.numImage (f : Fmt) (n : Machine.Num) : FpuOnly (numImage f n) :=
  .bind .roundingControl fun _ => .ite
    (.bind (.masked _) fun _ => .bind (.updFsw _) fun _ => .bind (.onlyIf _ (.inexactIf _ _)) fun _ => .pure _)
    (.ite (.bind (.masked _) fun _ => .bind (.onlyIf _ (.updFsw _)) fun _ => .bind (.onlyIf _ (.inexactIf _ _)) fun _ =>
      .pure _) (.bind (.inexactIf _ _) fun _ => .pure _))

theorem FpuOnly.realImage (f : Fmt) (v : Option FVal) : FpuOnly (realImage f v) := by
  cases v with
  | none => exact .ifMasked (.stackFault _) _
  | some v =>
    unfold Machine.realImage
    dsimp only
    split
    · exact .pure _
    · exact .pure _
    · exact .pure _
    · exact .ifMasked .invalid _
    · exact .ifMasked .invalid _
    · exact .numImage _ _
    · exact .numImage _ _

theorem FpuOnly.intImage (n : Nat) (v : Option FVal) : FpuOnly (intImage n v) := by
  cases v with
  | none => exact .ifMasked (.stackFault _) _
  | some v =>
    exact .bind .roundingControl fun _ => .ite (.ifMasked .invalid _) (.ite (.ifMasked .invalid _)
      (.bind (.inexactIf _ _) fun _ => .pure _))

theorem FpuOnly.bcdImage (v : Option FVal) : FpuOnly (bcdImage v) := by
  cases v with
  | none => exact .ifMasked (.stackFault _) _
  | some v =>
    exact .bind .roundingControl fun _ => .ite (.ifMasked .invalid _) (.bind (.inexactIf _ _) fun _ => .pure _)

theorem FpuOnly.farParts (p : FpuPtr) : FpuOnly (farParts p) := by
  cases p with
  | far sel off => exact .pure _
  | linear a => exact .bind .drawWord fun _ => .bind .drawWord fun _ => .pure _

theorem FpuOnly.padded (v : Nat) : FpuOnly (padded v) := .bind .drawWord fun _ => .pure _

theorem FpuOnly.envImage (k : ImageFmt) : FpuOnly (envImage k) :=
  .bind .getFpu fun _ => .ite
    (.bind (.farParts _) fun _ => .bind (.farParts _) fun _ => .ite
      (.bind (.padded _) fun _ => .bind (.padded _) fun _ => .bind (.padded _) fun _ => .bind (.padded _) fun _ => .pure _)
      (.pure _))
    (.ite
      (.bind (.padded _) fun _ => .bind (.padded _) fun _ => .bind (.padded _) fun _ => .bind (.padded _) fun _ =>
        .bind (.padded _) fun _ => .pure _)
      (.pure _))

/-! ### Numeric instructions without memory operand -/

/-- A numeric instruction whose body completes and changes only the coprocessor. -/
def NumericOnly (x : M Unit) : Prop := ∃ body, x = numeric body ∧ FpuOnly body

theorem NumericOnly.numeric {body : M Unit} (h : FpuOnly body) : NumericOnly (numeric body) := ⟨body, rfl, h⟩

/-- Where an escape instruction may begin, such an instruction completes. -/
theorem NumericOnly.exec {x : M Unit} (h : NumericOnly x) {s : State} (ready : FpuReady s) :
    ∃ t, runInstr x s = .next t ∧ OnlyFpu (past s) t := by
  obtain ⟨body, rfl, hb⟩ := h
  exact hb.exec ready

theorem NumericOnly.unary {f : FVal → M Unit} (h : ∀ v, FpuOnly (f v)) : NumericOnly (unary f) := by
  refine .numeric (.bind .drawCodes fun _ => .bind (.stOperand _) fun v => ?_)
  cases v with
  | none => exact .bind (.underflowTo _) fun _ => .skip
  | some v => exact h v

theorem NumericOnly.binary0 {f : FVal → FVal → M Unit} (h : ∀ a b, FpuOnly (f a b)) : NumericOnly (binary0 f) := by
  refine .numeric (.bind .drawCodes fun _ => .bind (.stOperand _) fun a => .bind (.stOperand _) fun b => ?_)
  cases a with
  | none => exact .bind (.underflowTo _) fun _ => .skip
  | some a =>
    cases b with
    | none => exact .bind (.underflowTo _) fun _ => .skip
    | some b => exact h a b

theorem NumericOnly.binaryPop {f : FVal → FVal → M Bool} (h : ∀ a b, FpuOnly (f a b)) : NumericOnly (binaryPop f) := by
  refine .numeric (.bind .drawCodes fun _ => .bind (.stOperand _) fun a => .bind (.stOperand _) fun b => ?_)
  cases a with
  | none => exact .bind (.underflowTo _) fun _ => .popIf _
  | some a =>
    cases b with
    | none => exact .bind (.underflowTo _) fun _ => .popIf _
    | some b => exact .bind (h a b) fun _ => .popIf _

theorem NumericOnly.trigPush {f : FVal → M Unit} (h : ∀ v, FpuOnly (f v)) : NumericOnly (trigPush f) :=
  .numeric (.bind .drawCodes fun _ => .bind (.stOperand _) fun _ => .ite (.setC2 _) (.bind (.setC2 _) fun _ => .extracting h))

theorem NumericOnly.arithRegs (op : FOp) (d s : BitVec 3) (pops : Bool) : NumericOnly (arithRegs op d s pops) :=
  .numeric (.bind (.stOperand _) fun _ => .arith _ _ _ _)

theorem NumericOnly.squareRoot : NumericOnly squareRoot :=
  .unary fun _ => .bind .precision fun _ => .deliver0 _ _ _

theorem NumericOnly.scale : NumericOnly scale := .binary0 fun _ _ => .deliver0 _ _ _

theorem NumericOnly.partialRem (nearest : Bool) : NumericOnly (partialRem nearest) := by
  refine .binary0 fun a b => ?_
  split
  · exact .noQuotient _
  · split
    · exact .noQuotient _
    · exact .noQuotient _
    · exact .bind (.deliver0 _ _ _) fun _ => .setQuotientCodes _
    · exact .bind (.deliver0 _ _ _) fun _ => .setQuotientCodes _
    · exact .ite (.bind (.deliver0 _ _ _) fun _ => .setQuotientCodes _)
        (.bind .drawBit fun _ => .bind (.deliver0 _ _ _) fun _ => .bind (.setC1 _) fun _ => .setC2 _)

theorem NumericOnly.roundToInt : NumericOnly roundToInt := by
  refine .unary fun v => .bind .roundingControl fun rc => ?_
  split
  · exact .deliver0 _ _ _
  · split
    · exact .setSt _ _
    · exact .setSt _ _
    · exact .bind (.denormalIf _) fun _ => .bind (.inexactIf _ _) fun _ => .setSt _ _

theorem NumericOnly.extract : NumericOnly extract := by
  refine .numeric (.bind .drawCodes fun _ => .extracting fun v => ?_)
  split
  · next x ia _ =>
    cases ia
    · exact .bind (.pure true) fun _ => .onlyIf _ (.replaceAndPush _ _)
    · exact .bind .invalid fun _ => .onlyIf _ (.replaceAndPush _ _)
  · exact .bind .invalid fun _ => .onlyIf _ (.replaceAndPush _ _)
  · split
    · exact .bind .zeroDivide fun _ => .onlyIf _ (.replaceAndPush _ _)
    · exact .replaceAndPush _ _
    · exact .bind (.denormalIf _) fun _ => .replaceAndPush _ _

theorem NumericOnly.onSign (f : Ext → Ext) : NumericOnly (onSign f) := .unary fun _ => .setSt _ _

theorem NumericOnly.compareSt (quiet : Bool) (i : BitVec 3) (pops : Nat) : NumericOnly (compareSt quiet i pops) :=
  .numeric (.bind (.stOperand _) fun _ => .compareWith _ _ _)

theorem NumericOnly.testZero : NumericOnly testZero := .numeric (.compareWith _ _ _)

theorem NumericOnly.examine : NumericOnly examine :=
  .numeric (.bind .getFpu fun _ => .bind (.setCodes _ _ _) fun _ => .setC1 _)

theorem NumericOnly.moveTop (d : BitVec 3) : NumericOnly (moveTop d) := .numeric (.bind .drawCodes fun _ => .updFpu _)

theorem NumericOnly.freeSt (i : BitVec 3) : NumericOnly (freeSt i) := .numeric (.bind (.updFpu _) fun _ => .drawAllCodes)

theorem NumericOnly.loadSt (i : BitVec 3) : NumericOnly (loadSt i) := by
  refine .numeric (.bind .drawCodes fun _ => .bind (.stOperand _) fun v => ?_)
  cases v with
  | none => exact .bind (.stackFault _) fun _ => .onlyIf _ (.updFpu _)
  | some v => exact .fpuPush _

theorem NumericOnly.loadConst (c : Rc → Ext) : NumericOnly (loadConst c) :=
  .numeric (.bind .drawCodes fun _ => .bind .roundingControl fun _ => .fpuPush _)

theorem NumericOnly.storeSt (i : BitVec 3) (pops : Bool) : NumericOnly (storeSt i pops) :=
  .numeric (.bind .drawCodes fun _ => .bind .getFpu fun _ => .ite (.bind (.underflowTo _) fun _ => .popIf _)
    (.bind (.updFpu _) fun _ => .popIf _))

theorem NumericOnly.exp2m1 : NumericOnly exp2m1 := by
  refine .unary fun v => .bind .x87Given fun g => ?_
  dsimp only
  split
  · exact .deliver0 _ _ _
  · exact .ite (.deliver0 _ _ _) (.ite (.undefinedResult _) (.ite (.deliver0 _ _ _)
      (.bind (.denormalIf _) fun _ => .deliverApprox _ _)))

theorem NumericOnly.log2Mul : NumericOnly log2Mul := by
  refine .binaryPop fun x y => .bind .x87Given fun g => ?_
  split
  · exact .deliverCalc _ _ _ _
  · exact .bind (.denormalIf _) fun _ => .bind (.deliverApprox _ _) fun _ => .pure _

theorem NumericOnly.log2p1Mul : NumericOnly log2p1Mul := by
  refine .binaryPop fun x y => .bind .x87Given fun g => ?_
  split
  · exact .deliverCalc _ _ _ _
  · refine .ite (.bind (.undefinedResult _) fun _ => .pure _) ?_
    split
    · exact .deliverCalc _ _ _ _
    · exact .bind (.denormalIf _) fun _ => .bind (.deliverApprox _ _) fun _ => .pure _

theorem NumericOnly.trig (f : X87Answers → FVal → Approx) (atZero : Ext → Ext) : NumericOnly (trig f atZero) := by
  refine .unary fun v => .bind .x87Given fun g => .ite (.bind .drawBit fun _ => .bind (.setC1 _) fun _ => .setC2 _)
    (.bind (.setC2 _) fun _ => ?_)
  split
  · exact .deliver0 _ _ _
  · split
    · exact .deliver0 _ _ _
    · exact .deliver0 _ _ _
    · exact .bind (.denormalIf _) fun _ => .deliverApprox _ _

theorem NumericOnly.tangent : NumericOnly tangent := by
  refine .trigPush fun v => .bind .x87Given fun g => ?_
  split
  · exact .invalidPair _ _ _
  · exact .invalidPair _ _ _
  · split
    · exact .invalidPair _ _ _
    · exact .replaceAndPush _ _
    · exact .bind (.denormalIf _) fun _ => .bind (.deliverApprox _ _) fun _ => .updFpu _

theorem NumericOnly.sineCosine : NumericOnly sineCosine := by
  refine .trigPush fun v => .bind .x87Given fun g => ?_
  split
  · exact .invalidPair _ _ _
  · exact .invalidPair _ _ _
  · split
    · exact .invalidPair _ _ _
    · exact .replaceAndPush _ _
    · exact .bind (.denormalIf _) fun _ => .bind (.deliverApprox _ _) fun _ => .bind (.updFpu _) fun _ =>
        .bind (.setC1 _) fun _ => .deliverApprox _ _

theorem NumericOnly.arctangent : NumericOnly arctangent := by
  refine .binaryPop fun x y => .bind .roundingControl fun rc => .bind .x87Given fun g => ?_
  split
  · exact .deliverCalc _ _ _ _
  · exact .bind (.denormalIf _) fun _ => .bind (.deliverApprox _ _) fun _ => .pure _

/-! ### The system registers and the form of memory -/

/-- What only changes the coprocessor keeps the rest. -/
theorem FpuOnly.steady {x : M α} (h : FpuOnly x) : Steady x := by
  intro s
  obtain ⟨a, t, e, only⟩ := h s
  unfold EndsAt
  rw [e]
  dsimp only
  rw [only]
  exact ⟨id, rfl⟩

theorem Ends.escapeGate : Ends R escapeGate := .bind .getS fun _ => .bind (.check .raiseNM) fun _ => .check (.stop _)

theorem Ends.reportPending : Ends R reportPending := .bind .getS fun _ => .onlyIf (.ite .raiseMF (.stop _))

theorem Ends.noWait {body : M Unit} (h : Ends R body) : Ends R (noWait body) := .bind .escapeGate fun _ => h

theorem Ends.waiting {body : M Unit} (h : Ends R body) : Ends R (waiting body) :=
  .bind .escapeGate fun _ => .bind .reportPending fun _ => h

theorem Ends.notePointer : Steady notePointer := .upd fun _ => ⟨id, rfl⟩

theorem Ends.numeric {body : M Unit} (h : Steady body) : Steady (numeric body) :=
  .waiting (.bind .notePointer fun _ => .bind .drawWord fun _ => .bind .drawWord fun _ =>
    .bind (FpuOnly.updFpu _).steady fun _ => h)

theorem Ends.numericMem (m : MemOp) {body : M Unit} (h : Steady body) : Steady (numericMem m body) :=
  .waiting (.bind .notePointer fun _ => .bind (.upd fun _ => ⟨id, rfl⟩) fun _ => h)

theorem NumericOnly.steady {x : M Unit} (h : NumericOnly x) : Steady x := by
  obtain ⟨body, rfl, hb⟩ := h
  exact .numeric hb.steady

theorem Ends.realOperand (f : Fmt) (m : MemOp) : Steady (realOperand f m) := .bind (.readMem _ _) fun _ => .pure _

theorem Ends.intOperand (n : Nat) (m : MemOp) : Steady (intOperand n m) := .bind (.readMem _ _) fun _ => .pure _

theorem Ends.arithReal (op : FOp) (f : Fmt) (m : MemOp) : Steady (arithReal op f m) :=
  .numericMem _ (.bind (.realOperand _ _) fun _ => (FpuOnly.arith _ _ _ _).steady)

theorem Ends.arithInt (op : FOp) (n : Nat) (m : MemOp) : Steady (arithInt op n m) :=
  .numericMem _ (.bind (.intOperand _ _) fun _ => (FpuOnly.arith _ _ _ _).steady)

theorem Ends.compareReal (f : Fmt) (m : MemOp) (pops : Nat) : Steady (compareReal f m pops) :=
  .numericMem _ (.bind (.realOperand _ _) fun _ => (FpuOnly.compareWith _ _ _).steady)

theorem Ends.compareInt (n : Nat) (m : MemOp) (pops : Nat) : Steady (compareInt n m pops) :=
  .numericMem _ (.bind (.intOperand _ _) fun _ => (FpuOnly.compareWith _ _ _).steady)

theorem Ends.loadReal (f : Fmt) (m : MemOp) : Steady (loadReal f m) := by
  refine .numericMem _ (.bind (.readMem _ _) fun v => FpuOnly.steady ?_)
  exact .bind .drawCodes fun _ => .bind .getFpu fun _ => .ite (.bind .invalid fun _ => .onlyIf _ (.fpuPush _))
    (.bind (.denormalIf _) fun _ => .fpuPush _)

theorem Ends.loadExt (m : MemOp) : Steady (loadExt m) :=
  .numericMem _ (.bind (.readMem _ _) fun _ => FpuOnly.steady (.bind .drawCodes fun _ => .fpuPush _))

theorem Ends.loadInt (n : Nat) (m : MemOp) : Steady (loadInt n m) :=
  .numericMem _ (.bind (.readMem _ _) fun _ => FpuOnly.steady (.bind .drawCodes fun _ => .fpuPush _))

theorem Ends.loadBcd (m : MemOp) : Steady (loadBcd m) := by
  refine .numericMem _ (.bind (.readMem _ _) fun v => FpuOnly.steady (.bind .drawCodes fun _ => ?_))
  split
  · exact .fpuPush _
  · exact .bind .drawExt fun _ => .fpuPush _

theorem Ends.storeImage (n : Nat) (m : MemOp) (pops : Bool) {image : Option FVal → M (Option Nat)}
    (h : ∀ v, FpuOnly (image v)) : Steady (storeImage n m pops image) := by
  refine .numericMem _ (.bind (.accessMem _ _ _) fun _ => .bind (FpuOnly.steady .drawCodes) fun _ =>
    .bind (FpuOnly.steady (.stOperand _)) fun _ => .bind (h _).steady fun r => ?_)
  cases r with
  | none => exact .skip
  | some b => exact .bind (.storeAt _ _) fun _ => (FpuOnly.popIf _).steady

theorem Ends.storeReal (f : Fmt) (m : MemOp) (pops : Bool) : Steady (storeReal f m pops) :=
  .storeImage _ _ _ fun _ => .realImage _ _

theorem Ends.storeExt (m : MemOp) : Steady (storeExt m) := by
  refine .storeImage _ _ _ fun v => ?_
  cases v with
  | none => exact .ifMasked (.stackFault _) _
  | some v => exact .pure _

theorem Ends.storeInt (n : Nat) (m : MemOp) (pops : Bool) : Steady (storeInt n m pops) :=
  .storeImage _ _ _ fun _ => .intImage _ _

theorem Ends.storeBcd (m : MemOp) : Steady (storeBcd m) := .storeImage _ _ _ .bcdImage

theorem Ends.fxchRegs (i : BitVec 3) : Steady (fxchRegs i) :=
  .ite (.waiting (.bind .notePointer fun _ => FpuOnly.steady (.bind (.setC1 _) fun _ => .exchangeRegs _)))
    (.numeric (FpuOnly.steady (.bind .drawCodes fun _ => .exchangeRegs _)))

theorem Ends.fpuInit : Steady fpuInit := .noWait (FpuOnly.updFpu _).steady

theorem Ends.fpuClear : Steady fpuClear := .noWait (FpuOnly.steady (.bind (.updFsw _) fun _ => .drawAllCodes))

theorem Ends.loadControl (m : MemOp) : Steady (loadControl m) :=
  .waiting (.bind (.readMem _ _) fun _ => FpuOnly.steady (.bind (.updFpu _) fun _ => .drawAllCodes))

theorem Ends.storeControl (m : MemOp) : Steady (storeControl m) :=
  .noWait (.bind (FpuOnly.steady .getFpu) fun _ => .writeMem _ _ _)

theorem Ends.storeStatus (m : MemOp) : Steady (storeStatus m) := .noWait (.bind (FpuOnly.steady .getFpu) fun _ => .writeMem _ _ _)

theorem Ends.storeStatusAx : Steady storeStatusAx := .noWait (.bind (FpuOnly.steady .getFpu) fun _ => .setReg16 _ _)

theorem Ends.loadEnvironment (m : MemOp) : Steady (loadEnvironment m) :=
  .waiting (.bind .getS fun _ => .bind (.readMem _ _) fun _ => (FpuOnly.updFpu _).steady)

theorem Ends.storeEnvironment (m : MemOp) : Steady (storeEnvironment m) :=
  .noWait (.bind .getS fun _ => .bind (FpuOnly.envImage _).steady fun _ => .bind (.writeMem _ _ _) fun _ =>
    FpuOnly.steady (.bind (.updFpu _) fun _ => .drawAllCodes))

theorem Ends.saveState (m : MemOp) : Steady (saveState m) :=
  .noWait (.bind .getS fun _ => .bind (FpuOnly.envImage _).steady fun _ => .bind (.writeMem _ _ _) fun _ =>
    (FpuOnly.updFpu _).steady)

theorem Ends.restoreState (m : MemOp) : Steady (restoreState m) :=
  .waiting (.bind .getS fun _ => .bind (.readMem _ _) fun _ => (FpuOnly.updFpu _).steady)

theorem Ends.waitInstr : Steady waitInstr :=
  .bind .getS fun _ => .bind (.check .raiseNM) fun _ => .onlyIf (.bind .reportPending fun _ => FpuOnly.drawAllCodes.steady)

end Sys2Proof.Machine
end

section
/-!
PROOFS. What deliveries, returns, far transfers and task switches keep (60_exceptions.md R750 to R758, 44_control.md R480 to
R511): they may change the level, the mode between protected and virtual-8086, and, as a task switch, the task's registers.
-/

namespace Sys2Proof.Machine

open Claims

variable {α β : Type} {R : StateRel}

/-! ### Relations -/

/-- What a task switch leaves in the registers that name the task. -/
def TaskEntered (t : State) : Prop :=
  t.cr0.ts = true ∧ t.tr.valid = true ∧ (t.tr.type = 3 ∨ t.tr.type = 11) ∧ 0x2B ≤ t.tr.limit.toNat ∧
    (t.ldtr.valid = true → t.ldtr.type = 2)

/-- What everything but a system instruction and a reset keeps. -/
structure Framed (s t : State) : Prop where
  memory : memoryInv s = true → memoryInv t = true
  cfg : t.cfg = s.cfg
  cr0 : { t.cr0 with ts := s.cr0.ts } = s.cr0
  modes : modesLegal s → modesLegal t
  tables : t.gdtr = s.gdtr ∧ t.idtr = s.idtr
  breakpoints : t.dbg.dr0 = s.dbg.dr0 ∧ t.dbg.dr1 = s.dbg.dr1 ∧ t.dbg.dr2 = s.dbg.dr2 ∧ t.dbg.dr3 = s.dbg.dr3

theorem Framed.refl (s : State) : Framed s s := ⟨id, rfl, rfl, id, ⟨rfl, rfl⟩, ⟨rfl, rfl, rfl, rfl⟩⟩

theorem Framed.trans {s t u : State} (h : Framed s t) (g : Framed t u) : Framed s u where
  memory := g.memory ∘ h.memory
  cfg := g.cfg.trans h.cfg
  cr0 := (congrArg (fun c : Cr0 => { c with ts := s.cr0.ts }) g.cr0).trans h.cr0
  modes := g.modes ∘ h.modes
  tables := ⟨g.tables.1.trans h.tables.1, g.tables.2.trans h.tables.2⟩
  breakpoints := by
    obtain ⟨h0, h1, h2, h3⟩ := h.breakpoints
    obtain ⟨g0, g1, g2, g3⟩ := g.breakpoints
    exact ⟨g0.trans h0, g1.trans h1, g2.trans h2, g3.trans h3⟩

/-- The task's registers and CR3 are as they were, TS not cleared. -/
def SameTask (s t : State) : Prop :=
  t.cr3 = s.cr3 ∧ t.ldtr = s.ldtr ∧ t.tr = s.tr ∧ (s.cr0.ts = true → t.cr0.ts = true)

theorem SameTask.trans {s t u : State} (h : SameTask s t) (g : SameTask t u) : SameTask s u := by
  obtain ⟨h1, h2, h3, h4⟩ := h
  obtain ⟨g1, g2, g3, g4⟩ := g
  exact ⟨g1.trans h1, g2.trans h2, g3.trans h3, g4 ∘ h4⟩

theorem SameTask.entered {s t : State} (h : SameTask s t) (e : TaskEntered s) : TaskEntered t := by
  obtain ⟨-, ldtr, tr, ts⟩ := h
  obtain ⟨e1, e2⟩ := e
  exact ⟨ts e1, by rw [tr, ldtr]; exact e2⟩

/-- What an ordinary step keeps: it stays in its task, or leaves the registers as a task switch does. -/
def ordinary : StateRel where
  rel s t := Framed s t ∧ (SameTask s t ∨ TaskEntered t)
  refl s := ⟨.refl s, .inl ⟨rfl, rfl, rfl, id⟩⟩
  trans := by
    rintro s t u ⟨h, h'⟩ ⟨g, g'⟩
    refine ⟨h.trans g, ?_⟩
    rcases g' with same | entered
    · exact h'.imp (·.trans same) same.entered
    · exact .inr entered

/-- In a task just entered: the task's registers stay as a task switch leaves them. -/
def inTask : StateRel where
  rel s t := Framed s t ∧ (TaskEntered s → TaskEntered t)
  refl s := ⟨.refl s, id⟩
  trans h g := ⟨h.1.trans g.1, g.2 ∘ h.2⟩

/-- The level alone may change. -/
def leveled : StateRel where
  rel s t := (memoryInv s = true → memoryInv t = true) ∧ { t with cpl := s.cpl }.system = s.system
  refl _ := ⟨id, rfl⟩
  trans := by
    rintro s t u ⟨h, h'⟩ ⟨g, g'⟩
    refine ⟨g ∘ h, ?_⟩
    simp only [State.system, Prod.mk.injEq] at *
    simp_all

/-- In protected or virtual-8086 mode, what an ordinary step keeps. -/
def protectedly : StateRel where
  rel s t := s.cr0.pe = true → ordinary.rel s t
  refl s _ := ordinary.refl s
  trans := by
    intro s t u h g pe
    have first := h pe
    have still : ({ t.cr0 with ts := s.cr0.ts } : Cr0).pe = s.cr0.pe := congrArg Cr0.pe first.1.cr0
    exact ordinary.trans first (g (still.trans pe))

theorem framed_of_steady {s t : State} (h : steady.rel s t) : Framed s t := by
  obtain ⟨mem, sys⟩ := h
  simp only [State.system, Prod.mk.injEq] at sys
  obtain ⟨cfg, cr0, vm, cpl, -, gdtr, idtr, -, -, dr⟩ := sys
  refine ⟨mem, cfg, by rw [cr0], ?_, ⟨gdtr, idtr⟩, dr⟩
  unfold modesLegal
  rw [cr0, vm, cpl]
  exact id

theorem sameTask_of_steady {s t : State} (h : steady.rel s t) : SameTask s t := by
  obtain ⟨-, sys⟩ := h
  simp only [State.system, Prod.mk.injEq] at sys
  obtain ⟨-, cr0, -, -, cr3, -, -, ldtr, tr, -⟩ := sys
  exact ⟨cr3, ldtr, tr, by rw [cr0]; exact id⟩

theorem ordinary_of_steady {s t : State} (h : steady.rel s t) : ordinary.rel s t :=
  ⟨framed_of_steady h, .inl (sameTask_of_steady h)⟩

/-- With the level changed in protected mode outside virtual-8086 mode, the modes stay legal. -/
theorem ordinary_of_leveled {s t : State} (pe : s.cr0.pe = true) (vm : s.flags.vm = false) (h : leveled.rel s t) :
    ordinary.rel s t := by
  obtain ⟨mem, sys⟩ := h
  have back : steady.rel s { t with cpl := s.cpl } := ⟨mem, sys⟩
  obtain ⟨_, cfg, cr0, -, tables, breakpoints⟩ := framed_of_steady back
  refine ⟨⟨mem, cfg, cr0, fun legal => ?_, tables, breakpoints⟩,
    .inl (sameTask_of_steady (t := { t with cpl := s.cpl }) back)⟩
  simp only [State.system, Prod.mk.injEq] at sys
  obtain ⟨-, cr0, vm', -⟩ := sys
  obtain ⟨paging, -, -⟩ := legal
  unfold modesLegal
  rw [cr0, vm', pe, vm]
  exact ⟨fun _ => rfl, nofun, nofun⟩

theorem Ends.ordinary {x : M α} (h : Steady x) : Ends Machine.ordinary x := h.mono fun _ _ => ordinary_of_steady
theorem Ends.inTask {x : M α} (h : Steady x) : Ends Machine.inTask x :=
  .mono (R := steady) (S := Machine.inTask) (fun _ _ g => ⟨framed_of_steady g, (sameTask_of_steady g).entered⟩) h
theorem Ends.leveled {x : M α} (h : Steady x) : Ends Machine.leveled x := by
  refine .mono (R := steady) (S := Machine.leveled) (fun s t g => ⟨g.1, ?_⟩) h
  have sys := g.2
  simp only [State.system, Prod.mk.injEq] at sys ⊢
  simp_all
theorem Ends.protectedly_of_ordinary {x : M α} (h : Ends Machine.ordinary x) : Ends Machine.protectedly x :=
  h.mono fun _ _ h _ => h
theorem Ends.protectedly {x : M α} (h : Steady x) : Ends Machine.protectedly x := h.ordinary.protectedly_of_ordinary

/-- A steady operation, then the rest. -/
theorem Ends.bind_protectedly {x : M α} {f : α → M β} (hx : Steady x) (hf : ∀ a, Ends Machine.protectedly (f a)) :
    Ends Machine.protectedly (x >>= f) := .bind hx.protectedly hf

theorem Ends.bind_leveled {x : M α} {f : α → M β} (hx : Steady x) (hf : ∀ a, Ends Machine.leveled (f a)) :
    Ends Machine.leveled (x >>= f) := .bind hx.leveled hf

/-- An operation that only moves to another state, then the rest from there. -/
theorem EndsAt.of_run {x y : M α} {s u : State} (e : x s = y u) (h : R.rel s u) (hy : EndsAt R y u) : EndsAt R x s := by
  unfold EndsAt at *
  rw [e]
  revert hy
  cases y u <;> exact R.trans h

/-! ### In protected mode, outside virtual-8086 mode -/

/-- Begun in protected mode outside virtual-8086 mode, the operation keeps what an ordinary step keeps. -/
def InProtected (x : M α) : Prop := ∀ s, s.cr0.pe = true → s.flags.vm = false → EndsAt ordinary x s

theorem InProtected.of_ordinary {x : M α} (h : Ends ordinary x) : InProtected x := fun s _ _ => h s
theorem InProtected.of_steady {x : M α} (h : Steady x) : InProtected x := .of_ordinary h.ordinary
theorem InProtected.of_protectedly {x : M α} (h : Ends protectedly x) : InProtected x :=
  fun s pe _ => (h s).mono fun _ g => g pe
theorem InProtected.of_leveled {x : M α} (h : Ends leveled x) : InProtected x :=
  fun s pe vm => (h s).mono fun _ g => ordinary_of_leveled pe vm g

theorem InProtected.bind_of {x : M α} {f : α → M β} (hx : Steady x)
    (hf : ∀ s t a, x s = .ok a t → InProtected (f a)) : InProtected (x >>= f) := by
  refine fun s pe vm => (hx.ordinary s).bind fun a t e => ?_
  have sys := (hx.ok e).2
  simp only [State.system, Prod.mk.injEq] at sys
  obtain ⟨-, cr0, vm', -⟩ := sys
  exact hf s t a e t (by rw [cr0, pe]) (by rw [vm', vm])

theorem InProtected.bind {x : M α} {f : α → M β} (hx : Steady x) (hf : ∀ a, InProtected (f a)) : InProtected (x >>= f) :=
  .bind_of hx fun _ _ a _ => hf a

theorem InProtected.ite {c : Prop} [Decidable c] {x y : M α} (hx : InProtected x) (hy : InProtected y) :
    InProtected (if c then x else y) := by
  split
  · exact hx
  · exact hy

/-! ### The task switch (44_control.md R496) -/

theorem check_passed {c : Bool} {e : Exn} {s t : State} {a : Unit} (h : check c (raise e) s = .ok a t) :
    c = true ∧ t = s := by
  cases c
  · cases h
  · cases h
    exact ⟨rfl, rfl⟩

theorem check_ok {c : Bool} {e : Exn} {s t : State} {a : Unit} (h : check c (raise e) s = .ok a t) : c = true :=
  (check_passed h).1

/-- A sequence that completes has completed each part. -/
theorem ok_of_bind {x : M α} {f : α → M β} {s u : State} {b : β} (h : (x >>= f) s = .ok b u) :
    ∃ a t, x s = .ok a t ∧ f a t = .ok b u := by
  rw [run_bind] at h
  cases e : x s with
  | ok a t =>
    rw [e] at h
    exact ⟨a, t, rfl, h⟩
  | error e' t =>
    rw [e] at h
    cases h

/-- The TSS types. -/
def TssType (td : Desc) : Prop := td.type ||| 2 = 3 ∨ td.type ||| 2 = 11

theorem tssType_of_isSystem {td : Desc} {types : List (BitVec 4)} (h : td.isSystem types = true)
    (all : ∀ y ∈ types, y ||| 2 = 3 ∨ y ||| 2 = 11) : TssType td := by
  obtain ⟨-, mem⟩ := Bool.and_eq_true_iff.mp h
  exact all _ (by simpa using mem)

/-- The TSS descriptor that is read has one of the types asked for. -/
theorem readTss_isSystem {tsel : Half} {types : List (BitVec 4)} {ext : Half} {s t : State} {td : Desc}
    (h : readTss tsel types ext s = .ok td t) : td.isSystem types = true := by
  obtain ⟨_, _, -, h⟩ := ok_of_bind h
  obtain ⟨_, _, -, h⟩ := ok_of_bind h
  obtain ⟨d, _, -, h⟩ := ok_of_bind h
  obtain ⟨_, _, checked, h⟩ := ok_of_bind h
  obtain ⟨_, _, -, h⟩ := ok_of_bind h
  cases h
  exact check_ok checked

theorem Ends.loadTaskLdt (ext sel : Half) : Ends Machine.inTask (loadTaskLdt ext sel) := by
  refine .ite .skip (.bind (.check (.raiseTS _)) fun _ => .bind (Ends.readDesc _ (.raiseTS _)).inTask fun d =>
    .bind_of (.check (.raiseTS _)) fun s t _ checked => .upd fun u => ?_)
  obtain ⟨system, -⟩ := Bool.and_eq_true_iff.mp (check_ok checked)
  obtain ⟨-, type⟩ := Bool.and_eq_true_iff.mp system
  refine ⟨⟨id, rfl, rfl, id, ⟨rfl, rfl⟩, ⟨rfl, rfl, rfl, rfl⟩⟩, fun ⟨ts, valid, busy, limit, _⟩ => ?_⟩
  exact ⟨ts, valid, busy, limit, fun _ => by simpa using type⟩

theorem Ends.loadTaskSegs (ext : Half) (i : TaskImage) : Ends Machine.inTask (loadTaskSegs ext i) :=
  .bind (.loadTaskLdt _ _) fun _ => .bind .getS fun _ => .ite (Ends.inTask (.upd fun _ => ⟨id, rfl⟩))
    (Ends.inTask (.bind (.loadTaskCs _ _) fun _ => .bind (.loadTaskSs _ _) fun _ =>
      .bind (.loadDataProt (fun _ => .raiseTS _) _ _ _) fun _ => .bind (.loadDataProt (fun _ => .raiseTS _) _ _ _) fun _ =>
      .bind (.loadDataProt (fun _ => .raiseTS _) _ _ _) fun _ => .loadDataProt (fun _ => .raiseTS _) _ _ _))

theorem Ends.checkNewEip (ext : Half) : Steady (checkNewEip ext) :=
  .inNewTask (.bind .getS fun _ => .checkTarget _ _ _)

/-- Entering the task leaves its registers as a task switch does; in protected mode its modes are legal. -/
theorem enterTask_entered {s : State} (pe : s.cr0.pe = true) {td : Desc} (type : TssType td) (room : 0x2B ≤ td.limit.toNat)
    (tsel : Half) (nt : Bool) (i : TaskImage) :
    ∃ t, enterTask tsel td nt i s = .ok () t ∧ Framed s t ∧ TaskEntered t := by
  refine ⟨_, rfl, ⟨id, rfl, rfl, fun _ => ?_, ⟨rfl, rfl⟩, ?_⟩, rfl, rfl, type, room, nofun⟩
  · refine ⟨fun _ => pe, fun vm => ⟨pe, if_pos vm⟩, fun real => absurd pe ?_⟩
    simpa using real
  · dsimp only
    split <;> exact ⟨rfl, rfl, rfl, rfl⟩

theorem Ends.switchTasks (tsel : Half) {td : Desc} (type : TssType td) (kind : SwitchKind) (ext : Half) (ret : FarPtr)
    (flags : Flags) : Ends Machine.protectedly (switchTasks tsel td kind ext ret flags) := by
  refine .bind .getS fun s => .bind_of (.check (.raiseTS _)) fun _ _ _ checked => ?_
  have room : 0x2B ≤ td.limit.toNat := by
    have := of_decide_eq_true (check_ok checked)
    split at this <;> omega
  refine .bind_protectedly (.physOf _ _ _ _) fun _ => .bind_protectedly (.ite (.physOf _ _ _ _) (.pure _)) fun _ =>
    .bind_protectedly (.physOf _ _ _ _) fun _ => .bind_protectedly (.saveTask _ _ _ _) fun _ =>
    .bind_protectedly (.onlyIf (.storeAt _ _)) fun _ => .bind_protectedly (.onlyIf (.clearBusy _)) fun _ =>
    .bind_protectedly (.onlyIf (.setBusy _ _)) fun _ => .bind_protectedly (.readTask _ _) fun i => ?_
  intro u
  by_cases pe : u.cr0.pe = true
  · obtain ⟨v, run, framed, entered⟩ := enterTask_entered pe type room tsel kind.nests i
    have rest : EndsAt Machine.inTask _ v := Ends.inNewTask (Ends.loadTaskSegs ext i) v
    unfold EndsAt at *
    rw [bind_of_ok run]
    revert rest
    cases Machine.inNewTask (Machine.loadTaskSegs ext i) v <;>
      exact fun ⟨within, still⟩ _ => ⟨framed.trans within, .inr (still entered)⟩
  · unfold EndsAt
    cases (Machine.enterTask tsel td kind.nests i >>= fun _ => Machine.inNewTask (Machine.loadTaskSegs ext i)) u <;>
      exact fun h => absurd h pe

/-! ### Deliveries (60_exceptions.md R750 to R758) -/

theorem Ends.deliverTask (d : Delivery) (g : Desc) : Ends Machine.protectedly (deliverTask d g) := by
  refine .bind .getS fun s => .bind_of (Ends.protectedly (.readTss _ _ _)) fun _ _ td read => ?_
  have type : TssType td := tssType_of_isSystem (readTss_isSystem read) (by decide)
  refine .bind (.switchTasks _ type _ _ _ _) fun _ => .bind_protectedly (.inNewTask (.bind .getS fun t => ?_)) fun _ =>
    Ends.protectedly (.checkNewEip _)
  cases d.ec with
  | none => exact .skip
  | some e => exact .bind (.pushOn _ _ _ _ _ _) fun _ => .setSp _

/-- Clearing VM keeps the modes legal. -/
theorem ordinary_of_entered (s : State) (f : Flags) (vm : f.vm = false) : ordinary.rel s { s with flags := f } := by
  refine ⟨⟨id, rfl, rfl, fun ⟨paging, _, real⟩ => ⟨paging, fun h => ?_, real⟩, ⟨rfl, rfl⟩, ⟨rfl, rfl, rfl, rfl⟩⟩,
    .inl ⟨rfl, rfl, rfl, id⟩⟩
  rw [vm] at h
  cases h

theorem Ends.enteredFlags (c : Bool) : Ends Machine.ordinary (Machine.updFlags fun f => f.entered c) :=
  .upd fun s => ordinary_of_entered s _ rfl

theorem Ends.deliverSame (d : Delivery) (g cd : Desc) : Ends Machine.ordinary (deliverSame d g cd) :=
  .bind .getS fun _ => .bind (.roomFor _ _ _ _ _) fun _ => .bind (.check (.raiseGP _)) fun _ =>
    .bind (Ends.ordinary (.pushOn _ _ _ _ _ _)) fun _ => .bind (Ends.ordinary (.setSp _)) fun _ =>
    .bind (Ends.ordinary (.loadCs _ _ _)) fun _ => .bind (Ends.ordinary (.setEip _)) fun _ => .enteredFlags _

/-- In protected mode the level may be set when VM is cleared with it. -/
theorem ordinary_of_newLevel {s : State} (pe : s.cr0.pe = true) (n : BitVec 2) (f : Flags) (vm : f.vm = false) :
    ordinary.rel s { s with cpl := n, flags := f } := by
  refine ⟨⟨id, rfl, rfl, fun _ => ⟨fun _ => pe, fun h => ?_, fun real => ?_⟩, ⟨rfl, rfl⟩, ⟨rfl, rfl, rfl, rfl⟩⟩,
    .inl ⟨rfl, rfl, rfl, id⟩⟩
  · rw [vm] at h
    cases h
  · rw [pe] at real
    cases real

theorem Ends.deliverInner (d : Delivery) (g cd : Desc) (from86 : Bool) :
    Ends Machine.protectedly (deliverInner d g cd from86) := by
  refine .bind .getS fun s => .bind_protectedly (.innerStack _ _ _) fun _ => .bind_protectedly (.roomFor _ _ _ _ _) fun _ =>
    .bind_protectedly (.checkTarget _ _ _) fun _ => .bind_protectedly (.pushOn _ _ _ _ _ _) fun _ =>
    .bind_protectedly (.takeStack _ _ _) fun _ => .bind_protectedly (.loadCs _ _ _) fun _ =>
    .bind_protectedly (.setEip _) fun _ => ?_
  have rest : Steady (Machine.onlyIf from86 (Machine.upd fun t =>
      { t with segs := { t.segs with gs := t.segs.gs.nulled 0, fs := t.segs.fs.nulled 0, ds := t.segs.ds.nulled 0,
                                     es := t.segs.es.nulled 0 } })) := .onlyIf (.upd fun _ => ⟨id, rfl⟩)
  intro u
  exact EndsAt.of_run (u := { u with cpl := cd.dpl, flags := u.flags.entered (!g.type.getLsbD 0) }) rfl
    (fun pe => ordinary_of_newLevel pe _ _ rfl) (rest.protectedly _)

theorem Ends.deliverGate (d : Delivery) (g : Desc) : Ends Machine.protectedly (deliverGate d g) :=
  .bind .getS fun _ => .bind (.check (.raiseGP _)) fun _ => .bind_protectedly (.readDesc _ (.raiseGP _)) fun _ =>
    .bind (.check (.raiseGP _)) fun _ => .bind (.check (.raiseNP _)) fun _ =>
    .ite (.ite (.ite (.deliverInner _ _ _ _) (.raiseGP _)) (.deliverInner _ _ _ _))
      (.ite (.raiseGP _) (Ends.deliverSame _ _ _).protectedly_of_ordinary)

theorem Ends.deliverProtected (d : Delivery) : Ends Machine.protectedly (deliverProtected d) :=
  .bind .getS fun _ => .bind (.check (.raiseGP _)) fun _ => .bind_protectedly (.linRead _ _) fun _ =>
    .bind (.check (.raiseGP _)) fun _ => .bind (.check (.raiseGP _)) fun _ => .bind (.check (.raiseNP _)) fun _ =>
    .ite (.deliverTask _ _) (.deliverGate _ _)

/-- A delivery in any mode. -/
theorem Ends.deliver (d : Delivery) : Ends Machine.ordinary (deliver d) := by
  have rest : Steady (Machine.upd fun t => { t with run := .running, shadow := .none }) := .upd fun _ => ⟨id, rfl⟩
  intro s
  refine EndsAt.of_run (bind_of_ok (run_getS s) _) (Machine.ordinary.refl s) ?_
  split
  · next pe => exact (Ends.bind (.deliverProtected d) (fun _ => rest.protectedly) s).mono fun _ g => g pe
  · exact Ends.ordinary (.bind (.deliverReal d) fun _ => rest) s

theorem Ends.softInt (v : BitVec 8) (kind : Kind) : Ends Machine.ordinary (softInt v kind) :=
  .bind .getS fun _ => .bind (.deliver _) fun _ => Ends.ordinary (.upd fun _ => ⟨id, rfl⟩)

/-! ### Returns (44_control.md R505 to R511) -/

theorem Ends.iretTask : Ends Machine.protectedly iretTask := by
  refine .bind .getS fun s => .bind_protectedly (.linRead _ _) fun _ =>
    .bind_of (Ends.protectedly (.readTss _ _ _)) fun _ _ td read => ?_
  have type : TssType td := tssType_of_isSystem (readTss_isSystem read) (by decide)
  exact .bind (.switchTasks _ type _ _ _ _) fun _ => Ends.protectedly (.checkNewEip _)

theorem Ends.iretToV86 (t : Word) (sel : Half) (f : Word) : Ends Machine.protectedly (iretToV86 t sel f) := by
  refine .bind_protectedly (.checkSlots _ _) fun _ => .bind (.check (.raiseGP _)) fun _ =>
    .bind_protectedly (.slotV _ _) fun _ => .bind_protectedly (.slotSel _ _) fun _ => .bind_protectedly (.slotSel _ _) fun _ =>
    .bind_protectedly (.slotSel _ _) fun _ => .bind_protectedly (.slotSel _ _) fun _ =>
    .bind_protectedly (.slotSel _ _) fun _ => .bind_protectedly (.setEip _) fun _ => .bind (.upd fun s pe => ?_) fun _ =>
    Ends.protectedly (.markRf _)
  refine ⟨⟨id, rfl, rfl, fun _ => ⟨fun _ => pe, fun _ => ⟨pe, rfl⟩, fun real => ?_⟩, ⟨rfl, rfl⟩, ⟨rfl, rfl, rfl, rfl⟩⟩,
    .inl ⟨rfl, rfl, rfl, id⟩⟩
  rw [show s.cr0.pe = false from real] at pe
  cases pe

theorem Ends.setCpl (n : BitVec 2) : Ends Machine.leveled (Machine.upd fun u => { u with cpl := n }) :=
  .upd fun _ => ⟨id, rfl⟩

theorem Ends.iretOuter (o : Size) (t : Word) (sel : Half) (cd : Desc) (f : Word) :
    Ends Machine.leveled (iretOuter o t sel cd f) :=
  .bind .getS fun _ => .bind_leveled (.checkSlots _ _) fun _ => .bind_leveled (.slotSel _ _) fun _ =>
    .bind_leveled (.checkOuterSs _ _) fun _ => .bind_leveled (.checkTarget _ _ _) fun _ => .bind_leveled (.slotV _ _) fun _ =>
    .bind_leveled (.setEip _) fun _ => .bind_leveled (.loadSeg _ _ _) fun _ => .bind_leveled (.updFlags fun _ => rfl) fun _ =>
    .bind (.setCpl _) fun _ => .bind_leveled (.takeStack _ _ _) fun _ => .bind_leveled (.dropDataSegs _) fun _ =>
    Ends.leveled (.markRf _)

theorem InProtected.iretProtected (o : Size) : InProtected (iretProtected o) :=
  .bind .getS fun _ => .bind (.checkSlots _ _) fun _ => .bind (.slotV _ _) fun _ => .bind (.slotSel _ _) fun _ =>
    .bind (.slotV _ _) fun _ => .ite (.of_protectedly (.iretToV86 _ _ _)) (.bind (.checkReturnCs _) fun _ =>
      .ite (.of_leveled (.iretOuter _ _ _ _ _)) (.of_steady (.bind (.checkTarget _ _ _) fun _ => .bind (.popBytes _) fun _ =>
        .bind (.setEip _) fun _ => .bind (.loadSeg _ _ _) fun _ => .bind (.updFlags fun _ => rfl) fun _ => .markRf _)))

/-- By the mode: what is in protected mode outside virtual-8086 mode, or steady. -/
theorem Ends.byMode {x y : M α} (hx : InProtected x) (hy : Steady y) (s : State) :
    EndsAt Machine.ordinary (if s.protectedMode then x else y) s := by
  split
  · next h =>
    obtain ⟨pe, vm⟩ := Bool.and_eq_true_iff.mp h
    exact hx s pe (by simpa using vm)
  · exact hy.ordinary s

theorem Ends.returnFromInt (o : Size) : Ends Machine.ordinary (returnFromInt o) := by
  refine .bind (Ends.ordinary (.upd fun _ => ⟨id, rfl⟩)) fun _ s => ?_
  exact Ends.byMode (.ite (.of_protectedly .iretTask) (.iretProtected o)) (.iretReal o) s

/-! ### Far transfers (44_control.md R480 to R497) -/

theorem Ends.callGateInner (gate cd : Desc) : Ends Machine.leveled (callGateInner gate cd) :=
  .bind .getS fun _ => .bind_leveled (.innerStack _ _ _) fun _ => .bind_leveled (.roomFor _ _ _ _ _) fun _ =>
    .bind_leveled (.checkTarget _ _ _) fun _ => .bind_leveled (.pushSlots _ _ _ _ _ _) fun _ =>
    .bind_leveled (.paramSlots _ _ _ _ _ _) fun _ => .bind_leveled (.pushSlot _ _ _ _ _ _) fun _ =>
    .bind_leveled (.pushSlot _ _ _ _ _ _) fun _ => .bind_leveled (.storeSlots _ _) fun _ =>
    .bind_leveled (.copyParams _) fun _ => .bind_leveled (.storeSlots _ _) fun _ => .bind_leveled (.takeStack _ _ _) fun _ =>
    .bind_leveled (.loadCs _ _ _) fun _ => .bind_leveled (.setEip _) fun _ => .setCpl _

theorem InProtected.callGate (gsel : Half) (gate : Desc) : InProtected (callGate gsel gate) :=
  .bind (.checkGate _ _) fun _ => .bind .getS fun _ => .bind (.gateTarget _ _) fun _ =>
    .ite (.of_leveled (.callGateInner _ _)) (.of_steady (.callGateSame _ _))

theorem Ends.farSwitch (k : FarKind) (tsel : Half) {td : Desc} (type : TssType td) :
    Ends Machine.protectedly (farSwitch k tsel td) :=
  .bind .getS fun _ => .bind (.switchTasks _ type _ _ _ _) fun _ => Ends.protectedly (.checkNewEip _)

theorem Ends.farTaskGate (k : FarKind) (gsel : Half) (gate : Desc) : Ends Machine.protectedly (farTaskGate k gsel gate) := by
  refine .bind_protectedly (.checkGate _ _) fun _ => .bind_of (Ends.protectedly (.readTss _ _ _)) fun _ _ td read => ?_
  exact .farSwitch _ _ (tssType_of_isSystem (readTss_isSystem read) (by decide))

theorem Ends.farTss (k : FarKind) (tsel : Half) (td : Desc) : Ends Machine.protectedly (farTss k tsel td) := by
  refine .bind .getS fun s => .bind_of (.check (.raiseGP _)) fun _ _ _ checked => .bind (.check (.raiseNP _)) fun _ => ?_
  obtain ⟨allowed, -⟩ := Bool.and_eq_true_iff.mp (check_ok checked)
  obtain ⟨-, system⟩ := Bool.and_eq_true_iff.mp allowed
  exact .farSwitch _ _ (tssType_of_isSystem system (by decide))

theorem InProtected.farProtected (k : FarKind) (o : Size) (sel : Half) (off : Word) :
    InProtected (farProtected k o sel off) := by
  refine .bind (.check (.raiseGP _)) fun _ => .bind (.readDesc _ (.raiseGP _)) fun d =>
    .ite (.of_steady (.farCode _ _ _ _ _)) (.ite ?_ (.ite (.of_protectedly (.farTaskGate _ _ _))
      (.ite (.of_protectedly (.farTss _ _ _)) (.of_steady (.raiseGP _)))))
  cases k with
  | jmp => exact .of_steady (.jumpGate _ _)
  | call => exact .callGate _ _

theorem Ends.farTransfer (k : FarKind) (sel : Half) (off : Word) : Ends Machine.ordinary (farTransfer k sel off) :=
  fun s => Ends.byMode (.farProtected _ _ _ _) (.farReal _ _ _ _) s

theorem Ends.farIndirect (k : FarKind) (m : MemOp) : Ends Machine.ordinary (farIndirect k m) :=
  .bind .getS fun _ => .bind (Ends.ordinary (.readFarPtr _ _)) fun _ => .farTransfer _ _ _

theorem Ends.returnFarOuter (o : Size) (imm : Nat) (sel : Half) (cd : Desc) :
    Ends Machine.leveled (returnFarOuter o imm sel cd) :=
  .bind .getS fun _ => .bind_leveled (.checkSlots _ _) fun _ => .bind_leveled (.checkSpan _ _) fun _ =>
    .bind_leveled (.slotSel _ _) fun _ => .bind_leveled (.checkOuterSs _ _) fun _ => .bind_leveled (.slotV _ _) fun _ =>
    .bind_leveled (.checkTarget _ _ _) fun _ => .bind_leveled (.slotV _ _) fun _ => .bind (.setCpl _) fun _ =>
    .bind_leveled (.setEip _) fun _ => .bind_leveled (.loadSeg _ _ _) fun _ => .bind_leveled (.takeStack _ _ _) fun _ =>
    .bind_leveled (.dropDataSegs _) fun _ => Ends.leveled (.popBytes _)

theorem Ends.returnFar (imm : Half) : Ends Machine.ordinary (returnFar imm) :=
  .atOpSize fun _ s => Ends.byMode
    (.bind (.checkSlots _ _) fun _ => .bind (.slotSel _ _) fun _ => .bind (.checkReturnCs _) fun _ =>
      .ite (.of_leveled (.returnFarOuter _ _ _ _)) (.of_steady (.returnFarSame _ _ _ _)))
    (.returnFarReal _ _) s

/-! ### Software interrupts -/

theorem Ends.intN (n : BitVec 8) : Ends Machine.ordinary (intN n) :=
  .bind .getS fun _ => .bind (.check (.raiseGP _)) fun _ => .softInt _ _

theorem Ends.intOverflow : Ends Machine.ordinary intOverflow := .bind .getS fun _ => .onlyIf (.softInt _ _)

end Sys2Proof.Machine
end

section
/-!
PROOFS. Every instruction but the eight that write system registers is ordinary: wherever it ends, and whatever exception it
takes (60_exceptions.md R723, R730, R740 to R742).
-/

namespace Sys2Proof.Machine

open Claims

variable {α β : Type} {R : StateRel}

/-! ### Taking exceptions -/

theorem memoryInv_replay {s : State} {l : List Host.Cell} (inv : Memory.wf s.mem = true) (log : logWf l = true) :
    Memory.wf (replay l s.mem) = true := by
  generalize s.mem = m at inv
  induction l generalizing m with
  | nil => exact inv
  | cons c l ih =>
    obtain ⟨a, v⟩ := c
    obtain ⟨first, rest⟩ := Bool.and_eq_true_iff.mp log
    exact ih rest _ (Memory.wf_write inv (of_decide_eq_true first) v)

/-- Undoing an instruction restores the system registers, and memory keeps its form. -/
theorem steady_rollback {s t : State} (h : memoryInv s = true → memoryInv t = true) : steady.rel s (rollback s t) := by
  refine ⟨fun inv => ?_, rfl⟩
  obtain ⟨-, log⟩ := Bool.and_eq_true_iff.mp (h inv)
  obtain ⟨wf, -⟩ := Bool.and_eq_true_iff.mp inv
  exact Bool.and_eq_true_iff.mpr ⟨memoryInv_replay wf log, log⟩

/-- Forgetting the log of bytes keeps the invariant. -/
theorem steady_forget (s : State) : steady.rel s { s with ins := { s.ins with sysLog := [] } } :=
  ⟨fun inv => memoryInv_log inv rfl rfl, rfl⟩

theorem steady_recordExn (e : Exn) (s : State) : steady.rel s (recordExn e s) := by
  unfold recordExn
  dsimp only
  split <;> exact ⟨id, rfl⟩

theorem steady_shutDown (s : State) : steady.rel s s.shutDown := ⟨id, rfl⟩

/-- Where a delivery stopped: the state it reached when that is committed, else the one before it. -/
theorem ordinary_base {s t : State} (h : ordinary.rel s t) (committed : Bool) :
    ordinary.rel s (if committed then t else rollback s t) := by
  cases committed
  · exact ordinary_of_steady (steady_rollback h.1.memory)
  · exact h

theorem ordinary_takeExn (fuel : Nat) (e : Exn) (ret : FarPtr) (s : State) : ordinary.rel s (takeExn fuel e ret s) := by
  induction fuel generalizing e ret s with
  | zero => exact ordinary_of_steady (steady_shutDown s)
  | succ fuel ih =>
    have begun := ordinary_of_steady (steady.trans (steady_forget s) (steady_recordExn e _))
    refine ordinary.trans begun ?_
    unfold takeExn
    dsimp only
    generalize recordExn e _ = u
    have delivered := Ends.deliver (e.delivery ret) u
    unfold EndsAt at delivered
    split
    · next t run =>
      rw [run] at delivered
      exact ordinary.trans delivered (ordinary_of_steady ⟨id, rfl⟩)
    · next b committed t run =>
      rw [run] at delivered
      have base := ordinary_base delivered committed
      have recorded := fun v => ordinary_of_steady (steady_recordExn b v)
      split
      · exact ordinary.trans base (ordinary.trans (recorded _) (ordinary_of_steady (steady_shutDown _)))
      · split
        · exact ordinary.trans base (ordinary.trans (recorded _) (ih _ _ _))
        · exact ordinary.trans base (ih _ _ _)
    · next t _ run =>
      rw [run] at delivered
      exact ordinary.trans delivered (ordinary_of_steady (steady_shutDown t))

theorem ordinary_taken (e : Exn) (s : State) : ordinary.rel s
    (if e.deadSp.contains s.sp then State.shutDown { s with ins := { s.ins with sysLog := [] } }
     else takeExn nesting e s.here s) := by
  split
  · exact ordinary_of_steady (steady.trans (steady_forget s) (steady_shutDown _))
  · exact ordinary_takeExn _ _ _ _

/-- A fault taken: from the state before the instruction, or from the task it has entered. -/
theorem takeFault_rel (le : ∀ {s t}, ordinary.rel s t → R.rel s t) (mem : ∀ {s t}, R.rel s t → memoryInv s = true →
    memoryInv t = true) {s t : State} (h : R.rel s t) (e : Exn) (committed : Bool) :
    R.rel s (takeFault e committed s t) := by
  unfold takeFault
  dsimp only
  refine R.trans (t := if committed then t else rollback s t) ?_ (le (ordinary_taken e _))
  cases committed
  · exact le (ordinary_of_steady (steady_rollback (mem h)))
  · exact h

/-- The outcome of an instruction from the relation that its meaning keeps. -/
theorem runInstr_rel (le : ∀ {s t}, ordinary.rel s t → R.rel s t) (mem : ∀ {s t}, R.rel s t → memoryInv s = true →
    memoryInv t = true) {body : M Unit} {s t : State} (h : EndsAt R body (past s)) (run : runInstr body s = .next t) :
    R.rel s t := by
  have moved : R.rel s (past s) := le (ordinary_of_steady ⟨id, rfl⟩)
  unfold EndsAt at h
  unfold runInstr at run
  rw [show { s with eip := s.ins.nextEip } = past s from rfl] at run
  revert h run
  rcases body (past s) with ⟨_, u⟩ | ⟨e, u⟩
  · rintro h ⟨⟩
    exact R.trans moved h
  · rcases e with ⟨e, committed⟩ | - | r
    · rintro h ⟨⟩
      exact takeFault_rel le mem (R.trans moved h) e committed
    · rintro h ⟨⟩
      have undone := steady_rollback (mem (R.trans moved h))
      exact le (ordinary_of_steady (steady.trans undone ⟨id, rfl⟩))
    · rintro h ⟨⟩

/-! ### The instructions -/

/-- Wherever the instruction ends, it has kept what ordinary steps keep. -/
def Kept (i : Instr) : Prop := ∀ s t, exec i s = .next t → ordinary.rel s t

theorem Kept.ordinary {i : Instr} {body : M Unit} (run : ∀ s, exec i s = runInstr body s) (h : Ends ordinary body) :
    Kept i := fun s _ e => runInstr_rel id (fun g => g.1.memory) (h (past s)) ((run s).symm.trans e)

theorem Kept.steady {i : Instr} {body : M Unit} (run : ∀ s, exec i s = runInstr body s) (h : Steady body) : Kept i :=
  .ordinary run h.ordinary

theorem Kept.ofNext {i : Instr} {f : State → State} (run : ∀ s, exec i s = .next (f s)) (h : ∀ s, Machine.steady.rel s (f s)) :
    Kept i := by
  intro s t e
  rw [run] at e
  cases e
  exact ordinary_of_steady (h s)

/-- The instructions that write a system register (45_system.md R541 to R559). -/
inductive SystemForm : Instr → Prop
  | lldtRm16 (d : RM) : SystemForm (.lldtRm16 d)
  | ltrRm16 (d : RM) : SystemForm (.ltrRm16 d)
  | lgdtM (m : MemOp) : SystemForm (.lgdtM m)
  | lidtM (m : MemOp) : SystemForm (.lidtM m)
  | lmswRm16 (d : RM) : SystemForm (.lmswRm16 d)
  | clts : SystemForm .clts
  | movCrR (c : CReg) (r : Reg) : SystemForm (.movCrR c r)
  | movDrR (n : BitVec 3) (r : Reg) : SystemForm (.movDrR n r)

/-- Every other instruction keeps what ordinary steps keep. -/
theorem kept_or_system (i : Instr) : Kept i ∨ SystemForm i := by
  by_cases system : SystemForm i
  · exact .inr system
  refine .inl ?_
  cases i with
  | lldtRm16 | ltrRm16 | lgdtM | lidtM | lmswRm16 | clts | movCrR | movDrR => exact absurd (by constructor) system
  | addRm8R8 | addR8Rm8 | addRm8Imm8 | orRm8R8 | orR8Rm8 | orRm8Imm8 | adcRm8R8 | adcR8Rm8 | adcRm8Imm8
  | sbbRm8R8 | sbbR8Rm8 | sbbRm8Imm8 | andRm8R8 | andR8Rm8 | andRm8Imm8 | subRm8R8 | subR8Rm8 | subRm8Imm8
  | xorRm8R8 | xorR8Rm8 | xorRm8Imm8 | cmpRm8R8 | cmpR8Rm8 | cmpRm8Imm8 => exact .steady (fun _ => rfl) (.alu _ _ _ _)
  | addRmR | addRRm | addEaxImm | addRmImm | addRmImm8 | orRmR | orRRm | orEaxImm | orRmImm | orRmImm8 | adcRmR
  | adcRRm | adcEaxImm | adcRmImm | adcRmImm8 | sbbRmR | sbbRRm | sbbEaxImm | sbbRmImm | sbbRmImm8 | andRmR
  | andRRm | andEaxImm | andRmImm | andRmImm8 | subRmR | subRRm | subEaxImm | subRmImm | subRmImm8 | xorRmR
  | xorRRm | xorEaxImm | xorRmImm | xorRmImm8 | cmpRmR | cmpRRm | cmpEaxImm | cmpRmImm | cmpRmImm8 =>
    exact .steady (fun _ => rfl) (.atSize fun _ => .alu _ _ _ _)
  | addAlImm8 => exact .steady (fun s => exec_addAlImm8 s _) (.alu _ _ _ _)
  | orAlImm8 => exact .steady (fun s => exec_orAlImm8 s _) (.alu _ _ _ _)
  | adcAlImm8 => exact .steady (fun s => exec_adcAlImm8 s _) (.alu _ _ _ _)
  | sbbAlImm8 => exact .steady (fun s => exec_sbbAlImm8 s _) (.alu _ _ _ _)
  | andAlImm8 => exact .steady (fun s => exec_andAlImm8 s _) (.alu _ _ _ _)
  | subAlImm8 => exact .steady (fun s => exec_subAlImm8 s _) (.alu _ _ _ _)
  | xorAlImm8 => exact .steady (fun s => exec_xorAlImm8 s _) (.alu _ _ _ _)
  | cmpAlImm8 => exact .steady (fun s => exec_cmpAlImm8 s _) (.alu _ _ _ _)
  | incRm8 => exact .steady (fun _ => rfl) (.inc _ _)
  | incRm | incR => exact .steady (fun _ => rfl) (.atSize fun _ => .inc _ _)
  | decRm8 => exact .steady (fun _ => rfl) (.dec _ _)
  | decRm | decR => exact .steady (fun _ => rfl) (.atSize fun _ => .dec _ _)
  | notRm8 => exact .steady (fun _ => rfl) (.not _ _)
  | notRm => exact .steady (fun _ => rfl) (.atSize fun _ => .not _ _)
  | negRm8 => exact .steady (fun _ => rfl) (.neg _ _)
  | negRm => exact .steady (fun _ => rfl) (.atSize fun _ => .neg _ _)
  | mulRm8 => exact .steady (fun _ => rfl) (.mul _ _)
  | mulRm => exact .steady (fun _ => rfl) (.atSize fun _ => .mul _ _)
  | imulRm8 => exact .steady (fun _ => rfl) (.imul1 _ _)
  | imulRm => exact .steady (fun _ => rfl) (.atSize fun _ => .imul1 _ _)
  | divRm8 => exact .steady (fun _ => rfl) (.div _ _)
  | divRm => exact .steady (fun _ => rfl) (.atSize fun _ => .div _ _)
  | idivRm8 => exact .steady (fun _ => rfl) (.idiv _ _)
  | idivRm => exact .steady (fun _ => rfl) (.atSize fun _ => .idiv _ _)
  | imulRRm | imulRRmImm8 | imulRRmImm => exact .steady (fun _ => rfl) (.atSize fun _ => .imulTo _ _ _ _)
  | cbwCwde => exact .steady exec_cbwCwde (fun s => Ends.cbw _ s)
  | cwdCdq => exact .steady exec_cwdCdq (fun s => Ends.cwd _ s)
  | aaa => exact .steady (fun _ => rfl) .doAaa
  | aas => exact .steady (fun _ => rfl) .doAas
  | aamImm8 => exact .steady (fun _ => rfl) (.doAam _)
  | aadImm8 => exact .steady (fun _ => rfl) (.doAad _)
  | daa => exact .steady (fun _ => rfl) .doDaa
  | das => exact .steady (fun _ => rfl) .doDas
  | testAlImm8 => exact .steady (fun s => exec_testAlImm8 s _) (.test _ _ _)
  | testEaxImm | testRmImm | testRmR => exact .steady (fun _ => rfl) (.atSize fun _ => .test _ _ _)
  | testRm8Imm8 | testRm8R8 => exact .steady (fun _ => rfl) (.test _ _ _)
  | rolRm8One | rolRm8Imm8 | rorRm8One | rorRm8Imm8 | rclRm8One | rclRm8Imm8 | rcrRm8One | rcrRm8Imm8
  | salRm8One | salRm8Imm8 | shrRm8One | shrRm8Imm8 | sarRm8One | sarRm8Imm8 =>
    exact .steady (fun _ => rfl) (.shift _ _ _ _)
  | rolRm8Cl | rorRm8Cl | rclRm8Cl | rcrRm8Cl | salRm8Cl | shrRm8Cl | sarRm8Cl =>
    exact .steady (fun _ => rfl) (.withCl fun _ => .shift _ _ _ _)
  | rolRmOne | rolRmImm8 | rorRmOne | rorRmImm8 | rclRmOne | rclRmImm8 | rcrRmOne | rcrRmImm8 | salRmOne
  | salRmImm8 | shrRmOne | shrRmImm8 | sarRmOne | sarRmImm8 =>
    exact .steady (fun _ => rfl) (.atSize fun _ => .shift _ _ _ _)
  | rolRmCl | rorRmCl | rclRmCl | rcrRmCl | salRmCl | shrRmCl | sarRmCl =>
    exact .steady (fun _ => rfl) (.atSize fun _ => .withCl fun _ => .shift _ _ _ _)
  | shldRmRImm8 | shrdRmRImm8 => exact .steady (fun _ => rfl) (.atSize fun _ => .doubleShift _ _ _ _ _)
  | shldRmRCl | shrdRmRCl => exact .steady (fun _ => rfl) (.atSize fun _ => .withCl fun _ => .doubleShift _ _ _ _ _)
  | btRmR | btsRmR | btrRmR | btcRmR => exact .steady (fun _ => rfl) (.atSize fun _ => .bitByReg _ _ _ _)
  | btRmImm8 | btsRmImm8 | btrRmImm8 | btcRmImm8 => exact .steady (fun _ => rfl) (.atSize fun _ => .bitByImm _ _ _ _)
  | bsfRRm | bsrRRm => exact .steady (fun _ => rfl) (.atSize fun _ => .scan _ _ _ _)
  | setoRm8 | setnoRm8 | setbRm8 | setaeRm8 | seteRm8 | setneRm8 | setbeRm8 | setaRm8 | setsRm8 | setnsRm8
  | setpRm8 | setnpRm8 | setlRm8 | setgeRm8 | setleRm8 | setgRm8 => exact .steady (fun _ => rfl) (.setcc _ _)
  | movRm8R8 | movR8Rm8 | movRm8Imm8 => exact .steady (fun _ => rfl) (.move _ _ _)
  | movRmR | movRRm | movRImm | movRmImm => exact .steady (fun _ => rfl) (.atSize fun _ => .move _ _ _)
  | movR8Imm8 => exact .steady (fun s => exec_movR8Imm8 s _ _) (.move _ _ _)
  | movAlMoffs => exact .steady (fun _ => rfl) (.loadMoffs _ _)
  | movEaxMoffs => exact .steady (fun _ => rfl) (.atSize fun _ => .loadMoffs _ _)
  | movMoffsAl => exact .steady (fun _ => rfl) (.storeMoffs _ _)
  | movMoffsEax => exact .steady (fun _ => rfl) (.atSize fun _ => .storeMoffs _ _)
  | movRmSreg => exact .steady (fun _ => rfl) (.atOpSize fun _ => .moveFromSreg _ _ _)
  | movSregRm => exact .steady (fun _ => rfl) (.moveToSreg _ _)
  | movsxRRm8 | movsxRRm16 | movzxRRm8 | movzxRRm16 =>
    exact .steady (fun _ => rfl) (.atSize fun _ => .moveExtend _ _ _ _ _)
  | xchgEaxR | xchgRmR => exact .steady (fun _ => rfl) (.atSize fun _ => .exchange _ _ _)
  | xchgRm8R8 => exact .steady (fun _ => rfl) (.exchange _ _ _)
  | leaRM => exact .steady (fun _ => rfl) (.atSize fun _ => .lea _ _ _)
  | xlat => exact .steady (fun _ => rfl) .doXlat
  | pushRm | pushR | pushImm8 | pushImm => exact .steady (fun _ => rfl) (.atOpSize fun _ => .pushOpnd _ _)
  | pushEs | pushCs | pushSs | pushDs | pushFs | pushGs =>
    exact .steady (fun _ => rfl) (.atOpSize fun _ => .pushSreg _ _)
  | popRm | popR => exact .steady (fun _ => rfl) (.atOpSize fun _ => .popOpnd _ _)
  | popEs | popSs | popDs | popFs | popGs => exact .steady (fun _ => rfl) (.atOpSize fun _ => .popSreg _ _)
  | pusha => exact .steady (fun _ => rfl) (.atOpSize fun _ => .doPusha _)
  | popa => exact .steady (fun _ => rfl) (.atOpSize fun _ => .doPopa _)
  | pushf => exact .steady (fun _ => rfl) (.atOpSize fun _ => .doPushf _)
  | popf => exact .steady (fun _ => rfl) (.atOpSize fun _ => .doPopf _)
  | lahf => exact .steady (fun _ => rfl) .doLahf
  | sahf => exact .steady (fun _ => rfl) .doSahf
  | ldsRM | lesRM | lfsRM | lgsRM | lssRM => exact .steady (fun _ => rfl) (.atSize fun _ => .loadFar _ _ _ _)
  | clc => exact .steady exec_clc (.updFlags fun _ => rfl)
  | cld => exact .steady exec_cld (.updFlags fun _ => rfl)
  | cmc => exact .steady exec_cmc (.updFlags fun _ => rfl)
  | stc => exact .steady exec_stc (.updFlags fun _ => rfl)
  | std => exact .steady exec_std (.updFlags fun _ => rfl)
  | movsb => exact .steady (fun _ => rfl) (.repeated _ (.movs _))
  | movswMovsd => exact .steady (fun _ => rfl) (.repeated _ (.atSize fun _ => .movs _))
  | cmpsb => exact .steady (fun _ => rfl) (.repeated _ (.cmps _))
  | cmpswCmpsd => exact .steady (fun _ => rfl) (.repeated _ (.atSize fun _ => .cmps _))
  | stosb => exact .steady (fun _ => rfl) (.repeated _ (.stos _))
  | stoswStosd => exact .steady (fun _ => rfl) (.repeated _ (.atSize fun _ => .stos _))
  | lodsb => exact .steady (fun _ => rfl) (.repeated _ (.lods _))
  | lodswLodsd => exact .steady (fun _ => rfl) (.repeated _ (.atSize fun _ => .lods _))
  | scasb => exact .steady (fun _ => rfl) (.repeated _ (.scas _))
  | scaswScasd => exact .steady (fun _ => rfl) (.repeated _ (.atSize fun _ => .scas _))
  | insb => exact .steady (fun _ => rfl) (.repeated _ (.insElement _))
  | inswInsd => exact .steady (fun _ => rfl) (.repeated _ (.atSize fun _ => .insElement _))
  | outsb => exact .steady (fun _ => rfl) (.repeated _ (.outsElement _))
  | outswOutsd => exact .steady (fun _ => rfl) (.repeated _ (.atSize fun _ => .outsElement _))
  | inAlImm8 => exact .steady (fun _ => rfl) (.portIn _ _)
  | inEaxImm8 => exact .steady (fun _ => rfl) (.atSize fun _ => .portIn _ _)
  | inAlDx => exact .steady (fun _ => rfl) (.withDx fun _ => .portIn _ _)
  | inEaxDx => exact .steady (fun _ => rfl) (.atSize fun _ => .withDx fun _ => .portIn _ _)
  | outImm8Al => exact .steady (fun _ => rfl) (.portOut _ _)
  | outImm8Eax => exact .steady (fun _ => rfl) (.atSize fun _ => .portOut _ _)
  | outDxAl => exact .steady (fun _ => rfl) (.withDx fun _ => .portOut _ _)
  | outDxEax => exact .steady (fun _ => rfl) (.atSize fun _ => .withDx fun _ => .portOut _ _)
  | rep | repne | lock | repe | segEs | segCs | segSs | segDs | segFs | segGs | opsize | adsize =>
    exact .ofNext (fun _ => rfl) (fun _ => ⟨id, rfl⟩)
  | jmpRel8 | jmpRel => exact .steady (fun _ => rfl) (.jumpRel _)
  | jmpRm => exact .steady (fun _ => rfl) (.jumpOpnd _)
  | jmpPtr | callPtr => exact .ordinary (fun _ => rfl) (.farTransfer _ _ _)
  | jmpMFar | callMFar => exact .ordinary (fun _ => rfl) (.farIndirect _ _)
  | joRel8 | joRel | jnoRel8 | jnoRel | jbRel8 | jbRel | jaeRel8 | jaeRel | jeRel8 | jeRel | jneRel8 | jneRel
  | jbeRel8 | jbeRel | jaRel8 | jaRel | jsRel8 | jsRel | jnsRel8 | jnsRel | jpRel8 | jpRel | jnpRel8 | jnpRel
  | jlRel8 | jlRel | jgeRel8 | jgeRel | jleRel8 | jleRel | jgRel8 | jgRel =>
    exact .steady (fun _ => rfl) (.jumpIf _ _)
  | jcxzRel8 => exact .steady (fun _ => rfl) (.jumpIfNoCount _)
  | loopRel8 | loopeRel8 | loopneRel8 => exact .steady (fun _ => rfl) (.loopWhile _ _)
  | callRel => exact .steady (fun _ => rfl) (.callRelative _)
  | callRm => exact .steady (fun _ => rfl) (.callOpnd _)
  | retNear | retNearImm16 => exact .steady (fun _ => rfl) (.returnNear _)
  | retFar | retFarImm16 => exact .ordinary (fun _ => rfl) (.returnFar _)
  | intImm8 => exact .ordinary (fun _ => rfl) (.intN _)
  | int3 | int1 => exact .ordinary (fun _ => rfl) (.softInt _ _)
  | into => exact .ordinary (fun _ => rfl) .intOverflow
  | iret => exact .ordinary (fun _ => rfl) (.atOpSize fun _ => .returnFromInt _)
  | enter => exact .steady (fun _ => rfl) (.atOpSize fun _ => .enterFrame _ _ _)
  | leave => exact .steady (fun _ => rfl) (.atOpSize fun _ => .leaveFrame _)
  | boundRM => exact .steady (fun _ => rfl) (.atSize fun _ => .bound _ _ _)
  | hlt => exact .steady (fun _ => rfl) .halt
  | wait => exact .steady (fun _ => rfl) .waitInstr
  | nop => exact .steady (fun _ => rfl) .skip
  | sldtRm16 => exact .steady (fun _ => rfl) (.storeLdt _)
  | strRm16 => exact .steady (fun _ => rfl) (.storeTask _)
  | verrRm16 | verwRm16 => exact .steady (fun _ => rfl) (.verify _ _)
  | sgdtM | sidtM => exact .steady (fun _ => rfl) (.storeTable _ _)
  | smswRm16 => exact .steady (fun _ => rfl) (.storeMsw _)
  | larRRm16 | lslRRm16 => exact .steady (fun _ => rfl) (.atSize fun _ => .describe _ _ _ _ _)
  | movRCr => exact .steady (fun _ => rfl) (.moveFromCr _ _)
  | movRDr => exact .steady (fun _ => rfl) (.moveFromDr _ _)
  | arplRm16R16 => exact .steady (fun _ => rfl) (.adjustRpl _ _)
  | cli => exact .steady (fun _ => rfl) .clearIf
  | sti => exact .steady (fun _ => rfl) .setIf
  | fldM32 | fldM64 => exact .steady (fun _ => rfl) (.loadReal _ _)
  | fldM80 => exact .steady (fun _ => rfl) (.loadExt _)
  | fldSt => exact .steady (fun _ => rfl) (NumericOnly.loadSt _).steady
  | fld1 | fldl2t | fldl2e | fldpi | fldlg2 | fldln2 | fldz =>
    exact .steady (fun _ => rfl) (NumericOnly.loadConst _).steady
  | fstM32 | fstM64 | fstpM32 | fstpM64 => exact .steady (fun _ => rfl) (.storeReal _ _ _)
  | fstSt | fstpSt => exact .steady (fun _ => rfl) (NumericOnly.storeSt _ _).steady
  | fstpM80 => exact .steady (fun _ => rfl) (.storeExt _)
  | fildM16 | fildM32 | fildM64 => exact .steady (fun _ => rfl) (.loadInt _ _)
  | fistM16 | fistM32 | fistpM16 | fistpM32 | fistpM64 => exact .steady (fun _ => rfl) (.storeInt _ _ _)
  | fbldM80 => exact .steady (fun _ => rfl) (.loadBcd _)
  | fbstpM80 => exact .steady (fun _ => rfl) (.storeBcd _)
  | fxchSt => exact .steady (fun _ => rfl) (.fxchRegs _)
  | faddM32 | faddM64 | fmulM32 | fmulM64 | fsubM32 | fsubM64 | fsubrM32 | fsubrM64 | fdivM32 | fdivM64
  | fdivrM32 | fdivrM64 => exact .steady (fun _ => rfl) (.arithReal _ _ _)
  | faddSt0Sti | faddStiSt0 | faddpStiSt0 | fmulSt0Sti | fmulStiSt0 | fmulpStiSt0 | fsubSt0Sti | fsubStiSt0
  | fsubpStiSt0 | fsubrSt0Sti | fsubrStiSt0 | fsubrpStiSt0 | fdivSt0Sti | fdivStiSt0 | fdivpStiSt0
  | fdivrSt0Sti | fdivrStiSt0 | fdivrpStiSt0 => exact .steady (fun _ => rfl) (NumericOnly.arithRegs _ _ _ _).steady
  | fiaddM32 | fiaddM16 | fimulM32 | fimulM16 | fisubM32 | fisubM16 | fisubrM32 | fisubrM16 | fidivM32
  | fidivM16 | fidivrM32 | fidivrM16 => exact .steady (fun _ => rfl) (.arithInt _ _ _)
  | fsqrt => exact .steady (fun _ => rfl) NumericOnly.squareRoot.steady
  | fscale => exact .steady (fun _ => rfl) NumericOnly.scale.steady
  | fprem | fprem1 => exact .steady (fun _ => rfl) (NumericOnly.partialRem _).steady
  | frndint => exact .steady (fun _ => rfl) NumericOnly.roundToInt.steady
  | fxtract => exact .steady (fun _ => rfl) NumericOnly.extract.steady
  | fabs | fchs => exact .steady (fun _ => rfl) (NumericOnly.onSign _).steady
  | fcomM32 | fcomM64 | fcompM32 | fcompM64 => exact .steady (fun _ => rfl) (.compareReal _ _ _)
  | fcomSt | fcompSt | fcompp | fucomSt | fucompSt | fucompp =>
    exact .steady (fun _ => rfl) (NumericOnly.compareSt _ _ _).steady
  | ficomM16 | ficomM32 | ficompM16 | ficompM32 => exact .steady (fun _ => rfl) (.compareInt _ _ _)
  | ftst => exact .steady (fun _ => rfl) NumericOnly.testZero.steady
  | fxam => exact .steady (fun _ => rfl) NumericOnly.examine.steady
  | f2xm1 => exact .steady (fun _ => rfl) NumericOnly.exp2m1.steady
  | fyl2x => exact .steady (fun _ => rfl) NumericOnly.log2Mul.steady
  | fyl2xp1 => exact .steady (fun _ => rfl) NumericOnly.log2p1Mul.steady
  | fptan => exact .steady (fun _ => rfl) NumericOnly.tangent.steady
  | fpatan => exact .steady (fun _ => rfl) NumericOnly.arctangent.steady
  | fsin | fcos => exact .steady (fun _ => rfl) (NumericOnly.trig _ _).steady
  | fsincos => exact .steady (fun _ => rfl) NumericOnly.sineCosine.steady
  | fninit => exact .steady (fun _ => rfl) .fpuInit
  | fnclex => exact .steady (fun _ => rfl) .fpuClear
  | fldcwM16 => exact .steady (fun _ => rfl) (.loadControl _)
  | fnstcwM16 => exact .steady (fun _ => rfl) (.storeControl _)
  | fnstswM16 => exact .steady (fun _ => rfl) (.storeStatus _)
  | fnstswAx => exact .steady (fun _ => rfl) .storeStatusAx
  | fldenvEnv => exact .steady (fun _ => rfl) (.loadEnvironment _)
  | fnstenvEnv => exact .steady (fun _ => rfl) (.storeEnvironment _)
  | fnsaveFull => exact .steady (fun _ => rfl) (.saveState _)
  | frstorFull => exact .steady (fun _ => rfl) (.restoreState _)
  | fincstp | fdecstp => exact .steady (fun _ => rfl) (NumericOnly.moveTop _).steady
  | ffreeSt => exact .steady (fun _ => rfl) (NumericOnly.freeSt _).steady
  | fnop => exact .steady (fun _ => rfl) (.numeric FpuOnly.drawAllCodes.steady)
  | feni | fdisi | fsetpm => exact .steady (fun _ => rfl) (.noWait .skip)

end Sys2Proof.Machine
end

section
/-!
PROOFS. What every step keeps: the form of memory, the modes, and, outside CPL 0, the system registers (60_exceptions.md R780
to R783, 45_system.md R540, 70_reset_and_hazards.md R820).
-/

namespace Sys2Proof.Machine

open Claims

variable {α β : Type} {R : StateRel}

/-! ### The instructions that write system registers -/

/-- What every instruction keeps: the form of memory, the parameters, CR0.ET, and that the modes are legal. -/
def lawful : StateRel where
  rel s t := (memoryInv s = true → memoryInv t = true) ∧ t.cfg = s.cfg ∧ t.cr0.et = s.cr0.et ∧ (modesLegal s → modesLegal t)
  refl _ := ⟨id, rfl, rfl, id⟩
  trans := by
    rintro s t u ⟨h1, h2, h3, h4⟩ ⟨g1, g2, g3, g4⟩
    exact ⟨g1 ∘ h1, g2.trans h2, g3.trans h3, g4 ∘ h4⟩

theorem lawful_of_ordinary {s t : State} (h : ordinary.rel s t) : lawful.rel s t :=
  have et : ({ t.cr0 with ts := s.cr0.ts } : Cr0).et = s.cr0.et := congrArg Cr0.et h.1.cr0
  ⟨h.1.memory, h.1.cfg, et, h.1.modes⟩

theorem Ends.lawful {x : M α} (h : Steady x) : Ends Machine.lawful x :=
  h.ordinary.mono fun _ _ => lawful_of_ordinary

theorem Ends.bind_lawful {x : M α} {f : α → M β} (hx : Steady x) (hf : ∀ a, Ends Machine.lawful (f a)) :
    Ends Machine.lawful (x >>= f) := .bind hx.lawful hf

/-- Changing only CR0's bits other than PE, PG and ET. -/
theorem lawful_of_cr0 {s t : State} (mem : memoryInv s = true → memoryInv t = true) (cfg : t.cfg = s.cfg)
    (et : t.cr0.et = s.cr0.et) (vm : t.flags.vm = s.flags.vm) (cpl : t.cpl = s.cpl)
    (modes : modesLegal s → (t.cr0.pg = true → t.cr0.pe = true) ∧ (s.flags.vm = true → t.cr0.pe = true) ∧
      (t.cr0.pe = false → s.cpl = 0)) : lawful.rel s t := by
  refine ⟨mem, cfg, et, fun legal => ?_⟩
  obtain ⟨paging, virtual, real⟩ := modes legal
  unfold modesLegal
  rw [vm, cpl]
  exact ⟨paging, fun h => ⟨virtual h, (legal.2.1 h).2⟩, real⟩

theorem Ends.loadGdt (m : MemOp) : Ends Machine.lawful (loadGdt m) :=
  .atOpSize fun _ => .bind_lawful .privileged fun _ => .bind_lawful (.readTableReg _ _) fun _ =>
    .upd fun _ => ⟨id, rfl, rfl, id⟩

theorem Ends.loadIdt (m : MemOp) : Ends Machine.lawful (loadIdt m) :=
  .atOpSize fun _ => .bind_lawful .privileged fun _ => .bind_lawful (.readTableReg _ _) fun _ =>
    .upd fun _ => ⟨id, rfl, rfl, id⟩

theorem Ends.loadLdt (src : RM) : Ends Machine.lawful (loadLdt src) :=
  .bind_lawful .protectedOnly fun _ => .bind_lawful .privileged fun _ => .bind_lawful (.readOp _ _) fun _ =>
    .ite (.upd fun _ => ⟨id, rfl, rfl, id⟩) (.bind (.check (.raiseGP _)) fun _ => .bind_lawful (.readDesc _ (.raiseGP _))
      fun _ => .bind (.check (.raiseGP _)) fun _ => .bind (.check (.raiseNP _)) fun _ => .upd fun _ => ⟨id, rfl, rfl, id⟩)

theorem Ends.loadTask (src : RM) : Ends Machine.lawful (loadTask src) :=
  .bind_lawful .protectedOnly fun _ => .bind_lawful .privileged fun _ => .bind_lawful (.readOp _ _) fun _ =>
    .bind (.check (.raiseGP _)) fun _ => .bind (.check (.raiseGP _)) fun _ => .bind_lawful (.readDesc _ (.raiseGP _)) fun _ =>
    .bind (.check (.raiseGP _)) fun _ => .bind (.check (.raiseNP _)) fun _ => .bind_lawful (.setBusy _ _) fun _ =>
    .upd fun _ => ⟨id, rfl, rfl, id⟩

theorem Ends.clearTs : Ends Machine.lawful clearTs :=
  .bind_lawful .privileged fun _ => .upd fun _ => ⟨id, rfl, rfl, id⟩

/-- LMSW never clears PE. -/
theorem Ends.loadMsw (src : RM) : Ends Machine.lawful (loadMsw src) := by
  refine .bind_lawful .privileged fun _ => .bind_lawful (.readOp _ _) fun v s => ?_
  refine lawful_of_cr0 id rfl rfl rfl rfl fun ⟨paging, virtual, real⟩ =>
    ⟨fun h => ?_, fun h => ?_, fun h => real (Bool.or_eq_false_iff.mp h).1⟩
  · exact Bool.or_eq_true_iff.mpr (.inl (paging h))
  · exact Bool.or_eq_true_iff.mpr (.inl (virtual h).1)

/-- A privileged instruction goes on in real-address mode and at CPL 0 outside virtual-8086 mode. -/
theorem privileged_ok {s t : State} {a : Unit} (h : privileged s = .ok a t) :
    t = s ∧ (s.cr0.pe = false ∨ (s.cpl = 0 ∧ s.flags.vm = false)) := by
  obtain ⟨allowed, rfl⟩ := check_passed (c := !s.cr0.pe || (decide (s.cpl = 0) && !s.flags.vm)) h
  exact ⟨rfl, by simpa using allowed⟩

/-- MOV to CR0: paging needs PE, and PE is cleared at CPL 0 only. -/
theorem lawful_setCr0 {s : State} {v : Word} (paging : (!v.getLsbD 31 || v.getLsbD 0) = true)
    (allowed : s.cr0.pe = false ∨ (s.cpl = 0 ∧ s.flags.vm = false)) : EndsAt lawful (setCr0 (s.cr0.written v)) s := by
  refine lawful_of_cr0 id rfl rfl rfl rfl fun ⟨_, virtual, real⟩ => ⟨fun h => ?_, fun h => ?_, fun _ => ?_⟩
  · have h : v.getLsbD 31 = true := h
    rw [h] at paging
    exact paging
  · rcases allowed with off | ⟨-, off⟩
    · rw [(virtual h).1] at off
      cases off
    · rw [h] at off
      cases off
  · rcases allowed with off | ⟨zero, -⟩
    · exact real off
    · exact zero

theorem Ends.moveToCr (c : CReg) (r : Reg) : Ends Machine.lawful (moveToCr c r) := by
  intro s
  refine (Ends.lawful .privileged s).bind fun _ t passed => ?_
  obtain ⟨rfl, allowed⟩ := privileged_ok passed
  refine (Ends.lawful (.reg r) t).bind fun v u read => ?_
  cases read
  cases c with
  | cr0 =>
    refine EndsAt.bind (Ends.check (.raiseGP _) t) fun _ u checked => ?_
    obtain ⟨paging, rfl⟩ := check_passed checked
    refine EndsAt.of_run (bind_of_ok (run_getS u) _) (Machine.lawful.refl u) ?_
    exact EndsAt.bind (lawful_setCr0 paging allowed) fun _ u _ => Ends.lawful .drawAllFlags u
  | cr2 => exact Ends.bind (R := Machine.lawful) (.upd fun _ => ⟨id, rfl, rfl, id⟩) (fun _ => Ends.lawful .drawAllFlags) t
  | cr3 => exact Ends.bind (R := Machine.lawful) (.upd fun _ => ⟨id, rfl, rfl, id⟩) (fun _ => Ends.lawful .drawAllFlags) t

theorem Ends.moveToDr (n : BitVec 3) (r : Reg) : Ends Machine.lawful (moveToDr n r) :=
  .bind_lawful .debugAccess fun _ => .bind_lawful (.reg _) fun _ => .bind (.upd fun _ => ⟨id, rfl, rfl, id⟩) fun _ =>
    Ends.lawful .drawAllFlags

/-- Whatever the instruction, the step keeps memory, the parameters and the modes. -/
theorem exec_lawful (i : Instr) {s t : State} (run : exec i s = .next t) : lawful.rel s t := by
  rcases kept_or_system i with kept | system
  · exact lawful_of_ordinary (kept s t run)
  · have law : ∀ {body : M Unit}, Ends lawful body → runInstr body s = .next t → lawful.rel s t :=
      fun h => runInstr_rel lawful_of_ordinary (fun g => g.1) (h _)
    cases system with
    | lldtRm16 d => exact law (.loadLdt d) run
    | ltrRm16 d => exact law (.loadTask d) run
    | lgdtM m => exact law (.loadGdt m) run
    | lidtM m => exact law (.loadIdt m) run
    | lmswRm16 d => exact law (.loadMsw d) run
    | clts => exact law .clearTs run
    | movCrR c r => exact law (.moveToCr c r) run
    | movDrR n r => exact law (.moveToDr n r) run

/-! ### Outside CPL 0 of protected mode -/

/-- Outside CPL 0 of protected mode. -/
def Unprivileged (s : State) : Prop := s.cr0.pe = true ∧ (s.cpl ≠ 0 ∨ s.flags.vm = true)

theorem privileged_refused {s : State} (user : Unprivileged s) :
    privileged s = .error (.exc (.plain 13 (some 0)) false) s := by
  obtain ⟨pe, user⟩ := user
  have refused : ¬(!s.cr0.pe || (decide (s.cpl = 0) && !s.flags.vm)) = true := by
    rw [pe]
    rcases user with h | h
    · rw [decide_eq_false h]
      exact Bool.false_ne_true
    · rw [h, Bool.not_true, Bool.and_false]
      exact Bool.false_ne_true
  show check _ _ s = _
  rw [run_check, if_neg refused, run_raiseGP]

/-- An operation that begins with the privilege check stops there. -/
theorem endsAt_privileged {f : Unit → M α} {s : State} (user : Unprivileged s) :
    EndsAt ordinary (privileged >>= f) s := .of_error (bind_of_error (privileged_refused user) f)

theorem endsAt_protectedOnly {f : Unit → M α} {s : State} (user : Unprivileged s) :
    EndsAt ordinary (protectedOnly >>= fun _ => privileged >>= f) s :=
  EndsAt.bind (Ends.ordinary .protectedOnly s) fun _ t passed => by
    obtain ⟨-, rfl⟩ := check_passed (c := s.protectedMode) passed
    exact endsAt_privileged user

/-- Outside CPL 0 every instruction is ordinary: those that would write a system register are refused. -/
theorem exec_ordinary (i : Instr) {s t : State} (user : Unprivileged s) (run : exec i s = .next t) : ordinary.rel s t := by
  rcases kept_or_system i with kept | system
  · exact kept s t run
  · have law : ∀ {body : M Unit}, EndsAt ordinary body (past s) → runInstr body s = .next t → ordinary.rel s t :=
      fun h => runInstr_rel id (fun g => g.1.memory) h
    have stopped : Unprivileged (past s) := user
    cases system with
    | lldtRm16 d => exact law (endsAt_protectedOnly stopped) run
    | ltrRm16 d => exact law (endsAt_protectedOnly stopped) run
    | lgdtM m => exact law (endsAt_privileged stopped) run
    | lidtM m => exact law (endsAt_privileged stopped) run
    | lmswRm16 d => exact law (endsAt_privileged stopped) run
    | clts => exact law (endsAt_privileged stopped) run
    | movCrR c r => exact law (endsAt_privileged stopped) run
    | movDrR n r => exact law (.of_error (bind_of_error (bind_of_error (privileged_refused stopped) _) _)) run

end Sys2Proof.Machine
end

section
/-!
PROOFS. What every step keeps (O3, O4, O5): an event at the boundary and the fetch are ordinary, and then it is the
instruction's turn.
-/

namespace Sys2Proof.Machine

open Claims

variable {α β : Type} {R : StateRel}

/-! ### Fetching -/

theorem Ends.fetchByte (k : Nat) : Steady (fetchByte k) :=
  .bind .getS fun _ => .bind (.check (.raiseGP _)) fun _ => .bind (.physOf _ _ _ _) fun _ => .bind (.loadAt _) fun _ => .pure _

theorem Ends.checkLegal (f : Fetched) : Ends R (checkLegal f) :=
  .bind .getS fun _ => .bind (.check .raiseUD) fun _ => .check .raiseUD

theorem Ends.undefinedEscape (bs : List Byte) : Ends R (undefinedEscape bs : M α) :=
  .bind .getS fun _ => .bind (.check .raiseUD) fun _ => .bind (.check .raiseNM) fun _ => .stop _

theorem Ends.fetchMore (fuel : Nat) (bs : List Byte) : Steady (fetchMore fuel bs) := by
  induction fuel generalizing bs with
  | zero => exact .raiseGP _
  | succ fuel ih =>
    refine .bind (.fetchByte _) fun b => .bind .getS fun s => ?_
    split
    · exact .bind (.checkLegal _) fun _ => .pure _
    · exact .raiseUD
    · exact .undefinedEscape _
    · exact .ite .raiseUD (ih _)

/-- What is fetched is decoded from some bytes. -/
theorem fetchMore_decoded {fuel : Nat} {bs : List Byte} {s t : State} {f : Fetched}
    (h : fetchMore fuel bs s = .ok f t) : ∃ d bs', decodeBytes d bs' = .ok f := by
  induction fuel generalizing bs s with
  | zero => cases h
  | succ fuel ih =>
    obtain ⟨b, s1, -, h⟩ := ok_of_bind h
    obtain ⟨s2, s3, -, h⟩ := ok_of_bind h
    revert h
    generalize Size.ofBit s2.segs.cs.db = d
    rcases decoded : decodeBytes d (bs ++ [b]) with e | g
    · cases e
      · dsimp only
        split
        · exact nofun
        · exact ih
      · exact nofun
      · intro h
        obtain ⟨_, _, -, h⟩ := ok_of_bind h
        obtain ⟨_, _, -, h⟩ := ok_of_bind h
        obtain ⟨_, _, -, h⟩ := ok_of_bind h
        cases h
    · intro h
      obtain ⟨_, _, -, h⟩ := ok_of_bind h
      cases h
      exact ⟨_, _, decoded⟩

/-! ### Prefix bytes before an instruction -/

/-- The instruction is one of the one-byte rows of R163. -/
def IsPrefix (p : Instr) : Prop := ∃ f, PrefixForm p f

/-- A row of R163, named by an option that holds it. -/
theorem isPrefix_of_some {p q : Instr} {f : Ins → Ins} (form : PrefixForm q f) (h : some q = some p) : IsPrefix p := by
  obtain rfl := Option.some.inj h
  exact ⟨f, form⟩

theorem isPrefix_prefixByte {b : Byte} {p : Instr} (h : prefixByte b = some p) : IsPrefix p := by
  revert h
  unfold prefixByte
  split
  case h_1 => exact isPrefix_of_some .lock
  case h_2 => exact isPrefix_of_some .repne
  case h_3 => exact isPrefix_of_some .rep
  case h_4 => exact isPrefix_of_some .segEs
  case h_5 => exact isPrefix_of_some .segCs
  case h_6 => exact isPrefix_of_some .segSs
  case h_7 => exact isPrefix_of_some .segDs
  case h_8 => exact isPrefix_of_some .segFs
  case h_9 => exact isPrefix_of_some .segGs
  case h_10 => exact isPrefix_of_some .opsize
  case h_11 => exact isPrefix_of_some .adsize
  case h_12 => exact nofun

theorem isPrefix_takePrefixes (bs : List Byte) : ∀ p ∈ (takePrefixes bs).1, IsPrefix p := by
  induction bs with
  | nil => simp [takePrefixes]
  | cons b bs ih =>
    rcases h : prefixByte b with _ | p
    · simp [takePrefixes, h]
    · rw [takePrefixes, h]
      intro q hq
      rcases List.mem_cons.mp hq with rfl | hq
      · exact isPrefix_prefixByte h
      · exact ih q hq

theorem IsPrefix.prefixInstr {p : Instr} (h : IsPrefix p) (i : Instr) : IsPrefix (prefixInstr i p) := by
  unfold Sys2Proof.prefixInstr
  split
  · split
    · exact ⟨_, .repe⟩
    · exact ⟨_, .rep⟩
  · exact h

theorem isPrefix_decodeBytes {d : Size} {bs : List Byte} {f : Fetched} (h : decodeBytes d bs = .ok f) :
    ∀ p ∈ f.prefixes, IsPrefix p := by
  unfold decodeBytes at h
  dsimp only at h
  split at h
  · cases h
    exact isPrefix_takePrefixes bs
  · cases h

theorem exec_isPrefix {p : Instr} (h : IsPrefix p) (s : State) :
    ∃ ins : Ins, exec p s = .next { s with ins := ins } ∧ ins.sysLog = s.ins.sysLog := by
  obtain ⟨f, form⟩ := h
  cases form <;> exact ⟨_, rfl, rfl⟩

/-- Prefix bytes only note themselves; the instruction after them runs. -/
theorem runAll_isPrefix {ps : List Instr} (h : ∀ p ∈ ps, IsPrefix p) (i : Instr) (s : State) :
    ∃ ins : Ins, runAll (ps ++ [i]) s = exec i { s with ins := ins } ∧ ins.sysLog = s.ins.sysLog := by
  induction ps generalizing s with
  | nil => exact ⟨s.ins, runAll_single i s, rfl⟩
  | cons p ps ih =>
    obtain ⟨hp, hps⟩ := List.forall_mem_cons.mp h
    obtain ⟨ins, run, log⟩ := exec_isPrefix hp s
    obtain ⟨ins', run', log'⟩ := ih hps { s with ins := ins }
    refine ⟨ins', ?_, log'.trans log⟩
    rw [List.cons_append, runAll, run]
    exact run'

/-! ### Events between instructions -/

theorem steady_ins {s : State} {ins : Ins} (log : logWf s.ins.sysLog = true → logWf ins.sysLog = true) :
    steady.rel s { s with ins := ins } :=
  ⟨fun inv => memoryInv_log inv rfl (log (Bool.and_eq_true_iff.mp inv).2), rfl⟩

/-- Another bookkeeping of the instruction in progress, its log empty, and of what the next boundary sees. -/
theorem steady_delivered (t : State) : steady.rel t t.delivered := ⟨fun inv => memoryInv_log inv rfl rfl, rfl⟩

theorem ordinary_takeEvent (d : Delivery) (back : FarPtr) (s : State) : ordinary.rel s (takeEvent d back s) := by
  have begun : ordinary.rel s { s with ins := .none, inRep := false } :=
    ordinary_of_steady ⟨fun inv => memoryInv_log inv rfl rfl, rfl⟩
  refine ordinary.trans begun ?_
  unfold takeEvent
  dsimp only
  generalize ({ s with ins := .none, inRep := false } : State) = u
  have delivered := Ends.deliver d u
  unfold EndsAt at delivered
  refine ordinary.trans ?_ (ordinary_of_steady (steady_delivered _))
  split
  · next t run =>
    rw [run] at delivered
    exact delivered
  · next b committed t run =>
    rw [run] at delivered
    have base := ordinary_base delivered committed
    cases committed
    · exact ordinary.trans base (ordinary_takeExn _ _ _ _)
    · exact ordinary.trans base (ordinary_takeExn _ _ _ _)
  · next t _ run =>
    rw [run] at delivered
    exact ordinary.trans delivered (ordinary_of_steady (steady_shutDown t))

theorem ordinary_takeTrap (s : State) : ordinary.rel s (takeTrap s) :=
  ordinary.trans (ordinary_of_steady (⟨id, rfl⟩ : steady.rel s (State.reportDebug { s with pending := .none } _ _)))
    (ordinary_takeEvent _ _ _)

theorem ordinary_takeNmi (s : State) : ordinary.rel s (takeNmi s) := by
  have begun : ordinary.rel s { s with nmiPending := false, nmiBlocked := true } := ordinary_of_steady ⟨id, rfl⟩
  refine ordinary.trans begun ?_
  unfold takeNmi
  dsimp only
  split
  · split
    · next t run =>
      have delivered : ordinary.rel _ t := (Ends.deliver _ _).ok run
      refine ordinary.trans (ordinary_of_steady ?_)
        (ordinary.trans delivered (ordinary_of_steady (steady_delivered t)))
      exact ⟨fun inv => memoryInv_log inv rfl rfl, rfl⟩
    · exact ordinary.refl _
  · exact ordinary_takeEvent _ _ _

theorem ordinary_takeIntr (s : State) : ordinary.rel s (takeIntr s) :=
  ordinary.trans (ordinary_of_steady (⟨id, rfl⟩ : steady.rel s { s with draws := s.draws + 1 })) (ordinary_takeEvent _ _ _)

theorem ordinary_boundary {s t : State} (h : boundary s = some t) (noReset : s.resetIn = none) : ordinary.rel s t := by
  unfold boundary at h
  rw [noReset] at h
  dsimp only at h
  split at h
  · cases h
    exact ordinary_takeTrap s
  · split at h
    · cases h
      exact ordinary_takeNmi s
    · split at h
      · cases h
        exact ordinary_takeIntr s
      · cases h

/-! ### A step -/

theorem steady_starting (s : State) : steady.rel s s.starting := ⟨fun inv => memoryInv_log inv rfl rfl, rfl⟩

theorem steady_entry (f : Fetched) (t : State) : steady.rel t (f.entry t) := ⟨fun inv => memoryInv_log inv rfl rfl, rfl⟩

theorem steady_settle (s t : State) : steady.rel t (settle s t) := by
  refine ⟨fun inv => memoryInv_log inv rfl rfl, ?_⟩
  unfold settle State.system
  dsimp only
  split <;> rfl

theorem Fetched.all_eq (f : Fetched) : f.all = f.prefixes.map (prefixInstr f.instr) ++ [f.instr] := rfl

/-- One instruction does what every `exec` does: a fetch, and a fault of it, are ordinary. -/
theorem runOne_rel (le : ∀ {s t}, ordinary.rel s t → R.rel s t) (mem : ∀ {s t}, R.rel s t → memoryInv s = true →
    memoryInv t = true) {s t : State} (run : ∀ (i : Instr) (u v : State), u.system = s.system → exec i u = .next v → R.rel u v)
    (h : runOne s = .next t) : R.rel s t := by
  have begin := le (ordinary_of_steady (steady_starting s))
  have settled : ∀ u, R.rel s u → R.rel s (settle s u) := fun u g => R.trans g (le (ordinary_of_steady (steady_settle s u)))
  have faulted : ∀ e committed u, R.rel s.starting u → R.rel s (settle s (takeFault e committed s.starting u)) :=
    fun e committed u g => settled _ (R.trans begin (takeFault_rel le mem g e committed))
  unfold runOne at h
  dsimp only at h
  split at h
  · cases h
    exact faulted _ _ _ (R.refl _)
  · revert h
    have fetching : EndsAt steady fetch s.starting := Ends.fetchMore 15 [] s.starting
    unfold EndsAt at fetching
    split
    · next f u fetched =>
      rw [fetched] at fetching
      obtain ⟨d, bs, decoded⟩ := fetchMore_decoded fetched
      have noted : ∀ p ∈ f.prefixes.map (prefixInstr f.instr), IsPrefix p := by
        intro p hp
        obtain ⟨q, hq, rfl⟩ := List.mem_map.mp hp
        exact (isPrefix_decodeBytes decoded q hq).prefixInstr f.instr
      obtain ⟨ins, ran, log⟩ := runAll_isPrefix noted f.instr (f.entry u)
      have entered : steady.rel s { f.entry u with ins := ins } :=
        steady.trans (steady_starting s) (steady.trans fetching (steady.trans (steady_entry f u)
          (steady_ins fun _ => by rw [log]; rfl)))
      rw [Fetched.all_eq, ran]
      intro h
      rcases done : exec f.instr { f.entry u with ins := ins } with v | _ | _ <;> rw [done] at h <;> cases h
      exact settled v (R.trans (le (ordinary_of_steady entered)) (run _ _ _ entered.2 done))
    · next e committed u stopped =>
      rw [stopped] at fetching
      intro h
      cases h
      exact faulted e committed u (le (ordinary_of_steady fetching))
    · next u stopped =>
      rw [stopped] at fetching
      intro h
      cases h
      exact R.trans begin (le (ordinary_of_steady fetching))
    · exact nofun

/-- A step that is no reset does what every `exec` does. -/
theorem step_rel (le : ∀ {s t}, ordinary.rel s t → R.rel s t) (mem : ∀ {s t}, R.rel s t → memoryInv s = true →
    memoryInv t = true) {s t : State} (run : ∀ (i : Instr) (u v : State), u.system = s.system → exec i u = .next v → R.rel u v)
    (noReset : s.resetIn = none) (h : step s = .next t) : R.rel s t := by
  unfold step cycle at h
  rcases due : boundary s with _ | u <;> rw [due] at h <;> dsimp only at h
  · split at h
    · exact runOne_rel le mem run h
    · cases h
      exact R.refl s
  · cases h
    exact le (ordinary_boundary due noReset)

theorem step_reset {s : State} {p : ResetParams} (h : s.resetIn = some p) : step s = .next (s.resetBy p) := by
  simp [step, cycle, boundary, h]

theorem step_lawful {s t : State} (noReset : s.resetIn = none) (h : step s = .next t) : lawful.rel s t :=
  step_rel lawful_of_ordinary (fun g => g.1) (fun i _ _ _ => exec_lawful i) noReset h

theorem Unprivileged.of_system {s u : State} (user : Unprivileged s) (same : u.system = s.system) : Unprivileged u := by
  simp only [State.system, Prod.mk.injEq] at same
  obtain ⟨-, cr0, vm, cpl, -⟩ := same
  unfold Unprivileged
  rw [cr0, vm, cpl]
  exact user

theorem step_ordinary {s t : State} (user : Unprivileged s) (noReset : s.resetIn = none) (h : step s = .next t) :
    ordinary.rel s t :=
  step_rel id (fun g => g.1.memory) (fun i _ _ same => exec_ordinary i (user.of_system same)) noReset h

end Sys2Proof.Machine

open Sys2Proof Sys2Proof.Machine Sys2Proof.Claims

/-- Settles O3, by the relation `lawful` that every operation keeps. -/
theorem stepKeepsMemoryInv : Obligations.StepKeepsMemoryInv := by
  intro s t inv h
  rcases reset : s.resetIn with _ | p
  · obtain ⟨memory, -⟩ := step_lawful reset h
    exact memory inv
  · rw [step_reset reset] at h
    cases h
    exact memoryInv_log inv rfl rfl

/-- Settles O4, by the relation `lawful` that every operation keeps. -/
theorem stepKeepsModes : Obligations.StepKeepsModes := by
  intro s t legal h
  rcases reset : s.resetIn with _ | p
  · obtain ⟨-, cfg, et, modes⟩ := step_lawful reset h
    exact ⟨modes legal, cfg, fun _ => et⟩
  · rw [step_reset reset] at h
    cases h
    exact ⟨⟨nofun, nofun, fun _ => rfl⟩, rfl, nofun⟩

/-- Settles O5, by the relation `ordinary`: outside CPL 0 the instructions that would leave it are refused. -/
theorem userKeepsSystemRegisters : Obligations.UserKeepsSystemRegisters := by
  intro s t pe user noReset h
  obtain ⟨framed, task⟩ := step_ordinary ⟨pe, user⟩ noReset h
  obtain ⟨gdtr, idtr⟩ := framed.tables
  refine ⟨task.imp_left fun same => ?_, gdtr, idtr, framed.cr0, framed.breakpoints⟩
  obtain ⟨cr3, ldtr, tr, -⟩ := same
  exact ⟨cr3, ldtr, tr⟩
end

section
/-!
PROOFS. Reading back what the encoder writes: the fields of a byte, immediates, memory operands and r/m operands
(30_encoding.md R160 to R186), and the rules from which each row's reading is put together.
-/

namespace Sys2Proof.Machine

variable {α β : Type}

/-- The reader reads the bytes, whatever follows them, as the value. -/
def Reads (d : Dec α) (bs : List Byte) (x : α) : Prop := ∀ rest, d (bs ++ rest) = .ok x rest

theorem Reads.pure (x : α) : Reads (pure x) [] x := fun _ => rfl

theorem Reads.bind {d : Dec α} {f : α → Dec β} {bs cs : List Byte} {x : α} {y : β} (h : Reads d bs x) (k : Reads (f x) cs y) :
    Reads (d >>= f) (bs ++ cs) y := by
  intro rest
  rw [List.append_assoc]
  have read := h (cs ++ rest)
  simp only [Bind.bind, EStateM.bind, read]
  exact k rest

theorem Reads.map {d : Dec α} {f : α → β} {bs : List Byte} {x : α} (h : Reads d bs x) :
    Reads (d >>= fun a => Pure.pure (f a)) bs (f x) := by
  have read := h.bind (f := fun a => Pure.pure (f a)) (.pure (f x))
  rwa [List.append_nil] at read

/-- The first byte. -/
theorem Reads.first {f : Byte → Dec β} {b : Byte} {cs : List Byte} {y : β} (h : Reads (f b) cs y) :
    Reads (byte >>= f) (b :: cs) y := h

theorem reads_imm8 (i : Byte) : Reads imm8 [i] i := fun _ => rfl

/-! ### Immediates -/

theorem reads_imm16 (v : BitVec 16) : Reads imm16 (enc16 v) v := by
  intro rest
  change EStateM.Result.ok (bytes16 (v.setWidth 8) ((v >>> 8).setWidth 8)) rest = _
  congr 1
  unfold bytes16
  ext k hk
  simp only [BitVec.getElem_append, BitVec.getElem_setWidth, BitVec.getLsbD_ushiftRight]
  split <;> simp_all

theorem halves_append (v : BitVec 32) : (v >>> 16).setWidth 16 ++ v.setWidth 16 = v := by
  ext k hk
  simp only [BitVec.getElem_append, BitVec.getElem_setWidth, BitVec.getLsbD_ushiftRight]
  split <;> simp_all

theorem reads_imm32 (v : BitVec 32) : Reads imm32 (enc32 v) v := by
  have read := (reads_imm16 (v.setWidth 16)).bind
    (f := fun lo => imm16 >>= fun hi => pure (hi ++ lo)) (reads_imm16 ((v >>> 16).setWidth 16)).map
  rwa [halves_append] at read

theorem reads_immV {o : Size} {v : BitVec 32} (h : immWf o v = true) : Reads (immV o) (encV o v) v := by
  cases o with
  | s16 =>
    have small : v.toNat < 65536 := of_decide_eq_true h
    have read := (reads_imm16 (v.setWidth 16)).map (f := fun w => w.setWidth 32)
    rwa [show (v.setWidth 16).setWidth 32 = v by bv_omega] at read
  | s32 => exact reads_imm32 v

/-! ### The fields of a byte -/

theorem toNat_fields {hi mid lo : Nat} (h : hi < 4) (m : mid < 8) (l : lo < 8) :
    (fields hi mid lo).toNat = hi * 64 + mid * 8 + lo := by
  unfold fields
  rw [BitVec.toNat_ofNat]
  omega

theorem modField_fields {hi mid lo : Nat} (h : hi < 4) (m : mid < 8) (l : lo < 8) : modField (fields hi mid lo) = hi := by
  unfold modField
  rw [toNat_fields h m l]
  omega

theorem regField_fields {hi mid lo : Nat} (h : hi < 4) (m : mid < 8) (l : lo < 8) : regField (fields hi mid lo) = mid := by
  unfold regField
  rw [toNat_fields h m l]
  omega

theorem rmField_fields {hi mid lo : Nat} (h : hi < 4) (m : mid < 8) (l : lo < 8) : rmField (fields hi mid lo) = lo := by
  unfold rmField
  rw [toNat_fields h m l]
  omega

theorem Reg.num_lt (r : Reg) : r.num < 8 := by cases r <;> decide
theorem Reg8.num_lt (r : Reg8) : r.num < 8 := by cases r <;> decide
theorem SReg.num_lt (r : SReg) : r.num < 8 := by cases r <;> decide
theorem CReg.num_lt (c : CReg) : c.num < 8 := by cases c <;> decide
theorem Scale.num_lt (s : Scale) : s.num < 4 := by cases s <;> decide
theorem Base16.num_lt (b : Base16) : b.num < 8 := by cases b <;> decide

@[simp] theorem Reg.ofNum_num (r : Reg) : Reg.ofNum r.num = r := by cases r <;> rfl
@[simp] theorem Reg8.ofNum_num (r : Reg8) : Reg8.ofNum r.num = r := by cases r <;> rfl
@[simp] theorem Scale.ofNum_num (s : Scale) : Scale.ofNum s.num = s := by cases s <;> rfl

/-! ### Memory operands -/

/-- The index that a SIB byte names is the one encoded; ESP is none (R165). -/
theorem sibIndex_encSib {base : Nat} (small : base < 8) {index : Option (Reg × Scale)}
    (h : ∀ s, index ≠ some (.esp, s)) : sibIndex (encSib base index) = index ∧ rmField (encSib base index) = base := by
  rcases index with _ | ⟨r, s⟩
  · refine ⟨?_, rmField_fields (by decide) (by decide) small⟩
    unfold sibIndex encSib
    simp only
    rw [regField_fields (by decide) (by decide) small]
    rfl
  · have lt := (Reg.num_lt r)
    refine ⟨?_, rmField_fields (Scale.num_lt s) lt small⟩
    unfold sibIndex encSib
    rw [regField_fields (Scale.num_lt s) lt small, modField_fields (Scale.num_lt s) lt small, Scale.ofNum_num]
    cases r with
    | esp => exact absurd rfl (h s)
    | eax | ecx | edx | ebx | ebp | esi | edi => rfl

theorem reads_mem16 (b : Base16) (hb : b ≠ .none) (d : BitVec 16) : Reads (mem16 2 b.num) (enc16 d) (.a16 b d) := by
  cases b with
  | none => exact absurd rfl hb
  | bxsi | bxdi | bpsi | bpdi | si | di | bp | bx => exact (reads_imm16 d).map (f := fun d => MemOp.a16 _ d)

theorem reads_mem32_noBase {index : Option (Reg × Scale)} (h : ∀ s, index ≠ some (.esp, s)) (d : BitVec 32) :
    Reads (mem32 0 4) (encSib 5 index :: enc32 d) (.a32 none index d) := by
  obtain ⟨named, base⟩ := sibIndex_encSib (base := 5) (by decide) h
  refine Reads.first ?_
  rw [base, named]
  exact (reads_imm32 d).map (f := fun d => MemOp.a32 none index d)

theorem reads_mem32 (r : Reg) {index : Option (Reg × Scale)} (h : ∀ s, index ≠ some (.esp, s)) (d : BitVec 32) :
    Reads (mem32 2 4) (encSib r.num index :: enc32 d) (.a32 (some r) index d) := by
  obtain ⟨named, base⟩ := sibIndex_encSib (Reg.num_lt r) h
  refine Reads.first ?_
  rw [base, named]
  cases r <;> exact (reads_imm32 d).map (f := fun d => MemOp.a32 (some _) index d)

/-- The ModRM byte of a memory operand has the reg field given and mod other than 3; after it the operand is read. -/
theorem reads_encMem {a : Size} {m : MemOp} (wf : m.wf a = true) {g : Nat} (small : g < 8) :
    ∃ b cs, encMem g m = b :: cs ∧ modField b ≠ 3 ∧ regField b = g ∧ Reads (memOp a b) cs m := by
  rcases m with ⟨base, d⟩ | ⟨base, index, d⟩
  · obtain rfl : a = .s16 := of_decide_eq_true wf
    by_cases none : base = .none
    · subst none
      refine ⟨_, _, rfl, ?_, regField_fields (by decide) small (by decide), ?_⟩
      · rw [modField_fields (by decide) small (by decide)]
        decide
      · unfold memOp
        rw [modField_fields (by decide) small (by decide), rmField_fields (by decide) small (by decide)]
        exact (reads_imm16 d).map (f := fun d => MemOp.a16 .none d)
    · have written : encMem g (.a16 base d) = fields 2 g base.num :: enc16 d := by
        cases base <;> first | rfl | exact absurd rfl none
      refine ⟨_, _, written, ?_, regField_fields (by decide) small (Base16.num_lt base), ?_⟩
      · rw [modField_fields (by decide) small (Base16.num_lt base)]
        decide
      · unfold memOp
        rw [modField_fields (by decide) small (Base16.num_lt base), rmField_fields (by decide) small (Base16.num_lt base)]
        exact reads_mem16 base none d
  · obtain ⟨size, noEsp⟩ := Bool.and_eq_true_iff.mp wf
    obtain rfl : a = .s32 := of_decide_eq_true size
    have h : ∀ s, index ≠ some (.esp, s) := by
      rintro s rfl
      cases noEsp
    rcases base with _ | r
    · refine ⟨_, _, rfl, ?_, regField_fields (by decide) small (by decide), ?_⟩
      · rw [modField_fields (by decide) small (by decide)]
        decide
      · unfold memOp
        rw [modField_fields (by decide) small (by decide), rmField_fields (by decide) small (by decide)]
        exact reads_mem32_noBase h d
    · refine ⟨_, _, rfl, ?_, regField_fields (by decide) small (by decide), ?_⟩
      · rw [modField_fields (by decide) small (by decide)]
        decide
      · unfold memOp
        rw [modField_fields (by decide) small (by decide), rmField_fields (by decide) small (by decide)]
        exact reads_mem32 r h d

/-! ### Rows with a ModRM byte

`f` reads what follows the opcode; `row` says what it does for the reg field encoded. -/

section

variable {f : Byte → Dec β} {a : Size} {g : Nat} {cs : List Byte} {y : β}

theorem reads_mem {e : Dec β} {k : MemOp → Dec β} {m : MemOp} (wf : m.wf a = true) (small : g < 8)
    (row : ∀ b cs, modField b ≠ 3 → regField b = g → e (b :: cs) = (memOp a b >>= k) cs) (h : Reads (k m) cs y) :
    Reads e (encMem g m ++ cs) y := by
  obtain ⟨b, tail, written, inMemory, reg, read⟩ := reads_encMem wf small
  intro rest
  rw [written, List.cons_append, List.cons_append, row b _ inMemory reg]
  exact read.bind h rest

theorem reads_memOnly {k : MemOp → Dec β} {m : MemOp} (wf : m.wf a = true) (small : g < 8)
    (row : ∀ b, regField b = g → f b = memOnly a b >>= k) (h : Reads (k m) cs y) :
    Reads (byte >>= f) (encMem g m ++ cs) y := by
  refine reads_mem wf small (fun b cs inMemory reg => ?_) h
  change f b cs = _
  rw [row b reg, memOnly, if_neg inMemory]

theorem reads_rm {k : RM → Dec β} {d : RM} (wf : d.wf a = true) (small : g < 8)
    (row : ∀ b, regField b = g → f b = rm a b >>= k) (h : Reads (k d) cs y) :
    Reads (byte >>= f) (encRm g d ++ cs) y := by
  rcases d with r | m
  · refine Reads.first ?_
    rw [row _ (regField_fields (by decide) small (Reg.num_lt r)), rm,
      if_pos (modField_fields (by decide) small (Reg.num_lt r)), rmField_fields (by decide) small (Reg.num_lt r),
      Reg.ofNum_num]
    exact h
  · refine reads_mem (k := fun m => k (.mem m)) wf small (fun b cs inMemory reg => ?_) h
    change f b cs = _
    rw [row b reg, rm, if_neg inMemory, bind_assoc]
    rfl

theorem reads_rm8 {k : RM8 → Dec β} {d : RM8} (wf : d.wf a = true) (small : g < 8)
    (row : ∀ b, regField b = g → f b = rm8 a b >>= k) (h : Reads (k d) cs y) :
    Reads (byte >>= f) (encRm8 g d ++ cs) y := by
  rcases d with r | m
  · refine Reads.first ?_
    rw [row _ (regField_fields (by decide) small (Reg8.num_lt r)), rm8,
      if_pos (modField_fields (by decide) small (Reg8.num_lt r)), rmField_fields (by decide) small (Reg8.num_lt r),
      Reg8.ofNum_num]
    exact h
  · refine reads_mem (k := fun m => k (.mem m)) wf small (fun b cs inMemory reg => ?_) h
    change f b cs = _
    rw [row b reg, rm8, if_neg inMemory, bind_assoc]
    rfl

end

end Sys2Proof.Machine
end

section
/-!
PROOFS. The shapes of the opcode map's rows (30_encoding.md R190 to R193): what each shape of row reads back.
-/

namespace Sys2Proof.Machine

/-- The bytes spell the instruction: they begin with no byte of R163, and the decoder reads them as it. -/
def Spell (o a : Size) (bs : List Byte) (i : Instr) : Prop :=
  (∃ b cs, bs = b :: cs ∧ prefixByte b = none) ∧ Reads (decodeInstr o a) bs i

section

variable {o a : Size} {i : Instr} {cs : List Byte} {e : Dec Instr}

/-- A row of the one-byte opcodes (R190). -/
theorem Spell.one {op : Byte} (h : Reads e cs i) (first : prefixByte op = none)
    (row : ∀ tail, decodeInstr o a (op :: tail) = e tail) : Spell o a (op :: cs) i :=
  ⟨⟨op, cs, rfl, first⟩, fun rest => (row (cs ++ rest)).trans (h rest)⟩

/-- A row of the two-byte opcodes (R191). -/
theorem Spell.two {op : Byte} (h : Reads e cs i) (row : ∀ tail, decode0F o a (op :: tail) = e tail) :
    Spell o a (0x0F :: op :: cs) i :=
  .one (e := decode0F o a) (fun rest => (row (cs ++ rest)).trans (h rest)) rfl fun _ => rfl

/-- A row of fixed bytes. -/
theorem Spell.fixed {op : Byte} (first : prefixByte op = none)
    (row : ∀ tail, decodeInstr o a (op :: (cs ++ tail)) = .ok i tail) : Spell o a (op :: cs) i :=
  ⟨⟨op, cs, rfl, first⟩, row⟩

end

section

variable {a : Size} {f : Byte → Dec Instr} {g : Nat} {cs : List Byte} {i : Instr}

/-! ### The operand is all that follows, the opcode extended by the reg field -/

theorem reads_rm8_only {c : RM8 → Instr} {d : RM8} (wf : d.wf a = true) (small : g < 8)
    (row : ∀ b, regField b = g → f b = rm8 a b >>= fun d => pure (c d)) : Reads (byte >>= f) (encRm8 g d) (c d) := by
  have read := reads_rm8 wf small row (.pure _)
  rwa [List.append_nil] at read

theorem reads_rm_only {c : RM → Instr} {d : RM} (wf : d.wf a = true) (small : g < 8)
    (row : ∀ b, regField b = g → f b = rm a b >>= fun d => pure (c d)) : Reads (byte >>= f) (encRm g d) (c d) := by
  have read := reads_rm wf small row (.pure _)
  rwa [List.append_nil] at read

theorem reads_mem_only {c : MemOp → Instr} {m : MemOp} (wf : m.wf a = true) (small : g < 8)
    (row : ∀ b, regField b = g → f b = memOnly a b >>= fun m => pure (c m)) : Reads (byte >>= f) (encMem g m) (c m) := by
  have read := reads_memOnly wf small row (.pure _)
  rwa [List.append_nil] at read

/-! ### The reg field is a register -/

theorem reads_rm8_reg8 {c : RM8 → Reg8 → Instr} {d : RM8} {r : Reg8} (wf : d.wf a = true) :
    Reads (do let b ← byte; let d ← rm8 a b; pure (c d (Reg8.ofNum (regField b)))) (encRm8 r.num d) (c d r) :=
  reads_rm8_only (c := fun d => c d r) wf (Reg8.num_lt r) fun b reg => by rw [reg, Reg8.ofNum_num]

theorem reads_reg8_rm8 {c : Reg8 → RM8 → Instr} {d : RM8} {r : Reg8} (wf : d.wf a = true) :
    Reads (do let b ← byte; let d ← rm8 a b; pure (c (Reg8.ofNum (regField b)) d)) (encRm8 r.num d) (c r d) :=
  reads_rm8_reg8 (c := fun d r => c r d) wf

theorem reads_reg_rm8 {c : Reg → RM8 → Instr} {d : RM8} {r : Reg} (wf : d.wf a = true) :
    Reads (do let b ← byte; let d ← rm8 a b; pure (c (Reg.ofNum (regField b)) d)) (encRm8 r.num d) (c r d) :=
  reads_rm8_only (c := fun d => c r d) wf (Reg.num_lt r) fun b reg => by rw [reg, Reg.ofNum_num]

theorem reads_rm_reg {c : RM → Reg → Instr} {d : RM} {r : Reg} (wf : d.wf a = true) :
    Reads (do let b ← byte; let d ← rm a b; pure (c d (Reg.ofNum (regField b)))) (encRm r.num d) (c d r) :=
  reads_rm_only (c := fun d => c d r) wf (Reg.num_lt r) fun b reg => by rw [reg, Reg.ofNum_num]

theorem reads_reg_rm {c : Reg → RM → Instr} {d : RM} {r : Reg} (wf : d.wf a = true) :
    Reads (do let b ← byte; let d ← rm a b; pure (c (Reg.ofNum (regField b)) d)) (encRm r.num d) (c r d) :=
  reads_rm_reg (c := fun d r => c r d) wf

theorem reads_reg_mem {c : Reg → MemOp → Instr} {m : MemOp} {r : Reg} (wf : m.wf a = true) :
    Reads (do let b ← byte; let m ← memOnly a b; pure (c (Reg.ofNum (regField b)) m)) (encMem r.num m) (c r m) :=
  reads_mem_only (c := fun m => c r m) wf (Reg.num_lt r) fun b reg => by rw [reg, Reg.ofNum_num]

/-- A register beside the operand, and an immediate after it. -/
theorem reads_rm_reg_imm {α : Type} {c : RM → Reg → α → Instr} {imm : Dec α} {x : α} {d : RM} {r : Reg} (wf : d.wf a = true)
    (h : Reads imm cs x) :
    Reads (do let b ← byte; let d ← rm a b; let i ← imm; pure (c d (Reg.ofNum (regField b)) i)) (encRm r.num d ++ cs)
      (c d r x) :=
  reads_rm (k := fun d => do let i ← imm; pure (c d r i)) wf (Reg.num_lt r) (fun b reg => by rw [reg, Reg.ofNum_num]) h.map

/-! ### Escape opcodes (R193, 46_x87_a.md R618) -/

/-- A row with a memory operand, after an escape byte whose reading is `e`. -/
theorem reads_escMem {e : Dec Instr} {c : MemOp → Instr} {m : MemOp} (wf : m.wf a = true) (small : g < 8)
    (row : ∀ b cs, modField b ≠ 3 → regField b = g → e (b :: cs) = (memOp a b >>= fun m => pure (c m)) cs) :
    Reads e (encMem g m) (c m) := by
  have read := reads_mem wf small row (.pure _)
  rwa [List.append_nil] at read

/-- A row with a register of the stack: 8 bytes from the first one on. -/
theorem reads_escReg {e : Dec Instr} {c : BitVec 3 → Instr} {op g : Nat} (reg : op = 0xC0 + 8 * g) (small : g < 8) {i : BitVec 3}
    (row : ∀ b cs, modField b = 3 → regField b = g → rmField b = i.toNat → e (b :: cs) = .ok (c (BitVec.ofNat 3 i.toNat)) cs) :
    Reads e [plusNum op i.toNat] (c i) := by
  have byte : plusNum op i.toNat = fields 3 g i.toNat := by
    unfold plusNum fields
    rw [reg]
    congr 1
    omega
  intro rest
  rw [byte]
  refine (row _ rest (modField_fields (by decide) small i.isLt) (regField_fields (by decide) small i.isLt)
    (rmField_fields (by decide) small i.isLt)).trans ?_
  rw [BitVec.ofNat_toNat, BitVec.setWidth_eq]

end

end Sys2Proof.Machine
end

section
/-!
PROOFS. Decoding gives back what was encoded (O6): every row of the opcode map by its shape.
-/

namespace Sys2Proof.Machine

open Claims

variable {o a : Size}

theorem spell_movRmSreg {d : RM} {r : SReg} (wf : d.wf a = true) : Spell o a (encode o a (.movRmSreg d r)) (.movRmSreg d r) :=
  .one (reads_rm_only (c := fun d => .movRmSreg d r) wf (SReg.num_lt r)
    (fun b g => by
      rw [g]
      cases r <;> rfl)) rfl fun _ => rfl

theorem spell_movSregRm {r : SReg} {d : RM} (wf : d.wf a = true) (load : r ≠ .cs) :
    Spell o a (encode o a (.movSregRm r d)) (.movSregRm r d) :=
  .one (reads_rm_only (c := fun d => .movSregRm r d) wf (SReg.num_lt r)
    (fun b g => by
      rw [g]
      cases r with
      | cs => exact absurd rfl load
      | es | ss | ds | fs | gs => rfl)) rfl fun _ => rfl

/-- A debug register and a general register in one ModRM byte. -/
theorem reads_debugReg {c : BitVec 3 → Reg → Instr} (n : BitVec 3) (r : Reg) :
    Reads (do let b ← byte; pure (c (BitVec.ofNat 3 (regField b)) (Reg.ofNum (rmField b)))) [fields 3 n.toNat r.num]
      (c n r) := by
  refine Reads.first ?_
  rw [regField_fields (by decide) n.isLt (Reg.num_lt r), rmField_fields (by decide) n.isLt (Reg.num_lt r), Reg.ofNum_num,
    BitVec.ofNat_toNat, BitVec.setWidth_eq]
  exact .pure _

/-- What is encoded spells its instruction, for every well-formed one that is not a row of R163. -/
theorem spell_encode {i : Instr} (wf : i.wf o a = true) (h : ¬∃ f, PrefixForm i f) : Spell o a (encode o a i) i := by
  cases i with
  | addRm8R8 d r | orRm8R8 d r | adcRm8R8 d r | sbbRm8R8 d r | andRm8R8 d r | subRm8R8 d r | xorRm8R8 d r
  | cmpRm8R8 d r | testRm8R8 d r | movRm8R8 d r | xchgRm8R8 d r => exact .one (reads_rm8_reg8 wf) rfl fun _ => rfl
  | addRmR d r | orRmR d r | adcRmR d r | sbbRmR d r | andRmR d r | subRmR d r | xorRmR d r | cmpRmR d r
  | testRmR d r | movRmR d r | xchgRmR d r | arplRm16R16 d r => exact .one (reads_rm_reg wf) rfl fun _ => rfl
  | addR8Rm8 r m | orR8Rm8 r m | adcR8Rm8 r m | sbbR8Rm8 r m | andR8Rm8 r m | subR8Rm8 r m | xorR8Rm8 r m
  | cmpR8Rm8 r m | movR8Rm8 r m => exact .one (reads_reg8_rm8 wf) rfl fun _ => rfl
  | addRRm r m | orRRm r m | adcRRm r m | sbbRRm r m | andRRm r m | subRRm r m | xorRRm r m | cmpRRm r m
  | movRRm r m => exact .one (reads_reg_rm wf) rfl fun _ => rfl
  | addAlImm8 i | orAlImm8 i | adcAlImm8 i | sbbAlImm8 i | andAlImm8 i | subAlImm8 i | xorAlImm8 i | cmpAlImm8 i
  | aamImm8 i | aadImm8 i | testAlImm8 i | pushImm8 i | inAlImm8 i | inEaxImm8 i | outImm8Al i | outImm8Eax i
  | jmpRel8 i | joRel8 i | jnoRel8 i | jbRel8 i | jaeRel8 i | jeRel8 i | jneRel8 i | jbeRel8 i | jaRel8 i
  | jsRel8 i | jnsRel8 i | jpRel8 i | jnpRel8 i | jlRel8 i | jgeRel8 i | jleRel8 i | jgRel8 i | jcxzRel8 i
  | loopRel8 i | loopeRel8 i | loopneRel8 i | intImm8 i => exact .one (reads_imm8 i).map rfl fun _ => rfl
  | addEaxImm i | orEaxImm i | adcEaxImm i | sbbEaxImm i | andEaxImm i | subEaxImm i | xorEaxImm i | cmpEaxImm i
  | testEaxImm i | movAlMoffs off | movEaxMoffs off | movMoffsAl off | movMoffsEax off | pushImm i | jmpRel i
  | callRel i => exact .one (reads_immV wf).map rfl fun _ => rfl
  | addRm8Imm8 d i | orRm8Imm8 d i | adcRm8Imm8 d i | sbbRm8Imm8 d i | andRm8Imm8 d i | subRm8Imm8 d i
  | xorRm8Imm8 d i | cmpRm8Imm8 d i =>
    exact .one (reads_rm8 (f := decode1Group80 o a) wf
      (by decide) (fun b g => by rw [decode1Group80, g]; rfl) (reads_imm8 i).map) rfl fun _ => rfl
  | addRmImm d i | orRmImm d i | adcRmImm d i | sbbRmImm d i | andRmImm d i | subRmImm d i | xorRmImm d i
  | cmpRmImm d i =>
    obtain ⟨wf, small⟩ := Bool.and_eq_true_iff.mp wf
    exact .one (reads_rm (f := decode1Group81 o a) wf
      (by decide) (fun b g => by rw [decode1Group81, g]; rfl) (reads_immV small).map) rfl fun _ => rfl
  | addRmImm8 d i | orRmImm8 d i | adcRmImm8 d i | sbbRmImm8 d i | andRmImm8 d i | subRmImm8 d i | xorRmImm8 d i
  | cmpRmImm8 d i =>
    exact .one (reads_rm (f := decode1Group83 o a) wf
      (by decide) (fun b g => by rw [decode1Group83, g]; rfl) (reads_imm8 i).map) rfl fun _ => rfl
  | incRm8 d | decRm8 d =>
    exact .one (reads_rm8_only (f := decode1GroupFE o a) wf
      (by decide) fun b g => by rw [decode1GroupFE, g]; rfl) rfl fun _ => rfl
  | incRm d | decRm d | pushRm d | jmpRm d | callRm d =>
    exact .one (reads_rm_only (f := decode1GroupFF o a) wf
      (by decide) fun b g => by rw [decode1GroupFF, g]; rfl) rfl fun _ => rfl
  | incR r | decR r | pushR r | popR r => cases r <;> exact .fixed rfl fun _ => rfl
  | notRm8 d | negRm8 d | mulRm8 d | imulRm8 d | divRm8 d | idivRm8 d =>
    exact .one (reads_rm8_only (f := decode1GroupF6 o a) wf
      (by decide) fun b g => by rw [decode1GroupF6, g]; rfl) rfl fun _ => rfl
  | notRm d | negRm d | mulRm d | imulRm d | divRm d | idivRm d =>
    exact .one (reads_rm_only (f := decode1GroupF7 o a) wf
      (by decide) fun b g => by rw [decode1GroupF7, g]; rfl) rfl fun _ => rfl
  | imulRRm r m | bsfRRm r m | bsrRRm r m | movsxRRm16 r m | movzxRRm16 r m | larRRm16 r m | lslRRm16 r m =>
    exact .two (reads_reg_rm wf) fun _ => rfl
  | imulRRmImm8 r m i =>
    exact .one (reads_rm_reg_imm (c := fun m r i => .imulRRmImm8 r m i) wf (reads_imm8 i)) rfl fun _ => rfl
  | imulRRmImm r m i =>
    obtain ⟨wf, small⟩ := Bool.and_eq_true_iff.mp wf
    exact .one (reads_rm_reg_imm (c := fun m r i => .imulRRmImm r m i) wf (reads_immV small)) rfl fun _ => rfl
  | cbwCwde | cwdCdq | aaa | aas | daa | das | xlat | pushEs | pushCs | pushSs | pushDs | pushFs | pushGs | popEs
  | popSs | popDs | popFs | popGs | pusha | popa | pushf | popf | lahf | sahf | clc | cld | cmc | stc | std | movsb
  | movswMovsd | cmpsb | cmpswCmpsd | stosb | stoswStosd | lodsb | lodswLodsd | scasb | scaswScasd | insb
  | inswInsd | outsb | outswOutsd | inAlDx | inEaxDx | outDxAl | outDxEax | retNear | retFar | int3 | into | int1
  | iret | leave | hlt | wait | nop | clts | cli | sti | fld1 | fldl2t | fldl2e | fldpi | fldlg2 | fldln2 | fldz
  | fsqrt | fscale | fprem | fprem1 | frndint | fxtract | fabs | fchs | fcompp | ftst | fucompp | fxam | f2xm1
  | fyl2x | fyl2xp1 | fptan | fpatan | fsin | fcos | fsincos | fninit | fnclex | fnstswAx | fincstp | fdecstp
  | fnop | feni | fdisi | fsetpm => exact .fixed rfl fun _ => rfl
  | testRm8Imm8 d i =>
    exact .one (reads_rm8 (f := decode1GroupF6 o a) wf
      (by decide) (fun b g => by rw [decode1GroupF6, g]; rfl) (reads_imm8 i).map) rfl fun _ => rfl
  | testRmImm d i =>
    obtain ⟨wf, small⟩ := Bool.and_eq_true_iff.mp wf
    exact .one (reads_rm (f := decode1GroupF7 o a) wf
      (by decide) (fun b g => by rw [decode1GroupF7, g]; rfl) (reads_immV small).map) rfl fun _ => rfl
  | rolRm8One d | rorRm8One d | rclRm8One d | rcrRm8One d | salRm8One d | shrRm8One d | sarRm8One d =>
    exact .one (reads_rm8_only (f := decode1GroupD0 o a) wf
      (by decide) fun b g => by rw [decode1GroupD0, g]; rfl) rfl fun _ => rfl
  | rolRm8Cl d | rorRm8Cl d | rclRm8Cl d | rcrRm8Cl d | salRm8Cl d | shrRm8Cl d | sarRm8Cl d =>
    exact .one (reads_rm8_only (f := decode1GroupD2 o a) wf
      (by decide) fun b g => by rw [decode1GroupD2, g]; rfl) rfl fun _ => rfl
  | rolRm8Imm8 d i | rorRm8Imm8 d i | rclRm8Imm8 d i | rcrRm8Imm8 d i | salRm8Imm8 d i | shrRm8Imm8 d i
  | sarRm8Imm8 d i =>
    exact .one (reads_rm8 (f := decode1GroupC0 o a) wf
      (by decide) (fun b g => by rw [decode1GroupC0, g]; rfl) (reads_imm8 i).map) rfl fun _ => rfl
  | rolRmOne d | rorRmOne d | rclRmOne d | rcrRmOne d | salRmOne d | shrRmOne d | sarRmOne d =>
    exact .one (reads_rm_only (f := decode1GroupD1 o a) wf
      (by decide) fun b g => by rw [decode1GroupD1, g]; rfl) rfl fun _ => rfl
  | rolRmCl d | rorRmCl d | rclRmCl d | rcrRmCl d | salRmCl d | shrRmCl d | sarRmCl d =>
    exact .one (reads_rm_only (f := decode1GroupD3 o a) wf
      (by decide) fun b g => by rw [decode1GroupD3, g]; rfl) rfl fun _ => rfl
  | rolRmImm8 d i | rorRmImm8 d i | rclRmImm8 d i | rcrRmImm8 d i | salRmImm8 d i | shrRmImm8 d i | sarRmImm8 d i =>
    exact .one (reads_rm (f := decode1GroupC1 o a) wf
      (by decide) (fun b g => by rw [decode1GroupC1, g]; rfl) (reads_imm8 i).map) rfl fun _ => rfl
  | shldRmRImm8 d r i | shrdRmRImm8 d r i => exact .two (reads_rm_reg_imm wf (reads_imm8 i)) fun _ => rfl
  | shldRmRCl d r | shrdRmRCl d r | btRmR d r | btsRmR d r | btrRmR d r | btcRmR d r =>
    exact .two (reads_rm_reg wf) fun _ => rfl
  | btRmImm8 d i | btsRmImm8 d i | btrRmImm8 d i | btcRmImm8 d i =>
    exact .two (reads_rm (f := decode0FGroupBA o a) wf
      (by decide) (fun b g => by rw [decode0FGroupBA, g]; rfl) (reads_imm8 i).map) fun _ => rfl
  | setoRm8 d | setnoRm8 d | setbRm8 d | setaeRm8 d | seteRm8 d | setneRm8 d | setbeRm8 d | setaRm8 d | setsRm8 d
  | setnsRm8 d | setpRm8 d | setnpRm8 d | setlRm8 d | setgeRm8 d | setleRm8 d | setgRm8 d =>
    exact .two (reads_rm8_only wf (by decide) fun _ _ => rfl) fun _ => rfl
  | movR8Imm8 r i => cases r <;> exact .one (reads_imm8 i).map rfl fun _ => rfl
  | movRImm r i => cases r <;> exact .one (reads_immV wf).map rfl fun _ => rfl
  | movRm8Imm8 d i =>
    exact .one (reads_rm8 (f := decode1GroupC6 o a) wf
      (by decide) (fun b g => by rw [decode1GroupC6, g]; rfl) (reads_imm8 i).map) rfl fun _ => rfl
  | movRmImm d i =>
    obtain ⟨wf, small⟩ := Bool.and_eq_true_iff.mp wf
    exact .one (reads_rm (f := decode1GroupC7 o a) wf
      (by decide) (fun b g => by rw [decode1GroupC7, g]; rfl) (reads_immV small).map) rfl fun _ => rfl
  | movRmSreg d sr => exact spell_movRmSreg wf
  | movSregRm sr m =>
    obtain ⟨load, wf⟩ := Bool.and_eq_true_iff.mp wf
    exact spell_movSregRm wf (of_decide_eq_true load)
  | movsxRRm8 r m | movzxRRm8 r m => exact .two (reads_reg_rm8 wf) fun _ => rfl
  | xchgEaxR r =>
    cases r with
    | eax => cases wf
    | ecx | edx | ebx | esp | ebp | esi | edi => exact .fixed rfl fun _ => rfl
  | leaRM r m | ldsRM r m | lesRM r m | boundRM r m => exact .one (reads_reg_mem wf) rfl fun _ => rfl
  | popRm d =>
    exact .one (reads_rm_only (f := decode1Group8F o a) wf
      (by decide) fun b g => by rw [decode1Group8F, g]; rfl) rfl fun _ => rfl
  | lfsRM r m | lgsRM r m | lssRM r m => exact .two (reads_reg_mem wf) fun _ => rfl
  | rep => exact absurd ⟨_, .rep⟩ h
  | repne => exact absurd ⟨_, .repne⟩ h
  | jmpPtr sel off | callPtr sel off => exact .one ((reads_immV wf).bind (reads_imm16 sel).map) rfl fun _ => rfl
  | jmpMFar m | callMFar m =>
    exact .one (reads_mem_only (f := decode1GroupFF o a) wf
      (by decide) fun b g => by rw [decode1GroupFF, g]; rfl) rfl fun _ => rfl
  | joRel i | jnoRel i | jbRel i | jaeRel i | jeRel i | jneRel i | jbeRel i | jaRel i | jsRel i | jnsRel i
  | jpRel i | jnpRel i | jlRel i | jgeRel i | jleRel i | jgRel i => exact .two (reads_immV wf).map fun _ => rfl
  | retNearImm16 i | retFarImm16 i => exact .one (reads_imm16 i).map rfl fun _ => rfl
  | enter size level => exact .one ((reads_imm16 size).bind (reads_imm8 level).map) rfl fun _ => rfl
  | lock => exact absurd ⟨_, .lock⟩ h
  | sldtRm16 d | strRm16 d | lldtRm16 d | ltrRm16 d | verrRm16 d | verwRm16 d =>
    exact .two (reads_rm_only (f := decode0FGroup00 o a) wf
      (by decide) fun b g => by rw [decode0FGroup00, g]; rfl) fun _ => rfl
  | sgdtM m | sidtM m | lgdtM m | lidtM m =>
    exact .two (reads_mem_only (f := decode0FGroup01 o a) wf
      (by decide) fun b g => by rw [decode0FGroup01, g]; rfl) fun _ => rfl
  | smswRm16 d | lmswRm16 d =>
    exact .two (reads_rm_only (f := decode0FGroup01 o a) wf
      (by decide) fun b g => by rw [decode0FGroup01, g]; rfl) fun _ => rfl
  | movRCr r c | movCrR c r => cases c <;> cases r <;> exact .fixed rfl fun _ => rfl
  | movRDr r n => exact .two (reads_debugReg (c := fun n r => .movRDr r n) n r) fun _ => rfl
  | movDrR n r => exact .two (reads_debugReg n r) fun _ => rfl
  | fldM32 m | fstM32 m | fstpM32 m | fldcwM16 m | fnstcwM16 m | fldenvEnv m | fnstenvEnv m =>
    exact .one (reads_escMem (e := decodeEscD9 a) wf (by decide)
      fun b cs md g => by rw [decodeEscD9, byte_bind, if_neg md, g]; rfl) rfl fun _ => rfl
  | fldM64 m | fstM64 m | fstpM64 m | fnstswM16 m | fnsaveFull m | frstorFull m =>
    exact .one (reads_escMem (e := decodeEscDD a) wf (by decide)
      fun b cs md g => by rw [decodeEscDD, byte_bind, if_neg md, g]; rfl) rfl fun _ => rfl
  | fldM80 m | fstpM80 m | fildM32 m | fistM32 m | fistpM32 m =>
    exact .one (reads_escMem (e := decodeEscDB a) wf (by decide)
      fun b cs md g => by rw [decodeEscDB, byte_bind, if_neg md, g]; rfl) rfl fun _ => rfl
  | fldSt i =>
    exact .one (reads_escReg (e := decodeEscD9 a) (g := 0) rfl (by decide)
      fun b cs md g r => by rw [decodeEscD9, byte_bind, if_pos md, g, r]; rfl) rfl fun _ => rfl
  | fstSt i =>
    exact .one (reads_escReg (e := decodeEscDD a) (g := 2) rfl (by decide)
      fun b cs md g r => by rw [decodeEscDD, byte_bind, if_pos md, g, r]; rfl) rfl fun _ => rfl
  | fstpSt i =>
    exact .one (reads_escReg (e := decodeEscDD a) (g := 3) rfl (by decide)
      fun b cs md g r => by rw [decodeEscDD, byte_bind, if_pos md, g, r]; rfl) rfl fun _ => rfl
  | fildM16 m | fildM64 m | fistM16 m | fistpM16 m | fistpM64 m | fbldM80 m | fbstpM80 m =>
    exact .one (reads_escMem (e := decodeEscDF a) wf (by decide)
      fun b cs md g => by rw [decodeEscDF, byte_bind, if_neg md, g]; rfl) rfl fun _ => rfl
  | fxchSt i =>
    exact .one (reads_escReg (e := decodeEscD9 a) (g := 1) rfl (by decide)
      fun b cs md g r => by rw [decodeEscD9, byte_bind, if_pos md, g, r]; rfl) rfl fun _ => rfl
  | faddM32 m | fmulM32 m | fsubM32 m | fsubrM32 m | fdivM32 m | fdivrM32 m | fcomM32 m | fcompM32 m =>
    exact .one (reads_escMem (e := decodeEscD8 a) wf (by decide)
      fun b cs md g => by rw [decodeEscD8, byte_bind, if_neg md, g]; rfl) rfl fun _ => rfl
  | faddM64 m | fmulM64 m | fsubM64 m | fsubrM64 m | fdivM64 m | fdivrM64 m | fcomM64 m | fcompM64 m =>
    exact .one (reads_escMem (e := decodeEscDC a) wf (by decide)
      fun b cs md g => by rw [decodeEscDC, byte_bind, if_neg md, g]; rfl) rfl fun _ => rfl
  | faddSt0Sti i =>
    exact .one (reads_escReg (e := decodeEscD8 a) (g := 0) rfl (by decide)
      fun b cs md g r => by rw [decodeEscD8, byte_bind, if_pos md, g, r]; rfl) rfl fun _ => rfl
  | faddStiSt0 i =>
    exact .one (reads_escReg (e := decodeEscDC a) (g := 0) rfl (by decide)
      fun b cs md g r => by rw [decodeEscDC, byte_bind, if_pos md, g, r]; rfl) rfl fun _ => rfl
  | faddpStiSt0 i =>
    exact .one (reads_escReg (e := decodeEscDE a) (g := 0) rfl (by decide)
      fun b cs md g r => by rw [decodeEscDE, byte_bind, if_pos md, g, r]; rfl) rfl fun _ => rfl
  | fiaddM32 m | fimulM32 m | fisubM32 m | fisubrM32 m | fidivM32 m | fidivrM32 m | ficomM32 m | ficompM32 m =>
    exact .one (reads_escMem (e := decodeEscDA a) wf (by decide)
      fun b cs md g => by rw [decodeEscDA, byte_bind, if_neg md, g]; rfl) rfl fun _ => rfl
  | fiaddM16 m | fimulM16 m | fisubM16 m | fisubrM16 m | fidivM16 m | fidivrM16 m | ficomM16 m | ficompM16 m =>
    exact .one (reads_escMem (e := decodeEscDE a) wf (by decide)
      fun b cs md g => by rw [decodeEscDE, byte_bind, if_neg md, g]; rfl) rfl fun _ => rfl
  | fmulSt0Sti i =>
    exact .one (reads_escReg (e := decodeEscD8 a) (g := 1) rfl (by decide)
      fun b cs md g r => by rw [decodeEscD8, byte_bind, if_pos md, g, r]; rfl) rfl fun _ => rfl
  | fmulStiSt0 i =>
    exact .one (reads_escReg (e := decodeEscDC a) (g := 1) rfl (by decide)
      fun b cs md g r => by rw [decodeEscDC, byte_bind, if_pos md, g, r]; rfl) rfl fun _ => rfl
  | fmulpStiSt0 i =>
    exact .one (reads_escReg (e := decodeEscDE a) (g := 1) rfl (by decide)
      fun b cs md g r => by rw [decodeEscDE, byte_bind, if_pos md, g, r]; rfl) rfl fun _ => rfl
  | fsubSt0Sti i =>
    exact .one (reads_escReg (e := decodeEscD8 a) (g := 4) rfl (by decide)
      fun b cs md g r => by rw [decodeEscD8, byte_bind, if_pos md, g, r]; rfl) rfl fun _ => rfl
  | fsubStiSt0 i =>
    exact .one (reads_escReg (e := decodeEscDC a) (g := 5) rfl (by decide)
      fun b cs md g r => by rw [decodeEscDC, byte_bind, if_pos md, g, r]; rfl) rfl fun _ => rfl
  | fsubpStiSt0 i =>
    exact .one (reads_escReg (e := decodeEscDE a) (g := 5) rfl (by decide)
      fun b cs md g r => by rw [decodeEscDE, byte_bind, if_pos md, g, r]; rfl) rfl fun _ => rfl
  | fsubrSt0Sti i =>
    exact .one (reads_escReg (e := decodeEscD8 a) (g := 5) rfl (by decide)
      fun b cs md g r => by rw [decodeEscD8, byte_bind, if_pos md, g, r]; rfl) rfl fun _ => rfl
  | fsubrStiSt0 i =>
    exact .one (reads_escReg (e := decodeEscDC a) (g := 4) rfl (by decide)
      fun b cs md g r => by rw [decodeEscDC, byte_bind, if_pos md, g, r]; rfl) rfl fun _ => rfl
  | fsubrpStiSt0 i =>
    exact .one (reads_escReg (e := decodeEscDE a) (g := 4) rfl (by decide)
      fun b cs md g r => by rw [decodeEscDE, byte_bind, if_pos md, g, r]; rfl) rfl fun _ => rfl
  | fdivSt0Sti i =>
    exact .one (reads_escReg (e := decodeEscD8 a) (g := 6) rfl (by decide)
      fun b cs md g r => by rw [decodeEscD8, byte_bind, if_pos md, g, r]; rfl) rfl fun _ => rfl
  | fdivStiSt0 i =>
    exact .one (reads_escReg (e := decodeEscDC a) (g := 7) rfl (by decide)
      fun b cs md g r => by rw [decodeEscDC, byte_bind, if_pos md, g, r]; rfl) rfl fun _ => rfl
  | fdivpStiSt0 i =>
    exact .one (reads_escReg (e := decodeEscDE a) (g := 7) rfl (by decide)
      fun b cs md g r => by rw [decodeEscDE, byte_bind, if_pos md, g, r]; rfl) rfl fun _ => rfl
  | fdivrSt0Sti i =>
    exact .one (reads_escReg (e := decodeEscD8 a) (g := 7) rfl (by decide)
      fun b cs md g r => by rw [decodeEscD8, byte_bind, if_pos md, g, r]; rfl) rfl fun _ => rfl
  | fdivrStiSt0 i =>
    exact .one (reads_escReg (e := decodeEscDC a) (g := 6) rfl (by decide)
      fun b cs md g r => by rw [decodeEscDC, byte_bind, if_pos md, g, r]; rfl) rfl fun _ => rfl
  | fdivrpStiSt0 i =>
    exact .one (reads_escReg (e := decodeEscDE a) (g := 6) rfl (by decide)
      fun b cs md g r => by rw [decodeEscDE, byte_bind, if_pos md, g, r]; rfl) rfl fun _ => rfl
  | fcomSt i =>
    exact .one (reads_escReg (e := decodeEscD8 a) (g := 2) rfl (by decide)
      fun b cs md g r => by rw [decodeEscD8, byte_bind, if_pos md, g, r]; rfl) rfl fun _ => rfl
  | fcompSt i =>
    exact .one (reads_escReg (e := decodeEscD8 a) (g := 3) rfl (by decide)
      fun b cs md g r => by rw [decodeEscD8, byte_bind, if_pos md, g, r]; rfl) rfl fun _ => rfl
  | fucomSt i =>
    exact .one (reads_escReg (e := decodeEscDD a) (g := 4) rfl (by decide)
      fun b cs md g r => by rw [decodeEscDD, byte_bind, if_pos md, g, r]; rfl) rfl fun _ => rfl
  | fucompSt i =>
    exact .one (reads_escReg (e := decodeEscDD a) (g := 5) rfl (by decide)
      fun b cs md g r => by rw [decodeEscDD, byte_bind, if_pos md, g, r]; rfl) rfl fun _ => rfl
  | ffreeSt i =>
    exact .one (reads_escReg (e := decodeEscDD a) (g := 0) rfl (by decide)
      fun b cs md g r => by rw [decodeEscDD, byte_bind, if_pos md, g, r]; rfl) rfl fun _ => rfl
  | repe => exact absurd ⟨_, .repe⟩ h
  | segEs => exact absurd ⟨_, .segEs⟩ h
  | segCs => exact absurd ⟨_, .segCs⟩ h
  | segSs => exact absurd ⟨_, .segSs⟩ h
  | segDs => exact absurd ⟨_, .segDs⟩ h
  | segFs => exact absurd ⟨_, .segFs⟩ h
  | segGs => exact absurd ⟨_, .segGs⟩ h
  | opsize => exact absurd ⟨_, .opsize⟩ h
  | adsize => exact absurd ⟨_, .adsize⟩ h

theorem takePrefixes_first {b : Byte} (h : prefixByte b = none) (cs : List Byte) : takePrefixes (b :: cs) = ([], b :: cs) := by
  rw [takePrefixes, h]

/-- Settles O6, each row read back by its shape. -/
theorem decodeEncode : Obligations.DecodeEncode := by
  refine ⟨fun o a i rest wf plain => ?_, fun o a p f rest form => ?_⟩
  · obtain ⟨⟨b, cs, written, first⟩, read⟩ := spell_encode wf plain
    constructor
    · unfold decode
      rw [read rest]
    · rw [written, List.cons_append]
      exact takePrefixes_first first _
  · cases form <;> rfl

end Sys2Proof.Machine
end

section
/-!
PROOFS. Data movement: MOV, MOVSX, MOVZX, XCHG, LEA, XLAT (O22), the moves and far loads of segment registers (O23).
-/

namespace Sys2Proof.Machine

open Claims

/-! ### The shared operations -/

/-- An operand extended to a wider one, by its value. -/
theorem extend_eq_ofInt (signed : Bool) {n m : Nat} (v : BitVec n) :
    (if signed then v.signExtend m else v.setWidth m) = BitVec.ofInt m (valueOf signed v) := by
  cases signed with
  | true => rfl
  | false =>
    rw [valueOf, if_neg Bool.false_ne_true, if_neg Bool.false_ne_true, BitVec.ofInt_natCast, BitVec.ofNat_toNat]

theorem moveExtend_ok {signed : Bool} {narrow wide : Width} {r : Reg} {src : Opnd} {v : BitVec narrow.bits} {s s1 : State}
    (read : readOp narrow src s = .ok v s1) :
    moveExtend signed narrow wide r src s =
      .ok () { s1 with regs := putReg wide s1.regs r (BitVec.ofInt wide.bits (valueOf signed v)) } := by
  unfold moveExtend
  rw [bind_of_ok read, extend_eq_ofInt, run_writeReg]

theorem loadMoffs_ok {w : Width} {off : Word} {v : Nat} {s s1 : State} (read : memRead s.dsSeg off w.bytes s = .ok v s1) :
    loadMoffs w off s = .ok () (putDest w (accOp w) [] (BitVec.ofNat w.bits v) s1) := by
  unfold loadMoffs
  rw [bind_of_ok (run_getS s), bind_of_ok read]
  cases w <;> rfl

theorem storeMoffs_ok {w : Width} {off : Word} {as : List Word} {s s1 : State}
    (checked : access s.dsSeg off w.bytes true s = .ok as s1) :
    storeMoffs w off s = .ok () { s1 with mem := Memory.store s1.mem as (destValue w (accOp w) [] s).toNat } := by
  unfold storeMoffs memWrite
  rw [bind_of_ok (run_getS s), bind_of_ok (run_readOp_acc w s), bind_of_ok checked, run_storeAt]

/-- An operand that is a register. -/
def Opnd.isReg : Opnd → Prop
  | .reg _ => True
  | .reg8 _ => True
  | _ => False

theorem exchange_ok {w : Width} {d src : Opnd} (hr : Opnd.isReg src) {as : List Word} {s s1 : State}
    (ho : openDest w d s = .ok as s1) :
    exchange w d src s =
      .ok () (putDest w d as (destValue w src [] s1) (putDest w src [] (destValue w d as s1) s1)) := by
  unfold exchange
  refine modify_of_some (u := putDest w src [] (destValue w d as s1) s1) ho ?_
  cases src with
  | reg q =>
    rw [bind_of_ok (run_readOp_reg w q s1)]
    exact bind_of_ok (run_writeReg w q _ s1) _
  | reg8 q => rfl
  | mem m => cases hr
  | imm v => cases hr

theorem exec_moveForm {s : State} {i : Instr} {w : Width} {d src : Opnd} (h : MoveForm s.opSize i w d src) :
    exec i s = runInstr (move w d src) s := by
  cases h <;> first | exact runInstr_congr (by rfl) | rfl

theorem exec_extendForm {s : State} {i : Instr} {signed : Bool} {narrow : Width} {r : Reg} {src : Opnd}
    (h : ExtendForm i signed narrow r src) : exec i s = runInstr (moveExtend signed narrow s.width r src) s := by
  cases h <;> exact runInstr_congr (by rfl)

theorem exec_exchangeForm {s : State} {i : Instr} {w : Width} {d src : Opnd} (h : ExchangeForm s.opSize i w d src) :
    exec i s = runInstr (exchange w d src) s ∧ Opnd.isReg src := by
  cases h <;> exact ⟨runInstr_congr (by rfl), trivial⟩

/-- Settles O22, form by form through the shared operations. -/
theorem moves : Obligations.Moves := by
  refine ⟨?_, ?_, ?_, ?_, ?_, ?_, ?_, ?_, ?_⟩
  · intro s i w d src form v as s1 s2 hr ho
    rw [exec_moveForm form]
    exact runInstr_of_ok (move_ok hr ho)
  · intro s i signed narrow r src form v s1 hr
    rw [exec_extendForm form]
    exact runInstr_of_ok (moveExtend_ok hr)
  · intro s off v s1 hr
    exact runInstr_of_ok (loadMoffs_ok (w := .w8) hr)
  · intro s off v s1 hr
    have loaded := loadMoffs_ok (w := s.width) (s := past s) hr
    rw [exec_movEaxMoffs, execMovEaxMoffs]
    refine (runInstr_of_ok (s := s) loaded).trans ?_
    cases s.width <;> rfl
  · intro s off as s1 checked
    exact runInstr_of_ok (storeMoffs_ok (w := .w8) checked)
  · intro s off as s1 checked
    have stored := storeMoffs_ok (w := s.width) (s := past s) checked
    rw [exec_movMoffsEax, execMovMoffsEax]
    refine (runInstr_of_ok (s := s) stored).trans ?_
    cases s.width <;> rfl
  · intro s i w d src form as s1 ho
    obtain ⟨shared, hr⟩ := exec_exchangeForm form
    rw [shared]
    exact runInstr_of_ok (exchange_ok hr ho)
  · intro s r m
    have done : lea s.width r m (past s) =
        .ok () { past s with regs := putReg s.width s.regs r (BitVec.ofNat s.width.bits (ea s.regs m).toNat) } := by
      unfold lea
      rw [bind_of_ok (run_getS _), run_writeReg, BitVec.ofNat_toNat]
      rfl
    exact runInstr_of_ok (s := s) done
  · intro s v s1 hr
    have done : doXlat (past s) = .ok () { s1 with regs := s1.regs.set8 .al (BitVec.ofNat 8 v) } := by
      unfold doXlat
      rw [bind_of_ok (run_getS _)]
      exact bind_of_ok hr _
    exact runInstr_of_ok (s := s) done

end Sys2Proof.Machine
end

section
/-!
PROOFS. Selectors and descriptors by numbers (20_memory.md R124 to R126), and loading a segment register (O24).
-/

namespace Sys2Proof.Machine

open Claims

/-! ### Checks -/

theorem check_passes {α : Type} {c : Bool} (h : c = true) {e : M Unit} {f : Unit → M α} {s : State} :
    (check c e >>= f) s = f () s := by
  rw [run_bind, run_check, if_pos h]

theorem check_fails {α : Type} {c : Bool} (h : c = false) {e : M Unit} {f : Unit → M α} {s t : State} {x : Stop}
    (raised : e s = .error x t) : (check c e >>= f) s = .error x t := by
  rw [run_bind, run_check, if_neg (by simp [h]), raised]

/-! ### Selectors -/

theorem and_selector_mask (sel : Half) : (sel &&& 0xFFFC) = BitVec.ofNat 16 (sel.toNat / 4 * 4) := by
  have shifted : sel &&& (0xFFFC : Half) = (sel >>> 2) <<< 2 := by
    apply BitVec.eq_of_getLsbD_eq
    intro i hi
    rw [BitVec.getLsbD_and, BitVec.getLsbD_shiftLeft, BitVec.getLsbD_ushiftRight]
    have mask : ∀ k : Fin 16, (0xFFFC : Half).getLsbD k = decide (2 ≤ k.val) := by decide
    rw [mask ⟨i, hi⟩]
    by_cases low : 2 ≤ i
    · simp [low, hi, show 2 + (i - 2) = i by omega, show ¬i < 2 by omega]
    · simp [low, show i < 2 by omega]
  rw [shifted]
  apply BitVec.eq_of_toNat_eq
  simp [Nat.shiftLeft_eq, Nat.shiftRight_eq_div_pow]

theorem selCode_eq (sel : Half) : selCode sel = BitVec.ofNat 16 (sel.toNat / 4 * 4) := and_selector_mask sel

theorem extCode_zero (sel : Half) : extCode sel 0 = BitVec.ofNat 16 (sel.toNat / 4 * 4) := by
  unfold extCode
  rw [selCode_eq]
  exact BitVec.or_zero

theorem toNat_selRpl (sel : Half) : (selRpl sel).toNat = sel.toNat % 4 := by
  simp [selRpl]

theorem selRpl_eq_iff (sel : Half) (n : BitVec 2) : selRpl sel = n ↔ sel.toNat % 4 = n.toNat := by
  rw [BitVec.toNat_eq, toNat_selRpl]

theorem selLocal_eq (sel : Half) : selLocal sel = decide (sel.toNat / 4 % 2 = 1) := by
  rw [selLocal, BitVec.getLsbD, Nat.testBit_eq_decide_div_mod_eq]

theorem selOffset_eq (sel : Half) : selOffset sel = sel.toNat / 8 * 8 := by
  have shifted : sel &&& (0xFFF8 : Half) = (sel >>> 3) <<< 3 := by
    apply BitVec.eq_of_getLsbD_eq
    intro i hi
    rw [BitVec.getLsbD_and, BitVec.getLsbD_shiftLeft, BitVec.getLsbD_ushiftRight]
    have mask : ∀ k : Fin 16, (0xFFF8 : Half).getLsbD k = decide (3 ≤ k.val) := by decide
    rw [mask ⟨i, hi⟩]
    by_cases low : 3 ≤ i
    · simp [low, hi, show 3 + (i - 3) = i by omega, show ¬i < 3 by omega]
    · simp [low, show i < 3 by omega]
  have small := sel.isLt
  unfold selOffset
  rw [shifted]
  simp [Nat.shiftLeft_eq, Nat.shiftRight_eq_div_pow]
  omega

/-- A selector with another RPL. -/
theorem withRpl_eq (sel : Half) (rpl : BitVec 2) : withRpl sel rpl = BitVec.ofNat 16 (sel.toNat / 4 * 4 + rpl.toNat) := by
  have apart : BitVec.ofNat 16 (sel.toNat / 4 * 4) &&& rpl.setWidth 16 = 0 := by
    rw [← and_selector_mask]
    apply BitVec.eq_of_getLsbD_eq
    intro i hi
    simp only [BitVec.getLsbD_and, BitVec.getLsbD_setWidth]
    have mask : ∀ k : Fin 16, (0xFFFC : Half).getLsbD k = decide (2 ≤ k.val) := by decide
    rw [mask ⟨i, hi⟩]
    by_cases low : 2 ≤ i
    · rw [BitVec.getLsbD_of_ge rpl i low]
      simp
    · simp [low]
  unfold withRpl
  rw [and_selector_mask, ← BitVec.add_eq_or_of_and_eq_zero _ _ apart]
  apply BitVec.eq_of_toNat_eq
  simp

theorem selector_shifted (sel : Half) : sel.setWidth 32 <<< 4 = BitVec.ofNat 32 (sel.toNat * 16) := by
  apply BitVec.eq_of_toNat_eq
  simp [Nat.shiftLeft_eq]

/-- The descriptor's address as R125 says it. -/
theorem descAddr_eq (s : State) (sel : Half) : s.descAddr sel = descriptorAt s sel := by
  unfold State.descAddr State.tableOf descriptorAt
  rw [selLocal_eq, selOffset_eq]
  by_cases loc : sel.toNat / 4 % 2 = 1
  · rw [decide_eq_true loc, if_pos rfl, if_pos loc]
    by_cases valid : s.ldtr.valid = true
    · simp [valid]
    · simp [valid]
  · rw [decide_eq_false loc, if_neg Bool.false_ne_true, if_neg loc]

theorem Touches.descAddr {s t : State} (h : Touches s t) (sel : Half) : t.descAddr sel = s.descAddr sel := by
  unfold State.descAddr State.tableOf
  rw [h.ldtr, h.gdtr]

/-! ### Descriptors -/

theorem Desc.limit_eq (d : Desc) : d.limit = BitVec.ofNat 32 (if d.toNat.testBit 55 then
    (d.toNat % 2 ^ 16 + d.toNat / 2 ^ 48 % 16 * 2 ^ 16) * 4096 + 4095 else
    d.toNat % 2 ^ 16 + d.toNat / 2 ^ 48 % 16 * 2 ^ 16) := by
  have field : d.limit20.toNat = d.toNat % 2 ^ 16 + d.toNat / 2 ^ 48 % 16 * 2 ^ 16 := by
    unfold Desc.limit20
    rw [toNat_append_add]
    simp
    omega
  have small := d.limit20.isLt
  rw [field] at small
  unfold Desc.limit Desc.g
  rw [BitVec.getLsbD]
  split
  · have apart : (d.limit20.setWidth 32 <<< 12) &&& 0xFFF = 0 := by
      apply BitVec.eq_of_getLsbD_eq
      intro i hi
      have mask : ∀ k : Fin 32, (0xFFF : Word).getLsbD k = decide (k.val < 12) := by decide
      rw [BitVec.getLsbD_and, mask ⟨i, hi⟩, BitVec.getLsbD_shiftLeft]
      by_cases low : i < 12 <;> simp [low]
    rw [← BitVec.add_eq_or_of_and_eq_zero _ _ apart]
    apply BitVec.eq_of_toNat_eq
    simp only [BitVec.toNat_add, BitVec.toNat_shiftLeft, Nat.shiftLeft_eq, BitVec.toNat_setWidth, BitVec.toNat_ofNat, field,
      BitVec.reduceToNat]
    omega
  · apply BitVec.eq_of_toNat_eq
    simp only [BitVec.toNat_setWidth, BitVec.toNat_ofNat, field]

theorem Desc.base_eq (d : Desc) : d.base = BitVec.ofNat 32 (d.toNat / 2 ^ 16 % 2 ^ 24 + d.toNat / 2 ^ 56 * 2 ^ 24) := by
  have small := d.isLt
  apply BitVec.eq_of_toNat_eq
  unfold Desc.base
  rw [toNat_append_add]
  simp
  omega

/-- The segment register that a descriptor gives, field by field. -/
theorem segOf_eq (sel : Half) (d : Desc) : segOf sel d = segmentOf sel d := by
  have type : d.type = BitVec.ofNat 4 (d.toNat / 2 ^ 40) := by
    apply BitVec.eq_of_toNat_eq
    simp [Desc.type, Nat.shiftRight_eq_div_pow]
  have dpl : d.dpl = BitVec.ofNat 2 (d.toNat / 2 ^ 45) := by
    apply BitVec.eq_of_toNat_eq
    simp [Desc.dpl, Nat.shiftRight_eq_div_pow]
  unfold segOf segmentOf
  rw [Desc.base_eq, Desc.limit_eq, type, dpl]
  rfl

/-! ### Loading a segment register -/

/-- The descriptor that a selector names is read where R125 says. -/
theorem readDesc_ok {s s1 : State} {sel : Half} {a : Word} {v : Nat} (named : s.descAddr sel = some a)
    (read : linRead a 8 s = .ok v s1) (outside : M Desc) : readDesc sel outside s = .ok (BitVec.ofNat 64 v) s1 := by
  unfold readDesc
  rw [bind_of_ok (run_getS s)]
  simp only [named]
  rw [bind_of_ok read, run_pure]

theorem readDesc_outside {s : State} {sel : Half} (none : s.descAddr sel = none) (outside : M Desc) :
    readDesc sel outside s = outside s := by
  unfold readDesc
  rw [bind_of_ok (run_getS s)]
  simp only [none]

/-- A segment register is loaded from a descriptor not yet accessed. -/
theorem loadSeg_marking {s t : State} {sel : Half} {a : Word} {d : Desc} (named : s.descAddr sel = some a)
    (clear : d.getLsbD 40 = false) (marked : linWriteSysByte (a + 5) (d.extractLsb' 40 8 ||| 1) s = .ok () t) (r : SReg) :
    loadSeg r sel d s = .ok () { t with segs := t.segs.set r (segOf sel d) } := by
  unfold loadSeg setAccessed writeAccess
  rw [clear, run_bind, run_onlyIf]
  simp only [Bool.not_false, if_true, run_bind, run_getS, named, marked]
  rfl

/-- What a segment descriptor must be for the register (42_data_move.md R354, R355), as the model tests it. -/
def loadable (s : State) (r : SReg) (sel : Half) (d : Desc) : Bool :=
  if r = .ss then decide (selRpl sel = s.cpl) && d.writableData && decide (d.dpl = s.cpl)
  else d.readable && (d.conforming || (decide (selRpl sel ≤ d.dpl) && decide (s.cpl ≤ d.dpl)))

/-- A load with a descriptor in its table, after the descriptor is read. -/
theorem loadSreg_read {s s1 : State} {r : SReg} {sel : Half} {a : Word} {v : Nat} (prot : s.protectedMode = true)
    (notNull : selNull sel = false) (named : s.descAddr sel = some a) (read : linRead a 8 s = .ok v s1) :
    loadSreg r sel s = (do
      check (loadable s r sel (BitVec.ofNat 64 v)) (raiseGP (extCode sel 0))
      check (Desc.p (BitVec.ofNat 64 v)) (if r = SReg.ss then raiseSS (extCode sel 0) else raiseNP (extCode sel 0))
      loadSeg r sel (BitVec.ofNat 64 v)) s1 := by
  have cpl : s1.cpl = s.cpl := ((Confined.linRead a 8).ok read).cpl
  unfold loadSreg loadable
  by_cases ss : r = .ss
  · subst ss
    simp only [if_true, loadSs, run_bind, run_getS, prot, notNull, Bool.not_false, run_check, checkStackSeg,
      readDesc_ok named read, run_raiseGP, run_raiseSS]
    generalize (BitVec.ofNat 64 v : Desc) = d
    cases decide (selRpl sel = s.cpl) && Desc.writableData d && decide (Desc.dpl d = s.cpl) with
    | false => rfl
    | true =>
      cases Desc.p d with
      | false => rfl
      | true => rfl
  · simp only [if_neg ss, loadDataSeg, run_bind, run_getS, prot, if_true, loadDataProt, notNull, Bool.false_eq_true, if_false,
      readDesc_ok named read, run_check, cpl]
    generalize (BitVec.ofNat 64 v : Desc) = d
    cases Desc.readable d with
    | false => rfl
    | true =>
      cases Desc.conforming d || (decide (selRpl sel ≤ Desc.dpl d) && decide (s.cpl ≤ Desc.dpl d)) with
      | false => rfl
      | true => rfl

/-- What the segment must be, in the statement's words. -/
theorem loadable_iff (s : State) (r : SReg) (sel : Half) (d : Desc) : loadable s r sel d = true ↔
    if r = .ss then sel.toNat % 4 = s.cpl.toNat ∧ d.writableData = true ∧ d.dpl = s.cpl
    else d.readable = true ∧ (d.conforming = true ∨ (sel.toNat % 4 ≤ d.dpl.toNat ∧ s.cpl ≤ d.dpl)) := by
  unfold loadable
  split
  · simp [selRpl_eq_iff, and_assoc]
  · simp [BitVec.le_def, toNat_selRpl]

/-- Settles O24, by the mode and the checks in their order. -/
theorem segmentLoad : Obligations.SegmentLoad := by
  intro s r sel notCs null code rpl
  have error : extCode sel 0 = code := extCode_zero sel
  have notNull : ¬null → selNull sel = false := fun h => by
    rw [← Bool.not_eq_true, selNull_iff]
    exact h
  refine ⟨fun real => ?_, fun prot h ss => ?_, fun prot h ss => ?_, fun prot h outside => ?_, fun prot h a v s1 named read => ?_⟩
  · have base := selector_shifted sel
    unfold loadSreg loadSs loadDataSeg
    by_cases ss : r = .ss
    · subst ss
      simp only [if_true, run_bind, run_getS, real, Bool.false_eq_true, if_false, run_setSeg, SegReg.realLoad, base]
      rfl
    · simp only [if_neg ss, run_bind, run_getS, real, Bool.false_eq_true, if_false, run_setSeg, SegReg.realLoad, base]
  · unfold loadSreg loadDataSeg loadDataProt
    simp only [if_neg ss, run_bind, run_getS, prot, if_true, (selNull_iff sel).mpr h, run_upd]
    rfl
  · subst ss
    unfold loadSreg loadSs
    simp only [if_true, run_bind, run_getS, prot, (selNull_iff sel).mpr h, Bool.not_true, run_check, Bool.false_eq_true,
      if_false, run_raiseGP]
  · have none : s.descAddr sel = none := (descAddr_eq s sel).trans outside
    unfold loadSreg loadSs loadDataSeg loadDataProt checkStackSeg
    by_cases ss : r = .ss
    · simp only [if_pos ss, run_bind, run_getS, prot, if_true, notNull h, Bool.not_false, run_check,
        readDesc_outside none, run_raiseGP, error]
    · simp only [if_neg ss, run_bind, run_getS, prot, if_true, notNull h, Bool.false_eq_true, if_false,
        readDesc_outside none, run_raiseGP, error]
  · have named' : s.descAddr sel = some a := (descAddr_eq s sel).trans named
    have loaded := loadSreg_read (r := r) prot (notNull h) named' read
    intro d ok
    have checked : loadable s r sel d = true ↔ ok := loadable_iff s r sel d
    have named1 : s1.descAddr sel = some a := (((Confined.linRead a 8).ok read).descAddr sel).trans named'
    refine ⟨fun bad => ?_, fun good absent => ?_, fun good present set => ?_, fun good present clear s2 marked => ?_⟩
    · have refused : loadable s r sel d = false := by rwa [← Bool.not_eq_true, checked]
      rw [loaded, check_fails refused (run_raiseGP _ s1), error]
    · rw [loaded, check_passes (checked.mpr good), ← error]
      by_cases ss : r = .ss
      · rw [if_pos ss, if_pos ss, check_fails absent (run_raiseSS _ s1)]
      · rw [if_neg ss, if_neg ss, check_fails absent (run_raiseNP _ s1)]
    · rw [loaded, check_passes (checked.mpr good), check_passes present, ← segOf_eq]
      exact loadSeg_accessed set r sel
    · rw [loaded, check_passes (checked.mpr good), check_passes present, ← segOf_eq]
      exact loadSeg_marking named1 clear marked r

end Sys2Proof.Machine
end

section
/-!
PROOFS. The stack: one value pushed, one value popped, and a push that ends in shutdown (42_data_move.md R359); the moves
and far loads of segment registers (O23) and the pushes (O25).
-/

namespace Sys2Proof.Machine

open Claims

variable {α : Type}

/-! ### The addresses of an access -/

theorem physPaged_length {write user : Bool} {n : Nat} {la : Word} {known : Option (BitVec 20 × BitVec 20)} {s t : State}
    {as : List Word} (h : physPaged write user n la known s = .ok as t) : as.length = n := by
  induction n generalizing la known s as t with
  | zero =>
    cases h
    rfl
  | succ n ih =>
    have later : ∀ (x : M (BitVec 20)), (do
        let frame ← x
        let rest ← physPaged write user n (la + 1) (some (la.extractLsb' 12 20, frame))
        pure ((frame ++ la.extractLsb' 0 12) :: rest)) s = .ok as t → as.length = n + 1 := by
      intro x h
      obtain ⟨frame, u, -, h⟩ := ok_of_bind h
      obtain ⟨rest, v, paged, h⟩ := ok_of_bind h
      cases h
      rw [List.length_cons, ih paged]
    rw [physPaged.eq_def] at h
    revert h
    dsimp only
    split
    · split <;> exact later _
    · exact later _

theorem physOf_length {la : Word} {n : Nat} {write user : Bool} {s t : State} {as : List Word}
    (h : physOf la n write user s = .ok as t) : as.length = n := by
  unfold physOf at h
  rw [bind_of_ok (run_getS s)] at h
  split at h
  · exact physPaged_length h
  · cases h
    exact addrs_length la n

/-! ### One value on the stack -/

/-- A stack access that completes was within the limit, and gives as many addresses as bytes. -/
theorem stackAccess_passed {g : SegReg} {off : Word} {n : Nat} {write user : Bool} {ec : Half} {s t : State} {as : List Word}
    (h : stackAccess g off n write user ec s = .ok as t) : g.inLimit off n = true ∧ as.length = n := by
  obtain ⟨_, u, checked, h⟩ := ok_of_bind h
  obtain ⟨bs, v, phys, h⟩ := ok_of_bind h
  obtain ⟨_, w, -, h⟩ := ok_of_bind h
  cases h
  exact ⟨check_ok checked, physOf_length phys⟩

theorem below_stackSize (s : State) (n k : Nat) : below (.ofBit s.segs.ss.db) s.sp n k = below s.stackSize s.sp n k := rfl

/-- The value is stored where the stack access says, and the stack pointer moves down. -/
theorem pushAll_one {n v : Nat} {as : List Word} {s t : State}
    (opened : stackAccess s.segs.ss (below s.stackSize s.sp n 1) n true s.user 0 s = .ok as t) :
    pushAll n [v] s = .ok () { t with
      mem := Memory.store t.mem as v, regs := s.regs.setV s.stackSize .esp (s.sp - BitVec.ofNat 32 n) } := by
  obtain ⟨inside, -⟩ := stackAccess_passed opened
  have same := (Confined.stackAccess _ _ _ _ _ _).ok opened
  have room : roomFor s.segs.ss s.sp n 0 1 s = .ok () s := roomFor_ok fun j hj => by
    obtain rfl : j = 0 := by omega
    exact inside
  have slot : pushSlots s.segs.ss s.sp n s.user 0 1 s = .ok [as] t := by
    unfold pushSlots
    rw [bind_of_ok (show pushSlots s.segs.ss s.sp n s.user 0 0 s = .ok [] s from rfl)]
    exact bind_of_ok opened _
  unfold pushAll pushOn
  rw [bind_of_ok (run_getS s), List.length_singleton, run_bind, bind_of_ok room, bind_of_ok slot]
  simp only [storeSlots, run_bind, run_storeAt, run_skip, run_setSp, Nat.mul_one]
  rw [same.regs, ← same.stackSize]
  rfl

theorem push_ok {o : Size} {v : Word} {as : List Word} {s t : State}
    (opened : stackAccess s.segs.ss (below s.stackSize s.sp (sizeBytes o) 1) (sizeBytes o) true s.user 0 s = .ok as t) :
    push o v s = .ok () { t with
      mem := Memory.store t.mem as v.toNat, regs := s.regs.setV s.stackSize .esp (s.sp - BitVec.ofNat 32 (sizeBytes o)) } :=
  pushAll_one opened

/-- The first of the slots to be pushed is outside the limit. -/
theorem roomFor_outside {g : SegReg} {sp : Word} {n : Nat} {ec : Half} {s : State}
    (outside : g.inLimit (below (.ofBit g.db) sp n 1) n = false) (k : Nat) :
    roomFor g sp n ec (k + 1) s = raisePush n ec s := by
  induction k with
  | zero =>
    unfold roomFor
    rw [bind_of_ok (show roomFor g sp n ec 0 s = .ok () s from rfl), run_check, outside]
    rfl
  | succ k ih =>
    unfold roomFor
    exact (bind_of_error (ih.trans (run_raisePush n ec s)) _).trans (run_raisePush n ec s).symm

/-- The exception of a four-byte push that finds no room in real-address mode on a 16-bit stack (R359). -/
def deadPush : Exn := { Exn.plain 12 (some 0) with deadSp := [1, 2, 3] }

theorem roomFor_dead {s : State} (real : s.cr0.pe = false) (small : s.stackSize = .s16)
    (outside : ¬Within s.segs.ss (below s.stackSize s.sp 4 1) 4) (k : Nat) :
    roomFor s.segs.ss s.sp 4 0 (k + 1) s = .error (.exc deadPush false) s := by
  have db : s.segs.ss.db = false := by
    rw [State.stackSize] at small
    cases h : s.segs.ss.db with
    | false => rfl
    | true => rw [h] at small; cases small
  have outside : s.segs.ss.inLimit (below (.ofBit s.segs.ss.db) s.sp 4 1) 4 = false := by
    rw [below_stackSize, ← Bool.not_eq_true, inLimit_iff (by decide)]
    exact outside
  rw [roomFor_outside outside, run_raisePush, real, db]
  rfl

theorem pushAll_dead {vs : List Nat} {s : State} (real : s.cr0.pe = false) (small : s.stackSize = .s16)
    (outside : ¬Within s.segs.ss (below s.stackSize s.sp 4 1) 4) (some : vs ≠ []) :
    pushAll 4 vs s = .error (.exc deadPush false) s := by
  obtain ⟨v, vs, rfl⟩ := List.exists_cons_of_ne_nil some
  unfold pushAll pushOn
  rw [bind_of_ok (run_getS s), List.length_cons]
  exact bind_of_error (bind_of_error (roomFor_dead real small outside _) _) _

/-! ### Shutdown -/

/-- An exception that is not delivered with the stack pointer of the instruction ends in shutdown. -/
theorem shutsDown_of_dead {i : Instr} {body : M Unit} {e : Exn} {s t : State} (run : exec i s = runInstr body s)
    (stopped : body (past s) = .error (.exc e false) t) (dead : s.sp ∈ e.deadSp) : ShutsDown i s t := by
  have taken : takeFault e false s t =
      State.shutDown { rollback s t with ins := { (rollback s t).ins with sysLog := [] } } := by
    unfold takeFault
    exact if_pos (List.contains_iff_mem.mpr dead)
  refine ⟨takeFault e false s t, run.trans (runInstr_of_exc stopped), ?_⟩
  rw [taken]
  refine ⟨rfl, rfl, rfl, rfl, rfl, fun empty => ?_⟩
  change replay t.ins.sysLog s.mem = s.mem
  rw [empty]
  rfl

/-! ### Segment registers are loaded -/

/-- The segment registers may change too. -/
def reseg : StateRel where
  rel s t := Touches { s with segs := t.segs } t
  refl s := Touches.refl s
  trans := by
    intro s t u h g
    have first : Touches { s with segs := u.segs } { t with segs := u.segs } := by
      unfold Touches at *
      rw [h]
    exact first.trans g

theorem Confined.ends_reseg {x : M α} (h : Confined x) : Ends reseg x := by
  have keep : ∀ {s t : State}, Touches s t → reseg.rel s t := by
    intro s t touched
    have same : { s with segs := t.segs } = s := by rw [touched.segs]
    change Touches { s with segs := t.segs } t
    rw [same]
    exact touched
  intro s
  unfold EndsAt
  rcases e : x s with ⟨a, t⟩ | ⟨a, t⟩
  · exact keep (h.ok e)
  · exact keep (h.error e).1

theorem Confined.readDesc (sel : Half) {outside : M Desc} (h : Confined outside) : Confined (readDesc sel outside) := by
  refine .bind .getS fun s => ?_
  split
  · exact h
  · exact .bind (.linRead _ _) fun _ => .pure _

theorem Confined.setAccessed (sel : Half) (d : Desc) : Confined (setAccessed sel d) := by
  refine .onlyIf (.bind .getS fun s => ?_)
  split
  · exact .skip
  · exact .linWriteSysByte _ _

theorem reseg_loadSeg (r : SReg) (sel : Half) (d : Desc) : Ends reseg (loadSeg r sel d) :=
  .bind (Confined.setAccessed sel d).ends_reseg fun _ => .upd fun s => Touches.refl _

theorem reseg_loadSreg (r : SReg) (sel : Half) : Ends reseg (loadSreg r sel) := by
  have fail : ∀ ec, Ends reseg (do let _ ← (raiseGP ec : M Desc); skip) := fun ec =>
    (Confined.bind (.raise _) fun _ => .skip).ends_reseg
  refine .ite ?_ ?_
  · refine .bind .getS fun _ => .ite ?_ (.upd fun _ => Touches.refl _)
    exact .bind (.check (.raiseGP _)) fun _ => .bind (.bind (Confined.readDesc _ (.raise _)).ends_reseg fun d =>
      .bind (.check (fail _)) fun _ => .bind (.check (.raiseSS _)) fun _ => .pure _) fun _ => reseg_loadSeg _ _ _
  · refine .bind .getS fun _ => .ite ?_ (.upd fun _ => Touches.refl _)
    exact .ite (.upd fun s => Touches.refl _) (.bind (Confined.readDesc _ (.raise _)).ends_reseg fun d => .bind .getS fun _ =>
      .bind (.check (fail _)) fun _ => .bind (.check (fail _)) fun _ => .bind (.check (.raiseNP _)) fun _ =>
      reseg_loadSeg _ _ _)

/-- Loading a segment register changes no general register, nor the shadow. -/
theorem loadSreg_keeps {r : SReg} {sel : Half} {s t : State} (h : loadSreg r sel s = .ok () t) :
    t.regs = s.regs ∧ t.shadow = s.shadow := by
  have rel : Touches { s with segs := t.segs } t := (reseg_loadSreg r sel s).ok h
  exact ⟨rel.regs, rel.shadow⟩

/-- A word with its lower half replaced. -/
theorem withLow16_eq (w : Word) (v : Half) : withLow16 w v = w.extractLsb' 16 16 ++ v := by
  apply BitVec.eq_of_getLsbD_eq
  intro i hi
  have mask : ∀ k : Fin 32, (0xFFFF0000 : Word).getLsbD k = decide (16 ≤ k.val) := by decide
  unfold withLow16
  rw [BitVec.getLsbD_or, BitVec.getLsbD_and, mask ⟨i, hi⟩, BitVec.getLsbD_append, BitVec.getLsbD_setWidth]
  by_cases low : i < 16
  · simp [low, hi, show ¬16 ≤ i by omega]
  · simp [low, show 16 ≤ i by omega, show i - 16 < 16 by omega, show 16 + (i - 16) = i by omega]

theorem shadowSs_ok (r : SReg) (s : State) :
    shadowSs r s = .ok () { s with shadow := if r = .ss then .ssLoad else s.shadow } := by
  unfold shadowSs
  rw [run_onlyIf]
  by_cases ss : r = .ss
  · rw [if_pos (decide_eq_true ss), if_pos ss]
    rfl
  · rw [if_neg (by simpa using ss), if_neg ss]

theorem loadFar_ok {w : Width} {r : Reg} {g : SReg} {m : MemOp} {v : Nat} {s s1 s2 : State}
    (read : readMem m (w.bytes + 2) s = .ok v s1) (load : loadSreg g (BitVec.ofNat 16 (v / 2 ^ w.bits)) s1 = .ok () s2) :
    loadFar w r g m s = .ok () { s2 with regs := putReg w s2.regs r (BitVec.ofNat w.bits v) } := by
  have power : 256 ^ w.bytes = 2 ^ w.bits := by cases w <;> rfl
  unfold loadFar
  rw [bind_of_ok read, power, bind_of_ok load, run_writeReg]

theorem exec_farLoadForm {s : State} {i : Instr} {r : Reg} {g : SReg} {m : MemOp} (h : FarLoadForm i r g m) :
    exec i s = runInstr (loadFar s.width r g m) s := by
  cases h <;> exact runInstr_congr (by rfl)

/-- Settles O23, by the destination and by the checks of a load. -/
theorem segmentMoves : Obligations.SegmentMoves := by
  refine ⟨⟨?_, ?_, ?_, ?_, ?_⟩, ?_⟩
  · intro s m r as s1 opened
    exact runInstr_of_ok (body := atOpSize fun o => moveFromSreg o (.mem m) r) (s := s) (run_writeMem opened)
  · intro s q r size
    have done : moveFromSreg s.opSize (.reg q) r (past s) =
        .ok () { past s with regs := s.regs.set16 q (s.segs.get r).selector } := by
      rw [size]
      rfl
    exact runInstr_of_ok (body := atOpSize fun o => moveFromSreg o (.reg q) r) (s := s) done
  · intro s q r size
    let upper : Half := (Config.freeWord s.draws).extractLsb' 16 16
    have low : withLow16 (Config.freeWord s.draws) (s.segs.get r).selector = upper ++ (s.segs.get r).selector :=
      withLow16_eq _ _
    refine ⟨upper, s.draws + 1, ?_⟩
    have done : moveFromSreg s.opSize (.reg q) r (past s) = .ok () { past s with
        regs := s.regs.set q (upper ++ (s.segs.get r).selector), draws := s.draws + 1 } := by
      rw [size, ← low]
      rfl
    exact runInstr_of_ok (body := atOpSize fun o => moveFromSreg o (.reg q) r) (s := s) done
  · intro s r m v s1 s2 notCs read load
    have shadow : s2.shadow = s.shadow := by
      rw [(loadSreg_keeps load).2, ((Confined.readOp _ _).ok read).shadow]
      rfl
    have done : moveToSreg r m (past s) = .ok () { s2 with shadow := if r = .ss then .ssLoad else s.shadow } := by
      unfold moveToSreg
      rw [check_passes (decide_eq_true notCs), bind_of_ok read, bind_of_ok load, shadowSs_ok, shadow]
    exact runInstr_of_ok (body := moveToSreg r m) done
  · intro s m
    exact runInstr_of_exc (body := moveToSreg .cs m) (s := s) rfl
  · intro s i r g m form v s1 s2 read load
    rw [exec_farLoadForm form]
    exact runInstr_of_ok (loadFar_ok read load)

end Sys2Proof.Machine
end

section
/-!
PROOFS. PUSH and PUSHF (O25).
-/

namespace Sys2Proof.Machine

open Claims

theorem width_bytes (s : State) : s.width.bytes = sizeBytes s.opSize := by
  unfold State.width
  cases s.opSize <;> rfl

theorem Width.bits_le (w : Width) : w.bits ≤ 32 := by cases w <;> decide

theorem toNat_widened {w : Width} (v : BitVec w.bits) : (v.setWidth 32).toNat = v.toNat :=
  BitVec.toNat_setWidth_of_le w.bits_le

theorem exec_pushForm {s : State} {i : Instr} {src : Opnd} (h : PushForm i src) :
    exec i s = runInstr (pushOpnd s.opSize src) s := by
  cases h <;> exact runInstr_congr (by rfl)

theorem exec_pushSegForm {s : State} {i : Instr} {r : SReg} (h : PushSegForm i r) :
    exec i s = runInstr (pushSreg s.opSize r) s := by
  cases h <;> exact runInstr_congr (by rfl)

/-- A push at a state that an access of the instruction has touched. -/
theorem push_after {o : Size} {v : Word} {as : List Word} {s s1 s2 : State} (same : Touches (past s) s1)
    (opened : stackAccess s.segs.ss (below s.stackSize s.sp (sizeBytes o) 1) (sizeBytes o) true s.user 0 s1 = .ok as s2) :
    push o v s1 = .ok () { s2 with
      mem := Memory.store s2.mem as v.toNat, regs := s.regs.setV s.stackSize .esp (s.sp - BitVec.ofNat 32 (sizeBytes o)) } := by
  have segs : s1.segs = s.segs := same.segs
  have size : s1.stackSize = s.stackSize := same.stackSize
  have sp : s1.sp = s.sp := same.sp
  have user : s1.user = s.user := same.user
  have regs : s1.regs = s.regs := same.regs
  rw [← segs, ← size, ← sp, ← user] at opened
  rw [push_ok opened, size, sp, regs]

theorem pushOpnd_after {o : Size} {src : Opnd} {v : BitVec (widthOf o).bits} {as : List Word} {s s1 s2 : State}
    (read : readOp (widthOf o) src (past s) = .ok v s1)
    (opened : stackAccess s.segs.ss (below s.stackSize s.sp (sizeBytes o) 1) (sizeBytes o) true s.user 0 s1 = .ok as s2) :
    pushOpnd o src (past s) = .ok () { s2 with
      mem := Memory.store s2.mem as v.toNat, regs := s.regs.setV s.stackSize .esp (s.sp - BitVec.ofNat 32 (sizeBytes o)) } := by
  unfold pushOpnd
  rw [bind_of_ok read, push_after ((Confined.readOp _ _).ok read) opened, toNat_widened]

/-- PUSH of a selector by its two cases. -/
theorem pushSreg_eq (o : Size) (r : SReg) (s : State) :
    pushSreg o r s = (if o = .s32 ∧ !s.cfg.pushSreg32ZeroExt then do
      roomFor s.segs.ss s.sp 4 0 1
      let as ← stackAccess s.segs.ss (below s.stackSize s.sp 4 1) 4 true s.user 0
      storeAt (as.take 2) (s.segs.get r).selector.toNat
      setSp (s.sp - 4)
    else push o ((s.segs.get r).selector.setWidth 32)) s := rfl

/-- PUSH of a selector: two bytes of it, or with zeros above it. -/
theorem pushSreg_ok {o : Size} {r : SReg} {as : List Word} {s t : State}
    (opened : stackAccess s.segs.ss (below s.stackSize s.sp (sizeBytes o) 1) (sizeBytes o) true s.user 0 s = .ok as t) :
    pushSreg o r s = .ok () { t with
      mem := Memory.store t.mem (if s.cfg.pushSreg32ZeroExt then as else as.take 2) (s.segs.get r).selector.toNat,
      regs := s.regs.setV s.stackSize .esp (s.sp - BitVec.ofNat 32 (sizeBytes o)) } := by
  obtain ⟨inside, len⟩ := stackAccess_passed opened
  have same := (Confined.stackAccess _ _ _ _ _ _).ok opened
  have value : ((s.segs.get r).selector.setWidth 32).toNat = (s.segs.get r).selector.toNat :=
    BitVec.toNat_setWidth_of_le (by decide)
  rw [pushSreg_eq]
  by_cases two : o = .s32 ∧ !s.cfg.pushSreg32ZeroExt
  · obtain ⟨rfl, notZero⟩ := two
    have room : roomFor s.segs.ss s.sp 4 0 1 s = .ok () s := roomFor_ok fun j hj => by
      obtain rfl : j = 0 := by omega
      exact inside
    have keep : ¬s.cfg.pushSreg32ZeroExt = true := by simpa using notZero
    rw [if_pos ⟨rfl, notZero⟩, if_neg keep, bind_of_ok room]
    refine (bind_of_ok opened _).trans ?_
    simp only [run_bind, run_storeAt, run_setSp]
    rw [same.regs, ← same.stackSize]
    rfl
  · have all : (if s.cfg.pushSreg32ZeroExt then as else as.take 2) = as := by
      split
      · rfl
      · next keep =>
        have small : o = .s16 := by
          cases o with
          | s16 => rfl
          | s32 => exact absurd ⟨rfl, by simpa using keep⟩ two
        exact List.take_of_length_le (by rw [len, small]; decide)
    rw [if_neg two, push_ok opened, all, value]

theorem doPushf_refused {o : Size} {s : State} (v86 : s.v86 = true) (iopl : s.flags.iopl ≠ 3) :
    doPushf o s = .error (.exc (.plain 13 (some 0)) false) s := by
  unfold doPushf
  rw [bind_of_ok (run_getS s), check_fails (by rw [v86, decide_eq_false iopl]; rfl) (run_raiseGP 0 s)]

theorem doPushf_allowed {o : Size} {s : State} (may : s.v86 = false ∨ s.flags.iopl = 3) :
    doPushf o s = push o ({ s.flags with vm := false, rf := false }.toWord) s := by
  unfold doPushf
  rw [bind_of_ok (run_getS s), check_passes (by
    rcases may with h | h
    · rw [h]
      rfl
    · rw [decide_eq_true h, Bool.or_true])]

/-- A four-byte push of one value that ends in shutdown. -/
theorem push_dead {s : State} {v : Word} (real : s.cr0.pe = false) (small : s.stackSize = .s16)
    (outside : ¬Within s.segs.ss (below s.stackSize s.sp 4 1) 4) : push .s32 v s = .error (.exc deadPush false) s :=
  pushAll_dead real small outside nofun

theorem pushOpnd_dead {o : Size} (size : o = .s32) {src : Opnd} {v : BitVec (widthOf o).bits} {s s1 : State}
    (read : readOp (widthOf o) src (past s) = .ok v s1) (real : s.cr0.pe = false) (small : s.stackSize = .s16)
    (outside : ¬Within s.segs.ss (below s.stackSize s.sp 4 1) 4) :
    pushOpnd o src (past s) = .error (.exc deadPush false) s1 := by
  subst size
  have same := (Confined.readOp _ _).ok read
  have segs : s1.segs = s.segs := same.segs
  have stack : s1.stackSize = s.stackSize := same.stackSize
  have sp : s1.sp = s.sp := same.sp
  have cr0 : s1.cr0 = s.cr0 := same.cr0
  unfold pushOpnd
  rw [bind_of_ok read]
  rw [← segs, ← stack, ← sp] at outside
  exact push_dead (by rw [cr0, real]) (by rw [stack, small]) outside

theorem pushSreg_dead {s : State} {r : SReg} (real : s.cr0.pe = false) (small : s.stackSize = .s16)
    (outside : ¬Within s.segs.ss (below s.stackSize s.sp 4 1) 4) : pushSreg .s32 r s = .error (.exc deadPush false) s := by
  rw [pushSreg_eq]
  split
  · exact bind_of_error (roomFor_dead real small outside 0) _
  · exact push_dead real small outside

/-- The stack pointers for which a push is not delivered. -/
theorem mem_deadPush {w : Word} (low : 1 ≤ w.toNat) (high : w.toNat ≤ 3) : w ∈ deadPush.deadSp := by
  have cases : w = 1 ∨ w = 2 ∨ w = 3 := by bv_omega
  rcases cases with rfl | rfl | rfl <;> decide

/-- PUSHA with SP = 1, 2 or 3 on a stack without room for four bytes. -/
theorem pusha_dead {s : State} (real : s.cr0.pe = false) (small : s.stackSize = .s16) (low : 1 ≤ s.sp.toNat)
    (high : s.sp.toNat ≤ 3) (outside : ¬Within s.segs.ss (below s.stackSize s.sp 4 1) 4) :
    ∃ e : Exn, doPusha .s32 s = .error (.exc e false) s ∧ s.sp ∈ e.deadSp := by
  have plain : s.protectedMode = false := by simp [State.protectedMode, real]
  have cases : s.sp = 1 ∨ s.sp = 2 ∨ s.sp = 3 := by bv_omega
  have notOdd : pushaOdd.contains s.sp = false := by rcases cases with h | h | h <;> rw [h] <;> rfl
  unfold doPusha
  rw [bind_of_ok (run_getS s), check_passes (by rw [plain, notOdd]; rfl)]
  cases dead : pushaDead.contains s.sp
  case true =>
    refine ⟨{ Exn.plain 12 (some 0) with deadSp := pushaDead }, ?_, List.contains_iff_mem.mp dead⟩
    exact check_fails (by rw [plain]; rfl) rfl
  case false =>
    refine ⟨deadPush, ?_, mem_deadPush low high⟩
    rw [check_passes (by rw [plain]; rfl)]
    exact pushAll_dead real small outside nofun

/-- Settles O25, each push by the shared one. -/
theorem pushes : Obligations.Pushes := by
  refine ⟨?_, ?_, ?_, ?_, ?_⟩
  · intro s i src form v as s1 s2 read opened
    rw [exec_pushForm form]
    rw [width_bytes] at opened ⊢
    exact runInstr_of_ok (pushOpnd_after read opened)
  · intro s i r form as s1 opened
    rw [exec_pushSegForm form]
    rw [width_bytes] at opened ⊢
    exact runInstr_of_ok (s := s) (pushSreg_ok (s := past s) opened)
  · intro s v86 iopl
    exact runInstr_of_exc (body := atOpSize doPushf) (s := s) (doPushf_refused v86 iopl)
  · intro s may as s1 opened
    rw [width_bytes] at opened ⊢
    refine runInstr_of_ok (body := atOpSize doPushf) (s := s) ?_
    exact (doPushf_allowed (s := past s) may).trans (push_after (Touches.refl _) opened)
  · intro s real size small low high outside
    refine ⟨fun i src form v s1 read => ?_, fun i r form => ?_, fun vm => ⟨?_, ?_⟩⟩
    · refine shutsDown_of_dead (exec_pushForm form) ?_ (mem_deadPush low high)
      exact pushOpnd_dead size read real small outside
    · refine shutsDown_of_dead (exec_pushSegForm form) ?_ (mem_deadPush low high)
      rw [size]
      exact pushSreg_dead (s := past s) real small outside
    · refine shutsDown_of_dead (body := atOpSize doPushf) rfl ?_ (mem_deadPush low high)
      have may : (past s).v86 = false := by simp [State.v86, past, vm]
      rw [run_atOpSize, show (past s).opSize = .s32 from size, doPushf_allowed (.inl may)]
      exact push_dead (s := past s) real small outside
    · obtain ⟨e, stopped, dead⟩ := pusha_dead (s := past s) real small low high outside
      refine shutsDown_of_dead (body := atOpSize doPusha) rfl ?_ dead
      rw [run_atOpSize, show (past s).opSize = .s32 from size]
      exact stopped

end Sys2Proof.Machine
end

section
/-!
PROOFS. POP and POPF (O26), PUSHA and POPA (O27).
-/

namespace Sys2Proof.Machine

open Claims

theorem sizeTrunc_s16 (w : Word) : sizeTrunc .s16 w = (w.setWidth 16).setWidth 32 := by
  apply BitVec.eq_of_toNat_eq
  have mask : w.toNat &&& (2 ^ 16 - 1) = w.toNat % 2 ^ 16 := Nat.and_two_pow_sub_one_eq_mod _ 16
  rw [BitVec.toNat_setWidth, BitVec.toNat_setWidth]
  change w.toNat &&& (2 ^ 16 - 1) = _
  omega

theorem sizeTrunc_sp (s : State) : sizeTrunc s.stackSize s.sp = s.sp := by
  unfold State.sp Regs.getV
  cases s.stackSize with
  | s32 => rfl
  | s16 =>
    dsimp only
    rw [sizeTrunc_s16]
    apply BitVec.eq_of_toNat_eq
    have small := (s.regs.get16 .esp).isLt
    simp only [BitVec.toNat_setWidth]
    omega

/-- An operand opened for writing is written. -/
theorem writeOp_ok {w : Width} {d : Opnd} {v : BitVec w.bits} {bs : List Word} {s t : State}
    (opened : openDest w d s = .ok bs t) : writeOp w d v s = .ok () (putDest w d bs v t) := by
  cases d with
  | mem m => exact run_writeMem (show accessMem m w.bytes true s = .ok bs t from opened)
  | reg8 q =>
    cases opened
    rfl
  | reg q =>
    cases opened
    exact run_writeReg w q v s
  | imm i =>
    cases opened
    rfl

/-- The bytes at the stack pointer. -/
theorem peek_ok {n : Nat} {as : List Word} {s t : State}
    (opened : stackAccess s.segs.ss s.sp n false s.user 0 s = .ok as t) : peek 0 n s = .ok (Memory.load t.mem as) t := by
  have top : s.sp + BitVec.ofNat 32 0 = s.sp := BitVec.add_zero _
  unfold peek
  rw [bind_of_ok (run_getS s), top, sizeTrunc_sp, bind_of_ok opened, run_loadAt]

/-- The value is what the stack access reads, and the stack pointer moves up. -/
theorem pop_ok {o : Size} {as : List Word} {s t : State}
    (opened : stackAccess s.segs.ss s.sp (sizeBytes o) false s.user 0 s = .ok as t) :
    pop o s = .ok (BitVec.ofNat 32 (Memory.load t.mem as)) { t with
      regs := s.regs.setV s.stackSize .esp (s.sp + BitVec.ofNat 32 (sizeBytes o)) } := by
  have same := (Confined.stackAccess _ _ _ _ _ _).ok opened
  unfold pop
  rw [bind_of_ok (peek_ok opened), run_bind, run_popBytes]
  simp only [run_pure]
  rw [same.regs, same.stackSize, same.sp]

theorem Regs.set_setV (g : Regs) (o : Size) (v w : Word) : (g.setV o .esp v).set .esp w = g.set .esp w := by
  cases o <;> rfl

theorem ofNat_narrowed (w : Width) (v : Nat) : (BitVec.ofNat 32 v).setWidth w.bits = BitVec.ofNat w.bits v :=
  BitVec.setWidth_ofNat_of_le w.bits_le v

/-- POP where the address does not depend on a carry out of SP. -/
theorem popOpnd_ok {o : Size} {d : Opnd} {as bs : List Word} {s s1 s2 : State} (plain : popWraps s d (sizeBytes o) = false)
    (opened : stackAccess s.segs.ss s.sp (sizeBytes o) false s.user 0 s = .ok as s1)
    (dest : openDest (widthOf o) d { s1 with
      regs := s.regs.setV s.stackSize .esp (s.sp + BitVec.ofNat 32 (sizeBytes o)) } = .ok bs s2) :
    popOpnd o d s = .ok () (putDest (widthOf o) d bs (BitVec.ofNat _ (Memory.load s1.mem as)) s2) := by
  unfold popOpnd
  rw [bind_of_ok (run_getS s), bind_of_ok (pop_ok opened), plain]
  simp only [Bool.false_eq_true, if_false, run_bind, run_pure, run_getS, run_onlyIf, writeOp_ok dest, ofNat_narrowed]

/-- POP to an address through ESP while SP wraps: the address takes the carry or not. -/
theorem popOpnd_wrapping {o : Size} {d : Opnd} {as bs : List Word} {s s1 s2 : State} (wraps : popWraps s d (sizeBytes o) = true)
    (opened : stackAccess s.segs.ss s.sp (sizeBytes o) false s.user 0 s = .ok as s1)
    (dest : openDest (widthOf o) d { s1 with
      regs := if Config.freeBit s1.draws then s.regs.set .esp (s.regs.esp + BitVec.ofNat 32 (sizeBytes o))
        else s.regs.setV s.stackSize .esp (s.sp + BitVec.ofNat 32 (sizeBytes o)), draws := s1.draws + 1 } = .ok bs s2) :
    popOpnd o d s = .ok () { s2 with
      mem := Memory.store s2.mem bs (BitVec.ofNat (widthOf o).bits (Memory.load s1.mem as)).toNat,
      regs := s.regs.setV s.stackSize .esp (s.sp + BitVec.ofNat 32 (sizeBytes o)) } := by
  have inMemory : ∃ m, d = .mem m := by
    obtain ⟨via, -⟩ := Bool.and_eq_true_iff.mp wraps
    obtain ⟨via, -⟩ := Bool.and_eq_true_iff.mp via
    cases d with
    | mem m => exact ⟨m, rfl⟩
    | reg q => cases via
    | reg8 q => cases via
    | imm v => cases via
  obtain ⟨m, rfl⟩ := inMemory
  have regs := ((Confined.openDest _ _).ok dest).regs
  unfold popOpnd
  rw [bind_of_ok (run_getS s), bind_of_ok (pop_ok opened), wraps]
  cases carry : Config.freeBit s1.draws with
  | false =>
    rw [carry] at dest regs
    simp only [if_true, run_bind, run_drawBit, run_getS, run_onlyIf, carry, Bool.false_eq_true, if_false]
    simp only [Bool.false_eq_true, if_false] at dest regs
    rw [writeOp_ok dest, ofNat_narrowed, ← regs]
    rfl
  | true =>
    rw [carry] at dest regs
    simp only [if_true] at dest regs
    simp only [if_true, run_bind, run_drawBit, run_getS, run_onlyIf, carry, run_upd, Regs.set_setV, writeOp_ok dest,
      ofNat_narrowed]
    rfl

theorem exec_popForm {s : State} {i : Instr} {d : Opnd} (h : PopForm i d) : exec i s = runInstr (popOpnd s.opSize d) s := by
  cases h <;> exact runInstr_congr (by rfl)

theorem exec_popSegForm {s : State} {i : Instr} {r : SReg} (h : PopSegForm i r) :
    exec i s = runInstr (popSreg s.opSize r) s := by
  cases h <;> exact runInstr_congr (by rfl)

/-- POP of a segment register: the stack pointer moves by the size of the stack then current. -/
theorem popSreg_ok {o : Size} {r : SReg} {as : List Word} {s s1 s2 : State}
    (opened : stackAccess s.segs.ss s.sp (sizeBytes o) false s.user 0 s = .ok as s1)
    (load : loadSreg r (BitVec.ofNat 16 (Memory.load s1.mem as)) s1 = .ok () s2) :
    popSreg o r s = .ok () { s2 with
      regs := s.regs.setV s2.stackSize .esp (s.regs.getV s2.stackSize .esp + BitVec.ofNat 32 (sizeBytes o)),
      shadow := if r = .ss then .ssLoad else s.shadow } := by
  have same := (Confined.stackAccess _ _ _ _ _ _).ok opened
  obtain ⟨regs, shadow⟩ := loadSreg_keeps load
  unfold popSreg
  rw [bind_of_ok (peek_ok opened), bind_of_ok load, bind_of_ok (run_popBytes _ s2), shadowSs_ok, shadow, same.shadow,
    State.sp, regs, same.regs]

/-- The flags that POPF leaves, in the words of the statement. -/
theorem popped_eq (f w : Flags) (o : Size) (pe : Bool) (cpl : BitVec 2) : f.popped w o pe cpl = { w with
    ifl := if pe = true ∧ f.vm = false ∧ f.iopl < cpl then f.ifl else w.ifl,
    iopl := if pe = true ∧ (f.vm = true ∨ cpl ≠ 0) then f.iopl else w.iopl,
    rf := if o = .s32 then false else f.rf,
    vm := f.vm } := by
  have order : decide (cpl ≤ f.iopl) = !decide (f.iopl < cpl) := by
    rw [← decide_not]
    exact decide_eq_decide.mpr BitVec.not_lt.symm
  unfold Flags.popped
  rw [order]
  rcases pe with _ | _
  · simp
  · rcases f.vm with _ | _
    · by_cases level : cpl = 0#2
      · subst level
        simp
      · by_cases above : f.iopl < cpl <;> simp [level, above]
    · simp

theorem doPopf_refused {o : Size} {s : State} (v86 : s.v86 = true) (iopl : s.flags.iopl ≠ 3) :
    doPopf o s = .error (.exc (.plain 13 (some 0)) false) s := by
  unfold doPopf
  rw [bind_of_ok (run_getS s), check_fails (by rw [v86, decide_eq_false iopl]; rfl) (run_raiseGP 0 s)]

theorem doPopf_ok {o : Size} {as : List Word} {s t : State} (may : s.v86 = false ∨ s.flags.iopl = 3)
    (opened : stackAccess s.segs.ss s.sp (sizeBytes o) false s.user 0 s = .ok as t) :
    doPopf o s = .ok () { t with
      regs := s.regs.setV s.stackSize .esp (s.sp + BitVec.ofNat 32 (sizeBytes o)),
      flags := s.flags.popped (Flags.ofWord (BitVec.ofNat 32 (Memory.load t.mem as))) o s.cr0.pe s.cpl } := by
  have same := (Confined.stackAccess _ _ _ _ _ _).ok opened
  have allowed : (!s.v86 || decide (s.flags.iopl = 3)) = true := by
    rcases may with h | h
    · rw [h]
      rfl
    · rw [decide_eq_true h, Bool.or_true]
  unfold doPopf
  rw [bind_of_ok (run_getS s), check_passes allowed, bind_of_ok (pop_ok opened), run_updFlags, ← same.flags]

/-- Settles O26, each pop by the shared one. -/
theorem pops : Obligations.Pops := by
  refine ⟨?_, ?_, ?_, ?_, ?_⟩
  · intro s i d form plain as bs s1 s2 opened dest
    rw [exec_popForm form]
    rw [width_bytes] at plain opened dest
    exact runInstr_of_ok (s := s) (popOpnd_ok (s := past s) plain opened dest)
  · intro s i d form wraps as bs s1 s2 opened n wrapped carried dest
    rw [exec_popForm form]
    rw [width_bytes] at wraps opened
    have bytes : n = BitVec.ofNat 32 (sizeBytes s.opSize) := by rw [← width_bytes]
    have done := popOpnd_wrapping (s := past s) (bs := bs) (s2 := s2) wraps opened (by
      rw [← bytes]
      exact dest)
    rw [← bytes] at done
    exact runInstr_of_ok (s := s) done
  · intro s i r form as s1 s2 opened load
    rw [exec_popSegForm form]
    rw [width_bytes] at opened ⊢
    exact runInstr_of_ok (s := s) (popSreg_ok (s := past s) opened load)
  · intro s v86 iopl
    exact runInstr_of_exc (body := atOpSize doPopf) (s := s) (doPopf_refused v86 iopl)
  · intro s may as s1 opened w f
    rw [width_bytes] at opened ⊢
    have done := doPopf_ok (s := past s) may opened
    rw [popped_eq] at done
    exact runInstr_of_ok (body := atOpSize doPopf) (s := s) done

end Sys2Proof.Machine
end

section
/-!
PROOFS. PUSHA and POPA (O27).
-/

namespace Sys2Proof.Machine

open Claims

theorem sizeBytes_pos (o : Size) : 0 < sizeBytes o := by cases o <;> decide

theorem contains_false_of_not_mem {l : List Word} {w : Word} (h : w ∉ l) : l.contains w = false := by
  rw [← Bool.not_eq_true, List.contains_iff_mem]
  exact h

/-- PUSHA with room for the eight slots, where the mode or the stack pointer allows it. -/
theorem doPusha_ok {o : Size} {s : State} (hq : quiet s) (may : s.protectedMode = true ∨ (s.sp ∉ pushaOdd ∧ s.sp ∉ pushaDead))
    (room : Room s (sizeBytes o) 8) :
    doPusha o s = .ok () (pushed s (sizeBytes o) ([Reg.eax, .ecx, .edx, .ebx, .esp, .ebp, .esi, .edi].map
      fun r => (s.regs.getV o r).toNat)) := by
  have notOdd : (s.protectedMode || !pushaOdd.contains s.sp) = true := by
    rcases may with h | ⟨h, -⟩
    · rw [h]
      rfl
    · rw [contains_false_of_not_mem h, Bool.not_false, Bool.or_true]
  have notDead : (s.protectedMode || !pushaDead.contains s.sp) = true := by
    rcases may with h | ⟨-, h⟩
    · rw [h]
      rfl
    · rw [contains_false_of_not_mem h, Bool.not_false, Bool.or_true]
  unfold doPusha
  rw [bind_of_ok (run_getS s), check_passes notOdd, check_passes notDead]
  exact pushAll_quiet hq (sizeBytes_pos o) room

theorem doPusha_odd {o : Size} {s : State} (plain : s.protectedMode = false) (odd : s.sp ∈ pushaOdd) :
    doPusha o s = .error (.exc (.plain 13 (some 0)) false) s := by
  unfold doPusha
  rw [bind_of_ok (run_getS s), check_fails (by rw [plain, List.contains_iff_mem.mpr odd]; rfl) (run_raiseGP 0 s)]

theorem doPusha_dead {o : Size} {s : State} (plain : s.protectedMode = false) (dead : s.sp ∈ pushaDead) :
    doPusha o s = .error (.exc { Exn.plain 12 (some 0) with deadSp := pushaDead } false) s := by
  have notOdd : s.sp ∉ pushaOdd := by
    intro odd
    simp only [pushaDead, pushaOdd, List.mem_cons, List.not_mem_nil, or_false] at dead odd
    rcases dead with h | h | h <;> rw [h] at odd <;> exact absurd odd (by decide)
  unfold doPusha
  rw [bind_of_ok (run_getS s), check_passes (by rw [plain, contains_false_of_not_mem notOdd]; rfl)]
  exact check_fails (by rw [plain, List.contains_iff_mem.mpr dead]; rfl) rfl

/-- POPA with the eight slots within the stack segment; the fourth is read and dropped. -/
theorem doPopa_ok {o : Size} {s : State} (hq : quiet s)
    (inside : ∀ k, k < 8 → Within s.segs.ss (slotAbove s (sizeBytes o * k)) (sizeBytes o)) :
    let v := fun k => BitVec.ofNat 32 (stackLoad s (sizeBytes o * k) (sizeBytes o))
    let g := s.regs.setV s.stackSize .esp (s.sp + BitVec.ofNat 32 (8 * sizeBytes o))
    doPopa o s = .ok () { s with
      regs := ((((((g.setV o .edi (v 0)).setV o .esi (v 1)).setV o .ebp (v 2)).setV o .ebx (v 4)).setV o .edx (v 5)).setV o
        .ecx (v 6)).setV o .eax (v 7) } := by
  intro v g
  have limits : ((List.range 8).all fun k =>
      s.segs.ss.inLimit (sizeTrunc s.stackSize (s.sp + BitVec.ofNat 32 (sizeBytes o * k))) (sizeBytes o)) = true :=
    List.all_eq_true.mpr fun k hk => (inLimit_iff (sizeBytes_pos o)).mpr (inside k (List.mem_range.mp hk))
  have slot : ∀ k, k < 8 → peek (k * sizeBytes o) (sizeBytes o) s = .ok (stackLoad s (sizeBytes o * k) (sizeBytes o)) s :=
    fun k hk => by
      rw [Nat.mul_comm k]
      exact peek_quiet hq (sizeBytes_pos o) (inside k hk)
  have first := slot 0 (by decide)
  have second := slot 1 (by decide)
  rw [Nat.zero_mul] at first
  rw [Nat.one_mul] at second
  unfold doPopa
  rw [bind_of_ok (run_getS s), check_passes limits, bind_of_ok first, bind_of_ok second, bind_of_ok (slot 2 (by decide)),
    bind_of_ok (slot 3 (by decide)), bind_of_ok (slot 4 (by decide)), bind_of_ok (slot 5 (by decide)),
    bind_of_ok (slot 6 (by decide)), bind_of_ok (slot 7 (by decide)), bind_of_ok (run_popBytes _ s)]
  rfl

/-- Settles O27, by the checks in their order. -/
theorem pushaPopa : Obligations.PushaPopa := by
  refine ⟨?_, ?_, ?_, ?_⟩
  · intro s hq may room v
    rw [width_bytes] at room ⊢
    exact runInstr_of_ok (body := atOpSize doPusha) (s := s) (doPusha_ok (s := past s) hq may room)
  · intro s plain odd
    exact runInstr_of_exc (body := atOpSize doPusha) (s := s) (doPusha_odd (s := past s) plain odd)
  · intro s plain dead
    exact shutsDown_of_dead (body := atOpSize doPusha) rfl (doPusha_dead (s := past s) plain dead) dead
  · intro s hq inside v g
    rw [width_bytes] at inside
    have done := doPopa_ok (o := s.opSize) (s := past s) hq inside
    dsimp only at done
    rw [← show (past s).width.bytes = sizeBytes s.opSize from width_bytes s] at done
    exact runInstr_of_ok (body := atOpSize doPopa) (s := s) done

end Sys2Proof.Machine
end

section
/-!
PROOFS. One element of each string instruction (O29), and the repeat loop (O30).
-/

namespace Sys2Proof.Machine

open Claims

variable {α : Type}

/-! ### Ports are checked -/

theorem Confined.checkIoMap (port : Half) (n : Nat) : Confined (checkIoMap port n) :=
  .bind .getS fun _ => .bind (.check (.raise _)) fun _ => .bind (.linRead _ _) fun _ => .bind (.check (.raise _)) fun _ =>
    .bind (.linRead _ _) fun _ => .check (.raise _)

theorem Confined.ioAllowed (port : Half) (n : Nat) : Confined (ioAllowed port n) :=
  .bind .getS fun _ => .onlyIf (.checkIoMap _ _)

/-! ### The parts of an element -/

section

variable {s t u : State} {w : Width} (same : Touches (past s) t)

include same

theorem readSource_ok {v : Nat} (read : memRead s.dsSeg (s.regs.getV s.adSize .esi) w.bytes t = .ok v u) :
    readSource w t = .ok (BitVec.ofNat w.bits v) u := by
  have seg : t.dsSeg = s.dsSeg := congrArg (fun x : Option SReg => x.getD .ds) same.insSeg
  have regs : t.regs = s.regs := same.regs
  have size : t.adSize = s.adSize := same.adSize
  rw [← seg, ← regs, ← size] at read
  unfold readSource
  rw [bind_of_ok (run_getS t), bind_of_ok read, run_pure]

theorem readDest_ok {v : Nat} (read : memRead .es (s.regs.getV s.adSize .edi) w.bytes t = .ok v u) :
    readDest w t = .ok (BitVec.ofNat w.bits v) u := by
  have regs : t.regs = s.regs := same.regs
  have size : t.adSize = s.adSize := same.adSize
  rw [← regs, ← size] at read
  unfold readDest
  rw [bind_of_ok (run_getS t), bind_of_ok read, run_pure]

theorem writeDest_ok {as : List Word} {v : BitVec w.bits}
    (opened : access .es (s.regs.getV s.adSize .edi) w.bytes true t = .ok as u) :
    writeDest w v t = .ok () { u with mem := Memory.store u.mem as v.toNat } := by
  have regs : t.regs = s.regs := same.regs
  have size : t.adSize = s.adSize := same.adSize
  rw [← regs, ← size] at opened
  unfold writeDest memWrite
  rw [bind_of_ok (run_getS t), bind_of_ok opened, run_storeAt]

end

/-- An index register moves as R420 says, with the direction flag and the address size of the instruction's start. -/
theorem advance_ok {s t : State} (w : Width) (r : Reg) (size : t.adSize = s.adSize) (df : t.flags.df = s.flags.df) :
    advance w r t = .ok () { t with regs := nextIndex s w r t.regs } := by
  have step : t.regs.getV t.adSize r + t.delta w = if s.flags.df then t.regs.getV s.adSize r - BitVec.ofNat 32 w.bytes
      else t.regs.getV s.adSize r + BitVec.ofNat 32 w.bytes := by
    unfold State.delta
    rw [size, df]
    split
    · bv_omega
    · rfl
  unfold advance nextIndex
  rw [bind_of_ok (run_getS t), run_setRegV, step, size]

theorem writeAcc_ok (w : Width) (v : BitVec w.bits) (s : State) :
    writeOp w (accOp w) v s = .ok () { s with regs := putReg w s.regs .eax v } := by
  cases w <;> rfl

theorem afterSub_false {w : Width} (f : Flags) (a b : BitVec w.bits) :
    f.afterSub a b false (a - b) = diffFlags f a b false := by
  rw [← afterSub_eq_diffFlags w.four_lt_bits, diffOf_false]

/-! ### The elements -/

section

variable {s s1 s2 : State} {w : Width}

theorem movs_ok {v : Nat} {as : List Word}
    (read : memRead s.dsSeg (s.regs.getV s.adSize .esi) w.bytes (past s) = .ok v s1)
    (opened : access .es (s.regs.getV s.adSize .edi) w.bytes true s1 = .ok as s2) :
    movs w (past s) = .ok () { s2 with
      mem := Memory.store s2.mem as (v % 2 ^ w.bits), regs := nextIndex s w .edi (nextIndex s w .esi s.regs) } := by
  have same1 := (Confined.memRead _ _ _).ok read
  have same2 := same1.trans ((Confined.access _ _ _ _).ok opened)
  have size : s2.adSize = s.adSize := same2.adSize
  have df : s2.flags.df = s.flags.df := congrArg Flags.df same2.flags
  have regs : s2.regs = s.regs := same2.regs
  unfold movs
  rw [bind_of_ok (readSource_ok (Touches.refl _) read), bind_of_ok (writeDest_ok same1 opened),
    bind_of_ok (advance_ok w .esi (by exact size) (by exact df)), advance_ok w .edi (by exact size) (by exact df),
    BitVec.toNat_ofNat]
  dsimp only
  rw [regs]

theorem cmps_ok {v u : Nat} (read : memRead s.dsSeg (s.regs.getV s.adSize .esi) w.bytes (past s) = .ok v s1)
    (dest : memRead .es (s.regs.getV s.adSize .edi) w.bytes s1 = .ok u s2) :
    cmps w (past s) = .ok () { s2 with
      flags := diffFlags s.flags (BitVec.ofNat w.bits v) (BitVec.ofNat w.bits u) false,
      regs := nextIndex s w .edi (nextIndex s w .esi s.regs) } := by
  have same1 := (Confined.memRead _ _ _).ok read
  have same2 := same1.trans ((Confined.memRead _ _ _).ok dest)
  have size : s2.adSize = s.adSize := same2.adSize
  have flags : s2.flags = s.flags := same2.flags
  have regs : s2.regs = s.regs := same2.regs
  unfold cmps
  rw [bind_of_ok (readSource_ok (Touches.refl _) read), bind_of_ok (readDest_ok same1 dest), bind_of_ok (run_updFlags _ s2),
    flags, afterSub_false]
  refine (bind_of_ok (advance_ok (s := s) w .esi (by exact size) (by rfl)) _).trans ?_
  refine (advance_ok (s := s) w .edi (by exact size) (by rfl)).trans ?_
  dsimp only
  rw [regs]

theorem scas_ok {u : Nat} (dest : memRead .es (s.regs.getV s.adSize .edi) w.bytes (past s) = .ok u s1) :
    scas w (past s) = .ok () { s1 with
      flags := diffFlags s.flags (destValue w (accOp w) [] s) (BitVec.ofNat w.bits u) false,
      regs := nextIndex s w .edi s.regs } := by
  have same := (Confined.memRead _ _ _).ok dest
  have size : s1.adSize = s.adSize := same.adSize
  have flags : s1.flags = s.flags := same.flags
  have regs : s1.regs = s.regs := same.regs
  have acc : destValue w (accOp w) [] (past s) = destValue w (accOp w) [] s := by cases w <;> rfl
  unfold scas
  rw [bind_of_ok (run_readOp_acc w _), bind_of_ok (readDest_ok (Touches.refl _) dest), bind_of_ok (run_updFlags _ s1),
    flags, afterSub_false, acc]
  refine (advance_ok (s := s) w .edi (by exact size) (by rfl)).trans ?_
  dsimp only
  rw [regs]

theorem lods_ok {v : Nat} (read : memRead s.dsSeg (s.regs.getV s.adSize .esi) w.bytes (past s) = .ok v s1) :
    lods w (past s) = .ok () { s1 with regs := nextIndex s w .esi (putReg w s.regs .eax (BitVec.ofNat w.bits v)) } := by
  have same := (Confined.memRead _ _ _).ok read
  have size : s1.adSize = s.adSize := same.adSize
  have df : s1.flags.df = s.flags.df := congrArg Flags.df same.flags
  have regs : s1.regs = s.regs := same.regs
  unfold lods
  rw [bind_of_ok (readSource_ok (Touches.refl _) read), bind_of_ok (writeAcc_ok w _ s1),
    advance_ok w .esi (by exact size) (by exact df)]
  dsimp only
  rw [regs]

theorem stos_ok {as : List Word} (opened : access .es (s.regs.getV s.adSize .edi) w.bytes true (past s) = .ok as s1) :
    stos w (past s) = .ok () { s1 with
      mem := Memory.store s1.mem as (destValue w (accOp w) [] s).toNat, regs := nextIndex s w .edi s.regs } := by
  have same := (Confined.access _ _ _ _).ok opened
  have size : s1.adSize = s.adSize := same.adSize
  have df : s1.flags.df = s.flags.df := congrArg Flags.df same.flags
  have regs : s1.regs = s.regs := same.regs
  have acc : destValue w (accOp w) [] (past s) = destValue w (accOp w) [] s := by cases w <;> rfl
  unfold stos
  rw [bind_of_ok (run_readOp_acc w _), bind_of_ok (writeDest_ok (Touches.refl _) opened),
    advance_ok w .edi (by exact size) (by exact df), acc]
  dsimp only
  rw [regs]

theorem ioRead_ok (port : Half) (n : Nat) (s : State) :
    ioRead port n s = .ok ((Config.portRead s.draws (portsFrom port n)).toNat % 256 ^ n)
      { s with draws := s.draws + 1, io := .read (portsFrom port n) :: s.io } := rfl

theorem insElement_ok {as : List Word} (allowed : ioAllowed (s.regs.get16 .edx) w.bytes (past s) = .ok () s1)
    (opened : access .es (s.regs.getV s.adSize .edi) w.bytes true s1 = .ok as s2) :
    ∃ v k, v < 2 ^ w.bits ∧ insElement w (past s) = .ok () { s2 with
      mem := Memory.store s2.mem as v, regs := nextIndex s w .edi s.regs, draws := k,
      io := .read (portsFrom (s.regs.get16 .edx) w.bytes) :: s.io } := by
  have same1 := (Confined.ioAllowed _ _).ok allowed
  have same2 := same1.trans ((Confined.access _ _ _ _).ok opened)
  have size : s2.adSize = s.adSize := same2.adSize
  have df : s2.flags.df = s.flags.df := congrArg Flags.df same2.flags
  have regs : s2.regs = s.regs := same2.regs
  have io : s2.io = s.io := same2.io
  have start : s1.regs.getV s1.adSize .edi = s.regs.getV s.adSize .edi := by rw [same1.regs, same1.adSize]; rfl
  have power : 256 ^ w.bytes = 2 ^ w.bits := by cases w <;> rfl
  rw [← start] at opened
  refine ⟨(Config.portRead s2.draws (portsFrom (s.regs.get16 .edx) w.bytes)).toNat % 256 ^ w.bytes, s2.draws + 1, ?_, ?_⟩
  · rw [← power]
    exact Nat.mod_lt _ (Nat.pow_pos (by decide))
  · unfold insElement withDx
    refine (bind_of_ok allowed _).trans ((bind_of_ok (run_getS s1) _).trans ((bind_of_ok opened _).trans ?_))
    refine (bind_of_ok (ioRead_ok _ _ s2) _).trans ?_
    refine (bind_of_ok (run_storeAt _ _ _) _).trans ?_
    rw [advance_ok w .edi (by exact size) (by exact df)]
    dsimp only
    rw [regs, io]
    rfl

theorem outsElement_ok {v : Nat} (allowed : ioAllowed (s.regs.get16 .edx) w.bytes (past s) = .ok () s1)
    (read : memRead s.dsSeg (s.regs.getV s.adSize .esi) w.bytes s1 = .ok v s2) :
    outsElement w (past s) = .ok () { s2 with
      regs := nextIndex s w .esi s.regs,
      io := .write (portsFrom (s.regs.get16 .edx) w.bytes) (BitVec.ofNat 32 (v % 2 ^ w.bits)) :: s.io } := by
  have same1 := (Confined.ioAllowed _ _).ok allowed
  have same2 := same1.trans ((Confined.memRead _ _ _).ok read)
  have size : s2.adSize = s.adSize := same2.adSize
  have df : s2.flags.df = s.flags.df := congrArg Flags.df same2.flags
  have regs : s2.regs = s.regs := same2.regs
  have io : s2.io = s.io := same2.io
  have value : (BitVec.ofNat w.bits v).setWidth 32 = BitVec.ofNat 32 (v % 2 ^ w.bits) := by
    apply BitVec.eq_of_toNat_eq
    rw [BitVec.toNat_setWidth, BitVec.toNat_ofNat, BitVec.toNat_ofNat]
  unfold outsElement withDx
  refine (bind_of_ok allowed _).trans ((bind_of_ok (readSource_ok same1 read) _).trans ?_)
  rw [value]
  refine (bind_of_ok (run_upd _ _) _).trans ?_
  rw [advance_ok w .esi (by exact size) (by exact df)]
  dsimp only
  rw [regs, io]
  rfl

end

/-! ### Repetition -/

/-- CMPS and SCAS, whose loops test ZF. -/
def loopTests (op : StringOp) : Bool := decide (op = .cmps ∨ op = .scas)

/-- The loop depends on its element only at the state it starts from. -/
theorem repeated_congr {cmp : Bool} {x y : M Unit} {s : State} (h : x s = y s) : repeated cmp x s = repeated cmp y s := by
  unfold repeated
  rw [bind_of_ok (run_getS s), bind_of_ok (run_getS s)]
  dsimp only
  cases s.ins.rep with
  | none => exact h
  | some p =>
    dsimp only
    split
    · rfl
    · rw [run_bind, run_bind, h]

theorem exec_stringForm {s : State} {i : Instr} {op : StringOp} {w : Width} (h : StringForm s.opSize i op w) :
    exec i s = runInstr (repeated (loopTests op) (element op w)) s := by
  cases h <;> exact runInstr_congr (repeated_congr (by rfl))

theorem repeated_plain {cmp : Bool} {x : M Unit} {s : State} (h : s.ins.rep = none) : repeated cmp x s = x s := by
  unfold repeated
  rw [bind_of_ok (run_getS s), h]

theorem repeated_none {cmp : Bool} {x : M Unit} {s : State} {p : Rep} (h : s.ins.rep = some p)
    (done : s.regs.getV s.adSize .ecx = 0) : repeated cmp x s = .ok () s := by
  unfold repeated
  rw [bind_of_ok (run_getS s), h]
  dsimp only
  rw [if_pos done, run_skip]

theorem repeated_some {cmp : Bool} {x : M Unit} {s t : State} {p : Rep} (h : s.ins.rep = some p)
    (more : s.regs.getV s.adSize .ecx ≠ 0) (ran : x s = .ok () t) :
    repeated cmp x s = (do
      setRegV s.adSize .ecx (sizeTrunc s.adSize (t.regs.getV s.adSize .ecx - 1))
      onlyIf (!repEnds cmp p (sizeTrunc s.adSize (t.regs.getV s.adSize .ecx - 1)) t.flags.zf)
        (upd fun u => { u with eip := u.ins.curEip, inRep := true })) t := by
  unfold repeated
  rw [bind_of_ok (run_getS s), h]
  dsimp only
  rw [if_neg more, bind_of_ok ran, bind_of_ok (run_getS t)]

/-- An element leaves the count, EIP and the bookkeeping of the loop. -/
def loopKept : StateRel where
  rel s t := t.regs.ecx = s.regs.ecx ∧ t.eip = s.eip ∧ t.ins.curEip = s.ins.curEip ∧ t.inRep = s.inRep
  refl _ := ⟨rfl, rfl, rfl, rfl⟩
  trans := by
    rintro s t u ⟨h1, h2, h3, h4⟩ ⟨g1, g2, g3, g4⟩
    exact ⟨g1.trans h1, g2.trans h2, g3.trans h3, g4.trans h4⟩

theorem Confined.ends_loopKept {x : M α} (h : Confined x) : Ends loopKept x := by
  have keep : ∀ {s t : State}, Touches s t → loopKept.rel s t := fun {s t} same => by
    unfold Touches at same
    rw [same]
    exact ⟨rfl, rfl, rfl, rfl⟩
  intro s
  unfold EndsAt
  rcases e : x s with ⟨a, t⟩ | ⟨a, t⟩
  · exact keep (h.ok e)
  · exact keep (h.error e).1

theorem loopKept_regs {f : State → Regs} (h : ∀ s, (f s).ecx = s.regs.ecx) :
    Ends loopKept (upd fun s => { s with regs := f s }) :=
  .upd fun s => ⟨h s, rfl, rfl, rfl⟩

theorem loopKept_advance (w : Width) {r : Reg} (h : r ≠ .ecx) : Ends loopKept (advance w r) :=
  .bind .getS fun s => loopKept_regs fun t => by
    cases r <;> first | exact absurd rfl h | (cases s.adSize <;> rfl)

theorem loopKept_readSource (w : Width) : Ends loopKept (readSource w) :=
  .bind .getS fun _ => .bind (Confined.memRead _ _ _).ends_loopKept fun _ => .pure _

theorem loopKept_readDest (w : Width) : Ends loopKept (readDest w) :=
  .bind .getS fun _ => .bind (Confined.memRead _ _ _).ends_loopKept fun _ => .pure _

theorem loopKept_writeDest (w : Width) (v : BitVec w.bits) : Ends loopKept (writeDest w v) :=
  .bind .getS fun _ => (Confined.memWrite _ _ _ _).ends_loopKept

theorem loopKept_updFlags (f : Flags → Flags) : Ends loopKept (updFlags f) := .upd fun _ => ⟨rfl, rfl, rfl, rfl⟩

theorem loopKept_writeAcc (w : Width) (v : BitVec w.bits) : Ends loopKept (writeOp w (accOp w) v) := by
  cases w <;> exact loopKept_regs fun s => rfl

theorem loopKept_ioRead (port : Half) (n : Nat) : Ends loopKept (ioRead port n) := fun _ => ⟨rfl, rfl, rfl, rfl⟩

theorem loopKept_ioWrite (port : Half) (n : Nat) (v : Word) : Ends loopKept (ioWrite port n v) :=
  .upd fun _ => ⟨rfl, rfl, rfl, rfl⟩

theorem loopKept_withDx {f : Half → M Unit} (h : ∀ port, Ends loopKept (f port)) : Ends loopKept (withDx f) :=
  fun s => h (s.regs.get16 .edx) s

theorem loopKept_element (op : StringOp) (w : Width) : Ends loopKept (element op w) := by
  have esi := loopKept_advance w (r := .esi) (by decide)
  have edi := loopKept_advance w (r := .edi) (by decide)
  cases op with
  | movs =>
    exact .bind (loopKept_readSource w) fun v => .bind (loopKept_writeDest w v) fun _ => .bind esi fun _ => edi
  | cmps =>
    exact .bind (loopKept_readSource w) fun _ => .bind (loopKept_readDest w) fun _ =>
      .bind (loopKept_updFlags _) fun _ => .bind esi fun _ => edi
  | stos => exact .bind (Confined.readOp _ _).ends_loopKept fun v => .bind (loopKept_writeDest w v) fun _ => edi
  | lods => exact .bind (loopKept_readSource w) fun v => .bind (loopKept_writeAcc w v) fun _ => esi
  | scas =>
    exact .bind (Confined.readOp _ _).ends_loopKept fun _ => .bind (loopKept_readDest w) fun _ =>
      .bind (loopKept_updFlags _) fun _ => edi
  | ins =>
    change Ends loopKept (insElement w)
    unfold insElement
    refine loopKept_withDx fun port => ?_
    exact .bind (Confined.ioAllowed _ _).ends_loopKept fun _ => .bind .getS fun _ =>
      .bind (Confined.access _ _ _ _).ends_loopKept fun _ => .bind (loopKept_ioRead _ _) fun _ =>
      .bind (Confined.storeAt _ _).ends_loopKept fun _ => edi
  | outs =>
    change Ends loopKept (outsElement w)
    unfold outsElement
    refine loopKept_withDx fun port => ?_
    exact .bind (Confined.ioAllowed _ _).ends_loopKept fun _ => .bind (loopKept_readSource w) fun _ =>
      .bind (loopKept_ioWrite _ _ _) fun _ => esi

/-- Settles O29, element by element. -/
theorem stringElement : Obligations.StringElement := by
  intro s i op w form p si di port
  refine ⟨?_, ?_, ?_, ?_, ?_, ?_, ?_, ?_⟩
  · intro rep t ran
    rw [exec_stringForm form]
    exact runInstr_of_ok ((repeated_plain (s := past s) rep).trans ran)
  · rintro rfl v as s1 s2 read opened
    exact movs_ok read opened
  · rintro rfl v u s1 s2 read dest
    exact cmps_ok read dest
  · rintro rfl u s1 dest
    exact scas_ok dest
  · rintro rfl v s1 read
    exact lods_ok read
  · rintro rfl as s1 opened
    exact stos_ok opened
  · rintro rfl as s1 s2 allowed opened
    exact insElement_ok allowed opened
  · rintro rfl v s1 s2 allowed read
    exact outsElement_ok allowed read

/-- The count after one element, as a number. -/
theorem count_less (o : Size) (g : Regs) (h : (g.getV o .ecx).toNat ≠ 0) :
    sizeTrunc o (g.getV o .ecx - 1) = BitVec.ofNat 32 ((g.getV o .ecx).toNat - 1) := by
  have some : g.getV o .ecx - 1 = BitVec.ofNat 32 ((g.getV o .ecx).toNat - 1) := by bv_omega
  cases o with
  | s32 => exact some
  | s16 =>
    have small := (g.get16 .ecx).isLt
    have value : (g.getV .s16 .ecx).toNat = (g.get16 .ecx).toNat := BitVec.toNat_setWidth_of_le (by decide)
    rw [sizeTrunc_s16, some, value]
    apply BitVec.eq_of_toNat_eq
    simp only [BitVec.toNat_setWidth, BitVec.toNat_ofNat]
    omega

/-- Settles O30, by the count and the end test. -/
theorem repeatPrefix : Obligations.RepeatPrefix := by
  intro s i op w p form rep count
  refine ⟨fun zero => ?_, ?_⟩
  · have done : s.regs.getV s.adSize .ecx = 0 := BitVec.eq_of_toNat_eq zero
    rw [exec_stringForm form]
    exact runInstr_of_ok (repeated_none (s := past s) rep done)
  · intro more t ran ended
    obtain ⟨ecx, eip, curEip, inRep⟩ := (loopKept_element op w (past s)).ok ran
    have counter : t.regs.getV s.adSize .ecx = s.regs.getV s.adSize .ecx := by
      have wide : t.regs.get .ecx = s.regs.get .ecx := ecx
      unfold Regs.getV Regs.get16
      rw [wide]
    have some : s.regs.getV s.adSize .ecx ≠ 0 := fun zero => more (congrArg BitVec.toNat zero)
    have less := count_less s.adSize s.regs more
    have small : count < 2 ^ 32 := (s.regs.getV s.adSize .ecx).isLt
    have last : decide (BitVec.ofNat 32 (count - 1) = 0) = decide (count = 1) := by
      apply decide_eq_decide.mpr
      constructor
      · intro zero
        have zero := congrArg BitVec.toNat zero
        rw [BitVec.toNat_ofNat] at zero
        change (count - 1) % 2 ^ 32 = 0 at zero
        omega
      · intro one
        rw [one]
        rfl
    have ends : repEnds (loopTests op) p (BitVec.ofNat 32 (count - 1)) t.flags.zf = ended := by
      unfold repEnds
      rw [last]
      unfold ended loopTests
      cases p <;> cases t.flags.zf <;> rfl
    rw [exec_stringForm form]
    refine runInstr_of_ok ((repeated_some (s := past s) rep some ran).trans ?_)
    rw [show (past s).adSize = s.adSize from rfl, counter, less, bind_of_ok (run_setRegV _ _ _ t), run_onlyIf, ends]
    cases ended with
    | false =>
      have current : t.ins.curEip = s.ins.curEip := curEip
      simp only [Bool.not_false, if_true, run_upd, Bool.false_eq_true, if_false, current]
      rfl
    | true =>
      have next : t.eip = s.ins.nextEip := eip
      have same : t.inRep = s.inRep := inRep
      simp only [Bool.not_true, Bool.false_eq_true, if_false, if_true, ← next, ← same]
      rfl

end Sys2Proof.Machine
end

section
/-!
PROOFS. IN and OUT (O31): the ports of an access, its permission, and what the instructions do when it is given.
-/

namespace Sys2Proof.Machine

open Claims

/-! ### The ports of an access -/

theorem portsFrom_getElem? {port : Half} {n k : Nat} (h : k < n) :
    (portsFrom port n)[k]? = some (BitVec.ofNat 16 ((port.toNat + k) % 2 ^ 16)) := by
  induction n generalizing port k with
  | zero => exact absurd h (Nat.not_lt_zero k)
  | succ n ih =>
    cases k with
    | zero =>
      refine congrArg some (BitVec.eq_of_toNat_eq ?_)
      rw [BitVec.toNat_ofNat]
      omega
    | succ k =>
      refine (ih (Nat.lt_of_succ_lt_succ h)).trans (congrArg some (BitVec.eq_of_toNat_eq ?_))
      rw [BitVec.toNat_ofNat, BitVec.toNat_ofNat, BitVec.toNat_add]
      change ((port.toNat + 1) % 2 ^ 16 + k) % 2 ^ 16 % 2 ^ 16 = _
      omega

/-! ### The permission -/

theorem ioAllowed_free {s : State} (port : Half) (n : Nat)
    (h : s.cr0.pe = false ∨ (s.cpl ≤ s.flags.iopl ∧ s.flags.vm = false)) : ioAllowed port n s = .ok () s := by
  have free : (s.cr0.pe && (decide (s.flags.iopl < s.cpl) || s.flags.vm)) = false := by
    rcases h with real | ⟨level, vm⟩
    · rw [real, Bool.false_and]
    · rw [vm, decide_eq_false (by simpa using level), Bool.or_false, Bool.and_false]
  unfold ioAllowed
  rw [bind_of_ok (run_getS s), run_onlyIf, free, if_neg (by decide)]

theorem ioAllowed_map {s : State} (port : Half) (n : Nat) (pe : s.cr0.pe = true)
    (h : s.flags.iopl < s.cpl ∨ s.flags.vm = true) : ioAllowed port n s = checkIoMap port n s := by
  have asked : (s.cr0.pe && (decide (s.flags.iopl < s.cpl) || s.flags.vm)) = true := by
    rcases h with level | vm
    · rw [pe, decide_eq_true level, Bool.true_or, Bool.true_and]
    · rw [pe, vm, Bool.or_true, Bool.true_and]
  unfold ioAllowed
  rw [bind_of_ok (run_getS s), run_onlyIf, if_pos asked]

/-- `n` bits from bit `k` on are all 0. -/
theorem bits_clear_iff (bits k n : Nat) : bits / 2 ^ k % 2 ^ n = 0 ↔ ∀ j, j < n → bits.testBit (k + j) = false := by
  constructor
  · intro zero j small
    have bit := congrArg (fun v : Nat => v.testBit j) zero
    simpa [Nat.testBit_mod_two_pow, Nat.testBit_div_two_pow, small, Nat.add_comm] using bit
  · intro clear
    refine Nat.eq_of_testBit_eq fun j => ?_
    rw [Nat.testBit_mod_two_pow, Nat.testBit_div_two_pow, Nat.zero_testBit]
    by_cases small : j < n
    · rw [Nat.add_comm j k, clear j small, Bool.and_false]
    · rw [decide_eq_false small, Bool.false_and]

/-- The permission bits of the current TSS leave the access open (R152): the map, and with it the byte of the port and the
one after, lie within a 32-bit TSS, and every bit of the access is 0. -/
def MapOpen (s : State) (port : Half) (n : Nat) : Prop :=
  let at_ := Memory.load s.mem (addrs (s.tr.base + 0x66) 2) + port.toNat / 8
  s.tr.type.getLsbD 3 = true ∧ 0x67 ≤ s.tr.limit.toNat ∧ at_ + 1 ≤ s.tr.limit.toNat ∧ port.toNat + n ≤ 65536 ∧
    ∀ j, j < n → (Memory.load s.mem (addrs (s.tr.base + BitVec.ofNat 32 at_) 2)).testBit (port.toNat % 8 + j) = false

theorem checkIoMap_open {s : State} {port : Half} {n : Nat} (unpaged : s.cr0.pg = false) (h : MapOpen s port n) :
    checkIoMap port n s = .ok () s := by
  obtain ⟨wide, map, room, ports, clear⟩ := h
  unfold checkIoMap
  rw [bind_of_ok (run_getS s), check_passes (by rw [wide, decide_eq_true map]; rfl), bind_of_ok (linRead_unpaged unpaged _ _),
    check_passes (by rw [decide_eq_true room, decide_eq_true ports]; rfl), bind_of_ok (linRead_unpaged unpaged _ _), run_check,
    if_pos (decide_eq_true ((bits_clear_iff _ _ _).mpr clear))]

theorem checkIoMap_closed {s : State} {port : Half} {n : Nat} (unpaged : s.cr0.pg = false) (h : ¬MapOpen s port n) :
    checkIoMap port n s = .error (.exc (.plain 13 (some 0)) false) s := by
  unfold checkIoMap
  rw [bind_of_ok (run_getS s)]
  by_cases map : (s.tr.type.getLsbD 3 && decide (0x67 ≤ s.tr.limit.toNat)) = true
  case neg => exact check_fails (Bool.eq_false_of_not_eq_true map) (run_raiseGP 0 s)
  rw [check_passes map, bind_of_ok (linRead_unpaged unpaged _ _)]
  by_cases room : (decide (Memory.load s.mem (addrs (s.tr.base + 0x66) 2) + port.toNat / 8 + 1 ≤ s.tr.limit.toNat) &&
      decide (port.toNat + n ≤ 65536)) = true
  case neg => exact check_fails (Bool.eq_false_of_not_eq_true room) (run_raiseGP 0 s)
  rw [check_passes room, bind_of_ok (linRead_unpaged unpaged _ _), run_check, if_neg, run_raiseGP]
  intro clear
  simp only [Bool.and_eq_true, decide_eq_true_eq] at map room clear
  exact h ⟨map.1, map.2, room.1, room.2, (bits_clear_iff _ _ _).mp clear⟩

/-! ### The instructions -/

theorem exec_inForm {s : State} {i : Instr} {w : Width} {x : Port} (h : InForm s.opSize i w x) :
    exec i s = runInstr (portIn w (portOf s x)) s := by
  cases h <;> exact runInstr_congr (by rfl)

theorem exec_outForm {s : State} {i : Instr} {w : Width} {x : Port} (h : OutForm s.opSize i w x) :
    exec i s = runInstr (portOut w (portOf s x)) s := by
  cases h <;> exact runInstr_congr (by rfl)

theorem portIn_ok {w : Width} {port : Half} {s t : State} (allowed : ioAllowed port w.bytes s = .ok () t) :
    portIn w port s = .ok () { t with
      regs := putReg w t.regs .eax (BitVec.ofNat w.bits
        ((Config.portRead t.draws (portsFrom port w.bytes)).toNat % 256 ^ w.bytes)),
      draws := t.draws + 1, io := .read (portsFrom port w.bytes) :: t.io } := by
  unfold portIn
  rw [bind_of_ok allowed, bind_of_ok (ioRead_ok _ _ t), writeAcc_ok]

/-- Settles O31: the two instructions, the ports, the refusal, and the permission by the two cases of the map. -/
theorem ports : Obligations.Ports := by
  refine ⟨?_, ?_, fun port n k h => portsFrom_getElem? h, ?_, ?_⟩
  · intro s i w x form s1 allowed
    have io : s1.io = s.io := ((Confined.ioAllowed _ _).ok allowed).io
    have done := portIn_ok allowed
    rw [io] at done
    exact ⟨_, _, (exec_inForm form).trans (runInstr_of_ok done)⟩
  · intro s i w x form s1 allowed
    have same := (Confined.ioAllowed _ _).ok allowed
    have acc : destValue w (accOp w) [] s1 = destValue w (accOp w) [] s := by
      have regs : s1.regs = s.regs := same.regs
      cases w <;> exact congrArg (BitVec.setWidth _) (by rw [regs])
    have io : s1.io = s.io := same.io
    have value : (destValue w (accOp w) [] s).setWidth 32 = BitVec.ofNat 32 (destValue w (accOp w) [] s).toNat :=
      (BitVec.ofNat_toNat _ _).symm
    refine (exec_outForm form).trans (runInstr_of_ok ?_)
    unfold portOut ioWrite
    refine (bind_of_ok allowed _).trans ((bind_of_ok (run_readOp_acc w s1) _).trans ((run_upd _ s1).trans ?_))
    rw [acc, value, io]
  · intro s i w x form s1 refused
    rcases form with form | form
    · exact (exec_inForm form).trans (runInstr_of_exc (bind_of_error refused _))
    · exact (exec_outForm form).trans (runInstr_of_exc (bind_of_error refused _))
  · intro s port n _
    refine ⟨ioAllowed_free port n, ?_⟩
    intro pe asked unpaged base at_ bits open_
    refine ⟨fun h => ?_, fun h => ?_⟩
    · exact (ioAllowed_map port n pe asked).trans (checkIoMap_open unpaged h)
    · exact (ioAllowed_map port n pe asked).trans (checkIoMap_closed unpaged h)

end Sys2Proof.Machine
end

section
/-!
PROOFS. Near transfers (O32): the target within CS, the condition of each jump, and the stack of CALL and RET.
-/

namespace Sys2Proof.Machine

open Claims

/-! ### Targets -/

theorem Memory.load_lt (m : Memory) (as : List Word) : Memory.load m as < 256 ^ as.length := by
  induction as with
  | nil => exact Nat.one_pos
  | cons a as ih =>
    have byte := (Memory.read m a.toNat).isLt
    change (Memory.read m a.toNat).toNat + 256 * Memory.load m as < 256 ^ (as.length + 1)
    rw [Nat.pow_succ]
    omega

theorem sizeTrunc_loaded {o : Size} {v : Nat} (h : v < 256 ^ sizeBytes o) :
    sizeTrunc o (BitVec.ofNat 32 v) = BitVec.ofNat 32 v := by
  have word : v < 2 ^ 32 := h.trans_le (by cases o <;> decide)
  apply BitVec.eq_of_toNat_eq
  rw [sizeTrunc_ofNat_toNat o h, BitVec.toNat_ofNat, Nat.mod_eq_of_lt word]

theorem Regs.set16_set16 (g : Regs) (v w : Half) : (g.set16 .esp v).set16 .esp w = g.set16 .esp w := by
  have low : withLow16 (withLow16 (g.get .esp) v) w = withLow16 (g.get .esp) w := by
    rw [withLow16_eq, withLow16_eq, withLow16_eq]
    apply BitVec.eq_of_toNat_eq
    simp only [toNat_append_add, BitVec.extractLsb'_toNat, Nat.shiftRight_eq_div_pow]
    omega
  unfold Regs.set16
  rw [Regs.get_set, if_pos rfl, Regs.set_set, low]

theorem checkTarget_beyond {s : State} {limit off : Word} (h : limit < off) (ec : Half) :
    checkTarget limit off ec s = .error (.exc (.plain 13 (some ec)) false) s := by
  unfold checkTarget
  rw [run_check, if_neg (by simpa using h), run_raiseGP]

theorem nearTarget_ok {o : Size} {t : Word} {s : State} (h : sizeTrunc o t ≤ s.segs.cs.limit) :
    nearTarget o t s = .ok () { s with eip := sizeTrunc o t } := by
  unfold nearTarget
  rw [bind_of_ok (run_getS s), bind_of_ok (checkTarget_ok h 0), run_setEip]

theorem nearTarget_beyond {o : Size} {t : Word} {s : State} (h : s.segs.cs.limit < sizeTrunc o t) :
    nearTarget o t s = .error (.exc (.plain 13 (some 0)) false) s := by
  unfold nearTarget
  rw [bind_of_ok (run_getS s), bind_of_error (checkTarget_beyond h 0)]

/-- An instruction that comes down to a near target jumps there. -/
theorem jumpsTo_of {i : Instr} {body : M Unit} {s s1 : State} {o : Size} {t : Word} (form : exec i s = runInstr body s)
    (same : s1.segs = s.segs) (ran : body (past s) = nearTarget o t s1) : JumpsTo i s s1 (sizeTrunc o t) := by
  refine ⟨fun inside => ?_, fun beyond => ?_⟩
  · rw [← same] at inside
    exact form.trans (runInstr_of_ok (ran.trans (nearTarget_ok inside)))
  · rw [← same] at beyond
    exact form.trans (runInstr_of_exc (ran.trans (nearTarget_beyond beyond)))

theorem run_jumpRel (rel : Word) (s : State) : jumpRel rel s = nearTarget s.opSize (s.eip + rel) s := by
  unfold jumpRel
  rw [bind_of_ok (run_getS s)]

/-- An operand of the operand size is a target as it is. -/
theorem sizeTrunc_operand {o : Size} (t : BitVec (widthOf o).bits) :
    sizeTrunc o (t.setWidth 32) = BitVec.ofNat 32 t.toNat := by
  have fits : t.toNat < 256 ^ sizeBytes o := by cases o <;> exact t.isLt
  rw [← BitVec.ofNat_toNat]
  exact sizeTrunc_loaded fits

/-! ### The forms -/

theorem exec_jumpForm_rel {s : State} {i : Instr} {rel : Word} (h : JumpForm i (.inl rel)) :
    exec i s = runInstr (jumpRel rel) s := by
  cases h <;> rfl

theorem exec_jumpForm_opnd {s : State} {i : Instr} {d : Opnd} (h : JumpForm i (.inr d)) :
    exec i s = runInstr (jumpOpnd d) s := by
  cases h
  rfl

theorem exec_jccForm {s : State} {i : Instr} {c : Cond} {rel : Word} (h : JccForm i c rel) :
    exec i s = runInstr (jumpIf c rel) s := by
  cases h <;> rfl

theorem exec_loopForm {s : State} {i : Instr} {want : Option Bool} {rel : Word} (h : LoopForm i want rel) :
    exec i s = runInstr (loopWhile want rel) s := by
  cases h <;> rfl

theorem exec_callForm_rel {s : State} {i : Instr} {rel : Word} (h : CallForm i (.inl rel)) :
    exec i s = runInstr (callRelative rel) s := by
  cases h
  rfl

theorem exec_callForm_opnd {s : State} {i : Instr} {d : Opnd} (h : CallForm i (.inr d)) :
    exec i s = runInstr (callOpnd d) s := by
  cases h
  rfl

theorem exec_retForm {s : State} {i : Instr} {imm : Half} (h : RetForm i imm) :
    exec i s = runInstr (returnNear imm) s := by
  cases h <;> rfl

/-! ### Conditional jumps -/

theorem run_onlyIf_jump {c : Bool} {rel : Word} {s : State} (h : c = true) :
    onlyIf c (jumpRel rel) s = nearTarget s.opSize (s.eip + rel) s := by
  rw [run_onlyIf, if_pos h, run_jumpRel]

theorem run_onlyIf_stay {c : Bool} {x : M Unit} {s : State} (h : c = false) : onlyIf c x s = .ok () s := by
  rw [run_onlyIf, h, if_neg (by decide)]

/-- The count register after it is counted down is zero just when it was 1. -/
theorem counted_zero_iff (o : Size) (g : Regs) :
    (g.setV o .ecx (g.getV o .ecx - 1)).getV o .ecx = 0 ↔ g.getV o .ecx = 1 := by
  cases o with
  | s32 =>
    change g.ecx - 1 = 0 ↔ g.ecx = 1
    bv_omega
  | s16 =>
    have back : (g.setV .s16 .ecx (g.getV .s16 .ecx - 1)).getV .s16 .ecx = ((g.getV .s16 .ecx - 1).setWidth 16).setWidth 32 :=
      congrArg (BitVec.setWidth 32) (Regs.get16_set16 g .ecx _)
    have small : (g.getV .s16 .ecx).toNat < 2 ^ 16 := by
      rw [show g.getV .s16 .ecx = (g.get16 .ecx).setWidth 32 from rfl, BitVec.toNat_setWidth_of_le (by decide)]
      exact (g.get16 .ecx).isLt
    rw [back]
    generalize g.getV .s16 .ecx = c at small
    constructor
    · intro zero
      have value : (2 ^ 32 - 1 + c.toNat) % 2 ^ 32 % 2 ^ 16 % 2 ^ 32 = 0 := by
        simpa [BitVec.toNat_sub] using congrArg BitVec.toNat zero
      apply BitVec.eq_of_toNat_eq
      change c.toNat = 1
      omega
    · rintro rfl
      rfl

theorem loopWhile_after (want : Option Bool) (rel : Word) (s : State) :
    loopWhile want rel s = onlyIf (decide (s.count ≠ 1) && want.all fun z => s.flags.zf == z) (jumpRel rel)
      { s with regs := s.regs.setV s.adSize .ecx (s.count - 1) } := by
  have zero := counted_zero_iff s.adSize s.regs
  have same : decide ((s.regs.setV s.adSize .ecx (s.regs.getV s.adSize .ecx - 1)).getV s.adSize .ecx ≠ 0) =
      decide (s.regs.getV s.adSize .ecx ≠ 1) := decide_eq_decide.mpr (not_congr zero)
  unfold loopWhile
  rw [bind_of_ok (run_getS s), bind_of_ok (run_setRegV _ _ _ s), bind_of_ok (run_getS _)]
  exact congrArg (fun c => onlyIf (c && _) _ _) same

theorem wanted_iff (want : Option Bool) (zf : Bool) : want.all (fun z => zf == z) = true ↔ ∀ z, want = some z → zf = z := by
  cases want with
  | none =>
    refine ⟨?_, fun _ => rfl⟩
    intro _ z h
    cases h
  | some x =>
    refine ⟨fun h z e => ?_, fun h => ?_⟩
    · cases e
      exact beq_iff_eq.mp h
    · exact beq_iff_eq.mpr (h x rfl)

/-! ### CALL and RET -/

theorem callNear_ok {o : Size} {t : Word} {as : List Word} {s s1 s2 : State} (same : Touches (past s) s1)
    (inside : sizeTrunc o t ≤ s.segs.cs.limit)
    (opened : stackAccess s.segs.ss (below s.stackSize s.sp (sizeBytes o) 1) (sizeBytes o) true s.user 0 s1 = .ok as s2) :
    callNear o t s1 = .ok () { s2 with
      mem := Memory.store s2.mem as s.ins.nextEip.toNat, eip := sizeTrunc o t,
      regs := s.regs.setV s.stackSize .esp (s.sp - BitVec.ofNat 32 (sizeBytes o)) } := by
  have segs : s1.segs = s.segs := same.segs
  have eip : s1.eip = s.ins.nextEip := same.eip
  unfold callNear
  rw [bind_of_ok (run_getS s1), bind_of_ok (checkTarget_ok (by rw [segs]; exact inside) 0),
    bind_of_ok (push_after same opened), run_setEip, eip]

theorem callNear_beyond {o : Size} {t : Word} {s1 : State} (beyond : s1.segs.cs.limit < sizeTrunc o t) :
    callNear o t s1 = .error (.exc (.plain 13 (some 0)) false) s1 := by
  unfold callNear
  rw [bind_of_ok (run_getS s1), bind_of_error (checkTarget_beyond beyond 0)]

/-- Two moves of the stack pointer are one. -/
theorem Regs.moveSp_moveSp (g : Regs) (o : Size) (v w : Word) :
    (g.setV o .esp v).setV o .esp ((g.setV o .esp v).getV o .esp + w) = g.setV o .esp (v + w) := by
  cases o with
  | s32 => rfl
  | s16 =>
    have sum : (((v.setWidth 16).setWidth 32 + w).setWidth 16 : Half) = (v + w).setWidth 16 := by
      apply BitVec.eq_of_toNat_eq
      simp only [BitVec.toNat_setWidth, BitVec.toNat_add]
      omega
    have back : (g.setV .s16 .esp v).getV .s16 .esp = (v.setWidth 16).setWidth 32 :=
      congrArg (BitVec.setWidth 32) (Regs.get16_set16 g .esp _)
    rw [back]
    change (g.set16 .esp (v.setWidth 16)).set16 .esp _ = g.set16 .esp _
    rw [sum, Regs.set16_set16]

theorem popBytes_moved {u : State} {g : Regs} {v : Word} (n : Nat) (moved : u.regs = g.setV u.stackSize .esp v) :
    popBytes n u = .ok () { u with regs := g.setV u.stackSize .esp (v + BitVec.ofNat 32 n) } := by
  have sp : u.sp = (g.setV u.stackSize .esp v).getV u.stackSize .esp := by
    rw [← moved]
    rfl
  rw [run_popBytes, moved, sp, Regs.moveSp_moveSp]

theorem returnNear_pops {imm : Half} {as : List Word} {s s1 : State}
    (opened : stackAccess s.segs.ss s.sp s.width.bytes false s.user 0 s = .ok as s1) :
    returnNear imm s = (do
      nearTarget s.opSize (BitVec.ofNat 32 (Memory.load s1.mem as))
      popBytes imm.toNat)
        { s1 with regs := s.regs.setV s.stackSize .esp (s.sp + BitVec.ofNat 32 s.width.bytes) } := by
  rw [width_bytes] at opened ⊢
  exact bind_of_ok (pop_ok opened) _

/-- What is popped has the operand size. -/
theorem sizeTrunc_popped {g : SegReg} {off : Word} {o : Size} {write user : Bool} {ec : Half} {as : List Word} {s s1 : State}
    (opened : stackAccess g off (sizeBytes o) write user ec s = .ok as s1) (m : Memory) :
    sizeTrunc o (BitVec.ofNat 32 (Memory.load m as)) = BitVec.ofNat 32 (Memory.load m as) := by
  have len := (stackAccess_passed opened).2
  refine sizeTrunc_loaded ?_
  rw [← len]
  exact Memory.load_lt m as

/-! ### The obligation, part by part -/

section

variable {s : State} {i : Instr}

theorem jmp_rel {rel : Word} (form : JumpForm i (.inl rel)) :
    JumpsTo i s (past s) (sizeTrunc s.opSize (s.ins.nextEip + rel)) :=
  jumpsTo_of (exec_jumpForm_rel form) rfl (run_jumpRel rel (past s))

theorem jmp_opnd {d : Opnd} (form : JumpForm i (.inr d)) {t : BitVec s.width.bits} {s1 : State}
    (read : readOp s.width d (past s) = .ok t s1) : JumpsTo i s s1 (BitVec.ofNat 32 t.toNat) := by
  have ran : jumpOpnd d (past s) = nearTarget s.opSize (t.setWidth 32) s1 := bind_of_ok read _
  have target : sizeTrunc s.opSize (t.setWidth 32) = BitVec.ofNat 32 t.toNat := sizeTrunc_operand t
  rw [← target]
  exact jumpsTo_of (exec_jumpForm_opnd form) ((Confined.readOp _ _).ok read).segs ran

theorem jcc_taken {c : Cond} {rel : Word} (form : JccForm i c rel) (holds : Holds c s.flags) :
    JumpsTo i s (past s) (sizeTrunc s.opSize (s.ins.nextEip + rel)) := by
  refine jumpsTo_of (exec_jccForm form) rfl ?_
  unfold jumpIf
  exact (bind_of_ok (run_getS _) _).trans (run_onlyIf_jump ((cond_eq_true_iff c _).mpr holds))

theorem jcc_stays {c : Cond} {rel : Word} (form : JccForm i c rel) (fails : ¬Holds c s.flags) :
    exec i s = .next (past s) := by
  have off : cond s.flags c = false := Bool.eq_false_of_not_eq_true fun on => fails ((cond_eq_true_iff c _).mp on)
  refine (exec_jccForm form).trans (runInstr_of_ok ?_)
  unfold jumpIf
  exact (bind_of_ok (run_getS _) _).trans (run_onlyIf_stay off)

theorem jcxz_taken (rel : BitVec 8) (zero : s.regs.getV s.adSize .ecx = 0) :
    JumpsTo (.jcxzRel8 rel) s (past s) (sizeTrunc s.opSize (s.ins.nextEip + sext rel)) := by
  refine jumpsTo_of (body := jumpIfNoCount (sext rel)) rfl rfl ?_
  unfold jumpIfNoCount
  exact (bind_of_ok (run_getS _) _).trans (run_onlyIf_jump (decide_eq_true zero))

theorem jcxz_stays (rel : BitVec 8) (more : s.regs.getV s.adSize .ecx ≠ 0) : exec (.jcxzRel8 rel) s = .next (past s) := by
  refine runInstr_of_ok (body := jumpIfNoCount (sext rel)) ?_
  unfold jumpIfNoCount
  exact (bind_of_ok (run_getS _) _).trans (run_onlyIf_stay (decide_eq_false more))

/-- The test of LOOP, LOOPE and LOOPNE. -/
theorem loop_test (want : Option Bool) (count : Word) (zf : Bool) :
    (decide (count ≠ 1) && want.all fun z => zf == z) = true ↔ count ≠ 1 ∧ ∀ z, want = some z → zf = z := by
  rw [Bool.and_eq_true, decide_eq_true_eq, wanted_iff]

theorem loop_taken {want : Option Bool} {rel : Word} (form : LoopForm i want rel)
    (h : s.regs.getV s.adSize .ecx ≠ 1 ∧ ∀ z, want = some z → s.flags.zf = z) :
    JumpsTo i s { past s with regs := s.regs.setV s.adSize .ecx (s.regs.getV s.adSize .ecx - 1) }
      (sizeTrunc s.opSize (s.ins.nextEip + rel)) :=
  jumpsTo_of (exec_loopForm form) rfl
    ((loopWhile_after want rel (past s)).trans (run_onlyIf_jump ((loop_test want _ _).mpr h)))

theorem loop_ends {want : Option Bool} {rel : Word} (form : LoopForm i want rel)
    (h : ¬(s.regs.getV s.adSize .ecx ≠ 1 ∧ ∀ z, want = some z → s.flags.zf = z)) :
    exec i s = .next { past s with regs := s.regs.setV s.adSize .ecx (s.regs.getV s.adSize .ecx - 1) } :=
  (exec_loopForm form).trans (runInstr_of_ok ((loopWhile_after want rel (past s)).trans
    (run_onlyIf_stay (Bool.eq_false_of_not_eq_true fun on => h ((loop_test want _ _).mp on)))))

theorem call_rel {rel : Word} (form : CallForm i (.inl rel)) {as : List Word} {s1 : State} :
    (s.segs.cs.limit < sizeTrunc s.opSize (s.ins.nextEip + rel) → faults i s (.plain 13 (some 0)) (past s)) ∧
    (sizeTrunc s.opSize (s.ins.nextEip + rel) ≤ s.segs.cs.limit →
      stackAccess s.segs.ss (below s.stackSize s.sp s.width.bytes 1) s.width.bytes true s.user 0 (past s) = .ok as s1 →
      exec i s = .next { s1 with
        mem := Memory.store s1.mem as s.ins.nextEip.toNat, eip := sizeTrunc s.opSize (s.ins.nextEip + rel),
        regs := s.regs.setV s.stackSize .esp (s.sp - BitVec.ofNat 32 s.width.bytes) }) := by
  have ran : callRelative rel (past s) = callNear s.opSize (s.ins.nextEip + rel) (past s) := bind_of_ok (run_getS _) _
  rw [width_bytes]
  refine ⟨fun beyond => ?_, fun inside opened => ?_⟩
  · exact (exec_callForm_rel form).trans (runInstr_of_exc (ran.trans (callNear_beyond beyond)))
  · exact (exec_callForm_rel form).trans (runInstr_of_ok (ran.trans (callNear_ok (Touches.refl _) inside opened)))

theorem call_opnd {d : Opnd} (form : CallForm i (.inr d)) {t : BitVec s.width.bits} {as : List Word} {s1 s2 : State}
    (read : readOp s.width d (past s) = .ok t s1) :
    (s.segs.cs.limit < BitVec.ofNat 32 t.toNat → faults i s (.plain 13 (some 0)) s1) ∧
    (BitVec.ofNat 32 t.toNat ≤ s.segs.cs.limit →
      stackAccess s.segs.ss (below s.stackSize s.sp s.width.bytes 1) s.width.bytes true s.user 0 s1 = .ok as s2 →
      exec i s = .next { s2 with
        mem := Memory.store s2.mem as s.ins.nextEip.toNat, eip := BitVec.ofNat 32 t.toNat,
        regs := s.regs.setV s.stackSize .esp (s.sp - BitVec.ofNat 32 s.width.bytes) }) := by
  have same := (Confined.readOp _ _).ok read
  have segs : s1.segs = s.segs := same.segs
  have ran : callOpnd d (past s) = callNear s.opSize (t.setWidth 32) s1 := bind_of_ok read _
  have target : sizeTrunc s.opSize (t.setWidth 32) = BitVec.ofNat 32 t.toNat := sizeTrunc_operand t
  rw [width_bytes, ← target]
  refine ⟨fun beyond => ?_, fun inside opened => ?_⟩
  · rw [← segs] at beyond
    exact (exec_callForm_opnd form).trans (runInstr_of_exc (ran.trans (callNear_beyond beyond)))
  · exact (exec_callForm_opnd form).trans (runInstr_of_ok (ran.trans (callNear_ok same inside opened)))

theorem ret_near {imm : Half} (form : RetForm i imm) {as : List Word} {s1 : State}
    (opened : stackAccess s.segs.ss s.sp s.width.bytes false s.user 0 (past s) = .ok as s1) :
    (BitVec.ofNat 32 (Memory.load s1.mem as) ≤ s.segs.cs.limit → exec i s = .next { s1 with
      eip := BitVec.ofNat 32 (Memory.load s1.mem as),
      regs := s.regs.setV s.stackSize .esp (s.sp + BitVec.ofNat 32 s.width.bytes + BitVec.ofNat 32 imm.toNat) }) ∧
    (s.segs.cs.limit < BitVec.ofNat 32 (Memory.load s1.mem as) → faults i s (.plain 13 (some 0)) { s1 with
      regs := s.regs.setV s.stackSize .esp (s.sp + BitVec.ofNat 32 s.width.bytes) }) := by
  have same := (Confined.stackAccess _ _ _ _ _ _).ok opened
  have segs : s1.segs = s.segs := same.segs
  have size : s1.stackSize = s.stackSize := same.stackSize
  have ran := returnNear_pops (imm := imm) (s := past s) opened
  have target := sizeTrunc_popped (by rw [← width_bytes]; exact opened) s1.mem
  let popped : State := { s1 with regs := s.regs.setV s.stackSize .esp (s.sp + BitVec.ofNat 32 s.width.bytes) }
  refine ⟨fun inside => ?_, fun beyond => ?_⟩
  · rw [← target] at inside
    have jumped := nearTarget_ok (s := popped) (by rw [show popped.segs = s.segs from segs]; exact inside)
    rw [target] at jumped
    have moved := popBytes_moved (u := { popped with eip := BitVec.ofNat 32 (Memory.load s1.mem as) })
      (g := s.regs) (v := s.sp + BitVec.ofNat 32 s.width.bytes) imm.toNat
      (by rw [show State.stackSize { popped with eip := _ } = s.stackSize from size])
    rw [show State.stackSize { popped with eip := _ } = s.stackSize from size] at moved
    exact (exec_retForm form).trans (runInstr_of_ok (ran.trans ((bind_of_ok jumped _).trans moved)))
  · rw [← target] at beyond
    have refused := nearTarget_beyond (s := popped) (by rw [show popped.segs = s.segs from segs]; exact beyond)
    exact (exec_retForm form).trans (runInstr_of_exc (ran.trans (bind_of_error refused _)))

end

/-- Settles O32, by the kinds of transfer. -/
theorem nearTransfers : Obligations.NearTransfers := by
  refine ⟨fun s => ?_, fun s => ?_⟩
  · intro next count counted
    exact ⟨fun i rel form => jmp_rel form, fun i d form t s1 read => jmp_opnd form read,
      fun i c rel form => ⟨jcc_taken form, jcc_stays form⟩, fun rel => ⟨jcxz_taken rel, jcxz_stays rel⟩,
      fun i want rel form => ⟨loop_taken form, loop_ends form⟩⟩
  · intro n
    exact ⟨fun i rel as s1 form => call_rel form, fun i d t as s1 s2 form read => call_opnd form read,
      fun i imm as s1 form opened => ret_near form opened⟩

end Sys2Proof.Machine
end

section
/-!
PROOFS. Procedure frames, BOUND, HLT, NOP and WAIT (O43).
-/

namespace Sys2Proof.Machine

open Claims

theorem run_onlyIf_do {c : Bool} {x : M Unit} {s : State} (h : c = true) : onlyIf c x s = x s := by
  rw [run_onlyIf, if_pos h]

/-! ### ENTER -/

theorem enterFrame_ok {o : Size} {size : Half} {level : Byte} {s s1 s2 s3 t : State}
    (saved : push o (s.regs.getV o .ebp) s = .ok () s1) (copied : copyDisplay o (level.toNat % 32 - 1) s1 = .ok () s2)
    (own : if level.toNat % 32 = 0 then s3 = s2 else push o (s1.regs.getV o .esp) s2 = .ok () s3)
    (probed : probeStack (sizeBytes o) { s3 with
      regs := (s3.regs.setV o .ebp (s1.regs.getV o .esp)).setV o .esp
        ((s3.regs.setV o .ebp (s1.regs.getV o .esp)).getV o .esp - zext size) } = .ok () t) :
    enterFrame o size level s = .ok () t := by
  have own' : onlyIf (decide (0 < level.toNat % 32)) (push o (s1.regs.getV o .esp)) s2 = .ok () s3 := by
    rw [run_onlyIf]
    by_cases zero : level.toNat % 32 = 0
    · rw [if_pos zero] at own
      rw [if_neg (by simp [zero]), own]
    · rw [if_neg zero] at own
      rw [if_pos (by simpa using Nat.pos_of_ne_zero zero), own]
  unfold enterFrame
  rw [bind_of_ok (run_getS s), bind_of_ok saved, bind_of_ok (run_regV _ _ s1)]
  refine (bind_of_ok copied _).trans ((bind_of_ok own' _).trans ?_)
  rw [bind_of_ok (run_setRegV _ _ _ s3), bind_of_ok (run_regV _ _ _), bind_of_ok (run_setRegV _ _ _ _)]
  exact probed

theorem push_quiet {o : Size} {s : State} (h : quiet s) (room : Room s (sizeBytes o) 1) (v : Word) :
    push o v s = .ok () (pushed s (sizeBytes o) [v.toNat]) := pushAll_quiet h (sizeBytes_pos o) room

theorem probeStack_quiet {s : State} {n : Nat} (h : quiet s) (pos : 0 < n) (inside : Within s.segs.ss s.sp n) :
    probeStack n s = .ok () s := by
  unfold probeStack
  rw [bind_of_ok (run_getS s), check_passes ((inLimit_iff pos).mpr inside), bind_of_ok (physOf_unpaged h.1 _ _ _ _), run_pure]

theorem stackRead_quiet {s : State} {off : Word} {n : Nat} (h : quiet s) (pos : 0 < n) (inside : Within s.segs.ss off n) :
    stackRead off n s = .ok (Memory.load s.mem (addrs (s.segs.ss.base + off) n)) s := by
  unfold stackRead
  rw [bind_of_ok (run_getS s), bind_of_ok (stackAccess_quiet h ((inLimit_iff pos).mpr inside) _ _ _), run_loadAt]

/-- The stack pointer does not depend on the frame pointer. -/
theorem sp_setV_ebp (s : State) (v : Word) : State.sp { s with regs := s.regs.setV s.stackSize .ebp v } = s.sp := by
  change (s.regs.setV s.stackSize .ebp v).getV s.stackSize .esp = s.regs.getV s.stackSize .esp
  cases s.stackSize <;> rfl

theorem copyDisplay_step {o : Size} {k : Nat} {s : State} (h : quiet s)
    (inside : Within s.segs.ss ((s.regs.setV s.stackSize .ebp
      (s.regs.getV s.stackSize .ebp - BitVec.ofNat 32 (sizeBytes o))).getV s.stackSize .ebp) (sizeBytes o))
    (room : Room s (sizeBytes o) 1) :
    copyDisplay o (k + 1) s = copyDisplay o k (pushed { s with
      regs := s.regs.setV s.stackSize .ebp (s.regs.getV s.stackSize .ebp - BitVec.ofNat 32 (sizeBytes o)) } (sizeBytes o)
      [Memory.load s.mem (addrs (s.segs.ss.base + (s.regs.setV s.stackSize .ebp
        (s.regs.getV s.stackSize .ebp - BitVec.ofNat 32 (sizeBytes o))).getV s.stackSize .ebp) (sizeBytes o))]) := by
  let down : State := { s with
    regs := s.regs.setV s.stackSize .ebp (s.regs.getV s.stackSize .ebp - BitVec.ofNat 32 (sizeBytes o)) }
  have quietDown : quiet down := ⟨h.1, h.2⟩
  have roomDown : Room down (sizeBytes o) 1 := by
    intro j small
    rw [show down.sp = s.sp from sp_setV_ebp s _]
    exact room j small
  have word : Memory.load s.mem (addrs (s.segs.ss.base + down.regs.getV s.stackSize .ebp) (sizeBytes o)) < 2 ^ 32 := by
    refine (Memory.load_lt s.mem _).trans_le ?_
    rw [addrs_length]
    cases o <;> decide
  conv => lhs; unfold copyDisplay
  rw [bind_of_ok (run_getS s), bind_of_ok (run_setRegV _ _ _ s), bind_of_ok (run_getS _)]
  refine (bind_of_ok (stackRead_quiet quietDown (sizeBytes_pos o) inside) _).trans ?_
  refine (bind_of_ok (push_quiet quietDown roomDown _) _).trans ?_
  rw [BitVec.toNat_ofNat]
  exact congrArg (fun v => copyDisplay o k (pushed down (sizeBytes o) [v])) (Nat.mod_eq_of_lt word)

/-! ### LEAVE -/

theorem getV_truncated (g : Regs) (o : Size) (r : Reg) : (g.setV o .esp (g.getV o r)).getV o .esp = g.getV o r := by
  cases o with
  | s32 => rfl
  | s16 =>
    have back : (g.setV .s16 .esp (g.getV .s16 r)).getV .s16 .esp = ((g.getV .s16 r).setWidth 16).setWidth 32 :=
      congrArg (BitVec.setWidth 32) (Regs.get16_set16 g .esp _)
    have low : ((g.get16 r).setWidth 32).setWidth 16 = g.get16 r := by
      rw [BitVec.setWidth_setWidth_of_le _ (by decide), BitVec.setWidth_eq]
    rw [back]
    exact congrArg (BitVec.setWidth 32) low

theorem leaveFrame_ok {s s1 : State} {o : Size} {as : List Word}
    (opened : stackAccess s.segs.ss (s.regs.getV s.stackSize .ebp) (sizeBytes o) false s.user 0
      { s with regs := s.regs.setV s.stackSize .esp (s.regs.getV s.stackSize .ebp) } = .ok as s1) :
    leaveFrame o s = .ok () { s1 with
      regs := (s.regs.setV s.stackSize .esp (s.regs.getV s.stackSize .ebp + BitVec.ofNat 32 (sizeBytes o))).setV o .ebp
        (BitVec.ofNat 32 (Memory.load s1.mem as)) } := by
  let moved : State := { s with regs := s.regs.setV s.stackSize .esp (s.regs.getV s.stackSize .ebp) }
  have sp : moved.sp = s.regs.getV s.stackSize .ebp := getV_truncated s.regs s.stackSize .ebp
  have popped := pop_ok (s := moved) (o := o) (by rw [sp]; exact opened)
  have regs : moved.regs.setV moved.stackSize .esp (moved.sp + BitVec.ofNat 32 (sizeBytes o)) =
      s.regs.setV s.stackSize .esp (s.regs.getV s.stackSize .ebp + BitVec.ofNat 32 (sizeBytes o)) :=
    Regs.moveSp_moveSp s.regs s.stackSize _ _
  rw [regs] at popped
  unfold leaveFrame
  rw [bind_of_ok (run_getS s), bind_of_ok (run_setSp _ s)]
  refine (bind_of_ok popped _).trans ?_
  rw [run_setRegV]

/-! ### BOUND and HLT -/

theorem bound_runs {w : Width} {r : Reg} {m : MemOp} {v : Nat} {s s1 : State} (read : readMem m (2 * w.bytes) s = .ok v s1) :
    bound w r m s = check (decide ((BitVec.ofNat w.bits v).toInt ≤ (destValue w (.reg r) [] s).toInt) &&
      decide ((destValue w (.reg r) [] s).toInt ≤ (BitVec.ofNat w.bits (v / 2 ^ w.bits)).toInt)) raiseBR s1 := by
  have regs : s1.regs = s.regs := ((Confined.readMem _ _).ok read).regs
  unfold bound
  rw [bind_of_ok read, bind_of_ok (run_readOp_reg w r s1), regs]
  rfl

theorem halt_runs {s : State} (h : s.cr0.pe = false ∨ s.cpl = 0) : halt s = .ok () { s with run := .halted } := by
  unfold halt
  rw [bind_of_ok (run_getS s), check_passes, run_upd]
  rcases h with real | ring
  · rw [real]
    rfl
  · rw [decide_eq_true ring, Bool.or_true]

theorem halt_refused {s : State} (h : ¬(s.cr0.pe = false ∨ s.cpl = 0)) :
    halt s = .error (.exc (.plain 13 (some 0)) false) s := by
  rw [not_or] at h
  obtain ⟨pe, ring⟩ := h
  unfold halt
  rw [bind_of_ok (run_getS s)]
  exact check_fails (by rw [eq_true_of_ne_false pe, decide_eq_false ring]; rfl) (run_raiseGP 0 s)

/-! ### WAIT -/

theorem drawAllCodes_ok (s : State) : ∃ (c0 c1 c2 c3 : Bool) (k : Nat), drawAllCodes s = .ok () { s with
    fpu := { s.fpu with fsw := { s.fpu.fsw with c0 := c0, c1 := c1, c2 := c2, c3 := c3 } }, draws := k } :=
  ⟨_, _, _, _, _, rfl⟩

theorem waitInstr_unavailable {s : State} (h : s.cr0.mp = true ∧ s.cr0.ts = true) :
    waitInstr s = .error (.exc (.plain 7 none) false) s := by
  unfold waitInstr
  rw [bind_of_ok (run_getS s)]
  exact check_fails (by rw [h.1, h.2]; rfl) (run_raiseNM s)

theorem waitInstr_available {s : State} (h : ¬(s.cr0.mp = true ∧ s.cr0.ts = true)) :
    waitInstr s = onlyIf s.cfg.hasX87 (do reportPending; drawAllCodes) s := by
  unfold waitInstr
  rw [bind_of_ok (run_getS s), check_passes]
  rw [Bool.not_eq_true', Bool.and_eq_false_iff]
  rw [not_and_or] at h
  exact h.imp Bool.eq_false_of_not_eq_true Bool.eq_false_of_not_eq_true

theorem reportPending_clear {s : State} (h : s.fpu.es = false) : reportPending s = .ok () s := by
  unfold reportPending
  rw [bind_of_ok (run_getS s), run_onlyIf, if_neg (by simp [h])]

theorem reportPending_mf {s : State} (es : s.fpu.es = true) (viaMf : s.cfg.x87ErrorViaMf = true) :
    reportPending s = .error (.exc (.plain 16 none) false) s := by
  unfold reportPending
  rw [bind_of_ok (run_getS s), run_onlyIf, if_pos es, if_pos viaMf, run_raiseMF]

/-! ### The instructions -/

theorem exec_enter_of {s t : State} {size : Half} {level : Byte} (h : enterFrame s.opSize size level (past s) = .ok () t) :
    exec (.enter size level) s = .next t := runInstr_of_ok (body := atOpSize fun o => enterFrame o size level) (s := s) h

theorem exec_leave_of {s t : State} (h : leaveFrame s.opSize (past s) = .ok () t) : exec .leave s = .next t :=
  runInstr_of_ok (body := atOpSize leaveFrame) (s := s) h

/-- Settles O43, instruction by instruction. -/
theorem framesBoundHaltWait : Obligations.FramesBoundHaltWait := by
  refine ⟨⟨?_, ?_, ?_⟩, ?_, ?_, fun s => rfl, ?_⟩
  · intro s size level s1 s2 s3 t o frame saved copied own g probed
    rw [width_bytes] at probed
    exact exec_enter_of (enterFrame_ok saved copied own probed)
  · intro s k h o n down at_
    have bytes : n = sizeBytes o := width_bytes s
    refine ⟨rfl, fun inside room => ?_, fun v room => ?_, fun inside => ?_⟩
    · simp only [bytes, down, at_] at inside room ⊢
      exact copyDisplay_step h inside room
    · rw [bytes] at room ⊢
      exact push_quiet h room v
    · rw [bytes] at inside ⊢
      exact probeStack_quiet h (sizeBytes_pos o) inside
  · intro s as s1 n bp opened
    simp only [n, width_bytes] at opened ⊢
    exact exec_leave_of (leaveFrame_ok (s := past s) opened)
  · intro s r m v s1 read i lower upper
    have ran := bound_runs (r := r) read
    refine ⟨fun inside => ?_, fun outside => ?_⟩
    · refine runInstr_of_ok (body := atSize fun w => bound w r m) (s := s) (ran.trans ?_)
      rw [run_check, if_pos]
      exact Bool.and_eq_true_iff.mpr ⟨decide_eq_true inside.1, decide_eq_true inside.2⟩
    · refine runInstr_of_exc (body := atSize fun w => bound w r m) (s := s) (ran.trans ?_)
      rw [run_check, if_neg, run_raiseBR]
      intro inside
      rw [Bool.and_eq_true, decide_eq_true_eq, decide_eq_true_eq] at inside
      exact outside inside
  · intro s
    exact ⟨fun h => runInstr_of_ok (body := halt) (halt_runs h), fun h => runInstr_of_exc (body := halt) (halt_refused h)⟩
  · intro s
    refine ⟨fun h => runInstr_of_exc (body := waitInstr) (waitInstr_unavailable h), fun h => ?_⟩
    have ran := waitInstr_available (s := past s) h
    refine ⟨fun none => ?_, fun some es viaMf => ?_, fun some es => ?_⟩
    · exact runInstr_of_ok (body := waitInstr) (ran.trans (run_onlyIf_stay none))
    · exact runInstr_of_exc (body := waitInstr)
        (ran.trans ((run_onlyIf_do some).trans (bind_of_error (reportPending_mf (s := past s) es viaMf) _)))
    · obtain ⟨c0, c1, c2, c3, k, drawn⟩ := drawAllCodes_ok (past s)
      exact ⟨c0, c1, c2, c3, k, runInstr_of_ok (body := waitInstr)
        (ran.trans ((run_onlyIf_do some).trans ((bind_of_ok (reportPending_clear (s := past s) es) _).trans drawn)))⟩

end Sys2Proof.Machine
end

section
/-!
PROOFS. The descriptor table registers (O44).
-/

namespace Sys2Proof.Machine

open Claims

/-! ### The gates of system instructions -/

theorem run_privileged {s : State} (h : MayPrivileged s) : privileged s = .ok () s := by
  unfold privileged
  rw [bind_of_ok (run_getS s), run_check, if_pos]
  rcases h with real | ⟨ring, vm⟩
  · rw [real]
    rfl
  · rw [decide_eq_true ring, vm, Bool.not_false, Bool.and_true, Bool.or_true]

theorem run_protectedOnly {s : State} (h : s.protectedMode = true) : protectedOnly s = .ok () s := by
  unfold protectedOnly
  rw [bind_of_ok (run_getS s), run_check, if_pos h]

theorem mayPrivileged_of {s : State} (prot : s.protectedMode = true) (ring : s.cpl = 0) : MayPrivileged s := by
  unfold State.protectedMode at prot
  rw [Bool.and_eq_true, Bool.not_eq_true'] at prot
  exact .inr ⟨ring, prot.2⟩

/-! ### Limit and base -/

theorem readTableReg_ok {o : Size} {m : MemOp} {v : Nat} {s t : State} (read : readMem m 6 s = .ok v t) :
    readTableReg o m s = .ok {
      limit := BitVec.ofNat 16 v
      base := BitVec.ofNat 32 (v / 2 ^ 16 % (if o = .s16 then 2 ^ 24 else 2 ^ 32)) } t := by
  unfold readTableReg
  rw [bind_of_ok read, run_pure]
  congr 2
  apply BitVec.eq_of_toNat_eq
  cases o with
  | s16 =>
    rw [if_pos rfl, if_pos rfl, BitVec.toNat_and, BitVec.toNat_ofNat, BitVec.toNat_ofNat]
    change v / 65536 % 2 ^ 32 &&& (2 ^ 24 - 1) = _
    rw [Nat.and_two_pow_sub_one_eq_mod]
    omega
  | s32 =>
    rw [if_neg (by decide), if_neg (by decide), BitVec.toNat_ofNat, BitVec.toNat_ofNat]
    omega

theorem storeTable_ok {t : State → TableReg} {m : MemOp} {as : List Word} {s s1 : State}
    (opened : accessMem m 6 true s = .ok as s1) : storeTable t m s = .ok () { s1 with
      mem := Memory.store s1.mem as ((t s).limit.toNat + 2 ^ 16 * (t s).base.toNat) } := by
  unfold storeTable
  exact (bind_of_ok (run_getS s) _).trans (run_writeMem opened)

/-! ### The selectors stored -/

theorem storeHalf_reg32 (q : Reg) (v : Half) (s : State) : ∃ (upper : Half) (k : Nat),
    storeHalf .s32 (.reg q) v s = .ok () { s with regs := s.regs.set q (upper ++ v), draws := k } := by
  refine ⟨(Config.freeWord s.draws).extractLsb' 16 16, s.draws + 1, ?_⟩
  rw [← withLow16_eq]
  rfl

theorem storeLdt_runs {d : RM} {s : State} (h : s.protectedMode = true) :
    storeLdt d s = storeHalf s.opSize d s.ldtr.selector s := by
  unfold storeLdt
  rw [run_atOpSize, bind_of_ok (run_protectedOnly h), bind_of_ok (run_getS s)]

theorem storeTask_mem {m : MemOp} {s : State} (h : s.protectedMode = true) :
    storeTask (.mem m) s = writeMem m 2 s.tr.selector.toNat s := by
  unfold storeTask
  exact (bind_of_ok (run_protectedOnly h) _).trans (bind_of_ok (run_getS s) _)

theorem storeTask_reg {r : Reg} {s : State} (h : s.protectedMode = true) :
    storeTask (.reg r) s = setRegV s.opSize r (s.tr.selector.setWidth 32) s := by
  unfold storeTask
  exact (bind_of_ok (run_protectedOnly h) _).trans (bind_of_ok (run_getS s) _)

/-! ### LLDT and LTR -/

theorem Desc.isSystem_iff (d : Desc) (types : List (BitVec 4)) : d.isSystem types = true ↔ d.s = false ∧ d.type ∈ types := by
  unfold Desc.isSystem
  rw [Bool.and_eq_true, Bool.not_eq_true', List.contains_iff_mem]

section

variable {s s1 : State} {m : RM} {sel : Half} (prot : s.protectedMode = true) (ring : s.cpl = 0)
  (read : readOp .w16 (rmOp m) s = .ok sel s1)

include prot ring read

theorem loadLdt_reads : loadLdt m s = (if selNull sel then
      upd fun s => { s with ldtr := { s.ldtr with selector := sel, valid := false } }
    else do
      check (!selLocal sel) (raiseGP (selCode sel))
      let d ← readDesc sel (raiseGP (selCode sel))
      check (d.isSystem [2]) (raiseGP (selCode sel))
      check d.p (raiseNP (selCode sel))
      upd fun s => { s with
        ldtr := { selector := sel, valid := true, base := d.base, limit := d.limit, type := d.type } }) s1 := by
  unfold loadLdt
  rw [bind_of_ok (run_protectedOnly prot), bind_of_ok (run_privileged (mayPrivileged_of prot ring)), bind_of_ok read]

theorem loadTask_reads : loadTask m s = (do
    check (!selNull sel) (raiseGP 0)
    check (!selLocal sel) (raiseGP (selCode sel))
    let d ← readDesc sel (raiseGP (selCode sel))
    check (d.isSystem [1, 9]) (raiseGP (selCode sel))
    check d.p (raiseNP (selCode sel))
    setBusy sel d
    upd fun s => { s with
      tr := { selector := sel, valid := true, base := d.base, limit := d.limit, type := d.type ||| 2 } }) s1 := by
  unfold loadTask
  rw [bind_of_ok (run_protectedOnly prot), bind_of_ok (run_privileged (mayPrivileged_of prot ring)), bind_of_ok read]

theorem loadLdt_null (null : sel.toNat / 4 = 0) :
    loadLdt m s = .ok () { s1 with ldtr := { s.ldtr with selector := sel, valid := false } } := by
  have ldtr : s1.ldtr = s.ldtr := ((Confined.readOp _ _).ok read).ldtr
  rw [loadLdt_reads prot ring read, if_pos ((selNull_iff sel).mpr null), run_upd, ldtr]

theorem loadTask_null (null : sel.toNat / 4 = 0) : loadTask m s = .error (.exc (.plain 13 (some 0)) false) s1 := by
  rw [loadTask_reads prot ring read]
  exact check_fails (by rw [(selNull_iff sel).mpr null]; rfl) (run_raiseGP 0 s1)

theorem loadLdt_checks (proper : sel.toNat / 4 ≠ 0) : loadLdt m s = (do
      check (!selLocal sel) (raiseGP (selCode sel))
      let d ← readDesc sel (raiseGP (selCode sel))
      check (d.isSystem [2]) (raiseGP (selCode sel))
      check d.p (raiseNP (selCode sel))
      upd fun s => { s with
        ldtr := { selector := sel, valid := true, base := d.base, limit := d.limit, type := d.type } }) s1 := by
  rw [loadLdt_reads prot ring read, if_neg fun null => proper ((selNull_iff sel).mp null)]

theorem loadTask_checks (proper : sel.toNat / 4 ≠ 0) : loadTask m s = (do
    check (!selLocal sel) (raiseGP (selCode sel))
    let d ← readDesc sel (raiseGP (selCode sel))
    check (d.isSystem [1, 9]) (raiseGP (selCode sel))
    check d.p (raiseNP (selCode sel))
    setBusy sel d
    upd fun s => { s with
      tr := { selector := sel, valid := true, base := d.base, limit := d.limit, type := d.type ||| 2 } }) s1 := by
  have notNull : (!selNull sel) = true := by
    rw [Bool.not_eq_true', Bool.eq_false_iff]
    exact fun null => proper ((selNull_iff sel).mp null)
  rw [loadTask_reads prot ring read, check_passes notNull]

end

/-- LLDT and LTR refuse a selector of the LDT and one outside the GDT alike. -/
theorem gdtOnly_refuses {s : State} {sel : Half} {f : Desc → M Unit}
    (bad : sel.toNat / 4 % 2 = 1 ∨ s.descAddr sel = none) :
    (do check (!selLocal sel) (raiseGP (selCode sel))
        let d ← readDesc sel (raiseGP (selCode sel))
        f d) s = .error (.exc (.plain 13 (some (selCode sel))) false) s := by
  by_cases loc : sel.toNat / 4 % 2 = 1
  · exact check_fails (by rw [selLocal_eq, decide_eq_true loc]; rfl) (run_raiseGP _ s)
  · rw [check_passes (by rw [selLocal_eq, decide_eq_false loc]; rfl)]
    exact bind_of_error ((readDesc_outside (bad.resolve_left loc) _).trans (run_raiseGP _ s)) _

theorem gdtOnly_reads {s s1 : State} {sel : Half} {a : Word} {v : Nat} {f : Desc → M Unit}
    (global : ¬sel.toNat / 4 % 2 = 1) (named : s.descAddr sel = some a) (read : linRead a 8 s = .ok v s1) :
    (do check (!selLocal sel) (raiseGP (selCode sel))
        let d ← readDesc sel (raiseGP (selCode sel))
        f d) s = f (BitVec.ofNat 64 v) s1 := by
  rw [check_passes (by rw [selLocal_eq, decide_eq_false global]; rfl)]
  exact bind_of_ok (readDesc_ok named read _) _

/-- The checks of type and presence that LLDT and LTR share. -/
theorem typeThenPresent {s : State} {d : Desc} {types : List (BitVec 4)} {code : Half} {x : M Unit} :
    (d.s = false ∧ d.type ∈ types → d.p = true →
      (do check (d.isSystem types) (raiseGP code); check d.p (raiseNP code); x) s = x s) ∧
    (d.s = false ∧ d.type ∈ types → d.p = false →
      (do check (d.isSystem types) (raiseGP code); check d.p (raiseNP code); x) s =
        .error (.exc (.plain 11 (some code)) false) s) ∧
    (¬(d.s = false ∧ d.type ∈ types) →
      (do check (d.isSystem types) (raiseGP code); check d.p (raiseNP code); x) s =
        .error (.exc (.plain 13 (some code)) false) s) := by
  refine ⟨fun right present => ?_, fun right absent => ?_, fun wrong => ?_⟩
  · rw [check_passes ((Desc.isSystem_iff d types).mpr right), check_passes present]
  · rw [check_passes ((Desc.isSystem_iff d types).mpr right)]
    exact check_fails absent (run_raiseNP code s)
  · exact check_fails (Bool.eq_false_iff.mpr fun right => wrong ((Desc.isSystem_iff d types).mp right)) (run_raiseGP code s)

theorem setBusy_ok {sel : Half} {d : Desc} {a : Word} {s t : State} (named : s.descAddr sel = some a)
    (marked : linWriteSysByte (a + 5) (d.extractLsb' 40 8 ||| 2) s = .ok () t) : setBusy sel d s = .ok () t := by
  unfold setBusy writeAccess
  rw [bind_of_ok (run_getS s)]
  simp only [named]
  exact marked

theorem segmentOf_fields (sel : Half) (d : Desc) : (segmentOf sel d).base = d.base ∧ (segmentOf sel d).limit = d.limit := by
  rw [← segOf_eq]
  exact ⟨rfl, rfl⟩

theorem mem_pair (x : BitVec 4) : x ∈ ([1, 9] : List (BitVec 4)) ↔ x = 1 ∨ x = 9 := by
  rw [List.mem_cons, List.mem_singleton]

theorem storesSelectors {s : State} (prot : s.protectedMode = true) :
    (∀ (m : MemOp) (as : List Word) (s1 : State), accessMem m 2 true (past s) = .ok as s1 →
      exec (.sldtRm16 (.mem m)) s = .next { s1 with mem := Memory.store s1.mem as s.ldtr.selector.toNat } ∧
      exec (.strRm16 (.mem m)) s = .next { s1 with mem := Memory.store s1.mem as s.tr.selector.toNat }) ∧
    (∀ q : Reg,
      (s.opSize = .s16 →
        exec (.sldtRm16 (.reg q)) s = .next { past s with regs := s.regs.set16 q s.ldtr.selector } ∧
        exec (.strRm16 (.reg q)) s = .next { past s with regs := s.regs.set16 q s.tr.selector }) ∧
      (s.opSize = .s32 →
        (∃ (upper : Half) (k : Nat),
          exec (.sldtRm16 (.reg q)) s = .next { past s with regs := s.regs.set q (upper ++ s.ldtr.selector), draws := k }) ∧
        exec (.strRm16 (.reg q)) s = .next { past s with regs := s.regs.set q (zext s.tr.selector) })) := by
  have ldt := fun d => storeLdt_runs (d := d) (s := past s) prot
  have prot : (past s).protectedMode = true := prot
  refine ⟨fun m as s1 opened => ⟨?_, ?_⟩, fun q => ⟨fun size => ⟨?_, ?_⟩, fun size => ⟨?_, ?_⟩⟩⟩
  · exact runInstr_of_ok (body := storeLdt _) ((ldt _).trans (run_writeMem opened))
  · exact runInstr_of_ok (body := storeTask _) ((storeTask_mem prot).trans (run_writeMem opened))
  · refine runInstr_of_ok (body := storeLdt _) ((ldt _).trans ?_)
    rw [show (past s).opSize = .s16 from size]
    rfl
  · refine runInstr_of_ok (body := storeTask _) ((storeTask_reg prot).trans ?_)
    rw [show (past s).opSize = .s16 from size]
    refine (run_setRegV _ _ _ _).trans ?_
    have low : (s.tr.selector.setWidth 32).setWidth 16 = s.tr.selector := by
      rw [BitVec.setWidth_setWidth_of_le _ (by decide), BitVec.setWidth_eq]
    exact congrArg (fun v => EStateM.Result.ok () { past s with regs := s.regs.set16 q v }) low
  · obtain ⟨upper, k, stored⟩ := storeHalf_reg32 q s.ldtr.selector (past s)
    refine ⟨upper, k, runInstr_of_ok (body := storeLdt _) ((ldt _).trans ?_)⟩
    rw [show (past s).opSize = .s32 from size]
    exact stored
  · refine runInstr_of_ok (body := storeTask _) ((storeTask_reg prot).trans ?_)
    rw [show (past s).opSize = .s32 from size]
    rfl

theorem loadsTables {s s1 : State} {m : MemOp} {v : Nat} (may : MayPrivileged s) (read : readMem m 6 (past s) = .ok v s1)
    {t : TableReg} (ht : t = {
      limit := BitVec.ofNat 16 v
      base := BitVec.ofNat 32 (v / 2 ^ 16 % (if s.opSize = .s16 then 2 ^ 24 else 2 ^ 32)) }) :
    exec (.lgdtM m) s = .next { s1 with gdtr := t } ∧ exec (.lidtM m) s = .next { s1 with idtr := t } := by
  subst ht
  have value := readTableReg_ok (o := s.opSize) read
  have may := run_privileged (s := past s) may
  exact ⟨runInstr_of_ok (body := loadGdt m) ((bind_of_ok may _).trans (bind_of_ok value _)),
    runInstr_of_ok (body := loadIdt m) ((bind_of_ok may _).trans (bind_of_ok value _))⟩

/-- Settles O44: the two table pairs, the selectors, and the checks that LLDT and LTR share. -/
theorem tableRegisters : Obligations.TableRegisters := by
  refine ⟨fun s m as s1 opened => ?_, fun s m v s1 may read => loadsTables may read rfl,
    fun s prot => storesSelectors prot, ?_⟩
  · exact ⟨runInstr_of_ok (body := storeTable State.gdtr m) (storeTable_ok opened),
      runInstr_of_ok (body := storeTable State.idtr m) (storeTable_ok opened)⟩
  · intro s m sel s1 prot ring read code loc
    have ldt := fun proper => loadLdt_checks (s := past s) prot ring read proper
    have task := fun proper => loadTask_checks (s := past s) prot ring read proper
    have same := (Confined.readOp _ _).ok read
    have table : s1.descAddr sel = descriptorAt s sel := (same.descAddr sel).trans (descAddr_eq s sel)
    have codeEq : selCode sel = code := selCode_eq sel
    refine ⟨fun null => ⟨?_, ?_⟩, fun proper bad => ?_, ?_⟩
    · exact runInstr_of_ok (body := loadLdt m) (loadLdt_null (s := past s) prot ring read null)
    · exact runInstr_of_exc (body := loadTask m) (loadTask_null (s := past s) prot ring read null)
    · rw [← table] at bad
      rw [← codeEq]
      exact ⟨runInstr_of_exc (body := loadLdt m) ((ldt proper).trans (gdtOnly_refuses bad)),
        runInstr_of_exc (body := loadTask m) ((task proper).trans (gdtOnly_refuses bad))⟩
    · intro proper global a v s2 named readD d reg
      rw [← table] at named
      have ldt2 := (ldt proper).trans (gdtOnly_reads global named readD)
      have task2 := (task proper).trans (gdtOnly_reads global named readD)
      have named2 : s2.descAddr sel = some a := (((Confined.linRead _ _).ok readD).descAddr sel).trans named
      have regEq : reg = { selector := sel, valid := true, base := d.base, limit := d.limit, type := d.type } := by
        rw [← (segmentOf_fields sel d).1, ← (segmentOf_fields sel d).2]
      rw [regEq, ← codeEq]
      simp only [← List.mem_singleton (b := (2 : BitVec 4)), ← mem_pair]
      refine ⟨fun right present => ?_, fun right absent => ?_, fun wrong => ?_, fun right present s3 marked => ?_,
        fun right absent => ?_, fun wrong => ?_⟩
      · exact runInstr_of_ok (body := loadLdt m) (ldt2.trans (typeThenPresent.1 right present))
      · exact runInstr_of_exc (body := loadLdt m) (ldt2.trans (typeThenPresent.2.1 right absent))
      · exact runInstr_of_exc (body := loadLdt m) (ldt2.trans (typeThenPresent.2.2 wrong))
      · exact runInstr_of_ok (body := loadTask m) (task2.trans ((typeThenPresent.1 right present).trans
          (bind_of_ok (setBusy_ok named2 marked) _)))
      · exact runInstr_of_exc (body := loadTask m) (task2.trans (typeThenPresent.2.1 right absent))
      · exact runInstr_of_exc (body := loadTask m) (task2.trans (typeThenPresent.2.2 wrong))

end Sys2Proof.Machine
end

section
/-!
PROOFS. Control registers (O45) and debug registers (O46).
-/

namespace Sys2Proof.Machine

open Claims

/-! ### CR0 as a number -/

/-- The number CR0 reads as. -/
def cr0Number (c : Cr0) : Nat :=
  c.pe.toNat + 2 * c.mp.toNat + 4 * c.em.toNat + 8 * c.ts.toNat + 16 * c.et.toNat + 2 ^ 31 * c.pg.toNat

theorem toWord_eq (c : Cr0) : c.toWord = BitVec.ofNat 32 (cr0Number c) := by
  obtain ⟨pe, mp, em, ts, et, pg⟩ := c
  revert pe mp em ts et pg
  decide

theorem low_toWord (c : Cr0) : c.toWord.setWidth 16 = BitVec.ofNat 16 (cr0Number c) := by
  rw [toWord_eq]
  exact BitVec.setWidth_ofNat_of_le (by decide) _

theorem storeMsw_runs (d : RM) (s : State) : storeMsw d s = storeHalf s.opSize d (BitVec.ofNat 16 (cr0Number s.cr0)) s := by
  unfold storeMsw
  rw [run_atOpSize, bind_of_ok (run_getS s), low_toWord]

/-! ### Loads of CR0 -/

theorem run_setCr0 (c : Cr0) (s : State) : setCr0 c s =
    .ok () { s with cr0 := c, tlb := if c.pe = s.cr0.pe ∧ c.pg = s.cr0.pg then s.tlb else [] } := rfl

theorem loadMsw_ok {m : RM} {v : Half} {s s1 : State} (may : MayPrivileged s)
    (read : readOp .w16 (rmOp m) s = .ok v s1) : loadMsw m s = .ok () { s1 with
      cr0 := { s.cr0 with pe := s.cr0.pe || v.getLsbD 0, mp := v.getLsbD 1, em := v.getLsbD 2, ts := v.getLsbD 3 },
      tlb := if s.cr0.pe = false ∧ v.getLsbD 0 = true then [] else s1.tlb } := by
  have cr0 : s1.cr0 = s.cr0 := ((Confined.readOp _ _).ok read).cr0
  unfold loadMsw
  rw [bind_of_ok (run_privileged may), bind_of_ok read, bind_of_ok (run_getS s1), run_setCr0, cr0]
  dsimp only
  congr 2
  cases s.cr0.pe <;> cases v.getLsbD 0 <;> simp

/-! ### Status flags that are any values -/

theorem drawAllFlags_ok (s : State) : ∃ (f : Flags) (k : Nat), StatusOnly s.flags f ∧
    drawAllFlags s = .ok () { s with flags := f, draws := k } := by
  obtain ⟨cf, pf, af, zf, sf, of, drawn⟩ := run_drawAllFlags s
  exact ⟨{ s.flags with cf := cf, pf := pf, af := af, zf := zf, sf := sf, of := of }, s.draws + 6, rfl, drawn⟩

/-- A meaning that ends in such flags. -/
theorem thenFlags {x : M Unit} {s t : State} (ran : x s = .ok () t) : ∃ (f : Flags) (k : Nat), StatusOnly t.flags f ∧
    (x >>= fun _ => drawAllFlags) s = .ok () { t with flags := f, draws := k } := by
  obtain ⟨f, k, only, drawn⟩ := drawAllFlags_ok t
  exact ⟨f, k, only, (bind_of_ok ran _).trans drawn⟩

/-! ### MOV of control registers -/

/-- What MOV from a control register gives. -/
def crValue (s : State) : CReg → Word
  | .cr0 => BitVec.ofNat 32 (cr0Number s.cr0)
  | .cr2 => s.cr2
  | .cr3 => s.cr3

theorem page_mask (v : Word) : v &&& 0xFFFFF000 = BitVec.ofNat 32 (v.toNat / 4096 * 4096) := by
  have shifted : v &&& (0xFFFFF000 : Word) = (v >>> 12) <<< 12 := by
    apply BitVec.eq_of_getLsbD_eq
    intro i hi
    rw [BitVec.getLsbD_and, BitVec.getLsbD_shiftLeft, BitVec.getLsbD_ushiftRight]
    have mask : ∀ k : Fin 32, (0xFFFFF000 : Word).getLsbD k = decide (12 ≤ k.val) := by decide
    rw [mask ⟨i, hi⟩]
    by_cases low : 12 ≤ i
    · simp [low, hi, show 12 + (i - 12) = i by omega, show ¬i < 12 by omega]
    · simp [low, show i < 12 by omega]
  rw [shifted]
  apply BitVec.eq_of_toNat_eq
  simp [Nat.shiftLeft_eq, Nat.shiftRight_eq_div_pow]

section

variable {s : State} (may : MayPrivileged s)

include may

theorem moveFromCr_runs (r : Reg) (c : CReg) :
    moveFromCr r c s = (setReg r (crValue s c) >>= fun _ => drawAllFlags) s := by
  unfold moveFromCr
  rw [bind_of_ok (run_privileged may), bind_of_ok (run_getS s), toWord_eq]
  cases c <;> rfl

theorem moveToCr0_refused {r : Reg} (pg : (s.regs.get r).getLsbD 31 = true) (pe : (s.regs.get r).getLsbD 0 = false) :
    moveToCr .cr0 r s = .error (.exc (.plain 13 (some 0)) false) s := by
  unfold moveToCr
  rw [bind_of_ok (run_privileged may), bind_of_ok (run_reg r s)]
  exact check_fails (by rw [pg, pe]; rfl) (run_raiseGP 0 s)

theorem moveToCr0_runs {r : Reg} (h : (s.regs.get r).getLsbD 31 = false ∨ (s.regs.get r).getLsbD 0 = true) :
    moveToCr .cr0 r s = (setCr0 (s.cr0.written (s.regs.get r)) >>= fun _ => drawAllFlags) s := by
  unfold moveToCr
  rw [bind_of_ok (run_privileged may), bind_of_ok (run_reg r s)]
  have passes : (!(s.regs.get r).getLsbD 31 || (s.regs.get r).getLsbD 0) = true := by
    rcases h with h | h <;> rw [h]
    · rfl
    · exact Bool.or_true _
  exact (check_passes passes).trans (bind_of_ok (run_getS s) _)

theorem moveToCr2_runs (r : Reg) :
    moveToCr .cr2 r s = ((upd fun t => { t with cr2 := s.regs.get r }) >>= fun _ => drawAllFlags) s := by
  unfold moveToCr
  rw [bind_of_ok (run_privileged may), bind_of_ok (run_reg r s)]

theorem moveToCr3_runs (r : Reg) : moveToCr .cr3 r s = ((upd fun t => { t with
    cr3 := BitVec.ofNat 32 ((s.regs.get r).toNat / 4096 * 4096), tlb := [] }) >>= fun _ => drawAllFlags) s := by
  unfold moveToCr
  rw [bind_of_ok (run_privileged may), bind_of_ok (run_reg r s), ← page_mask]

/-! ### MOV of debug registers -/

theorem debugAccess_detected (gd : s.dbg.dr7.getLsbD 13 = true) :
    debugAccess s = .error (.exc .generalDetect false) s := by
  unfold debugAccess
  rw [bind_of_ok (run_privileged may), bind_of_ok (run_getS s), run_check, gd]
  rfl

theorem debugAccess_ok (gd : s.dbg.dr7.getLsbD 13 = false) : debugAccess s = .ok () s := by
  unfold debugAccess
  rw [bind_of_ok (run_privileged may), bind_of_ok (run_getS s), run_check, gd]
  rfl

end

/-- Settles O45, instruction by instruction. -/
theorem controlRegisters : Obligations.ControlRegisters := by
  intro s c word
  have low : (BitVec.ofNat 16 word).toNat = word % 2 ^ 16 := BitVec.toNat_ofNat _ _
  refine ⟨fun m as s1 opened => ?_, fun q size => ?_, fun q size => ?_, fun may => ?_⟩
  · have stored := run_writeMem (v := (BitVec.ofNat 16 word).toNat) opened
    rw [low] at stored
    refine runInstr_of_ok (body := storeMsw (.mem m)) ((storeMsw_runs _ (past s)).trans (Eq.trans ?_ stored))
    rw [← low]
    rfl
  · refine runInstr_of_ok (body := storeMsw (.reg q)) ((storeMsw_runs _ (past s)).trans ?_)
    rw [show (past s).opSize = .s16 from size]
    rfl
  · obtain ⟨upper, k, stored⟩ := storeHalf_reg32 q (BitVec.ofNat 16 word) (past s)
    refine ⟨upper, k, runInstr_of_ok (body := storeMsw (.reg q)) ((storeMsw_runs _ (past s)).trans ?_)⟩
    rw [show (past s).opSize = .s32 from size]
    exact stored
  · have may : MayPrivileged (past s) := may
    refine ⟨fun m v s1 read => ?_, ?_, fun r n => ?_, fun r => ?_⟩
    · exact runInstr_of_ok (body := loadMsw m) (loadMsw_ok may read)
    · exact runInstr_of_ok (body := clearTs) (bind_of_ok (run_privileged may) _)
    · obtain ⟨f, k, only, ran⟩ := thenFlags (run_setReg r (crValue (past s) n) (past s))
      have done := runInstr_of_ok (body := moveFromCr r n) ((moveFromCr_runs may r n).trans ran)
      refine ⟨f, k, only, ?_⟩
      cases n <;> exact done
    · intro v
      refine ⟨fun pg pe => ?_, fun legal => ?_, ?_, ?_⟩
      · exact runInstr_of_exc (body := moveToCr .cr0 r) (moveToCr0_refused may pg pe)
      · obtain ⟨f, k, only, ran⟩ := thenFlags (run_setCr0 ((past s).cr0.written v) (past s))
        exact ⟨f, k, only, runInstr_of_ok (body := moveToCr .cr0 r) ((moveToCr0_runs may legal).trans ran)⟩
      · obtain ⟨f, k, only, ran⟩ := thenFlags (run_upd (fun t => { t with cr2 := v }) (past s))
        exact ⟨f, k, only, runInstr_of_ok (body := moveToCr .cr2 r) ((moveToCr2_runs may r).trans ran)⟩
      · obtain ⟨f, k, only, ran⟩ := thenFlags (run_upd (fun t => { t with
          cr3 := BitVec.ofNat 32 (v.toNat / 4096 * 4096), tlb := [] }) (past s))
        exact ⟨f, k, only, runInstr_of_ok (body := moveToCr .cr3 r) ((moveToCr3_runs may r).trans ran)⟩

/-- What MOV from a debug register gives; `u` is the free value of the reserved bits. -/
def debugValue (s : State) (n : BitVec 3) (u : Word) : Word :=
  if n = 4 ∨ n = 6 then (if s.cfg.hasDebugRegs then s.dbg.dr6 ||| (u &&& ~~~dr6Mask) else s.dbg.dr6)
  else if n = 5 ∨ n = 7 then s.dbg.dr7 else s.dbg.addr n.toNat

theorem moveFromDr_ok {s : State} (may : MayPrivileged s) (gd : s.dbg.dr7.getLsbD 13 = false) (r : Reg) (n : BitVec 3) :
    ∃ (u : Word) (f : Flags) (k : Nat), StatusOnly s.flags f ∧
      moveFromDr r n s = .ok () { s with regs := s.regs.set r (debugValue s n u), flags := f, draws := k } := by
  unfold moveFromDr debugValue
  rw [bind_of_ok (debugAccess_ok may gd), bind_of_ok (run_getS s)]
  by_cases six : n = 4 ∨ n = 6
  · obtain ⟨f, k, only, ran⟩ := thenFlags (run_setReg r
      (if s.cfg.hasDebugRegs then s.dbg.dr6 ||| (Config.freeWord s.draws &&& ~~~dr6Mask) else s.dbg.dr6)
      { s with draws := s.draws + 1 })
    refine ⟨Config.freeWord s.draws, f, k, only, ?_⟩
    rw [if_pos six, if_pos six]
    exact (bind_of_ok (run_drawWord s) _).trans ran
  · rw [if_neg six]
    by_cases seven : n = 5 ∨ n = 7
    · obtain ⟨f, k, only, ran⟩ := thenFlags (run_setReg r s.dbg.dr7 s)
      refine ⟨0, f, k, only, ?_⟩
      rw [if_pos seven, if_neg six, if_pos seven]
      exact ran
    · obtain ⟨f, k, only, ran⟩ := thenFlags (run_setReg r (s.dbg.addr n.toNat) s)
      refine ⟨0, f, k, only, ?_⟩
      rw [if_neg seven, if_neg six, if_neg seven]
      exact ran

theorem moveToDr_ok {s : State} (may : MayPrivileged s) (gd : s.dbg.dr7.getLsbD 13 = false) (r : Reg) (n : BitVec 3) :
    ∃ (f : Flags) (k : Nat), StatusOnly s.flags f ∧ moveToDr n r s = .ok () { s with
      dbg := s.dbg.set s.cfg.hasDebugRegs n (s.regs.get r), flags := f, draws := k } := by
  obtain ⟨f, k, only, ran⟩ := thenFlags (run_upd (fun t => { t with
    dbg := t.dbg.set t.cfg.hasDebugRegs n (s.regs.get r) }) s)
  refine ⟨f, k, only, ?_⟩
  unfold moveToDr
  exact (bind_of_ok (debugAccess_ok may gd) _).trans ((bind_of_ok (run_reg r s) _).trans ran)

/-- The bits of DR6 that the processor sets are read as they are. -/
theorem dr6_read (x u : Word) : (x ||| (u &&& ~~~dr6Mask)) &&& 0xE00F = x &&& 0xE00F := by
  have none : ~~~dr6Mask &&& 0xE00F = 0#32 := by decide
  rw [BitVec.and_comm, BitVec.and_or_distrib_left, BitVec.and_comm _ (u &&& _), BitVec.and_assoc, none, BitVec.and_zero,
    BitVec.or_zero, BitVec.and_comm]

/-- Settles O46: general detect, the values read, and the registers written. -/
theorem debugRegisters : Obligations.DebugRegisters := by
  intro s r n may d v gd
  have may : MayPrivileged (past s) := may
  refine ⟨fun on => ⟨?_, ?_⟩, fun off => ⟨?_, ?_⟩⟩
  · exact runInstr_of_exc (body := moveFromDr r n) (bind_of_error (debugAccess_detected may on) _)
  · exact runInstr_of_exc (body := moveToDr n r) (bind_of_error (debugAccess_detected may on) _)
  · obtain ⟨u, f, k, only, ran⟩ := moveFromDr_ok may off r n
    refine ⟨debugValue s n u, f, k, only, runInstr_of_ok (body := moveFromDr r n) ran, ?_, ?_, ?_, ?_, ?_, ?_⟩
    · rintro rfl; rfl
    · rintro rfl; rfl
    · rintro rfl; rfl
    · rintro rfl; rfl
    · rintro (rfl | rfl) <;> rfl
    · intro six
      unfold debugValue
      rw [if_pos six]
      cases s.cfg.hasDebugRegs with
      | true => exact dr6_read _ _
      | false => rfl
  · obtain ⟨f, k, only, ran⟩ := moveToDr_ok may off r n
    refine ⟨_, f, k, only, runInstr_of_ok (body := moveToDr n r) ran, ?_, ?_, ?_, ?_, ?_, ?_⟩
    · rintro rfl; rfl
    · rintro rfl; rfl
    · rintro rfl; rfl
    · rintro rfl; rfl
    · rintro (rfl | rfl) <;> rfl
    · rintro (rfl | rfl) <;> rfl

end Sys2Proof.Machine
end

section
/-!
PROOFS. The gates: privilege, protected mode, and the coprocessor (O48).
-/

namespace Sys2Proof.Machine

open Claims

/-! ### Privilege -/

theorem run_privileged_refused {s : State} (pe : s.cr0.pe = true) (ring : s.cpl ≠ 0) :
    privileged s = .error (.exc (.plain 13 (some 0)) false) s := by
  unfold privileged
  rw [bind_of_ok (run_getS s), run_check, if_neg, run_raiseGP]
  rw [pe, decide_eq_false ring, Bool.false_and]
  decide

theorem protectedOnly_refused {s : State} (real : s.protectedMode = false) :
    protectedOnly s = .error (.exc (.plain 6 none) false) s := by
  unfold protectedOnly
  rw [bind_of_ok (run_getS s), run_check, if_neg (by simp [real]), run_raiseUD]

/-- A privileged instruction is refused by its first step. -/
theorem privilegedForm_refused {s : State} {i : Instr} (h : PrivilegedForm i) (pe : s.cr0.pe = true) (ring : s.cpl ≠ 0) :
    faults i s (.plain 13 (some 0)) (past s) := by
  have refused := run_privileged_refused (s := past s) pe ring
  have debug : debugAccess (past s) = .error (.exc (.plain 13 (some 0)) false) (past s) := bind_of_error refused _
  cases h with
  | lgdtM m => exact runInstr_of_exc (body := loadGdt m) (bind_of_error refused _)
  | lidtM m => exact runInstr_of_exc (body := loadIdt m) (bind_of_error refused _)
  | lmswRm16 d => exact runInstr_of_exc (body := loadMsw d) (bind_of_error refused _)
  | clts => exact runInstr_of_exc (body := clearTs) (bind_of_error refused _)
  | movRCr r c => exact runInstr_of_exc (body := moveFromCr r c) (bind_of_error refused _)
  | movCrR c r => exact runInstr_of_exc (body := moveToCr c r) (bind_of_error refused _)
  | movRDr r n => exact runInstr_of_exc (body := moveFromDr r n) (bind_of_error debug _)
  | movDrR n r => exact runInstr_of_exc (body := moveToDr n r) (bind_of_error debug _)
  | hlt =>
    refine runInstr_of_exc (body := halt) (halt_refused ?_)
    rintro (real | zero)
    · exact absurd (pe.symm.trans real) (by decide)
    · exact ring zero

/-- An instruction of protected mode is refused by its first step. -/
theorem protectedForm_refused {s : State} {i : Instr} (h : ProtectedForm i) (real : s.protectedMode = false) :
    faults i s (.plain 6 none) (past s) := by
  have refused := protectedOnly_refused (s := past s) real
  cases h with
  | sldtRm16 d => exact runInstr_of_exc (body := storeLdt d) (bind_of_error refused _)
  | strRm16 d => exact runInstr_of_exc (body := storeTask d) (bind_of_error refused _)
  | lldtRm16 d => exact runInstr_of_exc (body := loadLdt d) (bind_of_error refused _)
  | ltrRm16 d => exact runInstr_of_exc (body := loadTask d) (bind_of_error refused _)
  | verrRm16 d => exact runInstr_of_exc (body := verify Desc.readable d) (bind_of_error refused _)
  | verwRm16 d => exact runInstr_of_exc (body := verify Desc.writableData d) (bind_of_error refused _)
  | larRRm16 r m =>
    exact runInstr_of_exc (body := atSize fun w => describe w r m larTypes accessRights) (bind_of_error refused _)
  | lslRRm16 r m =>
    exact runInstr_of_exc (body := atSize fun w => describe w r m lslTypes Desc.limit) (bind_of_error refused _)
  | arplRm16R16 d r => exact runInstr_of_exc (body := adjustRpl d r) (bind_of_error refused _)

/-! ### The gate of escape instructions -/

theorem escapeGate_unavailable {s : State} (h : s.cr0.em = true ∨ s.cr0.ts = true) :
    escapeGate s = .error (.exc (.plain 7 none) false) s := by
  unfold escapeGate
  rw [bind_of_ok (run_getS s)]
  refine check_fails ?_ (run_raiseNM s)
  rcases h with h | h <;> rw [h]
  · rfl
  · exact Bool.and_false _

theorem escapeGate_absent {s : State} (em : s.cr0.em = false) (ts : s.cr0.ts = false) (absent : s.cfg.hasX87 = false) :
    escapeGate s = .error (.refuse .noCoprocessor) s := by
  unfold escapeGate
  rw [bind_of_ok (run_getS s), check_passes (by rw [em, ts]; rfl), run_check, if_neg (by simp [absent]), run_stop]

theorem noWaitForm_gated {i : Instr} (h : NoWaitForm i) (s : State) : ∃ body, exec i s = runInstr (noWait body) s := by
  cases h <;> exact ⟨_, rfl⟩

theorem waitingForm_gated {i : Instr} (h : WaitingForm i) (s : State) : ∃ body, exec i s = runInstr (waiting body) s := by
  cases h with
  | fxchSt i =>
    have body : exec (.fxchSt i) s = runInstr (fxchRegs i) s := rfl
    unfold fxchRegs at body
    split at body
    · exact ⟨_, body⟩
    · exact ⟨_, body⟩
  | _ => exact ⟨_, rfl⟩

theorem gated {i : Instr} (h : NoWaitForm i ∨ WaitingForm i) (s : State) :
    ∃ body, exec i s = runInstr (escapeGate >>= fun _ => body) s := by
  rcases h with h | h
  · obtain ⟨body, e⟩ := noWaitForm_gated h s
    exact ⟨body, e⟩
  · obtain ⟨body, e⟩ := waitingForm_gated h s
    exact ⟨_, e⟩

/-- Settles O48: each instruction stops at its first check. -/
theorem privilegeAndEscapeGates : Obligations.PrivilegeAndEscapeGates := by
  refine ⟨⟨fun s i form pe ring => privilegedForm_refused form pe ring, fun s m prot ring => ?_,
    fun s i form real => protectedForm_refused form real⟩, fun s i form => ⟨fun off => ?_, fun em ts absent => ?_, ?_⟩⟩
  · have passed := run_protectedOnly (s := past s) prot
    have pe : s.cr0.pe = true := (Bool.and_eq_true_iff.mp prot).1
    have refused := run_privileged_refused (s := past s) pe ring
    exact ⟨runInstr_of_exc (body := loadLdt m) ((bind_of_ok passed _).trans (bind_of_error refused _)),
      runInstr_of_exc (body := loadTask m) ((bind_of_ok passed _).trans (bind_of_error refused _))⟩
  · obtain ⟨body, gate⟩ := gated form s
    exact gate.trans (runInstr_of_exc (bind_of_error (escapeGate_unavailable (s := past s) off) _))
  · obtain ⟨body, gate⟩ := gated form s
    have stopped : (escapeGate >>= fun _ => body) (past s) = .error (.refuse .noCoprocessor) (past s) :=
      bind_of_error (escapeGate_absent (s := past s) em ts absent) _
    rw [gate]
    unfold runInstr
    rw [show (escapeGate >>= fun _ => body) { s with eip := s.ins.nextEip } = _ from stopped]
  · intro em ts present es viaMf form
    obtain ⟨body, gate⟩ := waitingForm_gated form s
    have entered := run_escapeGate (s := past s) ⟨em, ts, present⟩
    have pending := reportPending_mf (s := past s) es viaMf
    exact gate.trans (runInstr_of_exc ((bind_of_ok entered _).trans (bind_of_error pending _)))

end Sys2Proof.Machine
end

section
/-!
PROOFS. LAR, LSL, VERR, VERW and ARPL (O47).
-/

namespace Sys2Proof.Machine

open Claims

/-! ### The descriptor that a selector shows -/

/-- The level of the program and of the selector may see the descriptor. -/
def Seen (s : State) (sel : Half) (d : Desc) : Prop :=
  d.conforming = true ∨ (s.cpl ≤ d.dpl ∧ sel.toNat % 4 ≤ d.dpl.toNat)

theorem seen_iff (s : State) (sel : Half) (d : Desc) :
    (d.conforming || (decide (s.cpl ≤ d.dpl) && decide (selRpl sel ≤ d.dpl))) = true ↔ Seen s sel d := by
  rw [Bool.or_eq_true, Bool.and_eq_true, decide_eq_true_eq, decide_eq_true_eq, BitVec.le_def (x := selRpl sel), toNat_selRpl]
  rfl

theorem visibleDesc_none {s : State} {sel : Half} (h : sel.toNat / 4 = 0 ∨ s.descAddr sel = none) :
    visibleDesc sel s = .ok none s := by
  have hidden : (if selNull sel then none else s.descAddr sel) = none := by
    rcases h with null | outside
    · rw [(selNull_iff sel).mpr null, if_pos rfl]
    · rw [outside, ite_self]
  unfold visibleDesc
  rw [bind_of_ok (run_getS s)]
  simp only [hidden, run_pure]

theorem visibleDesc_read {s s1 : State} {sel : Half} {a : Word} {v : Nat} (proper : sel.toNat / 4 ≠ 0)
    (named : s.descAddr sel = some a) (read : linRead a 8 s = .ok v s1) :
    (Seen s sel (BitVec.ofNat 64 v) → visibleDesc sel s = .ok (some (BitVec.ofNat 64 v)) s1) ∧
    (¬Seen s sel (BitVec.ofNat 64 v) → visibleDesc sel s = .ok none s1) := by
  have shown : (if selNull sel then none else s.descAddr sel) = some a := by
    rw [if_neg fun null => proper ((selNull_iff sel).mp null), named]
  have ran : visibleDesc sel s = .ok (if Desc.conforming (BitVec.ofNat 64 v) ||
      (decide (s.cpl ≤ Desc.dpl (BitVec.ofNat 64 v)) && decide (selRpl sel ≤ Desc.dpl (BitVec.ofNat 64 v)))
      then some (BitVec.ofNat 64 v) else none) s1 := by
    unfold visibleDesc
    rw [bind_of_ok (run_getS s)]
    simp only [shown]
    exact bind_of_ok read _
  refine ⟨fun seen => ?_, fun unseen => ?_⟩
  · rw [ran, if_pos ((seen_iff s sel _).mpr seen)]
  · rw [ran, if_neg fun seen => unseen ((seen_iff s sel _).mp seen)]

/-! ### The instructions on what is seen -/

section

variable {s s1 s2 : State} {m : RM} {sel : Half} (prot : s.protectedMode = true)
  (read : readOp .w16 (rmOp m) s = .ok sel s1)

include prot read

theorem verify_gives {ok : Desc → Bool} {x : Option Desc} (shown : visibleDesc sel s1 = .ok x s2) :
    verify ok m s = .ok () { s2 with flags := { s2.flags with zf := x.any ok } } := by
  unfold verify setZf
  rw [bind_of_ok (run_protectedOnly prot), bind_of_ok read, bind_of_ok shown, run_updFlags]

theorem describe_none {w : Width} {r : Reg} {types : List (BitVec 4)} {value : Desc → Word} {x : Option Desc}
    (shown : visibleDesc sel s1 = .ok x s2) (unfit : (x.filter fun d => d.s || d.isSystem types) = none) :
    describe w r m types value s = .ok () { s2 with flags := { s2.flags with zf := false } } := by
  unfold describe setZf
  rw [bind_of_ok (run_protectedOnly prot), bind_of_ok read, bind_of_ok shown]
  simp only [unfit]
  rw [run_updFlags]

theorem describe_some {w : Width} {r : Reg} {types : List (BitVec 4)} {value : Desc → Word} {x : Option Desc} {d : Desc}
    (shown : visibleDesc sel s1 = .ok x s2) (fit : (x.filter fun d => d.s || d.isSystem types) = some d) :
    describe w r m types value s = .ok () { s2 with
      regs := putReg w s2.regs r ((value d).setWidth w.bits), flags := { s2.flags with zf := true } } := by
  unfold describe setZf
  rw [bind_of_ok (run_protectedOnly prot), bind_of_ok read, bind_of_ok shown]
  simp only [fit]
  rw [bind_of_ok (run_writeReg _ _ _ _), run_updFlags]

end

/-- A segment descriptor, or a system descriptor of one of the types. -/
theorem fits_iff (d : Desc) (types : List (BitVec 4)) : (d.s || d.isSystem types) = true ↔ d.s = true ∨ d.type ∈ types := by
  rw [Bool.or_eq_true, Desc.isSystem_iff]
  cases d.s <;> simp

theorem accessRights_eq (d : Desc) : accessRights d = BitVec.ofNat 32 (d.toNat / 2 ^ 32) &&& 0x00F0FF00 := by
  have high : d.extractLsb' 32 32 = BitVec.ofNat 32 (d.toNat / 2 ^ 32) := by
    apply BitVec.eq_of_toNat_eq
    rw [BitVec.extractLsb'_toNat, BitVec.toNat_ofNat, Nat.shiftRight_eq_div_pow]
  unfold accessRights
  rw [high]

theorem exec_verr (m : RM) (s : State) : exec (.verrRm16 m) s = runInstr (verify Desc.readable m) s := rfl

theorem exec_verw (m : RM) (s : State) : exec (.verwRm16 m) s = runInstr (verify Desc.writableData m) s := rfl

theorem exec_lar (r : Reg) (m : RM) (s : State) :
    exec (.larRRm16 r m) s = runInstr (describe s.width r m larTypes accessRights) s := runInstr_congr (by rfl)

theorem exec_lsl (r : Reg) (m : RM) (s : State) :
    exec (.lslRRm16 r m) s = runInstr (describe s.width r m lslTypes Desc.limit) s := runInstr_congr (by rfl)

/-! ### VERR, VERW, LAR and LSL -/

section

variable {s s1 s2 : State} {m : RM} {sel : Half} (prot : s.protectedMode = true)
  (read : readOp .w16 (rmOp m) (past s) = .ok sel s1)

include prot read

theorem verify_hidden {ok : Desc → Bool} {i : Instr} (form : exec i s = runInstr (verify ok m) s)
    (shown : visibleDesc sel s1 = .ok none s2) (flags : s2.flags = s.flags) :
    exec i s = .next { s2 with flags := { s.flags with zf := false } } := by
  have ran := verify_gives (s := past s) (ok := ok) prot read shown
  rw [flags] at ran
  exact form.trans (runInstr_of_ok ran)

theorem verify_seen {ok : Desc → Bool} {i : Instr} {d : Desc} (form : exec i s = runInstr (verify ok m) s)
    (flags : s2.flags = s.flags)
    (shown : (Seen s sel d → visibleDesc sel s1 = .ok (some d) s2) ∧ (¬Seen s sel d → visibleDesc sel s1 = .ok none s2)) :
    (Seen s sel d → ok d = true → exec i s = .next { s2 with flags := { s.flags with zf := true } }) ∧
    (¬(Seen s sel d ∧ ok d = true) → exec i s = .next { s2 with flags := { s.flags with zf := false } }) := by
  refine ⟨fun seen good => ?_, fun bad => ?_⟩
  · have ran := verify_gives (s := past s) (ok := ok) prot read (shown.1 seen)
    rw [flags, Option.any_some, good] at ran
    exact form.trans (runInstr_of_ok ran)
  · by_cases seen : Seen s sel d
    · have ran := verify_gives (s := past s) (ok := ok) prot read (shown.1 seen)
      rw [flags, Option.any_some, Bool.eq_false_iff.mpr fun good => bad ⟨seen, good⟩] at ran
      exact form.trans (runInstr_of_ok ran)
    · exact verify_hidden prot read form (shown.2 seen) flags

theorem describe_hidden {r : Reg} {types : List (BitVec 4)} {value : Desc → Word} {i : Instr}
    (form : exec i s = runInstr (describe s.width r m types value) s) (shown : visibleDesc sel s1 = .ok none s2)
    (flags : s2.flags = s.flags) : exec i s = .next { s2 with flags := { s.flags with zf := false } } := by
  have ran := describe_none (s := past s) (w := s.width) (r := r) (types := types) (value := value) prot read shown rfl
  rw [flags] at ran
  exact form.trans (runInstr_of_ok ran)

theorem describe_seen {r : Reg} {types : List (BitVec 4)} {value : Desc → Word} {i : Instr} {d : Desc}
    (form : exec i s = runInstr (describe s.width r m types value) s) (flags : s2.flags = s.flags)
    (shown : (Seen s sel d → visibleDesc sel s1 = .ok (some d) s2) ∧ (¬Seen s sel d → visibleDesc sel s1 = .ok none s2)) :
    (Seen s sel d → d.s = true ∨ d.type ∈ types → exec i s = .next { s2 with
      regs := putReg s.width s2.regs r ((value d).setWidth s.width.bits), flags := { s.flags with zf := true } }) ∧
    (¬(Seen s sel d ∧ (d.s = true ∨ d.type ∈ types)) →
      exec i s = .next { s2 with flags := { s.flags with zf := false } }) := by
  refine ⟨fun seen fit => ?_, fun bad => ?_⟩
  · have kept : ((some d).filter fun d => d.s || d.isSystem types) = some d := by
      rw [Option.filter_some, if_pos ((fits_iff d types).mpr fit)]
    have ran := describe_some (s := past s) (w := s.width) (r := r) (value := value) prot read (shown.1 seen) kept
    rw [flags] at ran
    exact form.trans (runInstr_of_ok ran)
  · by_cases seen : Seen s sel d
    · have dropped : ((some d).filter fun d => d.s || d.isSystem types) = none := by
        rw [Option.filter_some, if_neg fun fit => bad ⟨seen, (fits_iff d types).mp fit⟩]
      have ran := describe_none (s := past s) (w := s.width) (r := r) (value := value) prot read (shown.1 seen) dropped
      rw [flags] at ran
      exact form.trans (runInstr_of_ok ran)
    · exact describe_hidden prot read form (shown.2 seen) flags

end

/-! ### ARPL -/

theorem low16_rpl (g : Regs) (r : Reg) : (selRpl (g.get16 r)).toNat = (g.get r).toNat % 4 := by
  rw [toNat_selRpl, show g.get16 r = (g.get r).setWidth 16 from rfl, BitVec.toNat_setWidth]
  omega

section

variable {s s1 : State} {d : RM} {r : Reg} {as : List Word} (prot : s.protectedMode = true)
  (opened : openDest .w16 (rmOp d) s = .ok as s1)

include prot opened

theorem adjustRpl_raises (low : (destValue .w16 (rmOp d) as s1).toNat % 4 < (s.regs.get r).toNat % 4) :
    adjustRpl d r s = .ok () { putDest .w16 (rmOp d) as
      (BitVec.ofNat 16 ((destValue .w16 (rmOp d) as s1).toNat / 4 * 4 + (s.regs.get r).toNat % 4)) s1 with
      flags := { s1.flags with zf := true } } := by
  have less : selRpl (destValue .w16 (rmOp d) as s1) < selRpl (s.regs.get16 r) := by
    rw [BitVec.lt_def, low16_rpl]
    exact (toNat_selRpl _).trans_lt low
  unfold adjustRpl
  rw [bind_of_ok (run_protectedOnly prot), bind_of_ok (run_getS s)]
  refine (modify_of_some (r := withRpl (destValue .w16 (rmOp d) as s1) (selRpl (s.regs.get16 r)))
    (u := { s1 with flags := { s1.flags with zf := true } }) opened ?_).trans ?_
  · unfold setZf
    rw [bind_of_ok (run_updFlags _ _), decide_eq_true less, if_pos less, run_pure]
  · rw [putDest_flags, withRpl_eq, low16_rpl]

theorem adjustRpl_keeps (high : (s.regs.get r).toNat % 4 ≤ (destValue .w16 (rmOp d) as s1).toNat % 4) :
    adjustRpl d r s = .ok () { s1 with flags := { s1.flags with zf := false } } := by
  have notLess : ¬selRpl (destValue .w16 (rmOp d) as s1) < selRpl (s.regs.get16 r) := by
    rw [BitVec.lt_def, low16_rpl, not_lt]
    exact high.trans_eq (toNat_selRpl _).symm
  unfold adjustRpl
  rw [bind_of_ok (run_protectedOnly prot), bind_of_ok (run_getS s)]
  refine modify_of_none opened ?_
  unfold setZf
  rw [bind_of_ok (run_updFlags _ _), decide_eq_false notLess, if_neg notLess, run_pure]

end

/-- Settles O47: hidden and seen descriptors for the four checks, and the two cases of ARPL. -/
theorem selectorChecks : Obligations.SelectorChecks := by
  refine ⟨?_, ?_⟩
  · intro s m r sel s1 prot read no
    have same := (Confined.readOp _ _).ok read
    have table : s1.descAddr sel = descriptorAt s sel := (same.descAddr sel).trans (descAddr_eq s sel)
    have flags1 : s1.flags = s.flags := same.flags
    refine ⟨fun hidden => ?_, ?_⟩
    · rw [← table] at hidden
      have shown := visibleDesc_none hidden
      exact ⟨verify_hidden prot read (exec_verr m s) shown flags1, verify_hidden prot read (exec_verw m s) shown flags1,
        describe_hidden prot read (exec_lar r m s) shown flags1, describe_hidden prot read (exec_lsl r m s) shown flags1⟩
    · intro proper a v s2 named readD d seen set give
      rw [← table] at named
      have flags2 : s2.flags = s.flags := ((Confined.linRead _ _).ok readD).flags.trans flags1
      have level : ∀ d, Seen s1 sel d ↔ Seen s sel d := fun d => by
        unfold Seen
        rw [show s1.cpl = s.cpl from same.cpl]
      have shown := visibleDesc_read proper named readD
      rw [level] at shown
      have verr := verify_seen prot read (exec_verr m s) flags2 shown
      have verw := verify_seen prot read (exec_verw m s) flags2 shown
      have lar := describe_seen prot read (exec_lar r m s) flags2 shown
      have lsl := describe_seen prot read (exec_lsl r m s) flags2 shown
      rw [accessRights_eq] at lar
      have limit : (segmentOf sel d).limit = d.limit := (segmentOf_fields sel d).2
      rw [limit]
      exact ⟨verr.1, verr.2, verw.1, verw.2, lar.1, lar.2, lsl.1, lsl.2⟩
  · intro s d r as s1 prot opened a rpl
    have same := Touches.flags ((Confined.openDest _ _).ok opened)
    have same : s1.flags = s.flags := same
    refine ⟨fun low => ?_, fun high => ?_⟩
    · have ran := adjustRpl_raises (s := past s) prot opened low
      rw [same] at ran
      exact runInstr_of_ok (body := adjustRpl d r) ran
    · have ran := adjustRpl_keeps (s := past s) prot opened high
      rw [same] at ran
      exact runInstr_of_ok (body := adjustRpl d r) ran

end Sys2Proof.Machine
end

section
/-!
PROOFS. The quiet layer: what the parts of far transfers and deliveries do in an unpaged state where no breakpoint watches
data (stack slots, far return addresses, descriptors and their Accessed bit).
-/

namespace Sys2Proof.Machine

open Claims

/-! ### Quiet states -/

theorem quiet_past {s : State} (h : quiet s) : quiet (past s) := ⟨h.1, h.2⟩

theorem Touches.quiet {s t : State} (same : Touches s t) (h : quiet s) : quiet t := by
  unfold Claims.quiet
  rw [same.cr0, same.dbg]
  exact h

/-- Far transfers leave the tables of descriptors where they are. -/
theorem descAddr_congr {s t : State} (gdtr : t.gdtr = s.gdtr) (ldtr : t.ldtr = s.ldtr) (sel : Half) :
    t.descAddr sel = s.descAddr sel := by
  unfold State.descAddr State.tableOf
  rw [gdtr, ldtr]

/-! ### Stack slots -/

/-- The low two bytes of a longer load. -/
theorem load_low (m : Memory) (a : Word) (n : Nat) :
    Memory.load m (addrs a (n + 2)) % 2 ^ 16 = Memory.load m (addrs a 2) := by
  have b0 := (Memory.read m a.toNat).isLt
  have b1 := (Memory.read m (a + 1).toNat).isLt
  simp only [addrs, Memory.load]
  omega

theorem slotV_quiet {s : State} (h : quiet s) {o : Size} {k : Nat}
    (inside : Within s.segs.ss (slotAbove s k) (sizeBytes o)) :
    slotV o k s = .ok (BitVec.ofNat 32 (stackLoad s k (sizeBytes o))) s := by
  unfold slotV
  rw [bind_of_ok (peek_quiet h (sizeBytes_pos o) inside), run_pure]

theorem slotSel_quiet {s : State} (h : quiet s) {o : Size} {k : Nat}
    (inside : Within s.segs.ss (slotAbove s k) (sizeBytes o)) :
    slotSel o k s = .ok (BitVec.ofNat 16 (stackLoad s k 2)) s := by
  have low : (BitVec.ofNat 32 (stackLoad s k (sizeBytes o))).setWidth 16 = BitVec.ofNat 16 (stackLoad s k 2) := by
    have bytes : ∃ n, sizeBytes o = n + 2 := by cases o <;> exact ⟨_, rfl⟩
    obtain ⟨n, bytes⟩ := bytes
    have cut : stackLoad s k (n + 2) % 2 ^ 16 = stackLoad s k 2 := load_low _ _ _
    apply BitVec.eq_of_toNat_eq
    rw [bytes, BitVec.toNat_setWidth, BitVec.toNat_ofNat, BitVec.toNat_ofNat, ← cut]
    omega
  unfold slotSel
  rw [bind_of_ok (slotV_quiet h inside), run_pure, low]

theorem checkSlots_within {s : State} {n : Nat} (pos : 0 < n) {ks : List Nat}
    (inside : ∀ k ∈ ks, Within s.segs.ss (slotAbove s k) n) : checkSlots n ks s = .ok () s := by
  induction ks with
  | nil => rfl
  | cons k ks ih =>
    unfold checkSlots
    refine (bind_of_ok (run_getS s) _).trans ((check_passes ((inLimit_iff pos).mpr (inside k List.mem_cons_self))).trans ?_)
    exact ih fun j hj => inside j (List.mem_cons_of_mem k hj)

theorem roomForReturn_ok {s : State} {n : Nat} (pos : 0 < n) (room : Room s n 2) : roomForReturn n s = .ok () s := by
  unfold roomForReturn
  rw [bind_of_ok (run_getS s), roomFor_ok (Room.inLimit pos room)]

theorem pushFarReturn_quiet {s : State} (h : quiet s) {n : Nat} (pos : 0 < n) (room : Room s n 2) :
    pushFarReturn n s = .ok () (pushed s n [s.segs.cs.selector.toNat, s.eip.toNat]) := by
  unfold pushFarReturn
  exact (bind_of_ok (run_getS s) _).trans (pushAll_quiet h pos room)

/-! ### Code segments -/

theorem loadCsReal_ok (sel : Half) (t : Word) (s : State) :
    (loadCsReal sel >>= fun _ => setEip t) s = .ok () (atRealCs s sel t) := by
  have base := selector_shifted sel
  unfold loadCsReal SegReg.realLoad atRealCs
  rw [bind_of_ok (run_upd _ s), run_setEip, base]
  rfl

theorem linWriteSysByte_unpaged {s : State} (h : s.cr0.pg = false) (a : Word) (v : Byte) :
    linWriteSysByte a v s = .ok () { s with
      mem := Memory.write s.mem a.toNat v, ins := { s.ins with sysLog := s.ins.sysLog ++ [(a.toNat, v)] } } := by
  unfold linWriteSysByte
  rw [bind_of_ok (physOf_unpaged h a 1 true false)]
  rfl

theorem setAccessed_unpaged {s : State} (h : s.cr0.pg = false) {sel : Half} {a : Word} (named : s.descAddr sel = some a)
    (d : Desc) : setAccessed sel d s = .ok () (touched a d s) := by
  unfold setAccessed touched
  by_cases accessed : d.getLsbD 40 = true
  · rw [accessed, run_onlyIf, if_neg (by decide), if_pos rfl]
  · rw [Bool.eq_false_of_not_eq_true accessed, run_onlyIf, if_pos (by rfl), if_neg (by decide)]
    unfold writeAccess
    rw [bind_of_ok (run_getS s)]
    simp only [named]
    exact linWriteSysByte_unpaged h _ _

theorem loadSeg_unpaged {s : State} (h : s.cr0.pg = false) {sel : Half} {a : Word} (named : s.descAddr sel = some a)
    (r : SReg) (d : Desc) :
    loadSeg r sel d s = .ok () { touched a d s with segs := (touched a d s).segs.set r (segmentOf sel d) } := by
  unfold loadSeg
  rw [bind_of_ok (setAccessed_unpaged h named d), run_setSeg, segOf_eq]

/-- The table entry of a selector does not depend on its RPL. -/
theorem descAddr_withRpl (s : State) (sel : Half) (rpl : BitVec 2) : s.descAddr (withRpl sel rpl) = s.descAddr sel := by
  have small := sel.isLt
  have low := rpl.isLt
  have index : (withRpl sel rpl).toNat / 4 = sel.toNat / 4 := by
    rw [withRpl_eq, BitVec.toNat_ofNat]
    omega
  have entry : (withRpl sel rpl).toNat / 8 = sel.toNat / 8 := by omega
  rw [descAddr_eq, descAddr_eq]
  unfold descriptorAt
  rw [index, entry]

theorem loadCs_unpaged {s : State} (h : s.cr0.pg = false) {sel : Half} {a : Word} (named : s.descAddr sel = some a)
    (d : Desc) (level : BitVec 2) : loadCs sel d level s = .ok () { touched a d s with
      segs := (touched a d s).segs.set .cs (segmentOf (BitVec.ofNat 16 (sel.toNat / 4 * 4 + level.toNat)) d) } := by
  unfold loadCs
  rw [loadSeg_unpaged h (by rw [descAddr_withRpl, named]), withRpl_eq]

@[simp] theorem touched_segs (a : Word) (d : Desc) (s : State) : (touched a d s).segs = s.segs := by
  unfold touched
  split <;> rfl

@[simp] theorem touched_regs (a : Word) (d : Desc) (s : State) : (touched a d s).regs = s.regs := by
  unfold touched
  split <;> rfl

@[simp] theorem touched_gdtr (a : Word) (d : Desc) (s : State) : (touched a d s).gdtr = s.gdtr := by
  unfold touched
  split <;> rfl

@[simp] theorem touched_ldtr (a : Word) (d : Desc) (s : State) : (touched a d s).ldtr = s.ldtr := by
  unfold touched
  split <;> rfl

@[simp] theorem touched_cr0 (a : Word) (d : Desc) (s : State) : (touched a d s).cr0 = s.cr0 := by
  unfold touched
  split <;> rfl

@[simp] theorem touched_flags (a : Word) (d : Desc) (s : State) : (touched a d s).flags = s.flags := by
  unfold touched
  split <;> rfl

/-! ### Descriptors that are named -/

section

variable {s : State} {sel : Half} {a : Word} {d : Desc} (names : Names s sel a d)

include names

theorem names_proper : selNull sel = false :=
  Bool.eq_false_iff.mpr fun null => names.1 ((selNull_iff sel).mp null)

theorem names_addr : s.descAddr sel = some a := (descAddr_eq s sel).trans names.2.1

/-- A named descriptor is read, in any state with the same tables and memory. -/
theorem names_read {t : State} (mem : t.mem = s.mem) (gdtr : t.gdtr = s.gdtr) (ldtr : t.ldtr = s.ldtr)
    (unpaged : t.cr0.pg = false) (outside : M Desc) : readDesc sel outside t = .ok d t := by
  rw [readDesc_at ((descAddr_congr gdtr ldtr sel).trans (names_addr names)) unpaged, mem, ← names.2.2]

end

theorem codeOf_level {d : Desc} {n : BitVec 2} (h : CodeOf d n.toNat) :
    (if d.conforming then decide (d.dpl ≤ n) else decide (d.dpl = n)) = true := by
  obtain ⟨-, -, level⟩ := h
  cases conf : d.conforming with
  | true =>
    rw [conf, if_pos rfl] at level
    exact decide_eq_true (BitVec.le_def.mpr level)
  | false =>
    rw [conf, if_neg (by decide)] at level
    exact decide_eq_true (BitVec.eq_of_toNat_eq level)

end Sys2Proof.Machine
end

section
/-!
PROOFS. Far JMP, CALL and RET in real-address and virtual-8086 mode (O33).
-/

namespace Sys2Proof.Machine

open Claims

/-! ### The transfers -/

section

variable {s : State} {o : Size} {sel : Half} {off : Word}

theorem farReal_jmp_ok (inside : sizeTrunc o off ≤ s.segs.cs.limit) :
    farReal .jmp o sel off s = .ok () (atRealCs s sel (sizeTrunc o off)) := by
  unfold farReal
  rw [bind_of_ok (run_getS s), bind_of_ok (run_onlyIf_stay (by rfl)), bind_of_ok (checkTarget_ok inside 0),
    bind_of_ok (run_onlyIf_stay (by rfl)), loadCsReal_ok]

theorem farReal_jmp_beyond (beyond : s.segs.cs.limit < sizeTrunc o off) :
    farReal .jmp o sel off s = .error (.exc (.plain 13 (some 0)) false) s := by
  unfold farReal
  rw [bind_of_ok (run_getS s), bind_of_ok (run_onlyIf_stay (by rfl)), bind_of_error (checkTarget_beyond beyond 0)]

theorem farReal_call_ok (h : quiet s) (room : Room s (sizeBytes o) 2) (small : sizeTrunc o off ≤ 0xFFFF)
    (inside : sizeTrunc o off ≤ s.segs.cs.limit) :
    farReal .call o sel off s = .ok ()
      (atRealCs (pushed s (sizeBytes o) [s.segs.cs.selector.toNat, s.eip.toNat]) sel (sizeTrunc o off)) := by
  have pos := sizeBytes_pos o
  have checks : onlyIf (decide (FarKind.call = .call)) (do
      roomForReturn (sizeBytes o)
      check (decide (sizeTrunc o off ≤ 0xFFFF)) (raiseGP 0)) s = .ok () s := by
    rw [run_onlyIf_do (by rfl), bind_of_ok (roomForReturn_ok pos room), run_check, if_pos (decide_eq_true small)]
  unfold farReal
  refine (bind_of_ok (run_getS s) _).trans ((bind_of_ok checks _).trans ?_)
  rw [bind_of_ok (checkTarget_ok inside 0),
    bind_of_ok ((run_onlyIf_do (by rfl)).trans (pushFarReturn_quiet h pos room)), loadCsReal_ok]

theorem farTransfer_real (k : FarKind) (real : s.protectedMode = false) :
    farTransfer k sel off s = farReal k s.opSize sel off s := by
  unfold farTransfer
  rw [bind_of_ok (run_getS s), if_neg (by simp [real])]

/-- What a far return pops, `m` bytes and then `imm` more, around the new CS and EIP. -/
theorem popThenReal {t : Word} (m imm : Nat) : (do
      popBytes m
      setEip t
      loadCsReal sel
      popBytes imm) s = .ok () (atRealCs { s with
        regs := s.regs.setV s.stackSize .esp (s.sp + BitVec.ofNat 32 m + BitVec.ofNat 32 imm) } sel t) := by
  have base := selector_shifted sel
  have moved := popBytes_moved (g := s.regs) (v := s.sp + BitVec.ofNat 32 m)
    (u := { s with regs := s.regs.setV s.stackSize .esp (s.sp + BitVec.ofNat 32 m), eip := t,
                   segs := { s.segs with cs := s.segs.cs.realLoad sel } }) imm rfl
  refine (bind_of_ok (run_popBytes m s) _).trans ((bind_of_ok (run_setEip t _) _).trans ?_)
  refine (bind_of_ok (run_upd _ _) _).trans (moved.trans ?_)
  unfold SegReg.realLoad atRealCs
  rw [base]
  rfl

theorem returnFarReal_ok (h : quiet s) {imm : Nat} (low : Within s.segs.ss (slotAbove s 0) (sizeBytes o))
    (high : Within s.segs.ss (slotAbove s (sizeBytes o)) (sizeBytes o))
    (inside : BitVec.ofNat 32 (stackLoad s 0 (sizeBytes o)) ≤ s.segs.cs.limit) :
    returnFarReal o imm s = .ok () (atRealCs { s with
      regs := s.regs.setV s.stackSize .esp (s.sp + BitVec.ofNat 32 (2 * sizeBytes o) + BitVec.ofNat 32 imm) }
      (BitVec.ofNat 16 (stackLoad s (sizeBytes o) 2)) (BitVec.ofNat 32 (stackLoad s 0 (sizeBytes o)))) := by
  have slots : checkSlots (sizeBytes o) [0, sizeBytes o] s = .ok () s := checkSlots_within (sizeBytes_pos o) (by simp [low, high])
  unfold returnFarReal
  refine (bind_of_ok (run_getS s) _).trans ((bind_of_ok slots _).trans ?_)
  rw [bind_of_ok (slotV_quiet h low), bind_of_ok (slotSel_quiet h high), bind_of_ok (checkTarget_ok inside 0)]
  exact popThenReal _ _

end

/-! ### The instructions -/

theorem exec_farForm {s : State} {i : Instr} {k : FarKind} {sel : Half} {off : Word} (h : FarForm i k sel off) :
    exec i s = runInstr (farTransfer k sel off) s := by
  cases h <;> rfl

theorem exec_farMemForm {s : State} {i : Instr} {k : FarKind} {m : MemOp} (h : FarMemForm i k m) :
    exec i s = runInstr (farIndirect k m) s := by
  cases h <;> rfl

theorem exec_retFarForm {s : State} {i : Instr} {imm : Half} (h : RetFarForm i imm) :
    exec i s = runInstr (returnFar imm) s := by
  cases h <;> rfl

theorem farIndirect_read {k : FarKind} {m : MemOp} {v : Nat} {s s1 : State}
    (read : readMem m (s.width.bytes + 2) s = .ok v s1) :
    farIndirect k m s = farTransfer k (BitVec.ofNat 16 (v / 256 ^ s.width.bytes))
      (BitVec.ofNat 32 (v % 256 ^ s.width.bytes)) s1 := by
  rw [width_bytes] at read ⊢
  have pointer : readFarPtr s.opSize m s =
      .ok (BitVec.ofNat 16 (v / 256 ^ sizeBytes s.opSize), BitVec.ofNat 32 (v % 256 ^ sizeBytes s.opSize)) s1 := by
    unfold readFarPtr
    rw [bind_of_ok read, run_pure]
  unfold farIndirect
  exact (bind_of_ok (run_getS s) _).trans (bind_of_ok pointer _)

/-- An offset read from memory has the operand size. -/
theorem sizeTrunc_read (s : State) (v : Nat) : sizeTrunc s.opSize (BitVec.ofNat 32 (v % 256 ^ s.width.bytes)) =
    BitVec.ofNat 32 (v % 256 ^ s.width.bytes) := by
  rw [width_bytes]
  exact sizeTrunc_loaded (Nat.mod_lt _ (Nat.pow_pos (by decide)))

theorem room_touches {s t : State} (same : Touches s t) {n k : Nat} (room : Room s n k) : Room t n k := by
  unfold Room
  rw [same.segs, same.stackSize, same.sp]
  exact room

/-- Settles O33, by the kind of transfer and where its pointer stands. -/
theorem farTransfersReal : Obligations.FarTransfersReal := by
  intro s real n
  have bytes : n = sizeBytes s.opSize := width_bytes s
  refine ⟨fun i sel off form => ?_, fun i m v s1 form read => ?_, fun i sel off form h room => ?_,
    fun i m v s1 form h room read => ?_, fun i imm form h low high => ?_⟩
  · intro t
    have ran := farTransfer_real (s := past s) (sel := sel) (off := off) .jmp real
    exact ⟨fun beyond => (exec_farForm form).trans (runInstr_of_exc (ran.trans (farReal_jmp_beyond beyond))),
      fun inside => (exec_farForm form).trans (runInstr_of_ok (ran.trans (farReal_jmp_ok inside)))⟩
  · intro t inside
    have same := (Confined.readMem _ _).ok read
    have size : s1.opSize = s.opSize := same.opSize
    have ran := farIndirect_read (k := .jmp) (s := past s) read
    have ran := ran.trans (farTransfer_real .jmp (same.protectedMode.trans real))
    rw [size] at ran
    have target := sizeTrunc_read s v
    have done := farReal_jmp_ok (s := s1) (o := s.opSize) (sel := BitVec.ofNat 16 (v / 256 ^ s.width.bytes))
      (off := BitVec.ofNat 32 (v % 256 ^ s.width.bytes)) (by rw [target, same.segs]; exact inside)
    rw [target] at done
    exact (exec_farMemForm form).trans (runInstr_of_ok (ran.trans done))
  · intro t small inside
    have ran := farTransfer_real (s := past s) (sel := sel) (off := off) .call real
    rw [bytes] at room ⊢
    exact (exec_farForm form).trans (runInstr_of_ok
      (ran.trans (farReal_call_ok (s := past s) (quiet_past h) room small inside)))
  · intro t small inside
    have same := (Confined.readMem _ _).ok read
    have size : s1.opSize = s.opSize := same.opSize
    have segs : s1.segs = s.segs := same.segs
    have eip : s1.eip = s.ins.nextEip := same.eip
    have ran := farIndirect_read (k := .call) (s := past s) read
    have ran := ran.trans (farTransfer_real .call (same.protectedMode.trans real))
    rw [size] at ran
    have target := sizeTrunc_read s v
    have room1 := room_touches same (show Room (past s) n 2 from room)
    rw [bytes] at room1
    have done := farReal_call_ok (s := s1) (o := s.opSize) (sel := BitVec.ofNat 16 (v / 256 ^ s.width.bytes))
      (off := BitVec.ofNat 32 (v % 256 ^ s.width.bytes)) (same.quiet (quiet_past h)) room1 (by rw [target]; exact small)
      (by rw [target, segs]; exact inside)
    rw [target, segs, eip, ← bytes] at done
    exact (exec_farMemForm form).trans (runInstr_of_ok (ran.trans done))
  · intro t inside
    have ran : returnFar imm (past s) = returnFarReal s.opSize imm.toNat (past s) := by
      unfold returnFar
      rw [run_atOpSize, bind_of_ok (run_getS _), if_neg (by rw [show (past s).protectedMode = false from real]; decide)]
      rfl
    rw [bytes] at low high
    have inside : BitVec.ofNat 32 (stackLoad s 0 (sizeBytes s.opSize)) ≤ s.segs.cs.limit := by
      rw [← bytes]
      exact inside
    have done := returnFarReal_ok (s := past s) (imm := imm.toNat) (quiet_past h) low high inside
    simp only [t]
    rw [bytes]
    exact (exec_retFarForm form).trans (runInstr_of_ok (ran.trans done))

end Sys2Proof.Machine
end

section
/-!
PROOFS. Far JMP, CALL and RET in protected mode at the same level (O34).
-/

namespace Sys2Proof.Machine

open Claims

/-! ### The pointer -/

@[simp] theorem pushed_segs (s : State) (n : Nat) (vs : List Nat) : (pushed s n vs).segs = s.segs := rfl

theorem pushed_descAddr (s : State) (n : Nat) (vs : List Nat) (sel : Half) :
    (pushed s n vs).descAddr sel = s.descAddr sel :=
  descAddr_congr (s := s) (t := pushed s n vs) rfl rfl sel

theorem exec_farOperand {s : State} {i : Instr} {k : FarKind} {sel : Half} {off : Word} (h : FarOperand s i k sel off) :
    exec i s = runInstr (farTransfer k sel off) s := by
  rcases h with form | ⟨m, v, form, read, rfl, rfl⟩
  · exact exec_farForm form
  · exact (exec_farMemForm form).trans (runInstr_congr (farIndirect_read (s := past s) read))

theorem farTransfer_protected {k : FarKind} {sel : Half} {off : Word} {s : State} (prot : s.protectedMode = true) :
    farTransfer k sel off s = farProtected k s.opSize sel off s := by
  unfold farTransfer
  rw [bind_of_ok (run_getS s), if_pos prot]

section

variable {s : State} {k : FarKind} {o : Size} {sel : Half} {off : Word} {a : Word} {d : Desc}

theorem farProtected_null (null : sel.toNat / 4 = 0) :
    farProtected k o sel off s = .error (.exc (.plain 13 (some 0)) false) s := by
  unfold farProtected
  exact check_fails (by rw [(selNull_iff sel).mpr null]; rfl) (run_raiseGP 0 s)

/-- The descriptor decides what a far transfer does. -/
theorem farProtected_reads (h : quiet s) (names : Names s sel a d) : farProtected k o sel off s = (
    if d.isCode then farCode k o sel off d
    else if d.isSystem [4, 12] then
      match k with
      | .jmp => jumpGate sel d
      | .call => callGate sel d
    else if d.isSystem [5] then farTaskGate k sel d
    else if d.isSystem [1, 3, 9, 11] then farTss k sel d
    else raiseGP (selCode sel)) s := by
  have proper : (!selNull sel) = true := by
    rw [names_proper names]
    rfl
  exact (check_passes proper).trans (bind_of_ok (names_read names rfl rfl rfl h.1 _) _)

theorem farProtected_code (h : quiet s) (names : Names s sel a d) (code : d.isCode = true) :
    farProtected k o sel off s = farCode k o sel off d s := by
  rw [farProtected_reads h names, if_pos code]

/-! ### To a code segment of the same level -/

/-- The privilege test of R481. -/
theorem codeOf_reachable (code : CodeOf d s.cpl.toNat) (rpl : d.conforming = false → sel.toNat % 4 ≤ s.cpl.toNat) :
    (if d.conforming then decide (d.dpl ≤ s.cpl) else decide (selRpl sel ≤ s.cpl) && decide (d.dpl = s.cpl)) = true := by
  have level := codeOf_level code
  cases conf : d.conforming with
  | true =>
    rw [conf, if_pos rfl] at level
    rw [if_pos rfl, level]
  | false =>
    rw [conf, if_neg (by decide)] at level
    have allowed : selRpl sel ≤ s.cpl := by
      rw [BitVec.le_def, toNat_selRpl]
      exact rpl conf
    rw [if_neg (by decide), level, decide_eq_true allowed]
    rfl

section

variable (h : quiet s) (names : Names s sel a d) (code : CodeOf d s.cpl.toNat)
  (rpl : d.conforming = false → sel.toNat % 4 ≤ s.cpl.toNat)

include h names code rpl

theorem farCode_jmp_ok (inside : sizeTrunc o off ≤ d.limit) : farCode .jmp o sel off d s = .ok () { touched a d s with
    segs := s.segs.set .cs (segmentOf (BitVec.ofNat 16 (sel.toNat / 4 * 4 + s.cpl.toNat)) d), eip := sizeTrunc o off } := by
  unfold farCode
  rw [bind_of_ok (run_getS s), check_passes (codeOf_reachable code rpl), check_passes code.2.1,
    bind_of_ok (run_onlyIf_stay (by rfl)), bind_of_ok (checkTarget_ok inside 0), bind_of_ok (run_onlyIf_stay (by rfl)),
    bind_of_ok (loadCs_unpaged h.1 (names_addr names) d s.cpl), run_setEip, touched_segs]

omit h names in
theorem farCode_jmp_beyond (beyond : d.limit < sizeTrunc o off) :
    farCode .jmp o sel off d s = .error (.exc (.plain 13 (some 0)) false) s := by
  unfold farCode
  rw [bind_of_ok (run_getS s), check_passes (codeOf_reachable code rpl), check_passes code.2.1,
    bind_of_ok (run_onlyIf_stay (by rfl)), bind_of_error (checkTarget_beyond beyond 0)]

theorem farCode_call_ok (room : Room s (sizeBytes o) 2) (inside : sizeTrunc o off ≤ d.limit) :
    farCode .call o sel off d s = .ok () {
      touched a d (pushed s (sizeBytes o) [s.segs.cs.selector.toNat, s.eip.toNat]) with
      segs := s.segs.set .cs (segmentOf (BitVec.ofNat 16 (sel.toNat / 4 * 4 + s.cpl.toNat)) d), eip := sizeTrunc o off } := by
  have pos := sizeBytes_pos o
  have named : (pushed s (sizeBytes o) [s.segs.cs.selector.toNat, s.eip.toNat]).descAddr sel = some a := by
    rw [pushed_descAddr, names_addr names]
  have loaded := loadCs_unpaged (s := pushed s (sizeBytes o) [s.segs.cs.selector.toNat, s.eip.toNat]) h.1 named d s.cpl
  rw [touched_segs, pushed_segs] at loaded
  have checked := (run_onlyIf_do (c := decide (FarKind.call = .call)) rfl).trans (roomForReturn_ok pos room)
  have push := (run_onlyIf_do (c := decide (FarKind.call = .call)) rfl).trans (pushFarReturn_quiet h pos room)
  unfold farCode
  rw [bind_of_ok (run_getS s), check_passes (codeOf_reachable code rpl), check_passes code.2.1, bind_of_ok checked,
    bind_of_ok (checkTarget_ok inside 0), bind_of_ok push, bind_of_ok loaded, run_setEip]

end

/-! ### Return to the same level -/

theorem checkReturnCs_ok (h : quiet s) (names : Names s sel a d) (code : CodeOf d (sel.toNat % 4))
    (level : s.cpl.toNat ≤ sel.toNat % 4) : checkReturnCs sel s = .ok d s := by
  obtain ⟨isCode, present, privilege⟩ := code
  have fits : (if d.conforming then decide (d.dpl ≤ selRpl sel) else decide (d.dpl = selRpl sel)) = true :=
    codeOf_level (by rw [toNat_selRpl]; exact ⟨isCode, present, privilege⟩)
  have outward : decide (s.cpl ≤ selRpl sel) = true := by
    rw [decide_eq_true_eq, BitVec.le_def, toNat_selRpl]
    exact level
  unfold checkReturnCs
  rw [check_passes (by rw [names_proper names]; rfl), bind_of_ok (names_read names rfl rfl rfl h.1 _), bind_of_ok (run_getS s),
    check_passes isCode, check_passes outward, check_passes fits, check_passes present, run_pure]

/-- The Accessed bit is set apart from the registers. -/
theorem touched_regs_eip (a : Word) (d : Desc) (s : State) (g : Regs) (e : Word) :
    touched a d { s with regs := g, eip := e } = { touched a d s with regs := g, eip := e } := by
  unfold touched
  split <;> rfl

theorem returnFarSame_ok (h : quiet s) {imm : Nat} (named : s.descAddr sel = some a)
    (low : Within s.segs.ss (slotAbove s 0) (sizeBytes o))
    (inside : BitVec.ofNat 32 (stackLoad s 0 (sizeBytes o)) ≤ d.limit) :
    returnFarSame o imm sel d s = .ok () { touched a d s with
      segs := s.segs.set .cs (segmentOf sel d), eip := BitVec.ofNat 32 (stackLoad s 0 (sizeBytes o)),
      regs := s.regs.setV s.stackSize .esp (s.sp + BitVec.ofNat 32 (2 * sizeBytes o) + BitVec.ofNat 32 imm) } := by
  let popped : State := { s with
    regs := s.regs.setV s.stackSize .esp (s.sp + BitVec.ofNat 32 (2 * sizeBytes o)),
    eip := BitVec.ofNat 32 (stackLoad s 0 (sizeBytes o)) }
  have loaded := loadSeg_unpaged (s := popped) h.1 named .cs d
  rw [touched_segs, touched_regs_eip] at loaded
  unfold returnFarSame
  rw [bind_of_ok (slotV_quiet h low), bind_of_ok (checkTarget_ok inside 0), bind_of_ok (run_popBytes _ s)]
  refine (bind_of_ok (run_setEip _ _) _).trans ((bind_of_ok loaded _).trans ?_)
  exact popBytes_moved (u := { touched a d s with
    regs := s.regs.setV s.stackSize .esp (s.sp + BitVec.ofNat 32 (2 * sizeBytes o)),
    eip := BitVec.ofNat 32 (stackLoad s 0 (sizeBytes o)), segs := s.segs.set .cs (segmentOf sel d) }) imm rfl

/-- A far return in protected mode reads CS first. -/
theorem returnFar_reads (h : quiet s) (prot : s.protectedMode = true) {imm : Half}
    (high : Within s.segs.ss (slotAbove s (sizeBytes s.opSize)) (sizeBytes s.opSize))
    (selector : sel = BitVec.ofNat 16 (stackLoad s (sizeBytes s.opSize) 2)) (names : Names s sel a d)
    (code : CodeOf d (sel.toNat % 4)) (level : s.cpl.toNat ≤ sel.toNat % 4) :
    returnFar imm s = (if s.cpl < selRpl sel then returnFarOuter s.opSize imm.toNat sel d
      else returnFarSame s.opSize imm.toNat sel d) s := by
  have slots : checkSlots (sizeBytes s.opSize) [sizeBytes s.opSize] s = .ok () s :=
    checkSlots_within (sizeBytes_pos _) (by simp [high])
  unfold returnFar
  rw [run_atOpSize, bind_of_ok (run_getS s), if_pos prot, bind_of_ok slots, bind_of_ok (slotSel_quiet h high), ← selector,
    bind_of_ok (checkReturnCs_ok h names code level)]

end

/-- Settles O34: the transfers by their target, and the return. -/
theorem farTransfersProtected : Obligations.FarTransfersProtected := by
  refine ⟨fun s i k sel off prot h form => ?_, fun s i imm prot h form => ?_⟩
  · intro n t
    have bytes : n = sizeBytes s.opSize := width_bytes s
    have ran := farTransfer_protected (s := past s) (k := k) (sel := sel) (off := off) prot
    refine ⟨fun null => ?_, fun a d names code rpl => ?_⟩
    · exact (exec_farOperand form).trans (runInstr_of_exc (ran.trans (farProtected_null null)))
    · have q := quiet_past h
      have names : Names (past s) sel a d := names
      have ran := ran.trans (farProtected_code q names code.1)
      refine ⟨?_, ?_, ?_⟩
      · rintro rfl inside
        exact (exec_farOperand form).trans (runInstr_of_ok (ran.trans (farCode_jmp_ok q names code rpl inside)))
      · rintro rfl beyond
        exact (exec_farOperand form).trans (runInstr_of_exc
          (ran.trans (farCode_jmp_beyond (s := past s) code rpl beyond)))
      · rintro rfl room inside
        rw [bytes] at room ⊢
        exact (exec_farOperand form).trans (runInstr_of_ok (ran.trans (farCode_call_ok q names code rpl room inside)))
  · intro n low high sel t level a d names code inside
    have bytes : n = sizeBytes s.opSize := width_bytes s
    have q := quiet_past h
    have names : Names (past s) sel a d := names
    have high : Within s.segs.ss (slotAbove s (sizeBytes s.opSize)) (sizeBytes s.opSize) := by
      rw [← bytes]
      exact high
    have low : Within s.segs.ss (slotAbove s 0) (sizeBytes s.opSize) := by
      rw [← bytes]
      exact low
    have selector : sel = BitVec.ofNat 16 (stackLoad s (sizeBytes s.opSize) 2) := by
      rw [← bytes]
    have target : t = BitVec.ofNat 32 (stackLoad s 0 (sizeBytes s.opSize)) := by
      rw [← bytes]
    have ran := returnFar_reads (s := past s) (imm := imm) q prot high selector names (by rw [level]; exact code)
      (le_of_eq level.symm)
    rw [if_neg (by rw [BitVec.lt_def, toNat_selRpl, level]; exact lt_irrefl _)] at ran
    have done := returnFarSame_ok (o := s.opSize) (imm := imm.toNat) q (names_addr names) low
      (by rw [target] at inside; exact inside)
    rw [target, bytes]
    exact (exec_retFarForm form).trans (runInstr_of_ok (ran.trans done))

end Sys2Proof.Machine
end

section
/-!
PROOFS. The stack of an inner level: where it comes from, and what pushing on it does (for O35 and O41).
-/

namespace Sys2Proof.Machine

open Claims

/-! ### The Accessed bit as a change of memory and of the log -/

/-- Memory with the Accessed bit of `d` at `a` set. -/
def touchMem (a : Word) (d : Desc) (m : Memory) : Memory :=
  if d.getLsbD 40 then m else Memory.write m (a + 5).toNat (d.extractLsb' 40 8 ||| 1)

/-- The log of the bytes that no fault undoes, with that byte. -/
def touchLog (a : Word) (d : Desc) (l : List Host.Cell) : List Host.Cell :=
  if d.getLsbD 40 then l else l ++ [((a + 5).toNat, d.extractLsb' 40 8 ||| 1)]

theorem touched_eq (a : Word) (d : Desc) (s : State) : touched a d s =
    { s with mem := touchMem a d s.mem, ins := { s.ins with sysLog := touchLog a d s.ins.sysLog } } := by
  unfold touched touchMem touchLog
  by_cases accessed : d.getLsbD 40 = true
  · simp only [if_pos accessed]
  · simp only [if_neg accessed]

/-! ### The stack that the TSS names -/

theorem tssStack_ok {s : State} (unpaged : s.cr0.pg = false) {n : BitVec 2} {ss : Half} {esp : Word}
    (stack : TssStack s n.toNat ss esp) (ext : Half) : tssStack n ext s = .ok (ss, esp) s := by
  unfold TssStack at stack
  unfold tssStack
  rw [bind_of_ok (run_getS s)]
  by_cases wide : s.tr.type.getLsbD 3 = true
  · rw [if_pos wide] at stack
    obtain ⟨room, rfl, rfl⟩ := stack
    rw [if_pos wide]
    refine (check_passes (decide_eq_true (by omega))).trans ?_
    exact (bind_of_ok (linRead_unpaged unpaged _ _) _).trans (bind_of_ok (linRead_unpaged unpaged _ _) _)
  · rw [if_neg wide] at stack
    obtain ⟨room, rfl, rfl⟩ := stack
    rw [if_neg wide]
    refine (check_passes (decide_eq_true (by omega))).trans ?_
    exact (bind_of_ok (linRead_unpaged unpaged _ _) _).trans (bind_of_ok (linRead_unpaged unpaged _ _) _)

theorem checkStackSeg_ok {s : State} (h : quiet s) {ss : Half} {c : Word} {e : Desc} {n : BitVec 2} (names : Names s ss c e)
    (stack : StackOf ss e n.toNat) (bad : LoadFail) (ext : Half) : checkStackSeg bad ext ss n s = .ok e s := by
  obtain ⟨rpl, writable, level, present⟩ := stack
  have fits : (decide (selRpl ss = n) && e.writableData && decide (e.dpl = n)) = true := by
    rw [decide_eq_true ((selRpl_eq_iff ss n).mpr rpl), writable, decide_eq_true (BitVec.eq_of_toNat_eq level)]
    rfl
  unfold checkStackSeg
  rw [bind_of_ok (names_read names rfl rfl rfl h.1 _), check_passes fits, check_passes present, run_pure]

theorem innerStack_ok {s : State} (h : quiet s) {n : BitVec 2} {ss : Half} {esp : Word} {c : Word} {e : Desc}
    (tss : TssStack s n.toNat ss esp) (names : Names s ss c e) (stack : StackOf ss e n.toNat) (ext : Half) (rplFirst : Bool) :
    innerStack n ext rplFirst s = .ok (ss, esp, e) s := by
  have rpl : (!rplFirst || decide (selRpl ss = n)) = true := by
    rw [decide_eq_true ((selRpl_eq_iff ss n).mpr stack.1), Bool.or_true]
  unfold innerStack
  rw [bind_of_ok (tssStack_ok h.1 tss ext)]
  refine (check_passes (by rw [names_proper names]; rfl)).trans ((check_passes rpl).trans ?_)
  exact bind_of_ok (checkStackSeg_ok h names stack _ _) _

/-! ### A state on that stack -/

section

variable (ss : Half) (e : Desc) (esp : Word) (s : State)

theorem onStack_ss : (onStack ss e esp s).segs.ss = segOf ss e := (segOf_eq ss e).symm

theorem onStack_size : (onStack ss e esp s).stackSize = .ofBit e.db := by
  unfold State.stackSize
  rw [onStack_ss]
  rfl

theorem onStack_sp : (onStack ss e esp s).sp = spOf (.ofBit e.db) esp := by
  unfold State.sp
  rw [onStack_size]
  cases Size.ofBit e.db with
  | s32 => rfl
  | s16 => exact (sizeTrunc_s16 esp).symm

/-- The registers after `k` values are pushed on it. -/
theorem onStack_pushedEsp (n k : Nat) :
    (onStack ss e esp s).regs.setV (onStack ss e esp s).stackSize .esp ((onStack ss e esp s).sp - BitVec.ofNat 32 (n * k)) =
      { s.regs with esp := pushedEsp (.ofBit e.db) esp n k } := by
  rw [onStack_size, onStack_sp]
  cases Size.ofBit e.db with
  | s32 => rfl
  | s16 =>
    have low : (spOf .s16 esp - BitVec.ofNat 32 (n * k)).setWidth 16 = (esp - BitVec.ofNat 32 (n * k)).setWidth 16 := by
      unfold spOf
      rw [sizeTrunc_s16]
      apply BitVec.eq_of_toNat_eq
      simp only [BitVec.toNat_setWidth, BitVec.toNat_sub, BitVec.toNat_ofNat]
      omega
    change ({ s.regs with esp := esp } : Regs).set16 .esp ((spOf .s16 esp - BitVec.ofNat 32 (n * k)).setWidth 16) = _
    rw [low]
    rfl

/-- Memory after values are pushed on it. -/
theorem onStack_pushMem (n j : Nat) (vs : List Nat) (m : Memory) :
    pushMem (onStack ss e esp s) n j vs m = (vs.zipIdx j).foldl (storeSlot (segOf ss e) (spOf (.ofBit e.db) esp) n) m := by
  rw [pushMem_eq, onStack_ss, onStack_sp]

theorem onStack_room {n k : Nat} (pos : 0 < n) (room : Room (onStack ss e esp s) n k) (j : Nat) (small : j < k) :
    (segOf ss e).inLimit (below (.ofBit (segOf ss e).db) (spOf (.ofBit e.db) esp) n (j + 1)) n = true := by
  have inside := Room.inLimit pos room j small
  rw [onStack_ss, onStack_sp] at inside
  exact inside

end

theorem takeStack_ok {s : State} (unpaged : s.cr0.pg = false) {ss : Half} {c : Word} {e : Desc}
    (named : s.descAddr ss = some c) (esp : Word) : takeStack ss e esp s = .ok () { touched c e s with
      segs := s.segs.set .ss (segmentOf ss e), regs := { s.regs with esp := esp } } := by
  unfold takeStack
  rw [bind_of_ok (loadSeg_unpaged unpaged named .ss e), run_upd, touched_segs, touched_regs]

/-- SS and the new stack pointer are taken, then CS, EIP and CPL, from a state whose memory is `m`. -/
theorem enterLevel_ok {s : State} (unpaged : s.cr0.pg = false) {ss sel : Half} {c a : Word} {e d : Desc}
    (ssNamed : s.descAddr ss = some c) (csNamed : s.descAddr sel = some a) (esp off : Word) (level : BitVec 2) (m : Memory) :
    (do takeStack ss e esp
        loadCs sel d level
        setEip off
        upd fun t => { t with cpl := level }) { s with mem := m } =
      .ok () { touched a d (touched c e { s with mem := m }) with
        segs := (s.segs.set .ss (segmentOf ss e)).set .cs (segmentOf (BitVec.ofNat 16 (sel.toNat / 4 * 4 + level.toNat)) d),
        regs := { s.regs with esp := esp }, eip := off, cpl := level } := by
  have ssNamed' : State.descAddr { s with mem := m } ss = some c := by
    rw [descAddr_congr (s := s) (t := { s with mem := m }) rfl rfl, ssNamed]
  have taken := takeStack_ok (s := { s with mem := m }) unpaged (e := e) ssNamed' esp
  let moved : State := { touched c e { s with mem := m } with
    segs := s.segs.set .ss (segmentOf ss e), regs := { s.regs with esp := esp } }
  have csNamed' : moved.descAddr sel = some a := by
    rw [descAddr_congr (s := s) (t := moved) (touched_gdtr c e _) (touched_ldtr c e _), csNamed]
  have loaded := loadCs_unpaged (s := moved) (by rw [show moved.cr0 = _ from touched_cr0 c e _]; exact unpaged) csNamed' d level
  refine (bind_of_ok taken _).trans ((bind_of_ok loaded _).trans ?_)
  rw [run_bind, run_setEip]
  simp only [run_upd, touched_eq, moved]

end Sys2Proof.Machine
end

section
/-!
PROOFS. Call gates (O35).
-/

namespace Sys2Proof.Machine

open Claims

/-! ### Pushing again and again -/

/-- `k` items pushed on the stack of `s`, with memory `m`. -/
def stackMoved (s : State) (n k : Nat) (m : Memory) : State :=
  { s with mem := m, regs := s.regs.setV s.stackSize .esp (s.sp - BitVec.ofNat 32 (n * k)) }

theorem pushed_eq_stackMoved (s : State) (n : Nat) (vs : List Nat) :
    pushed s n vs = stackMoved s n vs.length (pushMem s n 0 vs s.mem) := rfl

theorem sizeTrunc_sub_sizeTrunc (o : Size) (x y : Word) : sizeTrunc o (sizeTrunc o x - y) = sizeTrunc o (x - y) := by
  cases o with
  | s32 => rfl
  | s16 =>
    rw [sizeTrunc_s16, sizeTrunc_s16, sizeTrunc_s16]
    apply BitVec.eq_of_toNat_eq
    simp only [BitVec.toNat_setWidth, BitVec.toNat_sub]
    omega

theorem getV_setV_esp (g : Regs) (o : Size) (v : Word) : (g.setV o .esp v).getV o .esp = sizeTrunc o v := by
  cases o with
  | s32 => rfl
  | s16 =>
    rw [sizeTrunc_s16]
    exact congrArg (BitVec.setWidth 32) (Regs.get16_set16 g .esp _)

theorem sub_mul_add (x : Word) (n j k : Nat) :
    x - BitVec.ofNat 32 (n * (j + k)) = x - BitVec.ofNat 32 (n * j) - BitVec.ofNat 32 (n * k) := by
  rw [Nat.mul_add, BitVec.ofNat_add]
  bv_omega

/-- The slots below a stack pointer that has moved are the further slots of the first one. -/
theorem below_stackMoved (s : State) (n j k : Nat) (m : Memory) :
    below s.stackSize (stackMoved s n j m).sp n k = below s.stackSize s.sp n (j + k) := by
  have sp : (stackMoved s n j m).sp = sizeTrunc s.stackSize (s.sp - BitVec.ofNat 32 (n * j)) := getV_setV_esp _ _ _
  unfold below
  rw [sp, sizeTrunc_sub_sizeTrunc, sub_mul_add]

theorem pushMem_stackMoved (s : State) (n j k : Nat) (vs : List Nat) (m m' : Memory) :
    pushMem (stackMoved s n j m') n k vs m = pushMem s n (j + k) vs m := by
  induction vs generalizing m k with
  | nil => rfl
  | cons v vs ih =>
    have slot := below_stackMoved s n j (k + 1) m'
    unfold pushMem
    rw [ih]
    change pushMem s n (j + (k + 1)) vs (Memory.store m (addrs (s.segs.ss.base + below s.stackSize _ n (k + 1)) n) v) = _
    rw [slot]
    rfl

theorem pushed_stackMoved (s : State) (n j : Nat) (vs : List Nat) (m : Memory) :
    pushed (stackMoved s n j m) n vs = stackMoved s n (j + vs.length) (pushMem s n j vs m) := by
  have regs : (s.regs.setV s.stackSize .esp (s.sp - BitVec.ofNat 32 (n * j))).setV s.stackSize .esp
      ((s.regs.setV s.stackSize .esp (s.sp - BitVec.ofNat 32 (n * j))).getV s.stackSize .esp -
        BitVec.ofNat 32 (n * vs.length)) =
      s.regs.setV s.stackSize .esp (s.sp - BitVec.ofNat 32 (n * (j + vs.length))) := by
    rw [BitVec.sub_eq_add_neg _ (BitVec.ofNat 32 (n * vs.length)), Regs.moveSp_moveSp, ← BitVec.sub_eq_add_neg, sub_mul_add]
  have mem := pushMem_stackMoved s n j 0 vs m m
  calc pushed (stackMoved s n j m) n vs
      = { s with
          mem := pushMem (stackMoved s n j m) n 0 vs m
          regs := (s.regs.setV s.stackSize .esp (s.sp - BitVec.ofNat 32 (n * j))).setV s.stackSize .esp
            ((s.regs.setV s.stackSize .esp (s.sp - BitVec.ofNat 32 (n * j))).getV s.stackSize .esp -
              BitVec.ofNat 32 (n * vs.length)) } := rfl
    _ = stackMoved s n (j + vs.length) (pushMem s n j vs m) := by
        rw [mem, regs]
        rfl

/-! ### The parameters -/

/-- Memory after the `c` lowest parameters on the stack of `old` are copied to the slots from `j` on. -/
def paramMem (old : State) (g : SegReg) (sp : Word) (n : Nat) : Nat → Nat → Memory → Memory
  | 0, _, m => m
  | c + 1, j, m => paramMem old g sp n c (j + 1)
      (storeSlot g sp n m (Memory.load m (addrs (old.segs.ss.base + slotAbove old (n * c)) n), j))

theorem copied_stackMoved (old s : State) (n c j : Nat) (m : Memory) :
    copied old n c (stackMoved s n j m) = stackMoved s n (j + c) (paramMem old s.segs.ss s.sp n c j m) := by
  induction c generalizing j m with
  | zero => rfl
  | succ c ih =>
    unfold copied
    rw [pushed_stackMoved, ih, List.length_singleton, show j + 1 + c = j + (c + 1) by omega]
    rfl

/-- Where the parameters are read and written. -/
def paramAddrs (old : State) (g : SegReg) (sp : Word) (n : Nat) : Nat → Nat → List (List Word × List Word)
  | 0, _ => []
  | c + 1, j => (addrs (old.segs.ss.base + slotAbove old (n * c)) n, addrs (g.base + below (.ofBit g.db) sp n (j + 1)) n) ::
      paramAddrs old g sp n c (j + 1)

theorem paramSlots_quiet {s : State} (h : quiet s) {g : SegReg} {sp : Word} {n : Nat} (pos : 0 < n) {ec : Half} {c j : Nat}
    (read : ∀ i, i < c → Within s.segs.ss (slotAbove s (n * i)) n)
    (write : ∀ i, i < j + c → g.inLimit (below (.ofBit g.db) sp n (i + 1)) n = true) :
    paramSlots g sp n ec c j s = .ok (paramAddrs s g sp n c j) s := by
  induction c generalizing j with
  | zero => rfl
  | succ c ih =>
    have source := stackAccess_quiet h ((inLimit_iff pos).mpr (read c (Nat.lt_succ_self c))) false false 0
    have rest := ih (j := j + 1) (fun i small => read i (by omega)) (fun i small => write i (by omega))
    unfold paramSlots
    refine (bind_of_ok (run_getS s) _).trans ((bind_of_ok source _).trans ?_)
    exact (bind_of_ok (pushSlot_quiet h (write j (by omega))) _).trans (bind_of_ok rest _)

theorem copyParams_ok (old s : State) (g : SegReg) (sp : Word) (n c j : Nat) :
    copyParams (paramAddrs old g sp n c j) s = .ok () { s with mem := paramMem old g sp n c j s.mem } := by
  induction c generalizing j s with
  | zero => rfl
  | succ c ih =>
    have first : (do
        let v ← loadAt (addrs (old.segs.ss.base + slotAbove old (n * c)) n)
        storeAt (addrs (g.base + below (.ofBit g.db) sp n (j + 1)) n) v) s = .ok () { s with
        mem := storeSlot g sp n s.mem (Memory.load s.mem (addrs (old.segs.ss.base + slotAbove old (n * c)) n), j) } := rfl
    exact (bind_of_ok first _).trans (ih _ _)

/-! ### The gate and its target -/

section

variable {s : State} {sel : Half} {g : Desc}

theorem checkGate_refused (h : ¬(s.cpl ≤ g.dpl ∧ sel.toNat % 4 ≤ g.dpl.toNat)) :
    checkGate sel g s = .error (.exc (.plain 13 (some (selCode sel))) false) s := by
  unfold checkGate
  rw [bind_of_ok (run_getS s)]
  refine check_fails (Bool.eq_false_iff.mpr fun may => h ?_) (run_raiseGP _ s)
  rw [Bool.and_eq_true, decide_eq_true_eq, decide_eq_true_eq, BitVec.le_def (x := selRpl sel), toNat_selRpl] at may
  exact may

theorem checkGate_passes (h : s.cpl ≤ g.dpl ∧ sel.toNat % 4 ≤ g.dpl.toNat) :
    checkGate sel g s = check g.p (raiseNP (selCode sel)) s := by
  have may : (decide (s.cpl ≤ g.dpl) && decide (selRpl sel ≤ g.dpl)) = true := by
    rw [Bool.and_eq_true, decide_eq_true_eq, decide_eq_true_eq, BitVec.le_def (x := selRpl sel), toNat_selRpl]
    exact h
  unfold checkGate
  rw [bind_of_ok (run_getS s), check_passes may]

theorem checkGate_absent (h : s.cpl ≤ g.dpl ∧ sel.toNat % 4 ≤ g.dpl.toNat) (absent : g.p = false) :
    checkGate sel g s = .error (.exc (.plain 11 (some (selCode sel))) false) s := by
  rw [checkGate_passes h, run_check, if_neg (by simp [absent]), run_raiseNP]

theorem checkGate_ok (h : s.cpl ≤ g.dpl ∧ sel.toNat % 4 ≤ g.dpl.toNat) (present : g.p = true) :
    checkGate sel g s = .ok () s := by
  rw [checkGate_passes h, run_check, if_pos present]

theorem gateTarget_null {ok : Desc → Bool} (null : g.gateSel.toNat / 4 = 0) :
    gateTarget g ok s = .error (.exc (.plain 13 (some 0)) false) s := by
  unfold gateTarget
  exact check_fails (by rw [(selNull_iff g.gateSel).mpr null]; rfl) (run_raiseGP 0 s)

theorem gateTarget_ok {ok : Desc → Bool} {a : Word} {d : Desc} (h : quiet s) (names : Names s g.gateSel a d)
    (code : d.isCode = true) (fits : ok d = true) (present : d.p = true) : gateTarget g ok s = .ok d s := by
  unfold gateTarget
  refine (check_passes (by rw [names_proper names]; rfl)).trans ((bind_of_ok (names_read names rfl rfl rfl h.1 _) _).trans ?_)
  rw [check_passes (by rw [code, fits]; rfl), check_passes present, run_pure]

/-! ### JMP, and CALL to the same level -/

variable {a : Word} {d : Desc} (h : quiet s) (may : s.cpl ≤ g.dpl ∧ sel.toNat % 4 ≤ g.dpl.toNat) (present : g.p = true)
  (names : Names s g.gateSel a d) (inside : g.gateOff ≤ d.limit)

include h may present names inside

theorem jumpGate_ok (code : CodeOf d s.cpl.toNat) : jumpGate sel g s = .ok () { touched a d s with
    segs := s.segs.set .cs (segmentOf (BitVec.ofNat 16 (g.gateSel.toNat / 4 * 4 + s.cpl.toNat)) d), eip := g.gateOff } := by
  unfold jumpGate
  rw [bind_of_ok (checkGate_ok may present), bind_of_ok (run_getS s)]
  refine (bind_of_ok (gateTarget_ok h names code.1 (codeOf_level code) code.2.1) _).trans ?_
  rw [bind_of_ok (checkTarget_ok inside 0), bind_of_ok (loadCs_unpaged h.1 (names_addr names) d s.cpl), run_setEip, touched_segs]

theorem callGate_same (code : CodeOf d s.cpl.toNat) (room : Room s (if g.is32 then 4 else 2) 2) :
    callGate sel g s = .ok () {
      touched a d (pushed s (if g.is32 then 4 else 2) [s.segs.cs.selector.toNat, s.eip.toNat]) with
      segs := s.segs.set .cs (segmentOf (BitVec.ofNat 16 (g.gateSel.toNat / 4 * 4 + s.cpl.toNat)) d), eip := g.gateOff } := by
  have pos : 0 < if g.is32 then 4 else 2 := by split <;> decide
  have level := codeOf_level code
  have notMore : d.dpl ≤ s.cpl := by
    cases conf : d.conforming with
    | true => simpa [conf] using level
    | false =>
      have same : d.dpl = s.cpl := by simpa [conf] using level
      exact same ▸ BitVec.le_refl _
  have stays : (!d.conforming && decide (d.dpl < s.cpl)) = false := by
    cases conf : d.conforming with
    | true => rfl
    | false =>
      have same : d.dpl = s.cpl := by simpa [conf] using level
      rw [decide_eq_false (same ▸ BitVec.lt_irrefl _), Bool.and_false]
  have named : (pushed s (if g.is32 then 4 else 2) [s.segs.cs.selector.toNat, s.eip.toNat]).descAddr g.gateSel = some a := by
    rw [pushed_descAddr, names_addr names]
  have loaded := loadCs_unpaged (s := pushed s (if g.is32 then 4 else 2) [s.segs.cs.selector.toNat, s.eip.toNat]) h.1 named d
    s.cpl
  rw [touched_segs, pushed_segs] at loaded
  unfold callGate
  rw [bind_of_ok (checkGate_ok may present), bind_of_ok (run_getS s)]
  refine (bind_of_ok (gateTarget_ok h names code.1 (decide_eq_true notMore) code.2.1) _).trans ?_
  rw [if_neg (by rw [stays]; decide)]
  unfold callGateSame
  rw [bind_of_ok (run_getS s), bind_of_ok (roomForReturn_ok pos room), bind_of_ok (checkTarget_ok inside 0),
    bind_of_ok (pushFarReturn_quiet h pos room), bind_of_ok loaded, run_setEip]

/-! ### CALL to an inner level -/

/-- Memory after the old stack pointer, the parameters and the return address are pushed on the inner stack. -/
def gateMem (s : State) (stack : SegReg) (sp : Word) (n c : Nat) : Memory :=
  ([s.segs.cs.selector.toNat, s.eip.toNat].zipIdx (c + 2)).foldl (storeSlot stack sp n)
    (paramMem s stack sp n c 2 (([s.segs.ss.selector.toNat, s.regs.esp.toNat].zipIdx 0).foldl (storeSlot stack sp n) s.mem))

section

variable {ss : Half} {esp c : Word} {e : Desc} (tss : TssStack s d.dpl.toNat ss esp) (ssNames : Names s ss c e)
  (stack : StackOf ss e d.dpl.toNat)
  (room : Room (onStack ss e esp s) (if g.is32 then 4 else 2) (g.gateCount + 4))
  (params : ∀ j, j < g.gateCount → Within s.segs.ss (slotAbove s ((if g.is32 then 4 else 2) * j)) (if g.is32 then 4 else 2))

include tss ssNames stack room params

omit may present in
theorem callGateInner_ok : callGateInner g d s = .ok () {
      touched a d (touched c e { s with
        mem := gateMem s (segOf ss e) (spOf (.ofBit e.db) esp) (if g.is32 then 4 else 2) g.gateCount }) with
      segs := (s.segs.set .ss (segmentOf ss e)).set .cs
        (segmentOf (BitVec.ofNat 16 (g.gateSel.toNat / 4 * 4 + d.dpl.toNat)) d),
      regs := { s.regs with esp := pushedEsp (.ofBit e.db) esp (if g.is32 then 4 else 2) (g.gateCount + 4) },
      eip := g.gateOff, cpl := d.dpl } := by
  have pos : 0 < if g.is32 then 4 else 2 := by split <;> decide
  have slots := onStack_room ss e esp s pos room
  unfold callGateInner
  refine (bind_of_ok (run_getS s) _).trans ((bind_of_ok (innerStack_ok h tss ssNames stack 0 false) _).trans ?_)
  generalize (if g.is32 then 4 else 2) = n at pos slots params ⊢
  dsimp only
  rw [bind_of_ok (roomFor_ok fun j small => slots j small), bind_of_ok (checkTarget_ok inside 0),
    bind_of_ok (pushSlots_quiet h fun j small => slots j (by omega)),
    bind_of_ok (paramSlots_quiet h pos params fun i small => slots i (by omega)),
    bind_of_ok (pushSlot_quiet h (slots (g.gateCount + 2) (by omega))),
    bind_of_ok (pushSlot_quiet h (slots (g.gateCount + 3) (by omega)))]
  refine (bind_of_ok (storeSlots_ok (vs := [s.segs.ss.selector.toNat, s.regs.esp.toNat])) _).trans ?_
  refine (bind_of_ok (copyParams_ok s _ _ _ _ _ _) _).trans ?_
  refine (bind_of_ok (storeSlots_ok (k := g.gateCount + 2) (vs := [s.segs.cs.selector.toNat, s.eip.toNat])) _).trans ?_
  exact enterLevel_ok h.1 (names_addr ssNames) (names_addr names) _ _ _ _

end

omit inside in
theorem callGate_inner_runs (code : CodeOf d d.dpl.toNat) (plain : d.conforming = false)
    (more : d.dpl < s.cpl) : callGate sel g s = callGateInner g d s := by
  have enters : (!d.conforming && decide (d.dpl < s.cpl)) = true := by
    rw [plain, decide_eq_true more]
    rfl
  unfold callGate
  rw [bind_of_ok (checkGate_ok may present), bind_of_ok (run_getS s)]
  refine (bind_of_ok (gateTarget_ok h names code.1 (decide_eq_true (BitVec.le_of_lt more)) code.2.1) _).trans ?_
  rw [if_pos enters]

end

/-! ### The stack as the statement builds it -/

theorem copied_past (s t : State) (n c : Nat) : copied (past s) n c t = copied s n c t := by
  induction c generalizing t with
  | zero => rfl
  | succ c ih =>
    unfold copied
    rw [ih]
    rfl

theorem filled_eq (s : State) (ss : Half) (e : Desc) (esp : Word) (n c : Nat) :
    pushed (copied s n c (pushed (onStack ss e esp s) n [s.segs.ss.selector.toNat, s.regs.esp.toNat])) n
      [s.segs.cs.selector.toNat, s.eip.toNat] = { s with
      mem := gateMem s (segOf ss e) (spOf (.ofBit e.db) esp) n c,
      segs := s.segs.set .ss (segmentOf ss e),
      regs := { s.regs with esp := pushedEsp (.ofBit e.db) esp n (c + 4) } } := by
  have regs := onStack_pushedEsp ss e esp s n (c + 4)
  rw [pushed_eq_stackMoved (onStack ss e esp s), copied_stackMoved, pushed_stackMoved, onStack_pushMem, onStack_pushMem,
    onStack_ss, onStack_sp]
  simp only [List.length_cons, List.length_nil]
  rw [show 0 + 1 + 1 + c = c + 2 by omega, show c + 2 + (0 + 1 + 1) = c + 4 by omega]
  unfold stackMoved
  rw [regs]
  rfl

/-- A far transfer through a call gate. -/
def throughGate (k : FarKind) (sel : Half) (g : Desc) : M Unit :=
  match k with
  | .jmp => jumpGate sel g
  | .call => callGate sel g

theorem farTransfer_gate {s : State} {k : FarKind} {sel : Half} {off b : Word} {g : Desc} (prot : s.protectedMode = true)
    (h : quiet s) (names : Names s sel b g) (notCode : g.isCode = false) (gate : g.isSystem [4, 12] = true) :
    farTransfer k sel off s = throughGate k sel g s := by
  have skip : ¬g.isCode = true := by
    rw [notCode]
    decide
  refine (farTransfer_protected prot).trans ((farProtected_reads h names).trans ?_)
  rw [if_neg skip, if_pos gate]
  cases k <;> rfl

/-- Settles O35: the gate's checks, and the three transfers. -/
theorem callGates : Obligations.CallGates := by
  intro s i k sel off b g prot h form gNames gSystem gType code may
  have q := quiet_past h
  have codeEq : selCode sel = code := selCode_eq sel
  have notCode : g.isCode = false := by
    unfold Desc.isCode
    rw [gSystem]
    rfl
  have gate : g.isSystem [4, 12] = true :=
    (Desc.isSystem_iff g _).mpr ⟨gSystem, by simpa using gType⟩
  have ran := farTransfer_gate (k := k) (off := off) (s := past s) prot q gNames notCode gate
  refine ⟨fun mayNot => ?_, fun may absent => ?_, fun may present null => ?_, ?_⟩
  · have stop := checkGate_refused (s := past s) mayNot
    rw [codeEq] at stop
    refine (exec_farOperand form).trans (runInstr_of_exc (ran.trans ?_))
    unfold throughGate
    cases k with
    | jmp => exact bind_of_error stop _
    | call => exact bind_of_error stop _
  · have stop := checkGate_absent (s := past s) may absent
    rw [codeEq] at stop
    refine (exec_farOperand form).trans (runInstr_of_exc (ran.trans ?_))
    unfold throughGate
    cases k with
    | jmp => exact bind_of_error stop _
    | call => exact bind_of_error stop _
  · have passed := checkGate_ok (s := past s) may present
    refine (exec_farOperand form).trans (runInstr_of_exc (ran.trans ?_))
    unfold throughGate
    cases k with
    | jmp => exact (bind_of_ok passed _).trans ((bind_of_ok (run_getS _) _).trans (bind_of_error (gateTarget_null null) _))
    | call => exact (bind_of_ok passed _).trans ((bind_of_ok (run_getS _) _).trans (bind_of_error (gateTarget_null null) _))
  · intro may present a d names inside n cs back
    have names : Names (past s) g.gateSel a d := names
    refine ⟨?_, ?_, ?_⟩
    · rintro rfl code
      exact (exec_farOperand form).trans (runInstr_of_ok (ran.trans (jumpGate_ok q may present names inside code)))
    · rintro rfl code room
      exact (exec_farOperand form).trans (runInstr_of_ok (ran.trans (callGate_same q may present names inside code room)))
    · rintro rfl code plain more ss esp c e tss ssNames stack inner count room params filled
      have enters := callGate_inner_runs q may present names code plain more
      have done := callGateInner_ok (s := past s) q names inside tss ssNames stack room params
      refine (exec_farOperand form).trans (runInstr_of_ok (ran.trans (enters.trans (done.trans ?_))))
      have full : filled = _ := (congrArg (fun t => pushed t n back) (copied_past s _ n count)).symm.trans
        (filled_eq (past s) ss e esp n count)
      rw [full]
      simp only [touched_eq]
      rfl

end Sys2Proof.Machine
end

section
/-!
PROOFS. Returns to an outer level (O36) and to the same level (O42).
-/

namespace Sys2Proof.Machine

open Claims

/-! ### The bytes released -/

/-- Bytes that lie within the segment one by one lie within it together, where their offsets do not wrap. -/
theorem within_of_bytes {g : SegReg} {off : Word} {n : Nat} (pos : 0 < n)
    (bytes : ∀ j, j < n → Within g (off + BitVec.ofNat 32 j) 1) (plain : off.toNat + n ≤ 2 ^ 32) : Within g off n := by
  have value : ∀ j, j < n → (off + BitVec.ofNat 32 j).toNat = off.toNat + j := fun j small => by
    rw [BitVec.toNat_add, BitVec.toNat_ofNat]
    omega
  have first := bytes 0 pos
  have last := bytes (n - 1) (by omega)
  unfold Within at first last ⊢
  rw [value 0 pos] at first
  rw [value (n - 1) (by omega)] at last
  split
  · rename_i down
    rw [if_pos down] at first last
    omega
  · rename_i up
    rw [if_neg up] at last
    omega

theorem slotAbove_toNat (s : State) (k : Nat) :
    (slotAbove s k).toNat = (s.sp.toNat + k) % (if s.stackSize = .s16 then 2 ^ 16 else 2 ^ 32) := by
  unfold slotAbove
  cases s.stackSize with
  | s16 =>
    rw [sizeTrunc_s16, if_pos rfl]
    simp only [BitVec.toNat_setWidth, BitVec.toNat_add, BitVec.toNat_ofNat]
    omega
  | s32 =>
    rw [if_neg (by decide)]
    change (s.sp + BitVec.ofNat 32 k).toNat = _
    rw [BitVec.toNat_add, BitVec.toNat_ofNat]
    omega

theorem checkSpan_ok {s : State} {k n : Nat} (small : n < 2 ^ 16)
    (bytes : ∀ j, j < n → Within s.segs.ss (slotAbove s (k + j)) 1) : checkSpan k n s = .ok () s := by
  let size : Nat := if s.stackSize = .s16 then 2 ^ 16 else 2 ^ 32
  have sizes : size = 2 ^ 16 ∨ size = 2 ^ 32 := by
    unfold size
    split <;> simp
  have start := slotAbove_toNat s k
  have below : (slotAbove s k).toNat < size := by
    rw [start]
    exact Nat.mod_lt _ (by rcases sizes with e | e <;> (change 0 < size; omega))
  have value : ∀ j, (slotAbove s (k + j)).toNat = ((slotAbove s k).toNat + j) % size := fun j => by
    rw [slotAbove_toNat, start, ← Nat.add_assoc, Nat.mod_add_mod]
  unfold checkSpan
  rw [bind_of_ok (run_getS s), run_check, if_pos]
  change (decide (n = 0) || (s.segs.ss.inLimit (slotAbove s k) (min n (size - (slotAbove s k).toNat)) &&
    (decide (min n (size - (slotAbove s k).toNat) = n) ||
      s.segs.ss.inLimit 0 (n - min n (size - (slotAbove s k).toNat))))) = true
  generalize off : slotAbove s k = x at below value ⊢
  by_cases none : n = 0
  · rw [decide_eq_true none, Bool.true_or]
  have whole : ∀ m, 0 < m → m ≤ n → x.toNat + m ≤ size → s.segs.ss.inLimit x m = true := fun m pos le fits => by
    refine (inLimit_iff pos).mpr (within_of_bytes pos (fun j less => ?_) (by omega))
    have same : x + BitVec.ofNat 32 j = slotAbove s (k + j) := by
      apply BitVec.eq_of_toNat_eq
      rw [value, BitVec.toNat_add, BitVec.toNat_ofNat, Nat.mod_eq_of_lt (a := x.toNat + j) (by omega)]
      omega
    rw [same]
    exact bytes j (by omega)
  rw [whole (min n (size - x.toNat)) (by omega) (by omega) (by omega), Bool.true_and]
  by_cases fits : n ≤ size - x.toNat
  · rw [decide_eq_true (min_eq_left fits), Bool.true_or, Bool.or_true]
  · have rest : s.segs.ss.inLimit 0 (n - min n (size - x.toNat)) = true := by
      refine (inLimit_iff (by omega)).mpr (within_of_bytes (by omega) (fun j less => ?_) (by change 0 + _ ≤ _; omega))
      have wrapped : (0 : Word) + BitVec.ofNat 32 j = slotAbove s (k + (size - x.toNat + j)) := by
        apply BitVec.eq_of_toNat_eq
        rw [value, BitVec.toNat_add, BitVec.toNat_ofNat, show x.toNat + (size - x.toNat + j) = size + j by omega,
          Nat.add_mod_left, Nat.mod_eq_of_lt (a := j) (b := size) (by omega)]
        change (0 + j % 2 ^ 32) % 2 ^ 32 = j
        omega
      rw [wrapped]
      exact bytes _ (by omega)
    rw [rest, Bool.or_true, Bool.or_true]

/-! ### The outer stack and the data segments -/

theorem checkOuterSs_ok {s : State} (h : quiet s) {ss : Half} {c : Word} {e : Desc} {n : BitVec 2} (names : Names s ss c e)
    (stack : StackOf ss e n.toNat) : checkOuterSs ss n s = .ok e s := by
  unfold checkOuterSs
  rw [check_passes (by rw [names_proper names]; rfl), checkStackSeg_ok h names stack]

theorem outer_eq (g : SegReg) (n : BitVec 2) : g.outer n =
    if g.selector.toNat / 4 = 0 ∨ (g.dpl.toNat < n.toNat ∧ ¬(g.type.getLsbD 3 = true ∧ g.type.getLsbD 2 = true)) then nullSeg g
    else g := by
  have same : (selNull g.selector || (decide (g.dpl < n) && !(g.type.getLsbD 3 && g.type.getLsbD 2))) = true ↔
      g.selector.toNat / 4 = 0 ∨ (g.dpl.toNat < n.toNat ∧ ¬(g.type.getLsbD 3 = true ∧ g.type.getLsbD 2 = true)) := by
    rw [Bool.or_eq_true, selNull_iff, Bool.and_eq_true, decide_eq_true_eq, BitVec.lt_def, Bool.not_eq_true',
      ← Bool.not_eq_true, Bool.and_eq_true]
  unfold SegReg.outer
  by_cases drop : (selNull g.selector || (decide (g.dpl < n) && !(g.type.getLsbD 3 && g.type.getLsbD 2))) = true
  · rw [if_pos drop, if_pos (same.mp drop)]
    rfl
  · rw [if_neg drop, if_neg fun d => drop (same.mpr d)]

theorem run_dropDataSegs (n : BitVec 2) (s : State) :
    dropDataSegs n s = .ok () { s with segs := outerSegs s.segs n.toNat } := by
  unfold dropDataSegs
  rw [run_upd]
  simp only [outer_eq]
  rfl

/-! ### Far RET to an outer level -/

theorem outerEsp_eq (s : State) (v : Nat) (short : s.opSize = .s16 → v < 2 ^ 16) (keep : Bool) :
    outerEsp s.opSize keep s.regs.esp (BitVec.ofNat 32 v) =
      if s.opSize = .s16 ∧ keep = true
      then BitVec.ofNat 32 (s.regs.esp.toNat / 2 ^ 16 * 2 ^ 16 + (BitVec.ofNat 32 v).toNat) else BitVec.ofNat 32 v := by
  unfold outerEsp
  cases size : s.opSize with
  | s32 => simp
  | s16 =>
    cases keep with
    | false => simp
    | true =>
      have small := short size
      have esp := s.regs.esp.isLt
      simp only [if_true, and_self]
      rw [withLow16_eq]
      apply BitVec.eq_of_toNat_eq
      rw [toNat_append_add]
      simp only [BitVec.extractLsb'_toNat, Nat.shiftRight_eq_div_pow, BitVec.toNat_setWidth, BitVec.toNat_ofNat]
      omega

end Sys2Proof.Machine
end

section
/-!
PROOFS. Far RET and IRET to an outer level (O36), IRET to the same level (O42).
-/

namespace Sys2Proof.Machine

open Claims

/-! ### Far RET -/

section

variable {s : State} {sel ss : Half} {a c : Word} {d e : Desc}

/-- CS and then SS are taken at the outer level `n`, from a state `s`. -/
def outerState (s : State) (sel ss : Half) (a c : Word) (d e : Desc) (esp t : Word) (n : BitVec 2) : State :=
  { touched c e (touched a d s) with
    segs := outerSegs ((s.segs.set .ss (segmentOf ss e)).set .cs (segmentOf sel d)) n.toNat,
    regs := { s.regs with esp := esp }, eip := t, cpl := n }

theorem outerState_ok (h : quiet s) (csNamed : s.descAddr sel = some a) (ssNamed : s.descAddr ss = some c) (esp t : Word)
    (n : BitVec 2) (rest : M Unit) : (do
      upd fun u => { u with cpl := n }
      setEip t
      loadSeg .cs sel d
      takeStack ss e esp
      dropDataSegs n
      rest) s = rest (outerState s sel ss a c d e esp t n) := by
  let s1 : State := { s with cpl := n, eip := t }
  have named1 : s1.descAddr sel = some a := by
    rw [descAddr_congr (s := s) (t := s1) rfl rfl, csNamed]
  let s2 : State := { touched a d s1 with segs := s.segs.set .cs (segmentOf sel d) }
  have loaded : loadSeg .cs sel d s1 = .ok () s2 := by
    rw [loadSeg_unpaged (s := s1) h.1 named1 .cs d, touched_segs]
  have named2 : s2.descAddr ss = some c := by
    rw [descAddr_congr (s := s) (t := s2) (touched_gdtr a d s1) (touched_ldtr a d s1), ssNamed]
  have taken := takeStack_ok (s := s2) (by rw [show s2.cr0 = _ from touched_cr0 a d s1]; exact h.1) (e := e) named2 esp
  refine (bind_of_ok (run_upd _ s) _).trans ((bind_of_ok (run_setEip t _) _).trans ?_)
  refine (bind_of_ok loaded _).trans ((bind_of_ok taken _).trans ((bind_of_ok (run_dropDataSegs n _) _).trans ?_))
  refine congrArg rest ?_
  unfold outerState
  simp only [touched_eq, s2, s1]
  rfl

theorem returnFarOuter_ok {imm : Nat} (h : quiet s) (names : Names s sel a d) {t : Word} (fits : t ≤ d.limit)
    (target : t = BitVec.ofNat 32 (stackLoad s 0 (sizeBytes s.opSize))) (small : imm < 2 ^ 16)
    (slots : ∀ k ∈ [0, sizeBytes s.opSize, 2 * sizeBytes s.opSize + imm, 3 * sizeBytes s.opSize + imm],
      Within s.segs.ss (slotAbove s k) (sizeBytes s.opSize))
    (bytes : ∀ j, j < imm → Within s.segs.ss (slotAbove s (2 * sizeBytes s.opSize + j)) 1)
    (ssel : ss = BitVec.ofNat 16 (stackLoad s (3 * sizeBytes s.opSize + imm) 2)) (ssNames : Names s ss c e)
    (stack : StackOf ss e (selRpl sel).toNat) :
    returnFarOuter s.opSize imm sel d s = popBytes imm (outerState s sel ss a c d e
      (outerEsp s.opSize s.cfg.retf16EspUpper s.regs.esp
        (BitVec.ofNat 32 (stackLoad s (2 * sizeBytes s.opSize + imm) (sizeBytes s.opSize)))) t (selRpl sel)) := by
  have slot := fun k member => slots k member
  unfold returnFarOuter
  refine (bind_of_ok (run_getS s) _).trans ((bind_of_ok (checkSlots_within (sizeBytes_pos _) slots) _).trans ?_)
  rw [bind_of_ok (checkSpan_ok small bytes), bind_of_ok (slotSel_quiet h (slot (3 * sizeBytes s.opSize + imm) (by simp))), ← ssel,
    bind_of_ok (checkOuterSs_ok h ssNames stack), bind_of_ok (slotV_quiet h (slot 0 (by simp))), ← target,
    bind_of_ok (checkTarget_ok fits 0), bind_of_ok (slotV_quiet h (slot (2 * sizeBytes s.opSize + imm) (by simp)))]
  exact outerState_ok h (names_addr names) (names_addr ssNames) _ _ _ _

/-! ### IRET in protected mode -/

theorem iretLoad_eq (f w : Flags) (o : Size) (cpl : BitVec 2) : f.iretLoad w o cpl = { w with
    rf := if o = .s32 then w.rf else f.rf, vm := f.vm, ifl := if cpl ≤ f.iopl then w.ifl else f.ifl,
    iopl := if cpl = 0 then w.iopl else f.iopl } := rfl

theorem returnFromInt_protected {o : Size} (prot : s.protectedMode = true) (nt : s.flags.nt = false) :
    returnFromInt o s = iretProtected o { s with nmiBlocked := false } := by
  unfold returnFromInt
  refine (bind_of_ok (run_upd _ s) _).trans ((bind_of_ok (run_getS _) _).trans ?_)
  have notNested : ¬s.flags.nt = true := by
    rw [nt]
    decide
  exact (congrFun (if_pos prot) _).trans (congrFun (if_neg notNested) _)

/-- What an IRET in protected mode does once its three slots are read and it stays out of virtual-8086 mode. -/
theorem iretProtected_reads {o : Size} {t f : Word} (h : quiet s) (names : Names s sel a d)
    (slots : ∀ k, k < 3 → Within s.segs.ss (slotAbove s (k * sizeBytes o)) (sizeBytes o))
    (target : t = BitVec.ofNat 32 (stackLoad s 0 (sizeBytes o)))
    (selector : sel = BitVec.ofNat 16 (stackLoad s (sizeBytes o) 2))
    (flags : f = BitVec.ofNat 32 (stackLoad s (2 * sizeBytes o) (sizeBytes o)))
    (stays : ¬(o = .s32 ∧ (Flags.ofWord f).vm = true ∧ s.cpl = 0)) (code : CodeOf d (sel.toNat % 4))
    (level : s.cpl.toNat ≤ sel.toNat % 4) : iretProtected o s = (
      if s.cpl < selRpl sel then iretOuter o t sel d f
      else do
        checkTarget d.limit t 0
        popBytes (3 * sizeBytes o)
        setEip t
        loadSeg .cs sel d
        updFlags fun g => g.iretLoad (Flags.ofWord f) o s.cpl
        markRf o) s := by
  have slot0 := slots 0 (by decide)
  have slot1 := slots 1 (by decide)
  have slot2 := slots 2 (by decide)
  rw [Nat.zero_mul] at slot0
  rw [Nat.one_mul] at slot1
  have checked : checkSlots (sizeBytes o) [0, sizeBytes o, 2 * sizeBytes o] s = .ok () s :=
    checkSlots_within (sizeBytes_pos o) (by simp [slot0, slot1, slot2])
  unfold iretProtected
  refine (bind_of_ok (run_getS s) _).trans ((bind_of_ok checked _).trans ?_)
  rw [bind_of_ok (slotV_quiet h slot0), bind_of_ok (slotSel_quiet h slot1), bind_of_ok (slotV_quiet h slot2), ← target,
    ← selector, ← flags, if_neg stays, bind_of_ok (checkReturnCs_ok h names code level)]

theorem iretSame_ok {o : Size} {t f : Word} (h : quiet s) (named : s.descAddr sel = some a) (fits : t ≤ d.limit) : (do
      checkTarget d.limit t 0
      popBytes (3 * sizeBytes o)
      setEip t
      loadSeg .cs sel d
      updFlags fun g => g.iretLoad (Flags.ofWord f) o s.cpl
      markRf o) s = .ok () { touched a d s with
      segs := s.segs.set .cs (segmentOf sel d), eip := t,
      regs := s.regs.setV s.stackSize .esp (s.sp + BitVec.ofNat 32 (3 * sizeBytes o)),
      flags := s.flags.iretLoad (Flags.ofWord f) o s.cpl,
      ins := { (touched a d s).ins with keepRf := decide (o = .s32) } } := by
  let popped : State := { s with
    regs := s.regs.setV s.stackSize .esp (s.sp + BitVec.ofNat 32 (3 * sizeBytes o)), eip := t }
  have named' : popped.descAddr sel = some a := by
    rw [descAddr_congr (s := s) (t := popped) rfl rfl, named]
  have loaded := loadSeg_unpaged (s := popped) h.1 named' .cs d
  rw [touched_segs, touched_regs_eip] at loaded
  rw [bind_of_ok (checkTarget_ok fits 0), bind_of_ok (run_popBytes _ s)]
  refine (bind_of_ok (run_setEip t _) _).trans ((bind_of_ok loaded _).trans ((bind_of_ok (run_updFlags _ _) _).trans ?_))
  unfold markRf
  rw [run_upd]
  dsimp only
  rw [touched_flags]

theorem iretOuter_ok {o : Size} {t f : Word} (h : quiet s) (names : Names s sel a d) (fits : t ≤ d.limit)
    (slots : ∀ k ∈ [3 * sizeBytes o, 4 * sizeBytes o], Within s.segs.ss (slotAbove s k) (sizeBytes o))
    (ssel : ss = BitVec.ofNat 16 (stackLoad s (4 * sizeBytes o) 2)) (ssNames : Names s ss c e)
    (stack : StackOf ss e (selRpl sel).toNat) :
    iretOuter o t sel d f s = .ok () {
      outerState s sel ss a c d e (BitVec.ofNat 32 (stackLoad s (3 * sizeBytes o) (sizeBytes o))) t (selRpl sel) with
      flags := s.flags.iretLoad (Flags.ofWord f) o s.cpl,
      ins := { (touched c e (touched a d s)).ins with keepRf := decide (o = .s32) } } := by
  let s1 : State := { s with eip := t }
  have named1 : s1.descAddr sel = some a := by
    rw [descAddr_congr (s := s) (t := s1) rfl rfl, names_addr names]
  let s2 : State := { touched a d s1 with segs := s.segs.set .cs (segmentOf sel d) }
  have loaded : loadSeg .cs sel d s1 = .ok () s2 := by
    rw [loadSeg_unpaged (s := s1) h.1 named1 .cs d, touched_segs]
  let s3 : State := { s2 with flags := s2.flags.iretLoad (Flags.ofWord f) o s.cpl, cpl := selRpl sel }
  have named3 : s3.descAddr ss = some c := by
    rw [descAddr_congr (s := s) (t := s3) (touched_gdtr a d s1) (touched_ldtr a d s1), names_addr ssNames]
  have taken := takeStack_ok (s := s3) (by rw [show s3.cr0 = _ from touched_cr0 a d s1]; exact h.1) (e := e) named3
    (BitVec.ofNat 32 (stackLoad s (3 * sizeBytes o) (sizeBytes o)))
  unfold iretOuter
  refine (bind_of_ok (run_getS s) _).trans ((bind_of_ok (checkSlots_within (sizeBytes_pos _) slots) _).trans ?_)
  rw [bind_of_ok (slotSel_quiet h (slots (4 * sizeBytes o) (by simp))), ← ssel, bind_of_ok (checkOuterSs_ok h ssNames stack),
    bind_of_ok (checkTarget_ok fits 0), bind_of_ok (slotV_quiet h (slots (3 * sizeBytes o) (by simp)))]
  refine (bind_of_ok (run_setEip t s) _).trans ((bind_of_ok loaded _).trans ((bind_of_ok (run_updFlags _ s2) _).trans ?_))
  refine (bind_of_ok (run_upd _ _) _).trans ((bind_of_ok taken _).trans ((bind_of_ok (run_dropDataSegs _ _) _).trans ?_))
  unfold markRf outerState
  rw [run_upd]
  simp only [touched_eq, s3, s2, s1]
  rfl

end

theorem selRpl_ofNat (sel : Half) : BitVec.ofNat 2 (sel.toNat % 4) = selRpl sel := by
  apply BitVec.eq_of_toNat_eq
  rw [toNat_selRpl, BitVec.toNat_ofNat]
  omega

theorem exec_iret_of {s t : State} (h : returnFromInt s.opSize (past s) = .ok () t) : exec .iret s = .next t :=
  runInstr_of_ok (body := atOpSize returnFromInt) (s := s) h

/-- The state in which IRET pops: NMI is unblocked. -/
def unblocked (s : State) : State := { past s with nmiBlocked := false }

/-- Settles O42: the three slots, and the return to the same level. -/
theorem returnFromInterrupt : Obligations.ReturnFromInterrupt := by
  intro s prot h nt n f t w sel slots stays level a d names code fits r
  have bytes : n = sizeBytes s.opSize := width_bytes s
  have names' : Names (unblocked s) sel a d := names
  have q : quiet (unblocked s) := ⟨h.1, h.2⟩
  have start := returnFromInt_protected (s := past s) (o := s.opSize) prot nt
  have reads := iretProtected_reads (s := unblocked s) (o := s.opSize) (t := t) (sel := sel)
    (f := BitVec.ofNat 32 (stackLoad s (2 * n) n)) q names' (by rw [← bytes]; exact slots) (by rw [← bytes]; rfl)
    (by rw [← bytes]; rfl) (by rw [← bytes]; rfl) stays (by rw [level]; exact code) (le_of_eq level.symm)
  rw [if_neg (by rw [BitVec.lt_def, toNat_selRpl, level]; exact lt_irrefl _)] at reads
  have done := iretSame_ok (s := unblocked s) (o := s.opSize) (f := BitVec.ofNat 32 (stackLoad s (2 * n) n)) q
    (names_addr names') fits
  refine exec_iret_of (start.trans (reads.trans (done.trans ?_)))
  rw [← bytes, iretLoad_eq]
  simp only [touched_eq, r, unblocked]
  rfl

/-- Settles O36: the far return and the interrupt return to an outer level. -/
theorem outerReturns : Obligations.OuterReturns := by
  intro s prot h n sel level t more low high a d names code fits
  have bytes : n = sizeBytes s.opSize := width_bytes s
  have q := quiet_past h
  have rpl : (selRpl sel).toNat = level := toNat_selRpl sel
  have outward : s.cpl < selRpl sel := by
    rw [BitVec.lt_def, rpl]
    exact more
  refine ⟨?_, ?_⟩
  · intro i imm form m released slot2 slot3 ss esp esp' c e ssNames stack outer
    have names' : Names (past s) sel a d := names
    have high' : Within s.segs.ss (slotAbove s (sizeBytes s.opSize)) (sizeBytes s.opSize) := by
      rw [← bytes]
      exact high
    have size : sizeBytes (past s).opSize = n := bytes.symm
    have ran := (returnFar_reads (s := past s) (imm := imm) q prot high' (by rw [size]; rfl) names' code more.le).trans
      (congrFun (if_pos outward) _)
    have slots : ∀ k ∈ [0, sizeBytes s.opSize, 2 * sizeBytes s.opSize + imm.toNat, 3 * sizeBytes s.opSize + imm.toNat],
        Within s.segs.ss (slotAbove s k) (sizeBytes s.opSize) := by
      rw [← bytes]
      simp only [List.mem_cons, List.not_mem_nil, or_false]
      rintro k (rfl | rfl | rfl | rfl)
      · exact low
      · exact high
      · exact slot2
      · exact slot3
    have done := returnFarOuter_ok (s := past s) (imm := imm.toNat) (t := t) (ss := ss) q names' fits (by rw [size]; rfl)
      imm.isLt slots (by rw [size]; exact released) (by rw [size]; rfl) ssNames (by rw [rpl]; exact stack)
    have espEq : outerEsp (past s).opSize (past s).cfg.retf16EspUpper (past s).regs.esp
        (BitVec.ofNat 32 (stackLoad (past s) (2 * n + m) n)) = esp' := by
      refine outerEsp_eq (past s) (stackLoad (past s) (2 * n + m) n) (fun short => ?_) _
      refine (Memory.load_lt _ _).trans_eq ?_
      rw [addrs_length, bytes, show s.opSize = .s16 from short]
      rfl
    rw [size, espEq] at done
    refine (exec_retFarForm form).trans (runInstr_of_ok (ran.trans (done.trans ((run_popBytes _ _).trans ?_))))
    unfold outerState
    rw [selRpl_ofNat, rpl]
    simp only [touched_eq, outer, onStack]
    rfl
  · intro f w nt stays slots ss esp c e ssNames stack outer
    have names' : Names (unblocked s) sel a d := names
    have q : quiet (unblocked s) := ⟨h.1, h.2⟩
    have start := returnFromInt_protected (s := past s) (o := s.opSize) prot nt
    have reads := iretProtected_reads (s := unblocked s) (o := s.opSize) (t := t) (sel := sel)
      (f := BitVec.ofNat 32 (stackLoad s (2 * n) n)) q names' (by rw [← bytes]; exact fun k small => slots k (by omega))
      (by rw [← bytes]; rfl) (by rw [← bytes]; rfl) (by rw [← bytes]; rfl) stays code more.le
    have reads := reads.trans (congrFun (if_pos outward) _)
    have done := iretOuter_ok (s := unblocked s) (o := s.opSize) (f := BitVec.ofNat 32 (stackLoad s (2 * n) n)) (ss := ss) q
      names' fits (by
        rw [← bytes]
        simp only [List.mem_cons, List.not_mem_nil, or_false]
        rintro k (rfl | rfl)
        · exact slots 3 (by decide)
        · exact slots 4 (by decide)) (by rw [← bytes]; rfl) ssNames (by rw [rpl]; exact stack)
    refine exec_iret_of (start.trans (reads.trans (done.trans ?_)))
    unfold outerState
    rw [← bytes, iretLoad_eq, selRpl_ofNat, rpl]
    simp only [touched_eq, outer, onStack, unblocked]
    rfl

end Sys2Proof.Machine
end

section
/-!
PROOFS. IRET to and in virtual-8086 mode (O37).
-/

namespace Sys2Proof.Machine

open Claims

/-! ### IRET in real-address and virtual-8086 mode -/

/-- CS:EIP and the flags after `m` bytes are popped. -/
def realReturn (s : State) (o : Size) (m : Nat) (sel : Half) (t : Word) (g : Flags → Flags) : State :=
  { atRealCs { s with regs := s.regs.setV s.stackSize .esp (s.sp + BitVec.ofNat 32 m) } sel t with
    flags := g s.flags, ins := { s.ins with keepRf := decide (o = .s32) } }

theorem realReturn_ok {s : State} {o : Size} (m : Nat) (sel : Half) (t : Word) (g : Flags → Flags) : (do
      popBytes m
      setEip t
      loadCsReal sel
      updFlags g
      markRf o) s = .ok () (realReturn s o m sel t g) := by
  refine (bind_of_ok (run_popBytes m s) _).trans ((bind_of_ok (run_setEip t _) _).trans ?_)
  refine (bind_of_ok (run_upd _ _) _).trans ((bind_of_ok (run_updFlags g _) _).trans ?_)
  unfold SegReg.realLoad realReturn atRealCs
  rw [selector_shifted sel]
  rfl

section

variable {s : State} {o : Size}

theorem returnFromInt_real (real : s.protectedMode = false) : returnFromInt o s = iretReal o { s with nmiBlocked := false } := by
  have notProt : ¬s.protectedMode = true := by
    rw [real]
    decide
  unfold returnFromInt
  exact (bind_of_ok (run_upd _ s) _).trans ((bind_of_ok (run_getS _) _).trans (congrFun (if_neg notProt) _))

theorem iretReal_refused (v86 : s.v86 = true) (level : s.flags.iopl ≠ 3) :
    iretReal o s = .error (.exc (.plain 13 (some 0)) false) s := by
  unfold iretReal
  rw [bind_of_ok (run_getS s)]
  exact check_fails (by rw [v86, decide_eq_false level]; rfl) (run_raiseGP 0 s)

variable (h : quiet s) (allowed : s.v86 = true → s.flags.iopl = 3)
  (slots : ∀ k, k < 3 → Within s.segs.ss (slotAbove s (k * sizeBytes o)) (sizeBytes o))

include h allowed slots

/-- The slots of the return are checked and read, then the target is tested. -/
theorem iretReal_reads : iretReal o s = (do
    checkTarget s.segs.cs.limit (BitVec.ofNat 32 (stackLoad s 0 (sizeBytes o))) 0
    popBytes (3 * sizeBytes o)
    setEip (BitVec.ofNat 32 (stackLoad s 0 (sizeBytes o)))
    loadCsReal (BitVec.ofNat 16 (stackLoad s (sizeBytes o) 2))
    updFlags fun g => if s.v86
      then g.iretV86 (Flags.ofWord (BitVec.ofNat 32 (stackLoad s (2 * sizeBytes o) (sizeBytes o)))) o
      else g.iretReal (Flags.ofWord (BitVec.ofNat 32 (stackLoad s (2 * sizeBytes o) (sizeBytes o)))) o
    markRf o) s := by
  have slot0 := slots 0 (by decide)
  have slot1 := slots 1 (by decide)
  have slot2 := slots 2 (by decide)
  rw [Nat.zero_mul] at slot0
  rw [Nat.one_mul] at slot1
  have passes : (!s.v86 || decide (s.flags.iopl = 3)) = true := by
    cases v86 : s.v86 with
    | false => rfl
    | true =>
      rw [decide_eq_true (allowed v86)]
      rfl
  have checked : checkSlots (sizeBytes o) [0, sizeBytes o, 2 * sizeBytes o] s = .ok () s :=
    checkSlots_within (sizeBytes_pos o) (by simp [slot0, slot1, slot2])
  unfold iretReal
  refine (bind_of_ok (run_getS s) _).trans ((check_passes passes).trans ((bind_of_ok checked _).trans ?_))
  rw [bind_of_ok (slotV_quiet h slot0), bind_of_ok (slotSel_quiet h slot1), bind_of_ok (slotV_quiet h slot2)]

theorem iretReal_ok (fits : BitVec.ofNat 32 (stackLoad s 0 (sizeBytes o)) ≤ s.segs.cs.limit) :
    iretReal o s = .ok () (realReturn s o (3 * sizeBytes o) (BitVec.ofNat 16 (stackLoad s (sizeBytes o) 2))
      (BitVec.ofNat 32 (stackLoad s 0 (sizeBytes o))) (fun g => if s.v86
        then g.iretV86 (Flags.ofWord (BitVec.ofNat 32 (stackLoad s (2 * sizeBytes o) (sizeBytes o)))) o
        else g.iretReal (Flags.ofWord (BitVec.ofNat 32 (stackLoad s (2 * sizeBytes o) (sizeBytes o)))) o)) := by
  rw [iretReal_reads h allowed slots, bind_of_ok (checkTarget_ok fits 0)]
  exact realReturn_ok _ _ _ _

theorem iretReal_beyond (beyond : s.segs.cs.limit < BitVec.ofNat 32 (stackLoad s 0 (sizeBytes o))) :
    iretReal o s = .error (.exc (.plain 13 (some 0)) false) s := by
  rw [iretReal_reads h allowed slots, bind_of_error (checkTarget_beyond beyond 0)]

end

/-! ### IRET to virtual-8086 mode -/

theorem seg86_eq (sel : Half) : SegReg.v86 sel = seg86 sel := by
  have base := selector_shifted sel
  unfold SegReg.v86 seg86
  rw [base]

/-- A selector in a slot of four bytes. -/
theorem slotSel32_quiet {s : State} (h : quiet s) {k : Nat} (inside : Within s.segs.ss (slotAbove s k) 4) :
    slotSel .s32 k s = .ok (BitVec.ofNat 16 (stackLoad s k 4)) s := by
  have low : BitVec.ofNat 16 (stackLoad s k 2) = BitVec.ofNat 16 (stackLoad s k 4) := by
    have cut : stackLoad s k 4 % 2 ^ 16 = stackLoad s k 2 := load_low _ _ 2
    apply BitVec.eq_of_toNat_eq
    rw [BitVec.toNat_ofNat, BitVec.toNat_ofNat, ← cut, Nat.mod_mod]
  rw [slotSel_quiet (o := .s32) h inside, low]

section

variable {s : State} (h : quiet s) (slots : ∀ k, k < 9 → Within s.segs.ss (slotAbove s (4 * k)) 4)
  (w : (Flags.ofWord (BitVec.ofNat 32 (stackLoad s 8 4))).vm = true) (ring : s.cpl = 0)

include h slots w ring

theorem iretProtected_to86 : iretProtected .s32 s = iretToV86 (BitVec.ofNat 32 (stackLoad s 0 4))
    (BitVec.ofNat 16 (stackLoad s 4 4)) (BitVec.ofNat 32 (stackLoad s 8 4)) s := by
  have slot0 := slots 0 (by decide)
  have slot1 := slots 1 (by decide)
  have slot2 := slots 2 (by decide)
  have checked : checkSlots 4 [0, 4, 8] s = .ok () s := checkSlots_within (by decide) (by
    simp only [List.mem_cons, List.not_mem_nil, or_false]
    rintro k (rfl | rfl | rfl)
    · exact slot0
    · exact slot1
    · exact slot2)
  unfold iretProtected
  refine (bind_of_ok (run_getS s) _).trans ((bind_of_ok checked _).trans ?_)
  refine (bind_of_ok (slotV_quiet (o := .s32) h slot0) _).trans ((bind_of_ok (slotSel32_quiet h slot1) _).trans ?_)
  refine (bind_of_ok (slotV_quiet (o := .s32) h slot2) _).trans ?_
  exact congrFun (if_pos ⟨rfl, w, ring⟩) _

omit w ring in
theorem iretToV86_checks (t : Word) (sel : Half) (f : Word) : iretToV86 t sel f s = (do
    check (decide (t ≤ 0xFFFF)) (raiseGP 0)
    setEip t
    upd fun u => { u with
      flags := Flags.ofWord f, cpl := 3, regs := { u.regs with esp := BitVec.ofNat 32 (stackLoad s 12 4) },
      segs := { cs := .v86 sel, ss := .v86 (BitVec.ofNat 16 (stackLoad s 16 4)), es := .v86 (BitVec.ofNat 16 (stackLoad s 20 4)),
                ds := .v86 (BitVec.ofNat 16 (stackLoad s 24 4)), fs := .v86 (BitVec.ofNat 16 (stackLoad s 28 4)),
                gs := .v86 (BitVec.ofNat 16 (stackLoad s 32 4)) } }
    markRf .s32) s := by
  have checked : checkSlots 4 [12, 16, 20, 24, 28, 32] s = .ok () s := checkSlots_within (by decide) (by
    simp only [List.mem_cons, List.not_mem_nil, or_false]
    rintro k (rfl | rfl | rfl | rfl | rfl | rfl)
    · exact slots 3 (by decide)
    · exact slots 4 (by decide)
    · exact slots 5 (by decide)
    · exact slots 6 (by decide)
    · exact slots 7 (by decide)
    · exact slots 8 (by decide))
  unfold iretToV86
  rw [bind_of_ok checked]
  by_cases low : t ≤ 0xFFFF
  · rw [check_passes (decide_eq_true low), check_passes (decide_eq_true low)]
    refine (bind_of_ok (slotV_quiet (o := .s32) h (slots 3 (by decide))) _).trans ?_
    refine (bind_of_ok (slotSel32_quiet h (slots 4 (by decide))) _).trans ?_
    refine (bind_of_ok (slotSel32_quiet h (slots 5 (by decide))) _).trans ?_
    refine (bind_of_ok (slotSel32_quiet h (slots 6 (by decide))) _).trans ?_
    refine (bind_of_ok (slotSel32_quiet h (slots 7 (by decide))) _).trans ?_
    exact bind_of_ok (slotSel32_quiet h (slots 8 (by decide))) _
  · rw [check_fails (decide_eq_false low) (run_raiseGP 0 s), check_fails (decide_eq_false low) (run_raiseGP 0 s)]

end

theorem exec_iret_faults {s t : State} {e : Exn} (h : returnFromInt s.opSize (past s) = .error (.exc e false) t) :
    faults .iret s e t := runInstr_of_exc (body := atOpSize returnFromInt) (s := s) h

/-- Settles O37: the nine doublewords, and the return within virtual-8086 mode. -/
theorem virtual8086Returns : Obligations.Virtual8086Returns := by
  refine ⟨fun s prot h nt wide ring => ?_, fun s v86 => ?_⟩
  · intro long short w vm slots
    have q : quiet (unblocked s) := ⟨h.1, h.2⟩
    have start := returnFromInt_protected (s := past s) (o := s.opSize) prot nt
    rw [wide] at start
    have ran := start.trans ((iretProtected_to86 (s := unblocked s) q slots vm ring).trans (iretToV86_checks q slots _ _ _))
    refine ⟨fun low => exec_iret_of ?_, fun high => exec_iret_faults ?_⟩
    · rw [wide]
      refine ran.trans ((check_passes (decide_eq_true low)).trans ?_)
      refine (bind_of_ok (run_setEip _ _) _).trans ((bind_of_ok (run_upd _ _) _).trans ?_)
      unfold markRf
      rw [run_upd]
      simp only [seg86_eq]
      rfl
    · rw [wide]
      exact ran.trans (check_fails (decide_eq_false (BitVec.not_le.mpr high)) (run_raiseGP 0 _))
  · have real : s.protectedMode = false := by
      unfold State.v86 at v86
      unfold State.protectedMode
      rw [Bool.and_eq_true] at v86
      rw [v86.2, Bool.not_true, Bool.and_false]
    have start := returnFromInt_real (s := past s) (o := s.opSize) real
    refine ⟨fun level => ?_, fun level h => ?_⟩
    · exact exec_iret_faults (start.trans (iretReal_refused (s := unblocked s) v86 level))
    · intro n f t w slots
      have bytes : n = sizeBytes s.opSize := width_bytes s
      have q : quiet (unblocked s) := ⟨h.1, h.2⟩
      rw [bytes] at slots
      refine ⟨fun fits => ?_, fun beyond => ?_⟩
      · simp only [t, bytes] at fits
        have done := iretReal_ok (s := unblocked s) q (fun _ => level) slots fits
        refine exec_iret_of (start.trans (done.trans ?_))
        rw [show (unblocked s).v86 = true from v86]
        simp only [t, w, bytes]
        rfl
      · simp only [t, bytes] at beyond
        exact exec_iret_faults (start.trans (iretReal_beyond (s := unblocked s) q (fun _ => level) slots beyond))

end Sys2Proof.Machine
end

section
/-!
PROOFS. The software interrupts: delivery in real-address mode (O39), and the gate that delivery in protected mode passes
(O40).
-/

namespace Sys2Proof.Machine

open Claims

/-! ### The instructions -/

/-- The kind of event that a software interrupt makes. -/
def softKind (one : Bool) : Kind := if one then .int1 else .soft

section

variable {s : State} {i : Instr} {v : BitVec 8} {one : Bool} (form : SoftForm i v one)

include form

/-- A software interrupt that its own conditions let through is its delivery. -/
theorem exec_softForm (into : i = .into → s.flags.of = true) (may : ¬(s.v86 = true ∧ s.flags.iopl ≠ 3 ∧ i = .intImm8 v)) :
    exec i s = runInstr (softInt v (softKind one)) s := by
  cases form with
  | intImm8 v =>
    have allowed : (!s.v86 || decide (s.flags.iopl = 3)) = true := by
      by_cases v86 : s.v86 = true
      · have level : s.flags.iopl = 3 := by
          by_contra other
          exact may ⟨v86, other, rfl⟩
        rw [decide_eq_true level, Bool.or_true]
      · rw [Bool.eq_false_iff.mpr v86]
        rfl
    refine runInstr_congr (f := intN v) ?_
    unfold intN
    exact (bind_of_ok (run_getS _) _).trans (check_passes allowed)
  | int3 => rfl
  | into =>
    refine runInstr_congr (f := intOverflow) ?_
    unfold intOverflow
    exact (bind_of_ok (run_getS _) _).trans (run_onlyIf_do (into rfl))
  | int1 => rfl

end

theorem exec_into_stay {s : State} (clear : s.flags.of = false) : exec .into s = .next (past s) := by
  refine runInstr_of_ok (body := intOverflow) (s := s) ?_
  unfold intOverflow
  exact (bind_of_ok (run_getS _) _).trans (run_onlyIf_stay clear)

theorem intN_refused {s : State} {v : BitVec 8} (v86 : s.v86 = true) (level : s.flags.iopl ≠ 3) :
    faults (.intImm8 v) s (.plain 13 (some 0)) (past s) := by
  refine runInstr_of_exc (body := intN v) (s := s) ?_
  unfold intN
  refine (bind_of_ok (run_getS _) _).trans (check_fails ?_ (run_raiseGP 0 _))
  change (!s.v86 || decide (s.flags.iopl = 3)) = false
  rw [v86, decide_eq_false level]
  rfl

/-- The event that a software interrupt delivers. -/
def softEvent (s : State) (v : BitVec 8) (kind : Kind) : Delivery :=
  { vec := v, kind := kind, ec := none, ret := s.here, rf := false }

theorem softInt_delivered {s t : State} {v : BitVec 8} {kind : Kind} (h : deliver (softEvent s v kind) s = .ok () t) :
    softInt v kind s = .ok () { t with ins := { t.ins with event := .soft } } := by
  unfold softInt
  exact (bind_of_ok (run_getS s) _).trans ((bind_of_ok h _).trans (run_upd _ t))

theorem softInt_stopped {s t : State} {v : BitVec 8} {kind : Kind} {e : Stop}
    (h : deliver (softEvent s v kind) s = .error e t) : softInt v kind s = .error e t := by
  unfold softInt
  exact (bind_of_ok (run_getS s) _).trans (bind_of_error h _)

/-! ### Delivery in real-address mode -/

theorem deliver_real_of {d : Delivery} {s t : State} (real : s.cr0.pe = false) (h : deliverReal d s = .ok () t) :
    deliver d s = .ok () { t with run := .running, shadow := .none } := by
  unfold deliver
  rw [bind_of_ok (run_getS s), if_neg (by simp [real]), bind_of_ok h]
  exact run_upd _ t

theorem deliver_real_stops {d : Delivery} {s t : State} {e : Stop} (real : s.cr0.pe = false)
    (h : deliverReal d s = .error e t) : deliver d s = .error e t := by
  unfold deliver
  rw [bind_of_ok (run_getS s), if_neg (by simp [real]), bind_of_error h]

/-- Where the entry of a vector lies in a table. -/
theorem vector_offset (v : BitVec 8) (k : Nat) : v.setWidth 32 * BitVec.ofNat 32 k = BitVec.ofNat 32 (v.toNat * k) := by
  apply BitVec.eq_of_toNat_eq
  simp only [BitVec.toNat_mul, BitVec.toNat_setWidth, BitVec.toNat_ofNat]
  rw [← Nat.mul_mod]

theorem retFlags_same (f : Flags) : retFlags false f = f := by
  unfold retFlags
  rw [Bool.or_false]

theorem deliverReal_outside {d : Delivery} {s : State} (outside : s.idtr.limit.toNat < d.vec.toNat * 4 + 3) :
    deliverReal d s = .error (.exc (.plain 13 (some 0)) false) s := by
  unfold deliverReal
  rw [bind_of_ok (run_getS s)]
  exact check_fails (decide_eq_false (by omega)) (run_raiseGP 0 s)

theorem deliverReal_ok {d : Delivery} {s : State} (h : quiet s) (inside : d.vec.toNat * 4 + 3 ≤ s.idtr.limit.toNat)
    (room : Room s 2 3) (plain : d.rf = false) :
    deliverReal d s = .ok () { atRealCs
        (pushed s 2 [s.flags.toWord.toNat, d.ret.sel.toNat, d.ret.off.toNat])
        (BitVec.ofNat 16 (Memory.load s.mem (addrs (s.idtr.base + BitVec.ofNat 32 (d.vec.toNat * 4) + 2) 2)))
        (BitVec.ofNat 32 (Memory.load s.mem (addrs (s.idtr.base + BitVec.ofNat 32 (d.vec.toNat * 4)) 2))) with
      flags := { s.flags with ifl := false, tf := false, rf := false } } := by
  have entry : d.vec.setWidth 32 * 4 = BitVec.ofNat 32 (d.vec.toNat * 4) := vector_offset d.vec 4
  unfold deliverReal
  rw [bind_of_ok (run_getS s)]
  refine (check_passes (decide_eq_true inside)).trans ?_
  rw [entry, bind_of_ok (roomFor_ok (Room.inLimit (by decide) room)), bind_of_ok (linRead_unpaged h.1 _ _),
    bind_of_ok (linRead_unpaged h.1 _ _), plain, retFlags_same,
    bind_of_ok (pushAll_quiet h (by decide) (vs := [_, _, _]) room)]
  exact (bind_of_ok (run_updFlags _ _) _).trans (loadCsReal_ok _ _ _)

/-- Settles O39, by the instruction: a delivery, no delivery, or the return. -/
theorem interruptsReal : Obligations.InterruptsReal := by
  intro s real h f
  have notV86 : s.v86 = false := by
    unfold State.v86
    rw [real, Bool.false_and]
  have notProt : s.protectedMode = false := by
    unfold State.protectedMode
    rw [real, Bool.false_and]
  have may : ∀ i v, ¬(s.v86 = true ∧ s.flags.iopl ≠ 3 ∧ i = Instr.intImm8 v) := by
    rintro i v ⟨v86, -⟩
    exact Bool.false_ne_true (notV86.symm.trans v86)
  refine ⟨fun i v one form into outside => ?_, fun i v one form into inside room => ?_, exec_into_stay, ?_⟩
  · have stopped := deliverReal_outside (d := softEvent (past s) v (softKind one)) (s := past s) outside
    have ran := softInt_stopped (deliver_real_stops (s := past s) real stopped)
    exact (exec_softForm form into (may i v)).trans (runInstr_of_exc ran)
  · intro at_ p
    have done := deliverReal_ok (d := softEvent (past s) v (softKind one)) (quiet_past h) inside room rfl
    have ran := softInt_delivered (deliver_real_of (s := past s) real done)
    exact (exec_softForm form into (may i v)).trans (runInstr_of_ok ran)
  · intro n t w slots fits
    have bytes : n = sizeBytes s.opSize := width_bytes s
    rw [bytes] at slots
    simp only [t, bytes] at fits
    have q : quiet (unblocked s) := ⟨h.1, h.2⟩
    have never : (unblocked s).v86 = true → (unblocked s).flags.iopl = 3 := fun v86 =>
      absurd (notV86.symm.trans v86) Bool.false_ne_true
    have done := iretReal_ok (s := unblocked s) q never slots fits
    have start := returnFromInt_real (s := past s) (o := s.opSize) notProt
    refine exec_iret_of (start.trans (done.trans ?_))
    rw [show (unblocked s).v86 = false from notV86]
    simp only [t, w, bytes]
    rfl

/-! ### The gate of an event -/

theorem deliver_protected_of {d : Delivery} {s t : State} (prot : s.cr0.pe = true) (h : deliverProtected d s = .ok () t) :
    deliver d s = .ok () { t with run := .running, shadow := .none } := by
  unfold deliver
  rw [bind_of_ok (run_getS s), if_pos prot, bind_of_ok h]
  exact run_upd _ t

theorem deliver_protected_stops {d : Delivery} {s t : State} {e : Stop} (prot : s.cr0.pe = true)
    (h : deliverProtected d s = .error e t) : deliver d s = .error e t := by
  unfold deliver
  rw [bind_of_ok (run_getS s), if_pos prot, bind_of_error h]

theorem idtCode_eq (v : BitVec 8) (kind : Kind) :
    idtCode v kind.ext = BitVec.ofNat 16 (v.toNat * 8 + 2 + if kind = .soft then 0 else 1) := by
  have soft : ∀ v : BitVec 8, idtCode v 0 = BitVec.ofNat 16 (v.toNat * 8 + 2 + 0) := by decide
  have hard : ∀ v : BitVec 8, idtCode v 1 = BitVec.ofNat 16 (v.toNat * 8 + 2 + 1) := by decide
  cases kind with
  | soft => exact soft v
  | int1 => exact hard v
  | fault => exact hard v
  | trap => exact hard v
  | abort => exact hard v
  | nmi => exact hard v
  | intr => exact hard v

theorem Kind.ext_eq (kind : Kind) : kind.ext = BitVec.ofNat 16 (if kind = .soft then 0 else 1) := by
  cases kind <;> rfl

theorem mem_idtGates {g : BitVec 4} : g ∈ idtGates ↔ g = 5 ∨ g = 6 ∨ g = 7 ∨ g = 14 ∨ g = 15 := by
  simp [idtGates]

section

variable {s : State} {d : Delivery} {g : Desc}
  (read : g = BitVec.ofNat 64 (Memory.load s.mem (addrs (s.idtr.base + BitVec.ofNat 32 (d.vec.toNat * 8)) 8)))
  (unpaged : s.cr0.pg = false) (inside : d.vec.toNat * 8 + 7 ≤ s.idtr.limit.toNat)

theorem deliverProtected_outside (outside : s.idtr.limit.toNat < d.vec.toNat * 8 + 7) :
    deliverProtected d s = .error (.exc (.plain 13 (some (idtCode d.vec d.kind.ext))) false) s := by
  unfold deliverProtected
  rw [bind_of_ok (run_getS s)]
  exact check_fails (decide_eq_false (by omega)) (run_raiseGP _ s)

include read unpaged inside

/-- The checks of a gate in the IDT. -/
theorem deliverProtected_reads : deliverProtected d s = (do
    check (g.isSystem idtGates) (raiseGP (idtCode d.vec d.kind.ext))
    check (decide (d.kind ≠ Kind.soft) || decide (s.cpl ≤ g.dpl)) (raiseGP (idtCode d.vec d.kind.ext))
    check g.p (raiseNP (idtCode d.vec d.kind.ext))
    if g.type = 5 then deliverTask d g else deliverGate d g) s := by
  have entry : d.vec.setWidth 32 * 8 = BitVec.ofNat 32 (d.vec.toNat * 8) := vector_offset d.vec 8
  unfold deliverProtected
  rw [bind_of_ok (run_getS s)]
  refine (check_passes (decide_eq_true inside)).trans ?_
  rw [entry, bind_of_ok (linRead_unpaged unpaged _ _), ← read]

theorem deliverProtected_notGate (wrong : ¬(g.s = false ∧ (g.type = 5 ∨ g.type = 6 ∨ g.type = 7 ∨ g.type = 14 ∨ g.type = 15))) :
    deliverProtected d s = .error (.exc (.plain 13 (some (idtCode d.vec d.kind.ext))) false) s := by
  have notGate : g.isSystem idtGates = false := by
    refine Bool.eq_false_iff.mpr fun gate => wrong ?_
    have parts := (Desc.isSystem_iff g idtGates).mp gate
    exact ⟨parts.1, mem_idtGates.mp parts.2⟩
  exact (deliverProtected_reads read unpaged inside).trans (check_fails notGate (run_raiseGP _ s))

variable (gate : g.s = false ∧ (g.type = 5 ∨ g.type = 6 ∨ g.type = 7 ∨ g.type = 14 ∨ g.type = 15))

include gate

/-- A gate that is one: the event may use it, and it is present. -/
theorem deliverProtected_gate : deliverProtected d s = (do
    check (decide (d.kind ≠ Kind.soft) || decide (s.cpl ≤ g.dpl)) (raiseGP (idtCode d.vec d.kind.ext))
    check g.p (raiseNP (idtCode d.vec d.kind.ext))
    if g.type = 5 then deliverTask d g else deliverGate d g) s :=
  (deliverProtected_reads read unpaged inside).trans
    (check_passes ((Desc.isSystem_iff g idtGates).mpr ⟨gate.1, mem_idtGates.mpr gate.2⟩))

theorem deliverProtected_level (soft : d.kind = .soft) (level : g.dpl < s.cpl) :
    deliverProtected d s = .error (.exc (.plain 13 (some (idtCode d.vec d.kind.ext))) false) s := by
  refine (deliverProtected_gate read unpaged inside gate).trans (check_fails ?_ (run_raiseGP _ s))
  rw [decide_eq_false (not_not.mpr soft), decide_eq_false (BitVec.not_le.mpr level)]
  rfl

variable (usable : ¬(d.kind = .soft ∧ g.dpl < s.cpl))

include usable

theorem deliverProtected_usable : deliverProtected d s = (do
    check g.p (raiseNP (idtCode d.vec d.kind.ext))
    if g.type = 5 then deliverTask d g else deliverGate d g) s := by
  refine (deliverProtected_gate read unpaged inside gate).trans (check_passes ?_)
  by_cases soft : d.kind = .soft
  · have level : s.cpl ≤ g.dpl := BitVec.not_lt.mp fun below => usable ⟨soft, below⟩
    rw [decide_eq_true level, Bool.or_true]
  · rw [decide_eq_true soft, Bool.true_or]

theorem deliverProtected_absent (absent : g.p = false) :
    deliverProtected d s = .error (.exc (.plain 11 (some (idtCode d.vec d.kind.ext))) false) s :=
  (deliverProtected_usable read unpaged inside gate usable).trans (check_fails absent (run_raiseNP _ s))

theorem deliverProtected_task (present : g.p = true) (task : g.type = 5) : deliverProtected d s = deliverTask d g s :=
  (deliverProtected_usable read unpaged inside gate usable).trans
    ((check_passes present).trans (congrFun (if_pos task) _))

theorem deliverProtected_enters (present : g.p = true) (noTask : g.type ≠ 5) :
    deliverProtected d s = deliverGate d g s :=
  (deliverProtected_usable read unpaged inside gate usable).trans
    ((check_passes present).trans (congrFun (if_neg noTask) _))

end

theorem deliverGate_null {s : State} {d : Delivery} {g : Desc} (null : g.gateSel.toNat / 4 = 0) :
    deliverGate d g s = .error (.exc (.plain 13 (some d.kind.ext)) false) s := by
  have refuses : (!selNull g.gateSel) = false := by
    rw [(selNull_iff g.gateSel).mpr null]
    rfl
  unfold deliverGate
  exact (bind_of_ok (run_getS s) _).trans (check_fails refuses (run_raiseGP _ s))

/-- Settles O40: the checks of a gate in their order, and the instructions that deliver. -/
theorem interruptGates : Obligations.InterruptGates := by
  refine ⟨fun s d prot unpaged => ?_, fun s prot i v one form into => ?_⟩
  · intro ext code g gate
    have codeEq : idtCode d.vec d.kind.ext = code := idtCode_eq d.vec d.kind
    have extEq : d.kind.ext = BitVec.ofNat 16 ext := Kind.ext_eq d.kind
    rw [← codeEq, ← extEq]
    refine ⟨fun outside => ?_, fun inside => ⟨?_, fun isGate usable absent => ?_, fun isGate usable present noTask null => ?_⟩⟩
    · exact deliver_protected_stops prot (deliverProtected_outside outside)
    · rintro (wrong | ⟨soft, level⟩)
      · exact deliver_protected_stops prot (deliverProtected_notGate rfl unpaged inside wrong)
      · by_cases isGate : gate
        · exact deliver_protected_stops prot (deliverProtected_level rfl unpaged inside isGate soft level)
        · exact deliver_protected_stops prot (deliverProtected_notGate rfl unpaged inside isGate)
    · exact deliver_protected_stops prot (deliverProtected_absent rfl unpaged inside isGate usable absent)
    · exact deliver_protected_stops prot
        ((deliverProtected_enters rfl unpaged inside isGate usable present noTask).trans (deliverGate_null null))
  · intro d mayNot
    have v86 : s.v86 = s.flags.vm := by
      unfold State.v86
      rw [prot, Bool.true_and]
    have allowed : ¬mayNot → exec i s = runInstr (softInt v (softKind one)) s := fun may =>
      exec_softForm form into (by rw [v86]; exact may)
    refine ⟨?_, fun may t done => ?_, fun may e t stopped => ?_⟩
    · rintro ⟨vm, level, rfl⟩
      exact intN_refused (v86.trans vm) level
    · exact (allowed may).trans (runInstr_of_ok (softInt_delivered done))
    · exact (allowed may).trans (runInstr_of_exc (softInt_stopped stopped))

end Sys2Proof.Machine
end

section
/-!
PROOFS. Entry through an interrupt or trap gate (O41).
-/

namespace Sys2Proof.Machine

open Claims

/-- A selector as an error code with the EXT bit of an event. -/
theorem extCode_kind (sel : Half) (kind : Kind) :
    extCode sel kind.ext = BitVec.ofNat 16 (sel.toNat / 4 * 4 + if kind = .soft then 0 else 1) := by
  by_cases soft : kind = .soft
  · rw [Kind.ext_eq, if_pos soft]
    exact extCode_zero sel
  · have apart : (sel &&& 0xFFFC) &&& (1 : Half) = 0 := by
      rw [BitVec.and_assoc]
      exact BitVec.and_zero
    rw [Kind.ext_eq, if_neg soft]
    change (sel &&& 0xFFFC) ||| (1 : Half) = _
    rw [← BitVec.add_eq_or_of_and_eq_zero _ _ apart, and_selector_mask]
    apply BitVec.eq_of_toNat_eq
    simp

/-- The flags after an entry through a gate of the type. -/
theorem entered_eq (f : Flags) (type : BitVec 4) : f.entered (!type.getLsbD 0) =
    { f with ifl := f.ifl && type.getLsbD 0, tf := false, nt := false, rf := false, vm := false } := by
  unfold Flags.entered
  rw [Bool.not_not]

/-- The flow after the values of a stack are pushed. -/
theorem pushOn_setSp {s : State} (h : quiet s) {n : Nat} (pos : 0 < n) {vs : List Nat} (room : Room s n vs.length)
    (user : Bool) (ec : Half) (rest : M Unit) : (do
      pushOn s.segs.ss s.sp user ec n vs
      setSp (s.sp - BitVec.ofNat 32 (n * vs.length))
      rest) s = rest (pushed s n vs) := by
  rw [bind_of_ok (pushOn_quiet h (Room.inLimit pos room)), bind_of_ok (run_setSp _ _)]
  unfold pushed
  rw [pushMem_eq]
  rfl

/-- The flow after a level is entered. -/
theorem enterLevel_then {s : State} (unpaged : s.cr0.pg = false) {ss sel : Half} {b a : Word} {e d : Desc}
    (ssNamed : s.descAddr ss = some b) (csNamed : s.descAddr sel = some a) (esp off : Word) (level : BitVec 2) (m : Memory)
    (rest : M Unit) : (do
      takeStack ss e esp
      loadCs sel d level
      setEip off
      upd fun t => { t with cpl := level }
      rest) { s with mem := m } = rest { touched a d (touched b e { s with mem := m }) with
        segs := (s.segs.set .ss (segmentOf ss e)).set .cs (segmentOf (BitVec.ofNat 16 (sel.toNat / 4 * 4 + level.toNat)) d),
        regs := { s.regs with esp := esp }, eip := off, cpl := level } := by
  have entered := bind_of_ok (enterLevel_ok unpaged ssNamed (e := e) csNamed (d := d) esp off level m) fun _ => rest
  simp only [bind_assoc] at entered
  exact entered

/-! ### The target of the gate -/

section

variable {s : State} {d : Delivery} {g c : Desc} {a : Word} (h : quiet s) (names : Names s g.gateSel a c)

include h names

theorem deliverGate_reads : deliverGate d g s = (do
    check (c.isCode && decide (c.dpl ≤ s.cpl)) (raiseGP (extCode g.gateSel d.kind.ext))
    check c.p (raiseNP (extCode g.gateSel d.kind.ext))
    if !c.conforming && decide (c.dpl < s.cpl) then
      if s.flags.vm then
        if c.dpl = 0 then deliverInner d g c true else raiseGP (extCode g.gateSel d.kind.ext)
      else deliverInner d g c false
    else
      if s.flags.vm then raiseGP (extCode g.gateSel d.kind.ext) else deliverSame d g c) s := by
  have proper : (!selNull g.gateSel) = true := by
    rw [names_proper names]
    rfl
  unfold deliverGate
  refine (bind_of_ok (run_getS s) _).trans ((check_passes proper).trans ?_)
  exact bind_of_ok (names_read names rfl rfl rfl h.1 _) _

/-- Any other target from virtual-8086 mode. -/
theorem deliverGate_from86_refused (vm : s.flags.vm = true) (present : c.p = true)
    (other : ¬(c.isCode = true ∧ c.conforming = false ∧ c.dpl = 0 ∧ s.cpl ≠ 0)) :
    deliverGate d g s = .error (.exc (.plain 13 (some (extCode g.gateSel d.kind.ext))) false) s := by
  rw [deliverGate_reads h names]
  by_cases code : (c.isCode && decide (c.dpl ≤ s.cpl)) = true
  · refine (check_passes code).trans ((check_passes present).trans ?_)
    by_cases inner : (!c.conforming && decide (c.dpl < s.cpl)) = true
    · rw [Bool.and_eq_true, Bool.not_eq_true', decide_eq_true_eq] at inner
      have notZero : ¬c.dpl = 0 := fun zero => by
        refine other ⟨(Bool.and_eq_true_iff.mp code).1, inner.1, zero, fun ring => ?_⟩
        rw [zero, ring] at inner
        exact BitVec.lt_irrefl _ inner.2
      rw [inner.1, decide_eq_true inner.2]
      exact (congrFun (if_pos vm) _).trans ((congrFun (if_neg notZero) _).trans (run_raiseGP _ s))
    · exact (congrFun (if_neg inner) _).trans ((congrFun (if_pos vm) _).trans (run_raiseGP _ s))
  · exact check_fails (Bool.eq_false_iff.mpr code) (run_raiseGP _ s)

theorem deliverGate_same (vm : s.flags.vm = false) (code : CodeOf c s.cpl.toNat) :
    deliverGate d g s = deliverSame d g c s := by
  have level := codeOf_level code
  have below : c.dpl ≤ s.cpl := by
    cases conf : c.conforming with
    | true => simpa [conf] using level
    | false =>
      have same : c.dpl = s.cpl := by simpa [conf] using level
      rw [same]
      exact BitVec.le_refl _
  have stays : ¬(!c.conforming && decide (c.dpl < s.cpl)) = true := by
    cases conf : c.conforming with
    | true => exact Bool.false_ne_true
    | false =>
      have same : c.dpl = s.cpl := by simpa [conf] using level
      rw [same, decide_eq_false (BitVec.lt_irrefl _)]
      exact Bool.false_ne_true
  have notVm : ¬s.flags.vm = true := by
    rw [vm]
    exact Bool.false_ne_true
  rw [deliverGate_reads h names]
  refine (check_passes (by rw [code.1, decide_eq_true below]; rfl)).trans ((check_passes code.2.1).trans ?_)
  exact (congrFun (if_neg stays) _).trans (congrFun (if_neg notVm) _)

theorem deliverGate_inner (code : c.isCode = true) (present : c.p = true) (plain : c.conforming = false)
    (inner : c.dpl < s.cpl) (to0 : s.flags.vm = true → c.dpl = 0) :
    deliverGate d g s = deliverInner d g c s.flags.vm s := by
  have enters : (!c.conforming && decide (c.dpl < s.cpl)) = true := by
    rw [plain, decide_eq_true inner]
    rfl
  rw [deliverGate_reads h names]
  refine (check_passes (by rw [code, decide_eq_true (BitVec.le_of_lt inner)]; rfl)).trans ((check_passes present).trans ?_)
  refine (congrFun (if_pos enters) _).trans ?_
  cases vm : s.flags.vm with
  | true => exact congrFun (if_pos (to0 vm)) _
  | false => rfl

/-! ### Entry at the same level -/

theorem deliverSame_ok (inside : g.gateOff ≤ c.limit)
    (room : Room s (if g.is32 then 4 else 2)
      ([(retFlags d.rf s.flags).toWord.toNat, d.ret.sel.toNat, d.ret.off.toNat] ++ ecList d.ec).length) :
    deliverSame d g c s = .ok () { touched a c (pushed s (if g.is32 then 4 else 2)
        ([(retFlags d.rf s.flags).toWord.toNat, d.ret.sel.toNat, d.ret.off.toNat] ++ ecList d.ec)) with
      segs := s.segs.set .cs (segmentOf (BitVec.ofNat 16 (g.gateSel.toNat / 4 * 4 + s.cpl.toNat)) c), eip := g.gateOff,
      flags := s.flags.entered (!g.type.getLsbD 0) } := by
  have pos : 0 < if g.is32 then 4 else 2 := by split <;> decide
  let back := [(retFlags d.rf s.flags).toWord.toNat, d.ret.sel.toNat, d.ret.off.toNat] ++ ecList d.ec
  let p := pushed s (if g.is32 then 4 else 2) back
  have named : p.descAddr g.gateSel = some a := by
    rw [descAddr_congr (s := s) (t := p) rfl rfl, names_addr names]
  unfold deliverSame
  refine (bind_of_ok (run_getS s) _).trans ((bind_of_ok (roomFor_ok (Room.inLimit pos room)) _).trans ?_)
  refine (bind_of_ok (checkTarget_ok inside _) _).trans ((pushOn_setSp h pos (vs := back) room _ _ _).trans ?_)
  refine (bind_of_ok (loadCs_unpaged (s := p) h.1 named c s.cpl) _).trans ((bind_of_ok (run_setEip _ _) _).trans ?_)
  rw [run_updFlags]
  simp only [touched_segs, touched_flags]
  rfl

/-! ### Entry to an inner level -/

variable {ss : Half} {esp b : Word} {e : Desc}

/-- The registers that an entry from virtual-8086 mode makes NULL. -/
def dropped (from86 : Bool) (r : Segs) : Segs :=
  if from86 then { r with gs := r.gs.nulled 0, fs := r.fs.nulled 0, ds := r.ds.nulled 0, es := r.es.nulled 0 } else r

omit h names in
theorem run_dropped (from86 : Bool) (t : State) : onlyIf from86 (upd fun t =>
    { t with segs := { t.segs with gs := t.segs.gs.nulled 0, fs := t.segs.fs.nulled 0, ds := t.segs.ds.nulled 0,
                                   es := t.segs.es.nulled 0 } }) t = .ok () { t with segs := dropped from86 t.segs } := by
  cases from86 with
  | true => rfl
  | false => rfl

theorem deliverInner_ok (inside : g.gateOff ≤ c.limit) (tss : TssStack s c.dpl.toNat ss esp) (ssNames : Names s ss b e)
    (stack : StackOf ss e c.dpl.toNat) (from86 : Bool) {values : List Nat}
    (pushes : values = (if from86 then [s.segs.gs.selector.toNat, s.segs.fs.selector.toNat, s.segs.ds.selector.toNat,
        s.segs.es.selector.toNat] else []) ++ [s.segs.ss.selector.toNat, s.regs.esp.toNat,
        (retFlags d.rf s.flags).toWord.toNat, d.ret.sel.toNat, d.ret.off.toNat] ++ ecList d.ec)
    (room : Room (onStack ss e esp s) (if g.is32 then 4 else 2) values.length) :
    deliverInner d g c from86 s = .ok () {
      touched a c (touched b e (pushed (onStack ss e esp s) (if g.is32 then 4 else 2) values)) with
      segs := dropped from86 ((s.segs.set .ss (segmentOf ss e)).set .cs
        (segmentOf (BitVec.ofNat 16 (g.gateSel.toNat / 4 * 4 + c.dpl.toNat)) c)),
      eip := g.gateOff, cpl := c.dpl, flags := s.flags.entered (!g.type.getLsbD 0) } := by
  have pos : 0 < if g.is32 then 4 else 2 := by split <;> decide
  have slots := onStack_room ss e esp s pos room
  have stored := pushOn_quiet h (user := decide (c.dpl = 3)) (ec := extCode ss d.kind.ext) (vs := values)
    fun j small => slots j small
  have entered := enterLevel_then h.1 (names_addr ssNames) (e := e) (names_addr names) (d := c)
    (pushedEsp (.ofBit e.db) esp (if g.is32 then 4 else 2) values.length) g.gateOff c.dpl
    ((values.zipIdx 0).foldl (storeSlot (segOf ss e) (spOf (.ofBit e.db) esp) (if g.is32 then 4 else 2)) s.mem)
  unfold deliverInner
  refine (bind_of_ok (run_getS s) _).trans ((bind_of_ok (innerStack_ok h tss ssNames stack _ _) _).trans ?_)
  dsimp only
  rw [← pushes]
  refine (bind_of_ok (roomFor_ok fun j small => slots j small) _).trans ((bind_of_ok (checkTarget_ok inside _) _).trans ?_)
  refine (bind_of_ok stored _).trans ((entered _).trans ?_)
  refine (bind_of_ok (run_updFlags _ _) _).trans ((run_dropped from86 _).trans ?_)
  unfold pushed
  rw [onStack_pushMem, onStack_pushedEsp]
  simp only [touched_eq]
  rfl

end

/-- Settles O41: entry at the same level, to an inner level, and what may not be entered from virtual-8086 mode. -/
theorem gateEntry : Obligations.GateEntry := by
  intro s d g c a opened h names n back cs flags
  obtain ⟨prot, inside, read, system, type, level, present⟩ := opened
  have isGate : g.s = false ∧ (g.type = 5 ∨ g.type = 6 ∨ g.type = 7 ∨ g.type = 14 ∨ g.type = 15) := ⟨system, .inr type⟩
  have usable : ¬(d.kind = .soft ∧ g.dpl < s.cpl) := fun ⟨soft, below⟩ =>
    BitVec.not_lt.mpr (level soft) below
  have noTask : g.type ≠ 5 := by
    rintro task
    rw [task] at type
    revert type
    decide
  have start := deliverProtected_enters read h.1 inside isGate usable present noTask
  have flagsEq : flags = s.flags.entered (!g.type.getLsbD 0) := (entered_eq s.flags g.type).symm
  rw [flagsEq]
  refine ⟨fun vm code fits room => ?_, fun code plain inner to0 fits => ?_, fun vm present other => ?_⟩
  · have done := (start.trans (deliverGate_same h names vm code)).trans (deliverSame_ok h names fits room)
    exact deliver_protected_of prot done
  · intro ss esp b e tss ssNames stack data values innerStack segs room
    have flat : values = (if s.flags.vm then [s.segs.gs.selector.toNat, s.segs.fs.selector.toNat,
        s.segs.ds.selector.toNat, s.segs.es.selector.toNat] else []) ++ [s.segs.ss.selector.toNat, s.regs.esp.toNat,
        (retFlags d.rf s.flags).toWord.toNat, d.ret.sel.toNat, d.ret.off.toNat] ++ ecList d.ec := by
      simp only [values, data, back, List.append_assoc, List.cons_append, List.nil_append]
    have done := (start.trans (deliverGate_inner h names code.1 code.2.1 plain inner to0)).trans
      (deliverInner_ok h names fits tss ssNames stack s.flags.vm flat room)
    exact deliver_protected_of prot done
  · intro ext
    have code := extCode_kind g.gateSel d.kind
    have stop := start.trans (deliverGate_from86_refused h names vm present other)
    rw [code] at stop
    exact deliver_protected_stops prot stop

end Sys2Proof.Machine
end

section
/-!
PROOFS. The task switch, unpaged: what goes to the outgoing task's TSS, and what comes from the incoming task's (O38).
-/

namespace Sys2Proof.Machine

open Claims

/-! ### Fields of a structure -/

theorem addrs_drop (a : Word) (k m : Nat) : (addrs a (k + m)).drop k = addrs (a + BitVec.ofNat 32 k) m := by
  induction k generalizing a with
  | zero =>
    rw [Nat.zero_add, List.drop_zero]
    exact (congrArg (addrs · m) (BitVec.add_zero a)).symm
  | succ k ih =>
    have next : a + 1 + BitVec.ofNat 32 k = a + BitVec.ofNat 32 (k + 1) := by
      rw [BitVec.add_assoc, Nat.add_comm k 1, BitVec.ofNat_add]
      rfl
    rw [Nat.add_right_comm, addrs, List.drop_succ_cons, ih, next]

theorem addrs_take (a : Word) {n m : Nat} (h : n ≤ m) : (addrs a m).take n = addrs a n := by
  induction m generalizing a n with
  | zero =>
    obtain rfl : n = 0 := by omega
    rfl
  | succ m ih =>
    cases n with
    | zero => rfl
    | succ n => rw [addrs, List.take_succ_cons, ih _ (by omega), addrs]

theorem fieldAt_addrs (a : Word) {len off n : Nat} (h : off + n ≤ len) :
    fieldAt (addrs a len) off n = addrs (a + BitVec.ofNat 32 off) n := by
  obtain ⟨m, rfl⟩ : ∃ m, len = off + m := ⟨len - off, by omega⟩
  unfold fieldAt
  rw [addrs_drop, addrs_take _ (by omega)]

/-- A field of the bytes from `start` on. -/
theorem fieldAt_part (a : Word) {start len off n : Nat} (low : start ≤ off) (high : off + n ≤ start + len) :
    fieldAt (addrs (a + BitVec.ofNat 32 start) len) (off - start) n = addrs (a + BitVec.ofNat 32 off) n := by
  rw [fieldAt_addrs _ (by omega), BitVec.add_assoc, ← BitVec.ofNat_add, Nat.add_sub_cancel' low]

section

variable {s : State} {b : Word} {len off : Nat}

theorem loadField_ok {n : Nat} (h : off + n ≤ len) : loadField (addrs b len) off n s = .ok (fieldOf s.mem b off n) s := by
  unfold loadField
  rw [run_loadAt, fieldAt_addrs b h]
  rfl

theorem loadField32_ok (h : off + 4 ≤ len) :
    loadField32 (addrs b len) off s = .ok (BitVec.ofNat 32 (fieldOf s.mem b off 4)) s := by
  unfold loadField32
  rw [bind_of_ok (loadField_ok h), run_pure]

theorem loadField16_ok (h : off + 2 ≤ len) :
    loadField16 (addrs b len) off s = .ok (BitVec.ofNat 16 (fieldOf s.mem b off 2)) s := by
  unfold loadField16
  rw [bind_of_ok (loadField_ok h), run_pure]

theorem loadReg16_ok (h : off + 2 ≤ len) : loadReg16 (addrs b len) off s =
    .ok (withLow16 (Config.freeWord s.draws) (BitVec.ofNat 16 (fieldOf s.mem b off 2))) { s with draws := s.draws + 1 } := by
  unfold loadReg16
  rw [bind_of_ok (loadField16_ok h)]
  rfl

theorem storeFields_ok {start n : Nat} {l : List (Nat × Nat)} {s : State}
    (inside : ∀ x ∈ l, start ≤ x.1 ∧ x.1 + n ≤ start + len) :
    storeFields (addrs (b + BitVec.ofNat 32 start) len) start n l s =
      .ok () { s with mem := withFields b (l.map fun x => (x.1, n, x.2)) s.mem } := by
  induction l generalizing s with
  | nil => rfl
  | cons x l ih =>
    have here := inside x List.mem_cons_self
    have rest := ih (s := { s with mem := Memory.store s.mem (addrs (b + BitVec.ofNat 32 x.1) n) x.2 })
      fun y member => inside y (List.mem_cons_of_mem x member)
    unfold storeFields at rest ⊢
    unfold forEach
    rw [fieldAt_part b here.1 here.2]
    exact rest

end

theorem withFields_append (b : Word) (l r : List (Nat × Nat × Nat)) (m : Memory) :
    withFields b (l ++ r) m = withFields b r (withFields b l m) := by
  induction l generalizing m with
  | nil => rfl
  | cons x l ih => exact ih _

/-! ### Saving the outgoing task -/

theorem saveTask_ok (s : State) (ret : FarPtr) (flags : Flags) :
    saveTask (s.tr.type.getLsbD 3)
      (addrs (s.tr.base + BitVec.ofNat 32 (savedPart (s.tr.type.getLsbD 3)).1) (savedPart (s.tr.type.getLsbD 3)).2)
      ret flags.toWord s = .ok () { s with mem := withFields s.tr.base (outgoing s ret flags) s.mem } := by
  unfold saveTask outgoing
  cases wide : s.tr.type.getLsbD 3 with
  | true =>
    refine (bind_of_ok (run_getS s) _).trans ((bind_of_ok (storeFields_ok (by simp [savedPart])) _).trans
      ((storeFields_ok (by simp [savedPart])).trans ?_))
    dsimp only
    rw [← withFields_append]
    rfl
  | false =>
    refine (bind_of_ok (run_getS s) _).trans ((storeFields_ok (by simp [savedPart])).trans ?_)
    rfl

/-! ### Reading the incoming task -/

/-- The general registers of a 32-bit TSS. -/
def tssRegs32 (m : Memory) (b : Word) : Regs :=
  let r := fun off => BitVec.ofNat 32 (fieldOf m b off 4)
  ⟨r 0x28, r 0x2C, r 0x30, r 0x34, r 0x38, r 0x3C, r 0x40, r 0x44⟩

/-- The general registers of a 16-bit TSS, the upper halves drawn from `k` on. -/
def tssRegs16 (m : Memory) (b : Word) (k : Nat) : Regs :=
  let r := fun off j => withLow16 (Config.freeWord (k + j)) (BitVec.ofNat 16 (fieldOf m b off 2))
  ⟨r 0x12 0, r 0x14 1, r 0x16 2, r 0x18 3, r 0x1A 4, r 0x1C 5, r 0x1E 6, r 0x20 7⟩

/-- What a 32-bit TSS gives. -/
def image32 (m : Memory) (b : Word) : TaskImage :=
  let w := fun off => BitVec.ofNat 32 (fieldOf m b off 4)
  let h := fun off => BitVec.ofNat 16 (fieldOf m b off 2)
  { cr3 := some (w 0x1C), eip := w 0x20, flags := w 0x24, regs := tssRegs32 m b, ldt := h 0x60, es := h 0x48, cs := h 0x4C,
    ss := h 0x50, ds := h 0x54, fs := h 0x58, gs := h 0x5C, trap := (h 0x64).getLsbD 0 }

/-- What a 16-bit TSS gives. -/
def image16 (m : Memory) (b : Word) (k : Nat) : TaskImage :=
  let h := fun off => BitVec.ofNat 16 (fieldOf m b off 2)
  { cr3 := none, eip := (h 0x0E).setWidth 32, flags := (h 0x10).setWidth 32, regs := tssRegs16 m b k, ldt := h 0x2A,
    es := h 0x22, cs := h 0x24, ss := h 0x26, ds := h 0x28, fs := 0, gs := 0, trap := false }

theorem readTask_wide (s : State) (b : Word) : readTask true (addrs b 104) s = .ok (image32 s.mem b) s := by
  unfold readTask
  rw [if_pos rfl]
  simp only [run_bind, run_pure, loadField32_ok (b := b) (len := 104),
    loadField16_ok (b := b) (len := 104), Nat.reduceAdd, Nat.reduceLeDiff]
  rfl

theorem readTask_narrow (s : State) (b : Word) :
    readTask false (addrs b 44) s = .ok (image16 s.mem b s.draws) { s with draws := s.draws + 8 } := by
  unfold readTask
  rw [if_neg Bool.false_ne_true]
  simp only [run_bind, run_pure, loadReg16_ok (b := b) (len := 44),
    loadField16_ok (b := b) (len := 44), Nat.reduceAdd, Nat.reduceLeDiff]
  rfl

theorem fieldOf_lt (m : Memory) (b : Word) (off n : Nat) : fieldOf m b off n < 256 ^ n := by
  have small := Memory.load_lt m (addrs (b + BitVec.ofNat 32 off) n)
  rw [addrs_length] at small
  exact small

theorem halfWord_low (w : Word) (v : Half) : (withLow16 w v).toNat % 256 ^ 2 = v.toNat := by
  rw [withLow16_eq, BitVec.toNat_append, Nat.shiftLeft_eq, Nat.mul_comm, ← Nat.two_pow_add_eq_or_of_lt v.isLt]
  have small := v.isLt
  omega

theorem incoming_wide (m : Memory) {td : Desc} (wide : td.is32 = true) : Incoming m td (image32 m td.base) := by
  have reg : ∀ off, (BitVec.ofNat 32 (fieldOf m td.base off 4)).toNat % 256 ^ 4 = fieldOf m td.base off 4 := fun off => by
    have small := fieldOf_lt m td.base off 4
    rw [BitVec.toNat_ofNat]
    omega
  have trap : (BitVec.ofNat 16 (fieldOf m td.base 0x64 2)).getLsbD 0 = (fieldOf m td.base 0x64 2).testBit 0 := by
    rw [BitVec.getLsbD_ofNat]
    rfl
  unfold Incoming
  simp only [wide, if_true, true_and]
  refine ⟨rfl, rfl, ?_, rfl, rfl, rfl, rfl, rfl, rfl, rfl, rfl, ?_⟩
  · intro k r named
    have bound : k < 8 := (List.getElem?_eq_some_iff.mp named).1
    interval_cases k <;> obtain rfl : _ = r := Option.some.inj named <;> exact reg _
  · rw [← trap]
    rfl

theorem incoming_narrow (m : Memory) {td : Desc} (narrow : td.is32 = false) (n : Nat) :
    Incoming m td (image16 m td.base n) := by
  have half : ∀ off, (BitVec.ofNat 16 (fieldOf m td.base off 2)).toNat = fieldOf m td.base off 2 := fun off =>
    (BitVec.toNat_ofNat _ _).trans (Nat.mod_eq_of_lt (fieldOf_lt m td.base off 2))
  have reg : ∀ w off, (withLow16 w (BitVec.ofNat 16 (fieldOf m td.base off 2))).toNat % 256 ^ 2 = fieldOf m td.base off 2 :=
    fun w off => (halfWord_low w _).trans (half off)
  have extended : ∀ off, (BitVec.ofNat 16 (fieldOf m td.base off 2)).setWidth 32 = BitVec.ofNat 32 (fieldOf m td.base off 2) :=
    fun off => by
      apply BitVec.eq_of_toNat_eq
      rw [BitVec.toNat_setWidth, half, BitVec.toNat_ofNat]
  unfold Incoming
  simp only [narrow, Bool.false_eq_true, if_false, false_and, iff_false]
  refine ⟨extended _, extended _, ?_, rfl, rfl, rfl, rfl, rfl, rfl, rfl, rfl, Bool.false_ne_true⟩
  intro k r named
  have bound : k < 8 := (List.getElem?_eq_some_iff.mp named).1
  interval_cases k <;> obtain rfl : _ = r := Option.some.inj named <;> exact reg _ _

/-! ### The switch -/

/-- Another memory, and another log of the bytes that no fault undoes. -/
def remem (s : State) (m : Memory) (l : List Host.Cell) : State := { s with mem := m, ins := { s.ins with sysLog := l } }

section

variable {s : State} {m : Memory} {l : List Host.Cell}

theorem clearBusy_ok (unpaged : s.cr0.pg = false) :
    ∃ l', clearBusy s.tr.selector (remem s m l) = .ok () (remem s (idled s m) l') := by
  have same : (remem s m l).descAddr s.tr.selector = descriptorAt s s.tr.selector :=
    (descAddr_congr (s := s) (t := remem s m l) rfl rfl _).trans (descAddr_eq s _)
  unfold clearBusy idled
  simp only [run_bind, run_getS, same]
  cases descriptorAt s s.tr.selector with
  | none => exact ⟨l, rfl⟩
  | some b =>
    have byte : BitVec.ofNat 8 (Memory.load m (addrs (b + 5) 1)) = Memory.read m (b + 5).toNat := by
      apply BitVec.eq_of_toNat_eq
      rw [BitVec.toNat_ofNat]
      simp only [addrs, Memory.load]
      have small := (Memory.read m (b + 5).toNat).isLt
      omega
    have read := linRead_unpaged (s := remem s m l) unpaged (b + 5) 1
    have ran := (bind_of_ok read fun v => linWriteSysByte (b + 5) (BitVec.ofNat 8 v &&& 0xFD)).trans
      (linWriteSysByte_unpaged (s := remem s m l) unpaged _ _)
    rw [show BitVec.ofNat 8 (Memory.load (remem s m l).mem (addrs (b + 5) 1)) = _ from byte] at ran
    exact ⟨_, ran⟩

theorem setBusy_unpaged (unpaged : s.cr0.pg = false) {tsel : Half} {a : Word} (named : s.descAddr tsel = some a) (td : Desc) :
    ∃ l', setBusy tsel td (remem s m l) =
      .ok () (remem s (Memory.write m (a + 5).toNat (td.extractLsb' 40 8 ||| 2)) l') :=
  ⟨_, setBusy_ok (s := remem s m l) ((descAddr_congr (s := s) (t := remem s m l) rfl rfl tsel).trans named)
    (linWriteSysByte_unpaged (s := remem s m l) unpaged _ _)⟩

end

theorem nests_eq (kind : SwitchKind) : kind.nests = decide (kind = .call ∨ kind = .int) := by
  cases kind <;> rfl

/-- The flags that the outgoing task's TSS receives. -/
def savedFlags (kind : SwitchKind) (flags : Flags) : Flags := if kind = .iret then { flags with nt := false } else flags

section

variable {s : State} {tsel : Half} {a : Word} {td : Desc} (unpaged : s.cr0.pg = false) (named : s.descAddr tsel = some a)
  (kind : SwitchKind) (ret : FarPtr) (flags : Flags)

include unpaged named

/-- The writes of a switch: the outgoing task is saved, the new one linked or the old one made idle, the new one made busy. -/
theorem switch_writes (rest : M Unit) (linkAs : List Word) (link : kind.nests = true → linkAs = addrs td.base 2) :
    ∃ l, (do
      saveTask (s.tr.type.getLsbD 3)
        (addrs (s.tr.base + BitVec.ofNat 32 (savedPart (s.tr.type.getLsbD 3)).1) (savedPart (s.tr.type.getLsbD 3)).2)
        ret (savedFlags kind flags).toWord
      onlyIf kind.nests (storeAt linkAs s.tr.selector.toNat)
      onlyIf (!kind.nests) (clearBusy s.tr.selector)
      onlyIf (decide (kind ≠ SwitchKind.iret)) (setBusy tsel td)
      rest) s = rest (remem s (switchMem s a td kind ret flags) l) := by
  let saved := withFields s.tr.base (outgoing s ret (savedFlags kind flags)) s.mem
  have saves := saveTask_ok s ret (savedFlags kind flags)
  have linked : ∃ l, (do
      onlyIf kind.nests (storeAt linkAs s.tr.selector.toNat)
      onlyIf (!kind.nests) (clearBusy s.tr.selector)) (remem s saved s.ins.sysLog) =
        .ok () (remem s (if kind = .call ∨ kind = .int then Memory.store saved (addrs td.base 2) s.tr.selector.toNat
          else idled s saved) l) := by
    have nests := nests_eq kind
    by_cases nested : kind = .call ∨ kind = .int
    · have holds : kind.nests = true := by
        rw [nests, decide_eq_true nested]
      rw [if_pos nested, holds, link holds]
      exact ⟨s.ins.sysLog, rfl⟩
    · have fails : kind.nests = false := by
        rw [nests, decide_eq_false nested]
      obtain ⟨l, cleared⟩ := clearBusy_ok (s := s) (m := saved) (l := s.ins.sysLog) unpaged
      rw [if_neg nested, fails]
      exact ⟨l, (bind_of_ok (run_onlyIf_stay rfl) _).trans ((run_onlyIf_do rfl).trans cleared)⟩
  obtain ⟨l, linked⟩ := linked
  have marked : ∀ m, ∃ l', onlyIf (decide (kind ≠ SwitchKind.iret)) (setBusy tsel td) (remem s m l) =
      .ok () (remem s (if kind = .iret then m else Memory.write m (a + 5).toNat (td.extractLsb' 40 8 ||| 2)) l') := fun m => by
    by_cases back : kind = .iret
    · rw [if_pos back]
      exact ⟨l, run_onlyIf_stay (decide_eq_false (not_not.mpr back))⟩
    · obtain ⟨l', busy⟩ := setBusy_unpaged (s := s) (m := m) (l := l) unpaged named td
      rw [if_neg back]
      exact ⟨l', (run_onlyIf_do (decide_eq_true back)).trans busy⟩
  obtain ⟨l', marked⟩ := marked _
  have links := bind_of_ok linked fun _ => do
    onlyIf (decide (kind ≠ SwitchKind.iret)) (setBusy tsel td)
    rest
  simp only [bind_assoc] at links
  exact ⟨l', (bind_of_ok saves _).trans (links.trans (bind_of_ok marked _))⟩

end

end Sys2Proof.Machine
end

section
/-!
PROOFS. The task switch as a whole, and the validation of the incoming task's selectors (O38).
-/

namespace Sys2Proof.Machine

open Claims

/-! ### The switch -/

section

variable {s : State} {tsel : Half} {a : Word} {td : Desc} {kind : SwitchKind} {ext : Half} {ret : FarPtr} {flags : Flags}

theorem switchTasks_short (short : td.limit.toNat < if td.is32 then 0x67 else 0x2B) :
    switchTasks tsel td kind ext ret flags s = .error (.exc (.plain 10 (some (extCode tsel ext))) false) s := by
  unfold switchTasks
  rw [bind_of_ok (run_getS s)]
  exact check_fails (decide_eq_false (by omega)) (run_raiseTS _ s)

/-- The addresses of the back link. -/
theorem linkAddrs_ok (unpaged : s.cr0.pg = false) : ∃ as,
    (if kind.nests then physOf td.base 2 true false else pure []) s = .ok as s ∧ (kind.nests = true → as = addrs td.base 2) := by
  cases kind.nests with
  | true => exact ⟨_, physOf_unpaged unpaged _ _ _ _, fun _ => rfl⟩
  | false => exact ⟨[], rfl, fun wrong => absurd wrong Bool.false_ne_true⟩

/-- What the incoming task's TSS gives, of either size. -/
theorem readTask_ok (t : State) (td : Desc) : ∃ i k,
    readTask td.is32 (addrs td.base (if td.is32 then 104 else 44)) t = .ok i { t with draws := k } ∧ Incoming t.mem td i := by
  cases wide : td.is32 with
  | true => exact ⟨_, t.draws, readTask_wide t td.base, incoming_wide t.mem wide⟩
  | false => exact ⟨_, _, readTask_narrow t td.base, incoming_narrow t.mem wide _⟩

theorem enterTask_ok (t : State) (unpaged : t.cr0.pg = false) (nests : Bool) (i : TaskImage) :
    enterTask tsel td nests i t = .ok () (entered t tsel td nests t.mem i) := by
  have level : BitVec.ofNat 2 i.cs.toNat = selRpl i.cs := by
    rw [← selRpl_ofNat]
    apply BitVec.eq_of_toNat_eq
    simp only [BitVec.toNat_ofNat]
    omega
  unfold enterTask entered
  rw [run_upd]
  simp only [unpaged, Bool.false_and, Bool.false_eq_true, if_false, level]
  rfl

theorem inNewTask_ok {α : Type} {x : M α} {v : α} {s t : State} (h : x s = .ok v t) : inNewTask x s = .ok v t := by
  unfold inNewTask
  rw [h]

theorem inNewTask_exc {α : Type} {x : M α} {e : Exn} {c : Bool} {s t : State} (h : x s = .error (.exc e c) t) :
    inNewTask x s = .error (.exc e true) t := by
  unfold inNewTask
  rw [h]

theorem switchTasks_ok (unpaged : s.cr0.pg = false) (named : s.descAddr tsel = some a)
    (long : (if td.is32 then 0x67 else 0x2B) ≤ td.limit.toNat) : ∃ (i : TaskImage) (k : Nat) (l : List Host.Cell),
      Incoming (switchMem s a td kind ret flags) td i ∧
      switchTasks tsel td kind ext ret flags s = inNewTask (loadTaskSegs ext i)
        { remem (entered s tsel td kind.nests (switchMem s a td kind ret flags) i) (switchMem s a td kind ret flags) l with
          draws := k } := by
  obtain ⟨as, link, linkAs⟩ := linkAddrs_ok (s := s) (td := td) (kind := kind) unpaged
  obtain ⟨l, writes⟩ := switch_writes unpaged named kind ret flags
    (do let i ← readTask td.is32 (addrs td.base (if td.is32 then 104 else 44))
        enterTask tsel td kind.nests i
        inNewTask (loadTaskSegs ext i)) as linkAs
  obtain ⟨i, k, read, incoming⟩ := readTask_ok (remem s (switchMem s a td kind ret flags) l) td
  refine ⟨i, k, l, incoming, ?_⟩
  unfold switchTasks
  refine (bind_of_ok (run_getS s) _).trans ((check_passes (decide_eq_true long)).trans ?_)
  refine (bind_of_ok (physOf_unpaged unpaged _ _ _ _) _).trans ((bind_of_ok link _).trans ?_)
  refine (bind_of_ok (physOf_unpaged unpaged _ _ _ _) _).trans (writes.trans ((bind_of_ok read _).trans ?_))
  exact bind_of_ok (enterTask_ok { remem s (switchMem s a td kind ret flags) l with draws := k } unpaged _ i) _

end

/-! ### The selectors of the incoming task -/

section

variable {s : State} {ext : Half}

theorem isSystem_ldt {d : Desc} (system : d.s = false) (type : d.type = 2) : d.isSystem [2] = true :=
  (Desc.isSystem_iff d _).mpr ⟨system, by rw [type]; exact List.mem_cons_self⟩

theorem loadTaskLdt_ok (unpaged : s.cr0.pg = false) {sel : Half} {l : SysReg} (loads : LdtLoads s sel l) :
    loadTaskLdt ext sel s = .ok () { s with ldtr := l } := by
  unfold loadTaskLdt
  rcases loads with ⟨null, rfl⟩ | ⟨a, d, names, global, system, type, present, rfl⟩
  · exact congrFun (if_pos ((selNull_iff sel).mpr null)) _
  · have proper : ¬selNull sel = true := by
      rw [names_proper names]
      exact Bool.false_ne_true
    have global : (!selLocal sel) = true := by
      rw [selLocal_eq, decide_eq_false (by omega)]
      rfl
    have fits : (d.isSystem [2] && d.p) = true := by
      rw [isSystem_ldt system type, present]
      rfl
    refine (congrFun (if_neg proper) _).trans ((check_passes global).trans ?_)
    refine (bind_of_ok (names_read names rfl rfl rfl unpaged _) _).trans ((check_passes fits).trans ?_)
    exact run_upd _ s

theorem loadTaskCs_ok (unpaged : s.cr0.pg = false) {sel : Half} {a : Word} {d : Desc} (names : Names s sel a d)
    (code : CodeOf d (sel.toNat % 4)) (accessed : d.getLsbD 40 = true) :
    loadTaskCs ext sel s = .ok () { s with segs := s.segs.set .cs (segmentOf sel d) } := by
  rw [← toNat_selRpl] at code
  unfold loadTaskCs
  refine (check_passes (by rw [names_proper names]; rfl)).trans ?_
  refine (bind_of_ok (names_read names rfl rfl rfl unpaged _) _).trans ((check_passes code.1).trans ?_)
  refine (check_passes (codeOf_level code)).trans ((check_passes code.2.1).trans ?_)
  rw [loadSeg_accessed accessed, segOf_eq]

theorem loadTaskSs_ok (h : quiet s) {sel : Half} {a : Word} {d : Desc} (names : Names s sel a d)
    (stack : StackOf sel d s.cpl.toNat) (accessed : d.getLsbD 40 = true) :
    loadTaskSs ext sel s = .ok () { s with segs := s.segs.set .ss (segmentOf sel d) } := by
  unfold loadTaskSs
  refine (check_passes (by rw [names_proper names]; rfl)).trans ((bind_of_ok (run_getS s) _).trans ?_)
  rw [bind_of_ok (checkStackSeg_ok h names stack _ _), loadSeg_accessed accessed, segOf_eq]

theorem loadDataProt_ok (unpaged : s.cr0.pg = false) {sel : Half} {r : SReg} {g : SegReg} {bad : LoadFail}
    (loads : DataLoads s sel (s.segs.get r) g) :
    loadDataProt bad ext r sel s = .ok () { s with segs := s.segs.set r g } := by
  unfold loadDataProt
  rcases loads with ⟨null, rfl⟩ | ⟨a, d, names, readable, level, present, accessed, rfl⟩
  · exact congrFun (if_pos ((selNull_iff sel).mpr null)) _
  · have proper : ¬selNull sel = true := by
      rw [names_proper names]
      exact Bool.false_ne_true
    have allowed : (d.conforming || (decide (selRpl sel ≤ d.dpl) && decide (s.cpl ≤ d.dpl))) = true := by
      rcases level with conf | ⟨rpl, cpl⟩
      · rw [conf, Bool.true_or]
      · rw [← toNat_selRpl] at rpl
        rw [decide_eq_true (BitVec.le_def.mpr rpl), decide_eq_true cpl, Bool.and_self, Bool.or_true]
    refine (congrFun (if_neg proper) _).trans ?_
    refine (bind_of_ok (names_read names rfl rfl rfl unpaged _) _).trans ((bind_of_ok (run_getS s) _).trans ?_)
    refine (check_passes readable).trans ((check_passes allowed).trans ((check_passes present).trans ?_))
    rw [loadSeg_accessed accessed, segOf_eq]

theorem loadTaskSegs_v86 (unpaged : s.cr0.pg = false) {i : TaskImage} {l : SysReg} (ldt : LdtLoads s i.ldt l)
    (vm : s.flags.vm = true) : loadTaskSegs ext i s = .ok () { s with
      ldtr := l,
      segs := { es := seg86 i.es, cs := seg86 i.cs, ss := seg86 i.ss, ds := seg86 i.ds, fs := seg86 i.fs,
                gs := seg86 i.gs } } := by
  unfold loadTaskSegs
  refine (bind_of_ok (loadTaskLdt_ok unpaged ldt) _).trans ((bind_of_ok (run_getS _) _).trans ?_)
  refine (congrFun (if_pos vm) _).trans ((run_upd _ _).trans ?_)
  simp only [seg86_eq]

theorem loadTaskSegs_ok (h : quiet s) {i : TaskImage} {l : SysReg} (ldt : LdtLoads s i.ldt l) (vm : s.flags.vm = false)
    {a b : Word} {c d : Desc} {ds es fs gs : SegReg} (cs : Names { s with ldtr := l } i.cs a c)
    (code : CodeOf c (i.cs.toNat % 4)) (csMarked : c.getLsbD 40 = true) (ss : Names { s with ldtr := l } i.ss b d)
    (stack : StackOf i.ss d s.cpl.toNat) (ssMarked : d.getLsbD 40 = true)
    (dsLoads : DataLoads { s with ldtr := l } i.ds s.segs.ds ds) (esLoads : DataLoads { s with ldtr := l } i.es s.segs.es es)
    (fsLoads : DataLoads { s with ldtr := l } i.fs s.segs.fs fs) (gsLoads : DataLoads { s with ldtr := l } i.gs s.segs.gs gs) :
    loadTaskSegs ext i s = .ok () { s with
      ldtr := l, segs := { es := es, cs := segmentOf i.cs c, ss := segmentOf i.ss d, ds := ds, fs := fs, gs := gs } } := by
  let u := fun g : Segs => { s with ldtr := l, segs := g }
  have notVm : ¬s.flags.vm = true := by
    rw [vm]
    exact Bool.false_ne_true
  let g1 := s.segs.set .cs (segmentOf i.cs c)
  let g2 := g1.set .ss (segmentOf i.ss d)
  let g3 := g2.set .ds ds
  let g4 := g3.set .es es
  let g5 := g4.set .fs fs
  have takeSs : loadTaskSs ext i.ss (u g1) = .ok () (u g2) := loadTaskSs_ok (s := u g1) h ss stack ssMarked
  have takeDs : loadDataProt raiseTS ext .ds i.ds (u g2) = .ok () (u g3) := loadDataProt_ok (s := u g2) h.1 dsLoads
  have takeEs : loadDataProt raiseTS ext .es i.es (u g3) = .ok () (u g4) := loadDataProt_ok (s := u g3) h.1 esLoads
  have takeFs : loadDataProt raiseTS ext .fs i.fs (u g4) = .ok () (u g5) := loadDataProt_ok (s := u g4) h.1 fsLoads
  unfold loadTaskSegs
  refine (bind_of_ok (loadTaskLdt_ok h.1 ldt) _).trans ((bind_of_ok (run_getS _) _).trans ?_)
  refine (congrFun (if_neg notVm) _).trans ((bind_of_ok (loadTaskCs_ok (s := u s.segs) h.1 cs code csMarked) _).trans ?_)
  refine (bind_of_ok takeSs _).trans ((bind_of_ok takeDs _).trans ((bind_of_ok takeEs _).trans ((bind_of_ok takeFs _).trans ?_)))
  exact loadDataProt_ok (s := u g5) h.1 gsLoads

end

end Sys2Proof.Machine
end

section
/-!
PROOFS. What switches tasks: far transfers, IRET with NT = 1, and task gates (O38).
-/

namespace Sys2Proof.Machine

open Claims

/-! ### The test of the new EIP -/

theorem checkNewEip_ok {t : State} (inside : t.eip ≤ t.segs.cs.limit) (ext : Half) : checkNewEip ext t = .ok () t := by
  unfold checkNewEip
  exact inNewTask_ok ((bind_of_ok (run_getS t) _).trans (checkTarget_ok inside ext))

theorem checkNewEip_beyond {t : State} (beyond : t.segs.cs.limit < t.eip) (ext : Half) :
    checkNewEip ext t = .error (.exc (.plain 13 (some ext)) true) t := by
  unfold checkNewEip
  exact inNewTask_exc ((bind_of_ok (run_getS t) _).trans (checkTarget_beyond beyond ext))

/-- An instruction that ends with the test of the new EIP. -/
theorem switched_of {i : Instr} {s t : State} {body : M Unit} (runs : exec i s = runInstr body s)
    (ends : body (past s) = checkNewEip 0 t) : Switched i s t :=
  ⟨fun inside => runs.trans (runInstr_of_ok (ends.trans (checkNewEip_ok inside 0))),
    fun beyond => runs.trans (runInstr_of_exc (ends.trans (checkNewEip_beyond beyond 0)))⟩

/-! ### The descriptor of a TSS that a gate or a link names -/

section

variable {s : State} {sel : Half} {a : Word} {td : Desc} {types : List (BitVec 4)} {ext : Half}

theorem readTss_ok (h : quiet s) (names : Names s sel a td) (global : sel.toNat / 4 % 2 = 0) (system : td.s = false)
    (type : td.type ∈ types) (present : td.p = true) : readTss sel types ext s = .ok td s := by
  unfold readTss
  refine (check_passes (by rw [names_proper names]; rfl)).trans ?_
  refine (check_passes (by rw [selLocal_eq, decide_eq_false (by omega)]; rfl)).trans ?_
  refine (bind_of_ok (names_read names rfl rfl rfl h.1 _) _).trans ?_
  exact (check_passes ((Desc.isSystem_iff td types).mpr ⟨system, type⟩)).trans (check_passes present)

theorem readTss_refused (h : quiet s) (names : Names s sel a td)
    (wrong : ¬(td.s = false ∧ td.type ∈ types ∧ sel.toNat / 4 % 2 = 0)) :
    readTss sel types ext s = .error (.exc (.plain 13 (some (extCode sel ext))) false) s := by
  unfold readTss
  refine (check_passes (by rw [names_proper names]; rfl)).trans ?_
  by_cases global : sel.toNat / 4 % 2 = 0
  · refine (check_passes (by rw [selLocal_eq, decide_eq_false (by omega)]; rfl)).trans ?_
    refine (bind_of_ok (names_read names rfl rfl rfl h.1 _) _).trans (check_fails ?_ (run_raiseGP _ s))
    refine Bool.eq_false_iff.mpr fun fits => wrong ?_
    obtain ⟨system, type⟩ := (Desc.isSystem_iff td types).mp fits
    exact ⟨system, type, global⟩
  · exact check_fails (by rw [selLocal_eq, decide_eq_true (by omega)]; rfl) (run_raiseGP _ s)

end

/-! ### Far transfers -/

section

variable {s : State} {k : FarKind} {o : Size} {sel : Half} {off : Word} {b : Word} {g : Desc} (h : quiet s)
  (names : Names s sel b g) (system : g.s = false)

include h names system

/-- A system descriptor is no code segment and, by its type, a task gate or a TSS. -/
theorem farProtected_taskGate (type : g.type = 5) : farProtected k o sel off s = farTaskGate k sel g s := by
  have notCode : ¬g.isCode = true := by
    unfold Desc.isCode
    rw [system]
    exact Bool.false_ne_true
  have notCall : ¬g.isSystem [4, 12] = true := by
    rw [Desc.isSystem_iff, type]
    simp
  have gate : g.isSystem [5] = true := (Desc.isSystem_iff g _).mpr ⟨system, by rw [type]; exact List.mem_cons_self⟩
  rw [farProtected_reads h names, if_neg notCode, if_neg notCall, if_pos gate]

theorem farProtected_tss (type : g.type ∈ [1, 3, 9, 11]) : farProtected k o sel off s = farTss k sel g s := by
  have notCode : ¬g.isCode = true := by
    unfold Desc.isCode
    rw [system]
    exact Bool.false_ne_true
  have apart : ∀ v : BitVec 4, v ∈ [1, 3, 9, 11] → v ∉ [4, 12] ∧ v ∉ [5] := by decide
  have notCall : ¬g.isSystem [4, 12] = true := fun gate => (apart _ type).1 ((Desc.isSystem_iff g _).mp gate).2
  have notGate : ¬g.isSystem [5] = true := fun gate => (apart _ type).2 ((Desc.isSystem_iff g _).mp gate).2
  have tss : g.isSystem [1, 3, 9, 11] = true := (Desc.isSystem_iff g _).mpr ⟨system, type⟩
  rw [farProtected_reads h names, if_neg notCode, if_neg notCall, if_neg notGate, if_pos tss]

omit h names system in
theorem farTss_refused (wrong : ¬(s.cpl ≤ g.dpl ∧ sel.toNat % 4 ≤ g.dpl.toNat) ∨ g.type = 3 ∨ g.type = 11) :
    farTss k sel g s = .error (.exc (.plain 13 (some (selCode sel))) false) s := by
  unfold farTss
  refine (bind_of_ok (run_getS s) _).trans (check_fails ?_ (run_raiseGP _ s))
  refine Bool.eq_false_iff.mpr fun passes => ?_
  simp only [Bool.and_eq_true, decide_eq_true_eq, BitVec.le_def (x := selRpl sel), toNat_selRpl, Desc.isSystem_iff] at passes
  obtain ⟨⟨⟨cpl, rpl⟩, -, available⟩, -⟩ := passes
  rcases wrong with mayNot | type | type
  · exact mayNot ⟨cpl, rpl⟩
  · rw [type] at available
    exact absurd available (by decide)
  · rw [type] at available
    exact absurd available (by decide)

omit h names in
theorem farTss_switches (may : s.cpl ≤ g.dpl ∧ sel.toNat % 4 ≤ g.dpl.toNat) (type : g.type = 1 ∨ g.type = 9)
    (global : sel.toNat / 4 % 2 = 0) (present : g.p = true) : farTss k sel g s = farSwitch k sel g s := by
  have passes : (decide (s.cpl ≤ g.dpl) && decide (selRpl sel ≤ g.dpl) && g.isSystem [1, 9] && !selLocal sel) = true := by
    simp only [Bool.and_eq_true, decide_eq_true_eq, BitVec.le_def (x := selRpl sel), toNat_selRpl, Desc.isSystem_iff]
    refine ⟨⟨may, system, by simpa using type⟩, ?_⟩
    rw [selLocal_eq, decide_eq_false (by omega)]
    rfl
  unfold farTss
  exact (bind_of_ok (run_getS s) _).trans ((check_passes passes).trans (check_passes present))

omit names system in
theorem farTaskGate_switches (may : s.cpl ≤ g.dpl ∧ sel.toNat % 4 ≤ g.dpl.toNat) (present : g.p = true) {a : Word} {td : Desc}
    (tss : Names s g.gateSel a td) (global : g.gateSel.toNat / 4 % 2 = 0) (tssSystem : td.s = false)
    (type : td.type = 1 ∨ td.type = 9) (tssPresent : td.p = true) : farTaskGate k sel g s = farSwitch k g.gateSel td s := by
  unfold farTaskGate
  exact (bind_of_ok (checkGate_ok may present) _).trans
    (bind_of_ok (readTss_ok h tss global tssSystem (by simpa using type) tssPresent) _)

end

theorem farSwitch_ends {s t : State} {k : FarKind} {sel : Half} {td : Desc}
    (done : switchTasks sel td k.switch 0 s.here s.flags s = .ok () t) : farSwitch k sel td s = checkNewEip 0 t := by
  unfold farSwitch
  exact (bind_of_ok (run_getS s) _).trans (bind_of_ok done _)

/-! ### IRET with NT = 1 -/

theorem returnFromInt_nested {s : State} {o : Size} (prot : s.protectedMode = true) (nt : s.flags.nt = true) :
    returnFromInt o s = iretTask { s with nmiBlocked := false } := by
  unfold returnFromInt
  refine (bind_of_ok (run_upd _ s) _).trans ((bind_of_ok (run_getS _) _).trans ?_)
  exact (congrFun (if_pos prot) _).trans (congrFun (if_pos nt) _)

/-- The link to the task that called. -/
def backLink (s : State) : Half := BitVec.ofNat 16 (fieldOf s.mem s.tr.base 0 2)

theorem iretTask_reads {s : State} (unpaged : s.cr0.pg = false) : iretTask s = (do
    let td ← readTss (backLink s) [3, 11] 0
    switchTasks (backLink s) td .iret 0 s.here s.flags
    checkNewEip 0) s := by
  have field : Memory.load s.mem (addrs s.tr.base 2) = fieldOf s.mem s.tr.base 0 2 :=
    (congrArg (fun b => Memory.load s.mem (addrs b 2)) (BitVec.add_zero s.tr.base)).symm
  unfold iretTask
  rw [bind_of_ok (run_getS s), bind_of_ok (linRead_unpaged unpaged _ _), field]
  rfl

/-! ### Task gates of the IDT -/

theorem deliverTask_refused {s : State} {d : Delivery} {g td : Desc} {a : Word} (h : quiet s) (names : Names s g.gateSel a td)
    (wrong : ¬(td.s = false ∧ td.type ∈ [1, 9] ∧ g.gateSel.toNat / 4 % 2 = 0)) :
    deliverTask d g s = .error (.exc (.plain 13 (some (extCode g.gateSel d.kind.ext))) false) s := by
  unfold deliverTask
  exact (bind_of_ok (run_getS s) _).trans (bind_of_error (readTss_refused h names wrong) _)

theorem withLow16_same (w : Word) : withLow16 w (w.setWidth 16) = w := by
  rw [withLow16_eq]
  apply BitVec.eq_of_getLsbD_eq
  intro i hi
  rw [BitVec.getLsbD_append, BitVec.getLsbD_setWidth, BitVec.getLsbD_extractLsb']
  by_cases low : i < 16
  · simp [low]
  · simp [low, show i - 16 < 16 by omega, show 16 + (i - 16) = i by omega]

theorem pushed_nil (s : State) (n : Nat) : pushed s n [] = s := by
  have stays : s.regs.setV s.stackSize .esp s.sp = s.regs := by
    unfold State.sp
    cases s.stackSize with
    | s32 => rfl
    | s16 =>
      change ({ s.regs with esp := withLow16 s.regs.esp (((s.regs.esp.setWidth 16).setWidth 32).setWidth 16) } : Regs) = s.regs
      rw [BitVec.setWidth_setWidth_of_le _ (by decide), BitVec.setWidth_eq, withLow16_same]
  unfold pushed
  rw [show s.sp - BitVec.ofNat 32 (n * ([] : List Nat).length) = s.sp from BitVec.sub_zero s.sp, stays]
  rfl

theorem deliverTask_ok {s t : State} {d : Delivery} {g td : Desc} {a : Word} (h : quiet s) (names : Names s g.gateSel a td)
    (free : td.s = false ∧ td.type ∈ [1, 9] ∧ g.gateSel.toNat / 4 % 2 = 0) (present : td.p = true)
    (done : switchTasks g.gateSel td .int d.kind.ext d.ret (retFlags d.rf s.flags) s = .ok () t) (still : quiet t)
    (inside : t.eip ≤ t.segs.cs.limit) (room : Room t (if td.is32 then 4 else 2) (ecList d.ec).length) :
    deliverTask d g s = .ok () (pushed t (if td.is32 then 4 else 2) (ecList d.ec)) := by
  obtain ⟨system, type, global⟩ := free
  have pos : 0 < if td.is32 then 4 else 2 := by split <;> decide
  unfold deliverTask
  refine (bind_of_ok (run_getS s) _).trans ((bind_of_ok (readTss_ok h names global system type present) _).trans ?_)
  refine (bind_of_ok done _).trans ?_
  cases ec : d.ec with
  | none =>
    refine (bind_of_ok (inNewTask_ok (v := ()) (t := t) rfl) _).trans ?_
    exact (checkNewEip_ok inside _).trans (congrArg (EStateM.Result.ok ()) (pushed_nil t _).symm)
  | some e =>
    rw [ec] at room
    have pushes := pushOn_quiet still (user := t.user) (ec := d.kind.ext) (vs := [e.toNat]) (Room.inLimit pos room)
    let n := if td.is32 then 4 else 2
    let p : State := { t with
      mem := ([e.toNat].zipIdx 0).foldl (storeSlot t.segs.ss t.sp n) t.mem,
      regs := t.regs.setV t.stackSize .esp (t.sp - BitVec.ofNat 32 n) }
    have result : pushed t n (ecList (some e)) = p := by
      unfold pushed
      rw [pushMem_eq, show n * (ecList (some e)).length = n from Nat.mul_one _]
      rfl
    have ran := bind_of_ok pushes fun _ => setSp (t.sp - BitVec.ofNat 32 n)
    refine (bind_of_ok (inNewTask_ok (v := ()) (t := p) ((bind_of_ok (run_getS t) _).trans ran)) _).trans ?_
    exact (checkNewEip_ok (t := p) inside _).trans (congrArg (EStateM.Result.ok ()) result.symm)

theorem Kind.ext_toNat (kind : Kind) : kind.ext.toNat = if kind = .soft then 0 else 1 := by
  cases kind <;> rfl

/-- Settles O38: the switch, the selectors of the new task, and the three that switch. -/
theorem taskSwitches : Obligations.TaskSwitches := by
  refine ⟨fun s tsel a td kind ext ret flags h names bit => ?_, fun s i ext l h ldt => ?_,
    fun s i k sel off b g prot h form names system => ?_, fun s a td prot h nt => ?_,
    fun s d g a td prot h inside read system type soft present names => ?_⟩
  · intro least
    have code : extCode tsel ext = BitVec.ofNat 16 (tsel.toNat / 4 * 4 + ext.toNat) := by
      rcases bit with rfl | rfl
      · exact extCode_kind tsel .soft
      · exact extCode_kind tsel .fault
    refine ⟨fun short => ?_, fun long => ?_⟩
    · rw [← code]
      exact switchTasks_short short
    · obtain ⟨i, k, l, incoming, ran⟩ := switchTasks_ok (kind := kind) (ext := ext) (ret := ret) (flags := flags) h.1
        (names_addr names) long
      rw [nests_eq] at ran
      exact ⟨i, k, l, incoming, fun t done => ran.trans (inNewTask_ok done),
        fun e c t stopped => ran.trans (inNewTask_exc stopped)⟩
  · refine ⟨fun vm => loadTaskSegs_v86 h.1 ldt vm, fun vm a b c d ds es fs gs cs code csMarked ss stack ssMarked => ?_⟩
    exact loadTaskSegs_ok h ldt vm cs code csMarked ss stack ssMarked
  · intro code may ret
    have q := quiet_past h
    have names' : Names (past s) sel b g := names
    have codeEq : selCode sel = code := selCode_eq sel
    have start := farTransfer_protected (k := k) (sel := sel) (off := off) (s := past s) prot
    have faulted : ∀ e t, farTransfer k sel off (past s) = .error (.exc e false) t → faults i s e t := fun e t stopped =>
      (exec_farOperand form).trans (runInstr_of_exc stopped)
    refine ⟨fun type mayNot => ?_, fun type => ?_, fun type may global present t done => ?_,
      fun type may present a td tss global tssSystem tssType tssPresent t done => ?_⟩
    · rw [← codeEq]
      by_cases gate : g.type = 5
      · exact faulted _ _ (start.trans ((farProtected_taskGate q names' system gate).trans
          (bind_of_error (checkGate_refused (s := past s) mayNot) _)))
      · have others : ∀ v : BitVec 4, v ∈ [1, 3, 5, 9, 11] → v ≠ 5 → v ∈ [1, 3, 9, 11] := by decide
        have tss := others g.type type gate
        exact faulted _ _ (start.trans ((farProtected_tss q names' system tss).trans
          (farTss_refused (s := past s) (.inl mayNot))))
    · rw [← codeEq]
      have tss : g.type ∈ [1, 3, 9, 11] := by rcases type with type | type <;> simp [type]
      exact faulted _ _ (start.trans ((farProtected_tss q names' system tss).trans (farTss_refused (s := past s) (.inr type))))
    · have tss : g.type ∈ [1, 3, 9, 11] := by rcases type with type | type <;> simp [type]
      have switches := farTss_switches (k := k) (sel := sel) (s := past s) system may type global present
      exact switched_of (exec_farOperand form)
        (start.trans ((farProtected_tss q names' system tss).trans (switches.trans (farSwitch_ends (s := past s) done))))
    · have switches := farTaskGate_switches (k := k) (sel := sel) (s := past s) q may present tss global
        tssSystem tssType tssPresent
      exact switched_of (exec_farOperand form)
        (start.trans ((farProtected_taskGate q names' system type).trans (switches.trans (farSwitch_ends (s := past s) done))))
  · intro link start busy names
    have q : quiet (unblocked s) := ⟨h.1, h.2⟩
    have names' : Names (unblocked s) link a td := names
    have ran := (returnFromInt_nested (s := past s) (o := s.opSize) prot nt).trans (iretTask_reads (s := unblocked s) h.1)
    have types : td.type ∈ [3, 11] ↔ td.type = 3 ∨ td.type = 11 := by simp
    refine ⟨fun idle => ?_, fun isBusy present t done => ?_⟩
    · have refused := readTss_refused (types := [3, 11]) (ext := 0) q names' (by rw [types]; exact idle)
      rw [extCode_zero] at refused
      exact exec_iret_faults (ran.trans (bind_of_error refused _))
    · obtain ⟨system, type, global⟩ := isBusy
      have read := readTss_ok (types := [3, 11]) (ext := 0) q names' global system (types.mpr type) present
      exact switched_of (body := atOpSize returnFromInt) rfl (ran.trans ((bind_of_ok read _).trans (bind_of_ok done _)))
  · intro ext free
    have extEq : d.kind.ext = ext := by
      simp only [ext]
      cases d.kind <;> rfl
    have usable : ¬(d.kind = .soft ∧ g.dpl < s.cpl) := fun ⟨isSoft, below⟩ => BitVec.not_lt.mpr (soft isSoft) below
    have start := deliverProtected_task read h.1 inside ⟨system, .inl type⟩ usable present type
    have types : td.type ∈ [1, 9] ↔ td.type = 1 ∨ td.type = 9 := by simp
    refine ⟨fun other => ?_, fun isFree tssPresent t done still fits => ?_⟩
    · have refused := deliverTask_refused (d := d) h names (by rw [types]; exact other)
      rw [extCode_kind, ← Kind.ext_toNat, extEq] at refused
      exact deliver_protected_stops prot (start.trans refused)
    · intro n room
      obtain ⟨tssSystem, tssType, global⟩ := isFree
      rw [← extEq] at done
      have delivered := deliverTask_ok h names ⟨tssSystem, types.mpr tssType, global⟩ tssPresent done still fits room
      exact deliver_protected_of prot (start.trans delivered)

end Sys2Proof.Machine
end

section
/-!
PROOFS. Taking a fault (O49).
-/

namespace Sys2Proof.Machine

open Claims

/-! ### What raising an exception records -/

/-- The state with an empty log of the bytes that no fault undoes. -/
def clearLog (s : State) : State := { s with ins := { s.ins with sysLog := [] } }

theorem recordExn_clearLog (e : Exn) (s : State) : recordExn e (clearLog s) = clearLog (recordExn e s) := by
  unfold recordExn
  by_cases plain : e.dr6 = 0
  · simp only [if_pos plain]
    rfl
  · simp only [if_neg plain]
    rfl

theorem recordExn_doubleFault (s : State) : recordExn .doubleFault s = s := rfl

theorem recordExn_dr6_plain {e : Exn} (plain : e.dr6 = 0) (s : State) : (recordExn e s).dbg.dr6 = s.dbg.dr6 := by
  unfold recordExn
  simp only [if_pos plain]

/-- No bit outside a mask. -/
theorem and_not_self_mask (v m : Word) : v &&& m &&& ~~~m = 0 := by
  rw [BitVec.and_assoc, BitVec.and_not_self]
  exact BitVec.and_zero

theorem recordExn_dr6 (e : Exn) (s : State) : ∃ met : Word, met &&& ~~~(s.ins.loose.setWidth 32) = 0 ∧
    (recordExn e s).dbg.dr6 = s.dbg.dr6 ||| e.dr6 ||| met := by
  by_cases plain : e.dr6 = 0
  · refine ⟨0, BitVec.zero_and, ?_⟩
    rw [recordExn_dr6_plain plain, plain]
    exact ((congrArg (· ||| (0 : Word)) BitVec.or_zero).trans BitVec.or_zero).symm
  · refine ⟨Config.freeWord s.draws &&& s.ins.loose.setWidth 32, and_not_self_mask _ _, ?_⟩
    unfold recordExn
    simp only [if_neg plain]
    rfl

/-! ### One delivery, and the exception of it -/

section

variable {n : Nat} {e b : Exn} {ret : FarPtr} {s t : State}

theorem takeExn_delivered (done : deliver (e.delivery ret) (recordExn e (clearLog s)) = .ok () t) :
    takeExn (n + 1) e ret s = { t with ins := { t.ins with event := .fault } } := by
  unfold clearLog at done
  unfold takeExn
  simp only [done]

theorem takeExn_dead {x : Stop} (abort : e.vec = 8) (stopped : deliver (e.delivery ret) (recordExn e (clearLog s)) = .error x t) :
    (takeExn (n + 1) e ret s).run = .shutdown := by
  unfold clearLog at stopped
  unfold takeExn
  simp only [stopped]
  cases x with
  | exc b c =>
    simp only [if_pos abort]
    rfl
  | wait => rfl
  | refuse r => rfl

variable (stopped : deliver (e.delivery ret) (recordExn e (clearLog s)) = .error (.exc b false) t) (first : e.vec ≠ 8)

include stopped first

theorem takeExn_double (double : doubleFaults e.vec b.vec = true) : takeExn (n + 1) e ret s =
    takeExn n .doubleFault ret (recordExn b (rollback (recordExn e (clearLog s)) t)) := by
  unfold clearLog at stopped ⊢
  rw [takeExn]
  simp only [stopped, Bool.false_eq_true, if_false, if_neg first, if_pos double]

theorem takeExn_other (other : doubleFaults e.vec b.vec = false) : takeExn (n + 1) e ret s =
    takeExn n b ret (rollback (recordExn e (clearLog s)) t) := by
  unfold clearLog at stopped ⊢
  rw [takeExn]
  simp only [stopped, Bool.false_eq_true, if_false, if_neg first, other]

end

theorem takeFault_takes {e : Exn} {s t : State} (alive : s.sp ∉ e.deadSp) :
    takeFault e false s t = takeExn nesting e s.here (rollback s t) := by
  have deliverable : e.deadSp.contains (rollback s t).sp = false := by
    rw [show (rollback s t).sp = s.sp from rfl]
    simpa using alive
  unfold takeFault
  simp only [Bool.false_eq_true, if_false, deliverable]
  rfl

theorem takeFault_stuck {e : Exn} {s t : State} (stuck : s.sp ∈ e.deadSp) :
    takeFault e false s t = State.shutDown (clearLog (rollback s t)) := by
  have dead : e.deadSp.contains (rollback s t).sp = true := by
    rw [show (rollback s t).sp = s.sp from rfl]
    simpa using stuck
  unfold takeFault
  simp only [Bool.false_eq_true, if_false, dead, if_true]
  rfl

/-- An exception of a delivery is taken at the same place: itself, or the double fault. -/
theorem takeExn_next {n : Nat} {e b : Exn} {ret : FarPtr} {s t : State} (first : e.vec ≠ 8)
    (stopped : deliver (e.delivery ret) (recordExn e (clearLog s)) = .error (.exc b false) t) :
    ∃ (c : Exn) (base : State), takeExn (n + 1) e ret s = takeExn n c ret base ∧
      recordExn c (clearLog base) = recordExn b (clearLog (rollback (recordExn e (clearLog s)) t)) ∧
      c = if doubleFaults e.vec b.vec then .doubleFault else b := by
  by_cases double : doubleFaults e.vec b.vec = true
  · refine ⟨.doubleFault, _, takeExn_double stopped first double, ?_, (if_pos double).symm⟩
    rw [recordExn_doubleFault]
    exact (recordExn_clearLog b _).symm
  · exact ⟨b, _, takeExn_other stopped first (Bool.eq_false_iff.mpr double), rfl, (if_neg double).symm⟩

theorem doubleFaults_iff (a b : BitVec 8) : doubleFaults a b = true ↔
    ((a ∈ [0, 10, 11, 12, 13] ∧ b ∈ [0, 10, 11, 12, 13]) ∨ (a = 14 ∧ b ∈ [0, 10, 11, 12, 13, 14])) := by
  unfold doubleFaults contributory
  simp only [Bool.or_eq_true, Bool.and_eq_true, List.contains_iff_mem, decide_eq_true_eq, List.mem_cons, List.not_mem_nil,
    or_false]
  tauto

/-- Settles O49: the rollback, what is recorded, and the deliveries one after another. -/
theorem faultEntry : Obligations.FaultEntry := by
  refine ⟨fun e s t u => ?_, doubleFaults_iff, fun d s real => ?_⟩
  · intro base send cleared double ready stuck
    refine ⟨⟨rfl, rfl, rfl, rfl, rfl, rfl, fun empty => ?_⟩, ⟨?_, ?_, ?_, ?_⟩, takeFault_stuck, fun alive done => ?_,
      fun alive b stopped => ?_⟩
    · change replay t.ins.sysLog s.mem = s.mem
      rw [empty]
      rfl
    · exact recordExn_regs e _
    · exact recordExn_cr2 e _
    · exact fun plain => recordExn_dr6_plain plain _
    · exact recordExn_dr6 e (clearLog base)
    · rw [takeFault_takes alive]
      exact takeExn_delivered done
    · intro again second
      rw [takeFault_takes alive]
      refine ⟨fun abort => takeExn_dead abort stopped, fun first => ?_⟩
      obtain ⟨c, next, taken, recorded, choice⟩ := takeExn_next (n := 4) (ret := s.here) first stopped
      have sent : second = c.delivery s.here := by
        rw [choice]
        change (if doubleFaults e.vec b.vec then double else send b.vec b.ec b.pushRf) = _
        split <;> rfl
      rw [show takeExn nesting e s.here (rollback s t) = takeExn 4 c s.here next from taken]
      have state : recordExn c (clearLog next) = again := recorded
      refine ⟨fun v done => ?_, fun x v stopped2 => ⟨fun pair => ?_, fun single notAbort pair => ?_⟩⟩
      · rw [sent, ← state] at done
        exact takeExn_delivered done
      · rw [sent, ← state] at stopped2
        rw [pair] at choice
        exact takeExn_dead (by rw [choice]; rfl) stopped2
      · rw [single] at choice
        have same : c = b := choice
        rw [sent, ← state] at stopped2
        subst same
        have third := takeExn_double (n := 3) stopped2 notAbort pair
        intro thirdState
        have state : recordExn .doubleFault (clearLog (recordExn x (rollback (recordExn c (clearLog next)) v))) = thirdState := by
          rw [recordExn_doubleFault, ← recordExn_clearLog, state]
          rfl
        rw [show takeExn 4 c s.here next = _ from third]
        refine ⟨fun w done => ?_, fun y w stopped => ?_⟩
        · rw [← state] at done
          exact takeExn_delivered done
        · rw [← state] at stopped
          exact takeExn_dead rfl stopped
  · have notProt : ¬s.cr0.pe = true := by
      rw [real]
      exact Bool.false_ne_true
    have same : deliverReal d s = deliverReal { d with ec := none } s := rfl
    unfold deliver
    rw [bind_of_ok (run_getS s), bind_of_ok (run_getS s), if_neg notProt, if_neg notProt]
    simp only [run_bind, same]

end Sys2Proof.Machine
end

section
/-!
PROOFS. The events of an instruction boundary, and what an instruction leaves for the next one (O50).
-/

namespace Sys2Proof.Machine

open Claims

/-! ### What is due -/

section

variable {s : State}

theorem cycle_boundary {t : State} (due : boundary s = some t) : step s = .next t := by
  unfold step cycle
  rw [due]

theorem cycle_idle (nothing : boundary s = none) (still : s.run ≠ .running) : step s = .next s := by
  unfold step cycle
  rw [nothing]
  exact if_neg still

/-- A trap is pending and the processor not shut down. -/
def trapDue (s : State) : Prop :=
  (s.pending.step = true ∨ s.pending.task = true ∨ s.pending.data ≠ 0) ∧ s.run ≠ .shutdown

theorem trapDue_iff : (s.pending.any && decide (s.run ≠ .shutdown)) = true ↔ trapDue s := by
  unfold Pending.any trapDue
  simp only [Bool.and_eq_true, Bool.or_eq_true, decide_eq_true_eq, or_assoc]

/-- NMI is pending and nothing holds it back. -/
def nmiDue (s : State) : Prop :=
  s.nmiPending = true ∧ s.nmiBlocked = false ∧ (s.shadow ≠ .none → s.cfg.stiShadowBlocksNmi = false) ∧
    (s.shadow = .ssLoad → s.cfg.ssShadowBlocksNmi = false)

theorem nmiReady_iff : s.nmiReady = true ↔ nmiDue s := by
  unfold State.nmiReady nmiDue
  rw [Bool.and_eq_true, Bool.and_eq_true, Bool.not_eq_true', and_assoc]
  refine and_congr_right fun _ => and_congr_right fun _ => ?_
  cases s.shadow with
  | none => simp
  | sti => simp
  | ssLoad => simp

/-- INTR is due. -/
def intrDue (s : State) : Prop := s.intr = true ∧ s.flags.ifl = true ∧ s.shadow = .none ∧ s.run ≠ .shutdown

theorem intrReady_iff : s.intrReady = true ↔ intrDue s := by
  unfold State.intrReady intrDue
  simp only [Bool.and_eq_true, decide_eq_true_eq, and_assoc]

theorem boundary_reset {p : ResetParams} (reset : s.resetIn = some p) : boundary s = some (s.resetBy p) := by
  unfold boundary
  simp only [reset]

variable (noReset : s.resetIn = none)

include noReset

/-- The order of the events. -/
theorem boundary_events : boundary s =
    if s.pending.any && decide (s.run ≠ .shutdown) then some (takeTrap s)
    else if s.nmiReady then some (takeNmi s)
    else if s.intrReady then some (takeIntr s)
    else none := by
  unfold boundary
  simp only [noReset]

theorem step_trap (trap : trapDue s) : step s = .next (takeTrap s) :=
  cycle_boundary ((boundary_events noReset).trans (if_pos (trapDue_iff.mpr trap)))

theorem step_nmi (noTrap : ¬trapDue s) (nmi : nmiDue s) : step s = .next (takeNmi s) :=
  cycle_boundary ((boundary_events noReset).trans
    ((if_neg (trapDue_iff.not.mpr noTrap)).trans (if_pos (nmiReady_iff.mpr nmi))))

theorem step_intr (noTrap : ¬trapDue s) (noNmi : ¬nmiDue s) (intr : intrDue s) : step s = .next (takeIntr s) :=
  cycle_boundary ((boundary_events noReset).trans ((if_neg (trapDue_iff.not.mpr noTrap)).trans
    ((if_neg (nmiReady_iff.not.mpr noNmi)).trans (if_pos (intrReady_iff.mpr intr)))))

theorem step_stays (noTrap : ¬trapDue s) (noNmi : ¬nmiDue s) (noIntr : ¬intrDue s) (still : s.run ≠ .running) :
    step s = .next s :=
  cycle_idle ((boundary_events noReset).trans ((if_neg (trapDue_iff.not.mpr noTrap)).trans
    ((if_neg (nmiReady_iff.not.mpr noNmi)).trans (if_neg (intrReady_iff.not.mpr noIntr))))) still

end

/-! ### The deliveries -/

theorem takeEvent_ok {d : Delivery} {back : FarPtr} {s u : State}
    (done : deliver d { s with ins := .none, inRep := false } = .ok () u) : takeEvent d back s = u.delivered := by
  unfold takeEvent
  simp only [done]

theorem takeNmi_ok {s u : State} (alive : s.run ≠ .shutdown)
    (done : deliver { vec := 2, kind := .nmi, ec := none, ret := s.here, rf := s.inRep }
      { s with nmiPending := false, nmiBlocked := true, ins := .none, inRep := false } = .ok () u) :
    takeNmi s = u.delivered := by
  unfold takeNmi
  exact (if_neg alive).trans (takeEvent_ok done)

theorem delivered_eq (u : State) : ∃ p : Pending, u.delivered = { u with ins := .none, pending := p } ∧ p.step = false ∧
    p.data = 0 ∧ (p.task = true ↔ u.ins.taskTrap = true ∧ u.run ≠ .shutdown) := by
  unfold State.delivered
  refine ⟨_, rfl, ?_⟩
  by_cases task : u.ins.taskTrap = true ∧ u.run ≠ .shutdown
  · rw [if_pos task]
    exact ⟨rfl, rfl, iff_of_true rfl task⟩
  · rw [if_neg task]
    exact ⟨rfl, rfl, iff_of_false Bool.false_ne_true task⟩

/-! ### The end of an instruction -/

section

variable {s t : State}

theorem settle_pending (alive : t.run ≠ .shutdown) (kept : (settle s t).shadow ≠ .ssLoad) :
    (settle s t).pending = pendingAfter s t :=
  if_neg fun either => either.elim kept alive

theorem settle_discards (gone : (settle s t).shadow = .ssLoad ∨ t.run = .shutdown) : (settle s t).pending = .none :=
  if_pos gone

theorem settle_flags_cleared (plain : t.ins.event = .none) (loaded : t.ins.keepRf = false) (last : t.inRep = false) :
    (settle s t).flags = { t.flags with rf := false } := by
  unfold settle
  simp only [plain, loaded, last]
  rfl

theorem settle_flags_kept (kept : t.ins.event ≠ .none ∨ t.ins.keepRf = true ∨ t.inRep = true) :
    (settle s t).flags = t.flags := by
  refine if_neg fun clears => ?_
  simp only [Bool.and_eq_true, decide_eq_true_eq, Bool.not_eq_true'] at clears
  obtain ⟨⟨plain, loaded⟩, last⟩ := clears
  rcases kept with event | keep | rep
  · exact event plain
  · exact Bool.false_ne_true (loaded.symm.trans keep)
  · exact Bool.false_ne_true (last.symm.trans rep)

end

/-- Settles O50: the events in their order, their deliveries, and the end of an instruction. -/
theorem boundaryAndEnd : Obligations.BoundaryAndEnd := by
  refine ⟨fun s p reset => ⟨cycle_boundary (boundary_reset reset), rfl, rfl, rfl, rfl⟩, fun s noReset => ?_, fun s t => ?_⟩
  · intro trap nmi intr
    refine ⟨step_trap noReset, step_nmi noReset, step_intr noReset, step_stays noReset, fun due => ?_,
      fun u noTrap due alive done => ?_, fun u noTrap noNmi due done => ?_, delivered_eq⟩
    · refine ⟨Config.freeWord s.draws &&& s.pending.loose.setWidth 32, and_not_self_mask _ _, ?_⟩
      intro causes u done
      exact (step_trap noReset due).trans (congrArg Host.Outcome.next (takeEvent_ok done))
    · exact (step_nmi noReset noTrap due).trans (congrArg Host.Outcome.next (takeNmi_ok alive done))
    · exact (step_intr noReset noTrap noNmi due).trans (congrArg Host.Outcome.next (takeEvent_ok done))
  · intro u
    refine ⟨fun alive kept => ?_, settle_discards, settle_flags_cleared, settle_flags_kept, rfl, rfl, rfl, rfl, rfl, rfl⟩
    have pending : u.pending = pendingAfter s t := settle_pending alive kept
    rw [pending]
    refine ⟨?_, rfl, rfl⟩
    unfold pendingAfter
    rw [Bool.and_eq_true, decide_eq_true_eq]

end Sys2Proof.Machine
end

section
/-!
PROOFS. The images of the coprocessor's state in memory (for O60).
-/

namespace Sys2Proof.Machine

open Claims

/-! ### Fields of an image -/

theorem imagePart_head {n m : Nat} (h : m ≤ n) (v : Nat) (l : List (Nat × Nat)) :
    imagePart (packFields ((n, v) :: l)) 0 m = v % 256 ^ m := by
  have split : 256 ^ n = 256 ^ m * 256 ^ (n - m) := by
    rw [← Nat.pow_add, Nat.add_sub_cancel' h]
  unfold imagePart packFields
  rw [Nat.pow_zero, Nat.div_one, split, Nat.mul_assoc, Nat.add_mul_mod_self_left]
  exact Nat.mod_mul_right_mod _ _ _

theorem packFields_skip (n v : Nat) (l : List (Nat × Nat)) : packFields ((n, v) :: l) / 256 ^ n = packFields l := by
  have pos : 0 < 256 ^ n := Nat.pow_pos (by decide)
  rw [packFields, Nat.add_mul_div_left _ _ pos, Nat.div_eq_of_lt (Nat.mod_lt _ pos), Nat.zero_add]

theorem imagePart_skip (n v off m : Nat) (l : List (Nat × Nat)) :
    imagePart (packFields ((n, v) :: l)) (n + off) m = imagePart (packFields l) off m := by
  unfold imagePart
  rw [Nat.pow_add, ← Nat.div_div_eq_div_mul, packFields_skip]

theorem packFields_lt (l : List (Nat × Nat)) : packFields l < 256 ^ (l.map Prod.fst).sum := by
  induction l with
  | nil => exact Nat.one_pos
  | cons x l ih =>
    obtain ⟨n, v⟩ := x
    have pos : 0 < 256 ^ n := Nat.pow_pos (by decide)
    have low := Nat.mod_lt v pos
    rw [packFields, List.map_cons, List.sum_cons, Nat.pow_add]
    calc v % 256 ^ n + 256 ^ n * packFields l < 256 ^ n * (packFields l + 1) := by rw [Nat.mul_add, Nat.mul_one]; omega
      _ ≤ 256 ^ n * 256 ^ (l.map Prod.fst).sum := Nat.mul_le_mul_left _ ih

/-- The first bytes of an image. -/
theorem mod_eq_imagePart (v m : Nat) : v % 256 ^ m = imagePart v 0 m := by
  unfold imagePart
  rw [Nat.pow_zero, Nat.div_one]

/-- A part of an image that lies `n` bytes further on than the part of its tail. -/
theorem imagePart_tail {n v off o m w : Nat} {l : List (Nat × Nat)} (place : off = n + o)
    (h : imagePart (packFields l) o m = w) : imagePart (packFields ((n, v) :: l)) off m = w := by
  rw [place, imagePart_skip, h]

/-- The low bytes of the `i`-th field. -/
theorem imagePart_field {l : List (Nat × Nat)} {i off n v m : Nat} (field : l[i]? = some (n, v))
    (place : off = ((l.take i).map Prod.fst).sum) (fits : m ≤ n) : imagePart (packFields l) off m = v % 256 ^ m := by
  induction l generalizing i off with
  | nil => exact absurd field (by simp)
  | cons x l ih =>
    cases i with
    | zero =>
      obtain rfl : x = (n, v) := Option.some.inj field
      rw [place]
      exact imagePart_head fits v l
    | succ i => exact imagePart_tail place (ih field rfl)

/-! ### The parts of an environment -/

theorem linearAddr_eq (p : FpuPtr) : p.linearAddr = linearOf p := by
  cases p with
  | far sel off =>
    have small := sel.isLt
    simp only [FpuPtr.linearAddr, linearOf, BitVec.toNat_add, BitVec.toNat_mul, BitVec.toNat_setWidth,
      show (16 : Word).toNat = 16 from rfl]
    omega
  | linear a => rfl

theorem linearOf_lt (p : FpuPtr) : linearOf p < 2 ^ 32 := by
  cases p with
  | far sel off => exact Nat.mod_lt _ (by decide)
  | linear a => exact a.isLt

section

variable (s : State)

theorem padded_ok (v : Nat) : ∃ w k, padded v s = .ok w { s with draws := k } ∧ w % 2 ^ 16 = v % 2 ^ 16 := by
  refine ⟨_, _, rfl, ?_⟩
  omega

/-- The selector and the offset of a pointer, whatever a linear one has in their place. -/
theorem farParts_ok (p : FpuPtr) : ∃ sel off k, farParts p s = .ok (sel, off) { s with draws := k } ∧
    ∀ sel' off', p = .far sel' off' → sel = sel'.toNat ∧ off = off'.toNat := by
  cases p with
  | far sel off =>
    refine ⟨sel.toNat, off.toNat, s.draws, rfl, ?_⟩
    rintro sel' off' ⟨⟩
    exact ⟨rfl, rfl⟩
  | linear a =>
    refine ⟨_, _, _, rfl, ?_⟩
    rintro sel' off' ⟨⟩

end

/-! ### Tags -/

theorem tagBits_tagOfBits (n : Nat) : tagBits (tagOfBits n) = n % 4 := by
  have small : n % 4 < 4 := Nat.mod_lt _ (by decide)
  unfold tagOfBits
  generalize n % 4 = r at small ⊢
  interval_cases r <;> rfl

theorem ftw_tagsOf {f : Fpu} {w : Nat} (h : f.tags = tagsOf w) : f.ftw = w % 65536 := by
  unfold Fpu.ftw
  rw [h]
  unfold tagsOf
  simp only [tagBits_tagOfBits]
  omega

theorem tagBits_lt (t : Tag) : tagBits t < 4 := by
  cases t <;> decide

theorem ftw_lt (f : Fpu) : f.ftw < 2 ^ 16 := by
  unfold Fpu.ftw
  have b := fun t => tagBits_lt t
  have b0 := b f.tags.x0
  have b1 := b f.tags.x1
  have b2 := b f.tags.x2
  have b3 := b f.tags.x3
  have b4 := b f.tags.x4
  have b5 := b f.tags.x5
  have b6 := b f.tags.x6
  have b7 := b f.tags.x7
  omega

/-! ### The image of an environment -/

/-- What the image of an environment holds: three words, the pointers and the opcode. -/
def HoldsEnv (f : Fpu) (wide prot : Bool) (v : Nat) : Prop :=
  let step := if wide then 4 else 2
  v % 2 ^ 16 = f.fcw.toNat ∧ v / 256 ^ step % 2 ^ 16 = f.fswWord.toNat ∧ v / 256 ^ (2 * step) % 2 ^ 16 = f.ftw ∧
    v < 256 ^ (7 * step) ∧ PointersStored f wide prot v

/-- The three words at the first places of an image of fields of `step` bytes. -/
theorem words_of_fields {f : Fpu} {step cw sw tw : Nat} {l : List (Nat × Nat)} (room : 2 ≤ step)
    (hc : cw % 2 ^ 16 = f.fcw.toNat % 2 ^ 16) (hs : sw % 2 ^ 16 = f.fswWord.toNat % 2 ^ 16) (ht : tw % 2 ^ 16 = f.ftw % 2 ^ 16) :
    packFields ((step, cw) :: (step, sw) :: (step, tw) :: l) % 2 ^ 16 = f.fcw.toNat ∧
    packFields ((step, cw) :: (step, sw) :: (step, tw) :: l) / 256 ^ step % 2 ^ 16 = f.fswWord.toNat ∧
    packFields ((step, cw) :: (step, sw) :: (step, tw) :: l) / 256 ^ (2 * step) % 2 ^ 16 = f.ftw := by
  have word := fun v l => imagePart_head room v l
  have small : 256 ^ 2 = 2 ^ 16 := rfl
  refine ⟨?_, ?_, ?_⟩
  · rw [← small, mod_eq_imagePart, word, small, hc, Nat.mod_eq_of_lt f.fcw.isLt]
  · refine imagePart_tail (Nat.add_zero step).symm ((word _ _).trans ?_)
    rw [small, hs, Nat.mod_eq_of_lt f.fswWord.isLt]
  · refine imagePart_tail (o := step) (by omega) (imagePart_tail (Nat.add_zero step).symm ((word _ _).trans ?_))
    rw [small, ht, Nat.mod_eq_of_lt (ftw_lt f)]

section

variable (s : State)

theorem envImage_protected_wide : ∃ v k, envImage { wide := true, prot := true } s = .ok v { s with draws := k } ∧
    HoldsEnv s.fpu true true v := by
  obtain ⟨cs, ip, k1, ranI, exactI⟩ := farParts_ok s s.fpu.fip
  obtain ⟨ds, dp, k2, ranD, exactD⟩ := farParts_ok { s with draws := k1 } s.fpu.fdp
  obtain ⟨cw, k3, ranC, lowC⟩ := padded_ok { s with draws := k2 } s.fpu.fcw.toNat
  obtain ⟨sw, k4, ranS, lowS⟩ := padded_ok { s with draws := k3 } s.fpu.fswWord.toNat
  obtain ⟨tw, k5, ranT, lowT⟩ := padded_ok { s with draws := k4 } s.fpu.ftw
  obtain ⟨dsw, k6, ranW, lowW⟩ := padded_ok { s with draws := k5 } ds
  refine ⟨_, k6, (bind_of_ok (run_getFpu s) _).trans ((bind_of_ok ranI _).trans ((bind_of_ok ranD _).trans
    ((bind_of_ok ranC _).trans ((bind_of_ok ranS _).trans ((bind_of_ok ranT _).trans (bind_of_ok ranW _)))))), ?_⟩
  obtain ⟨c, w, t⟩ := words_of_fields (l := [(4, ip), (2, cs), (2, s.fpu.fop.toNat), (4, dp), (4, dsw)])
    (show 2 ≤ 4 by decide) lowC lowS lowT
  refine ⟨c, w, t, packFields_lt _, ?_⟩
  refine ⟨fun sel off far => ?_, fun sel off far => ?_, fun _ => ?_⟩
  · obtain ⟨rfl, rfl⟩ := exactI sel off far
    exact ⟨(imagePart_field (i := 3) rfl rfl (le_refl 4)).trans (Nat.mod_eq_of_lt off.isLt),
      (imagePart_field (i := 4) rfl rfl (le_refl 2)).trans (Nat.mod_eq_of_lt sel.isLt)⟩
  · obtain ⟨rfl, rfl⟩ := exactD sel off far
    exact ⟨(imagePart_field (i := 6) rfl rfl (le_refl 4)).trans (Nat.mod_eq_of_lt off.isLt),
      (imagePart_field (i := 7) rfl rfl (by decide)).trans (lowW.trans (Nat.mod_eq_of_lt sel.isLt))⟩
  · have small := s.fpu.fop.isLt
    exact (imagePart_field (i := 5) rfl rfl (le_refl 2)).trans (Nat.mod_eq_of_lt (by omega))

theorem envImage_protected_narrow : ∃ v k, envImage { wide := false, prot := true } s = .ok v { s with draws := k } ∧
    HoldsEnv s.fpu false true v := by
  obtain ⟨cs, ip, k1, ranI, exactI⟩ := farParts_ok s s.fpu.fip
  obtain ⟨ds, dp, k2, ranD, exactD⟩ := farParts_ok { s with draws := k1 } s.fpu.fdp
  refine ⟨_, k2, (bind_of_ok (run_getFpu s) _).trans ((bind_of_ok ranI _).trans (bind_of_ok ranD _)), ?_⟩
  obtain ⟨c, w, t⟩ := words_of_fields (f := s.fpu) (l := [(2, ip), (2, cs), (2, dp), (2, ds)]) (le_refl 2) rfl rfl rfl
  refine ⟨c, w, t, packFields_lt _, fun sel off far => ?_, fun sel off far => ?_, fun wrong => absurd wrong Bool.false_ne_true⟩
  · obtain ⟨rfl, rfl⟩ := exactI sel off far
    exact ⟨imagePart_field (i := 3) rfl rfl (le_refl 2),
      (imagePart_field (i := 4) rfl rfl (le_refl 2)).trans (Nat.mod_eq_of_lt sel.isLt)⟩
  · obtain ⟨rfl, rfl⟩ := exactD sel off far
    exact ⟨imagePart_field (i := 5) rfl rfl (le_refl 2),
      (imagePart_field (i := 6) rfl rfl (le_refl 2)).trans (Nat.mod_eq_of_lt sel.isLt)⟩

theorem envImage_real_wide : ∃ v k, envImage { wide := true, prot := false } s = .ok v { s with draws := k } ∧
    HoldsEnv s.fpu true false v := by
  obtain ⟨cw, k1, ranC, lowC⟩ := padded_ok s s.fpu.fcw.toNat
  obtain ⟨sw, k2, ranS, lowS⟩ := padded_ok { s with draws := k1 } s.fpu.fswWord.toNat
  obtain ⟨tw, k3, ranT, lowT⟩ := padded_ok { s with draws := k2 } s.fpu.ftw
  obtain ⟨ipl, k4, ranI, lowI⟩ := padded_ok { s with draws := k3 } s.fpu.fip.linearAddr
  obtain ⟨dpl, k5, ranD, lowD⟩ := padded_ok { s with draws := k4 } s.fpu.fdp.linearAddr
  refine ⟨_, k5, (bind_of_ok (run_getFpu s) _).trans ((bind_of_ok ranC _).trans ((bind_of_ok ranS _).trans
    ((bind_of_ok ranT _).trans ((bind_of_ok ranI _).trans (bind_of_ok ranD _))))), ?_⟩
  obtain ⟨c, w, t⟩ := words_of_fields (l := [(4, ipl), (4, s.fpu.fop.toNat + 4096 * (s.fpu.fip.linearAddr / 65536)), (4, dpl),
    (4, 4096 * (s.fpu.fdp.linearAddr / 65536))]) (show 2 ≤ 4 by decide) lowC lowS lowT
  refine ⟨c, w, t, packFields_lt _, ?_⟩
  have small := s.fpu.fop.isLt
  have hi := linearOf_lt s.fpu.fip
  have hd := linearOf_lt s.fpu.fdp
  rw [← linearAddr_eq] at hi hd
  unfold PointersStored
  simp only [Bool.false_eq_true, if_false, if_true, ← linearAddr_eq]
  exact ⟨(imagePart_field (i := 3) rfl rfl (by decide)).trans lowI,
    (imagePart_field (i := 4) rfl rfl (le_refl 4)).trans (Nat.mod_eq_of_lt (by omega)),
    (imagePart_field (i := 5) rfl rfl (by decide)).trans lowD,
    (imagePart_field (i := 6) rfl rfl (le_refl 4)).trans (Nat.mod_eq_of_lt (by omega))⟩

theorem envImage_real_narrow : ∃ v k, envImage { wide := false, prot := false } s = .ok v { s with draws := k } ∧
    HoldsEnv s.fpu false false v := by
  refine ⟨_, s.draws, bind_of_ok (run_getFpu s) _, ?_⟩
  obtain ⟨c, w, t⟩ := words_of_fields (f := s.fpu) (l := [(2, s.fpu.fip.linearAddr),
    (2, s.fpu.fop.toNat + 4096 * (s.fpu.fip.linearAddr / 65536 % 16)), (2, s.fpu.fdp.linearAddr),
    (2, 4096 * (s.fpu.fdp.linearAddr / 65536 % 16))]) (le_refl 2) rfl rfl rfl
  refine ⟨c, w, t, packFields_lt _, ?_⟩
  have small := s.fpu.fop.isLt
  unfold PointersStored
  simp only [Bool.false_eq_true, if_false, ← linearAddr_eq]
  exact ⟨imagePart_field (i := 3) rfl rfl (le_refl 2),
    (imagePart_field (i := 4) rfl rfl (le_refl 2)).trans (Nat.mod_eq_of_lt (by omega)),
    imagePart_field (i := 5) rfl rfl (le_refl 2),
    (imagePart_field (i := 6) rfl rfl (le_refl 2)).trans (Nat.mod_eq_of_lt (by omega))⟩

/-- The image of an environment in the format in force. -/
theorem envImage_ok : ∃ v k, envImage s.imageFmt s = .ok v { s with draws := k } ∧
    HoldsEnv s.fpu (decide (s.opSize = .s32)) s.protectedMode v := by
  unfold State.imageFmt
  cases s.protectedMode with
  | true =>
    cases decide (s.opSize = .s32) with
    | true => exact envImage_protected_wide s
    | false => exact envImage_protected_narrow s
  | false =>
    cases decide (s.opSize = .s32) with
    | true => exact envImage_real_wide s
    | false => exact envImage_real_narrow s

end

/-! ### The image of the registers -/

/-- Eight places in the base `b`. -/
theorem sum_places (g : Nat → Nat) (b : Nat) : ((List.range 8).map fun j => g j * b ^ j).sum =
    g 0 + b * (g 1 + b * (g 2 + b * (g 3 + b * (g 4 + b * (g 5 + b * (g 6 + b * (g 7 + b * 0))))))) := by
  change g 0 * b ^ 0 + (g 1 * b ^ 1 + (g 2 * b ^ 2 + (g 3 * b ^ 3 + (g 4 * b ^ 4 + (g 5 * b ^ 5 + (g 6 * b ^ 6 +
    (g 7 * b ^ 7 + 0))))))) = _
  ring

theorem regImage_eq (f : Fpu) : f.regImage = registerImage f := by
  have power : 256 ^ 10 = 2 ^ 80 := by norm_num
  have small : ∀ j, (f.st j).toNat % 256 ^ 10 = (f.st j).toNat := fun j => by
    rw [power]
    exact Nat.mod_eq_of_lt (f.st j).isLt
  unfold Fpu.regImage registerImage
  simp only [packFields, small, Nat.pow_mul]
  rw [power]
  exact (sum_places (fun j => (f.st (BitVec.ofNat 3 j)).toNat) (2 ^ 80)).symm

/-! ### An image loaded -/

theorem loadEnv_environment (f : Fpu) (k : ImageFmt) (v : Nat) :
    Environment (f.loadEnv k v) v (if k.wide then 4 else 2) := by
  have cut : ∀ n, BitVec.ofNat 16 (imageField v n 2) = BitVec.ofNat 16 (v / 256 ^ n) := fun n => by
    apply BitVec.eq_of_toNat_eq
    simp only [BitVec.toNat_ofNat, imageField]
    omega
  refine ⟨?_, ?_, ?_⟩
  · refine (cut 0).trans ?_
    rw [Nat.pow_zero, Nat.div_one]
  · exact congrArg Fsw.ofWord (cut _)
  · exact (ftw_tagsOf (w := imageField v (2 * if k.wide then 4 else 2) 2) rfl).trans (Nat.mod_mod _ _)

theorem loadEnv_pointers (f : Fpu) (k : ImageFmt) (v : Nat) : PointersLoaded f (f.loadEnv k v) k.wide k.prot v := by
  obtain ⟨wide, prot⟩ := k
  cases prot with
  | true =>
    cases wide with
    | true => exact ⟨rfl, rfl, BitVec.toNat_ofNat _ _⟩
    | false => exact ⟨rfl, rfl, rfl⟩
  | false =>
    cases wide with
    | true => exact ⟨rfl, rfl, BitVec.toNat_ofNat _ _⟩
    | false => exact ⟨rfl, rfl, BitVec.toNat_ofNat _ _⟩

theorem loadEnv_fpr (f : Fpu) (k : ImageFmt) (v : Nat) : (f.loadEnv k v).fpr = f.fpr := by
  obtain ⟨wide, prot⟩ := k
  cases prot <;> cases wide <;> rfl

/-- Loading registers changes the registers alone. -/
theorem loadRegs_eq (f : Fpu) (v k : Nat) : f.loadRegs v k = { f with fpr := (f.loadRegs v k).fpr } := by
  induction k with
  | zero => rfl
  | succ k ih =>
    rw [Fpu.loadRegs]
    dsimp only
    rw [ih]

theorem loadRegs_st (f : Fpu) (v : Nat) {k : Nat} (room : k ≤ 8) (j : BitVec 3) (loaded : j.toNat < k) :
    (f.loadRegs v k).st j = BitVec.ofNat 80 (v / 256 ^ (10 * j.toNat)) := by
  induction k with
  | zero => exact absurd loaded (by omega)
  | succ k ih =>
    have top : (f.loadRegs v k).fsw.top = f.fsw.top := by rw [loadRegs_eq]
    have top' : (f.loadRegs v (k + 1)).fsw.top = f.fsw.top := by rw [loadRegs_eq]
    unfold Fpu.st Fpu.phys at ih ⊢
    rw [top', Fpu.loadRegs, Oct.get_set]
    unfold Fpu.phys
    rw [top]
    by_cases last : j.toNat = k
    · have here : j = BitVec.ofNat 3 k := by
        apply BitVec.eq_of_toNat_eq
        rw [BitVec.toNat_ofNat, last]
        omega
      rw [if_pos (by rw [here])]
      apply BitVec.eq_of_toNat_eq
      simp only [BitVec.toNat_ofNat, imageField, last]
      omega
    · have other : ¬f.fsw.top + j = f.fsw.top + BitVec.ofNat 3 k := fun same => by
        have equal : j = BitVec.ofNat 3 k := (BitVec.add_right_inj _).mp same
        apply last
        rw [equal, BitVec.toNat_ofNat]
        omega
      rw [if_neg other]
      rw [top] at ih
      exact ih (by omega) (by omega)

end Sys2Proof.Machine
end

section
/-!
PROOFS. The x87 control instructions (O60).
-/

namespace Sys2Proof.Machine

open Claims

/-! ### The control, status and tag words -/

section

variable {s : State} (present : FpuPresent s)

include present

theorem fninit_done : exec .fninit s = .next { past s with fpu := { s.fpu with
    fcw := 0x037F, tags := Oct.all .empty, fsw := Fsw.ofWord 0 } } :=
  runInstr_of_ok (body := fpuInit) (run_noWait (s := past s) present _)

theorem fnclex_done : ∃ (c0 c1 c2 c3 : Bool) (k : Nat), exec .fnclex s = .next { past s with
    draws := k,
    fpu := coded { s.fpu with fsw := { s.fpu.fsw with
      ie := false, de := false, ze := false, oe := false, ue := false, pe := false, sf := false } } c0 c1 c2 c3 } :=
  ⟨_, _, _, _, _, runInstr_of_ok (body := fpuClear)
    ((run_noWait (s := past s) present _).trans ((bind_of_ok (run_updFsw _ _) _).trans (run_drawAllCodes _)))⟩

theorem fnstswAx_done : exec .fnstswAx s = .next { past s with regs := s.regs.set16 .eax s.fpu.fswWord } :=
  runInstr_of_ok (body := storeStatusAx) (run_noWait (s := past s) present _)

variable {m : MemOp} {as : List Word} {s1 : State} (opened : accessMem m 2 true (past s) = .ok as s1)

include opened

theorem fnstsw_done : exec (.fnstswM16 m) s = .next { s1 with mem := Memory.store s1.mem as s.fpu.fswWord.toNat } :=
  runInstr_of_ok (body := storeStatus m)
    ((run_noWait (s := past s) present _).trans ((bind_of_ok (run_getFpu _) _).trans (run_writeMem opened)))

theorem fnstcw_done : exec (.fnstcwM16 m) s = .next { s1 with mem := Memory.store s1.mem as s.fpu.fcw.toNat } :=
  runInstr_of_ok (body := storeControl m)
    ((run_noWait (s := past s) present _).trans ((bind_of_ok (run_getFpu _) _).trans (run_writeMem opened)))

end

section

variable {s : State} (ready : FpuReady s)

include ready

theorem fldcw_done {m : MemOp} {v : Nat} {s1 : State} (read : readMem m 2 (past s) = .ok v s1) :
    ∃ (c0 c1 c2 c3 : Bool) (k : Nat), exec (.fldcwM16 m) s =
      .next { s1 with fpu := coded { s.fpu with fcw := BitVec.ofNat 16 v } c0 c1 c2 c3, draws := k } := by
  have same : s1.fpu = s.fpu := ((Confined.readMem m 2).ok read).fpu
  rw [← same]
  exact ⟨_, _, _, _, _, runInstr_of_ok (body := loadControl m) ((run_waiting (s := past s) ready _).trans
    ((bind_of_ok read _).trans ((bind_of_ok (run_updFpu _ _) _).trans (run_drawAllCodes _))))⟩

theorem moveTop_runs (d : BitVec 3) : ∃ (fdp : FpuPtr) (c0 c2 c3 : Bool) (k : Nat),
    runInstr (moveTop d) s = .next { past s with
      draws := k,
      fpu := { coded (tracked s fdp) c0 false c2 c3 with
        fsw := { (coded (tracked s fdp) c0 false c2 c3).fsw with top := s.fpu.fsw.top + d } } } :=
  ⟨_, _, _, _, _, runInstr_of_ok (body := moveTop d)
    ((run_numeric (s := past s) ready _).trans ((bind_of_ok (run_drawCodes _) _).trans (run_updFpu _ _)))⟩

theorem ffree_done (j : BitVec 3) : ∃ (fdp : FpuPtr) (c0 c1 c2 c3 : Bool) (k : Nat),
    exec (.ffreeSt j) s = .next { past s with
      draws := k,
      fpu := { coded (tracked s fdp) c0 c1 c2 c3 with tags := s.fpu.tags.set (s.fpu.fsw.top + j) .empty } } :=
  ⟨_, _, _, _, _, _, runInstr_of_ok (body := freeSt j)
    ((run_numeric (s := past s) ready _).trans ((bind_of_ok (run_updFpu _ _) _).trans (run_drawAllCodes _)))⟩

theorem fnop_done : ∃ (fdp : FpuPtr) (c0 c1 c2 c3 : Bool) (k : Nat),
    exec .fnop s = .next { past s with draws := k, fpu := coded (tracked s fdp) c0 c1 c2 c3 } :=
  ⟨_, _, _, _, _, _, runInstr_of_ok (body := numeric drawAllCodes)
    ((run_numeric (s := past s) ready _).trans (run_drawAllCodes _))⟩

end

/-! ### The images -/

theorem envBytes_eq (s : State) : s.imageFmt.envBytes = 7 * if s.opSize = .s32 then 4 else 2 := by
  unfold ImageFmt.envBytes State.imageFmt
  simp only [decide_eq_true_eq]
  split <;> rfl

section

variable {s s1 : State} {m : MemOp} {v k : Nat} {as : List Word} (present : FpuPresent s)
  (image : envImage s.imageFmt (past s) = .ok v { past s with draws := k })

include present image

theorem fnstenv_done (opened : accessMem m s.imageFmt.envBytes true { past s with draws := k } = .ok as s1) :
    ∃ (c0 c1 c2 c3 : Bool) (k' : Nat), exec (.fnstenvEnv m) s = .next { s1 with
      mem := Memory.store s1.mem as v, draws := k', fpu := coded { s.fpu with fcw := s.fpu.fcw ||| 0x3F } c0 c1 c2 c3 } := by
  have same : s1.fpu = s.fpu := ((Confined.accessMem m _ true).ok opened).fpu
  rw [← same]
  refine ⟨_, _, _, _, _, runInstr_of_ok (body := storeEnvironment m) ((run_noWait (s := past s) present _).trans
    ((bind_of_ok (run_getS _) _).trans ((bind_of_ok image _).trans ((bind_of_ok (run_writeMem opened) _).trans
      ((bind_of_ok (run_updFpu _ _) _).trans (run_drawAllCodes _))))))⟩

theorem fnsave_done (opened : accessMem m (s.imageFmt.envBytes + 80) true { past s with draws := k } = .ok as s1) :
    exec (.fnsaveFull m) s = .next { s1 with
      mem := Memory.store s1.mem as (v + 256 ^ s.imageFmt.envBytes * registerImage s.fpu),
      fpu := { s.fpu with fcw := 0x037F, tags := Oct.all .empty, fsw := Fsw.ofWord 0 } } := by
  have same : s1.fpu = s.fpu := ((Confined.accessMem m _ true).ok opened).fpu
  rw [← regImage_eq, ← same]
  refine runInstr_of_ok (body := saveState m) ((run_noWait (s := past s) present _).trans
    ((bind_of_ok (run_getS _) _).trans ((bind_of_ok image _).trans ((bind_of_ok (run_writeMem opened) _).trans ?_))))
  rw [same]
  exact run_updFpu _ _

end

section

variable {s s1 : State} {m : MemOp} {v : Nat} (ready : FpuReady s)

include ready

theorem fldenv_done (read : readMem m s.imageFmt.envBytes (past s) = .ok v s1) :
    exec (.fldenvEnv m) s = .next { s1 with fpu := s.fpu.loadEnv s.imageFmt v } := by
  have same : s1.fpu = s.fpu := ((Confined.readMem m _).ok read).fpu
  rw [← same]
  exact runInstr_of_ok (body := loadEnvironment m) ((run_waiting (s := past s) ready _).trans
    ((bind_of_ok (run_getS _) _).trans ((bind_of_ok read _).trans (run_updFpu _ _))))

theorem frstor_done (read : readMem m (s.imageFmt.envBytes + 80) (past s) = .ok v s1) :
    exec (.frstorFull m) s =
      .next { s1 with fpu := (s.fpu.loadEnv s.imageFmt v).loadRegs (v / 256 ^ s.imageFmt.envBytes) 8 } := by
  have same : s1.fpu = s.fpu := ((Confined.readMem m _).ok read).fpu
  rw [← same]
  exact runInstr_of_ok (body := restoreState m) ((run_waiting (s := past s) ready _).trans
    ((bind_of_ok (run_getS _) _).trans ((bind_of_ok read _).trans (run_updFpu _ _))))

end

/-- Settles O60: the words, the tags and the top, then the four instructions that move an image. -/
theorem fpuControl : Obligations.FpuControl := by
  refine ⟨fun s present => ?_, fun s m present => ?_⟩
  · refine ⟨fninit_done present, fnclex_done present, ?_, ?_, ?_, fnstswAx_done present,
      fun m as s1 opened => ⟨fnstsw_done present opened, fnstcw_done present opened⟩, fun clear => ?_⟩
    · exact runInstr_of_ok (body := noWait skip) (run_noWait (s := past s) present _)
    · exact runInstr_of_ok (body := noWait skip) (run_noWait (s := past s) present _)
    · exact runInstr_of_ok (body := noWait skip) (run_noWait (s := past s) present _)
    · have ready : FpuReady s := ⟨present, clear⟩
      refine ⟨fun m v s1 read => fldcw_done ready read, moveTop_runs ready 1, ?_, ffree_done ready, fnop_done ready⟩
      have down : s.fpu.fsw.top - 1 = s.fpu.fsw.top + 7 := BitVec.sub_eq_add_neg _ _
      simp only [down]
      exact moveTop_runs ready 7
  · intro step n
    have bytes : s.imageFmt.envBytes = n := envBytes_eq s
    have width : (if s.imageFmt.wide then 4 else 2) = step := by
      unfold State.imageFmt step
      simp only [decide_eq_true_eq]
    obtain ⟨v, k, image, holds⟩ := envImage_ok (past s)
    refine ⟨⟨v, k, ?_⟩, fun clear => ⟨fun v s1 read => ?_, fun v s1 read => ?_⟩⟩
    · have holds' : HoldsEnv s.fpu (decide (s.opSize = .s32)) s.protectedMode v := holds
      unfold HoldsEnv at holds'
      simp only [decide_eq_true_eq] at holds'
      obtain ⟨control, status, tags, small, pointers⟩ := holds'
      refine ⟨control, status, tags, small, pointers, fun as s1 opened => ?_, fun as s1 opened => ?_⟩
      · rw [← bytes] at opened
        exact fnstenv_done present image opened
      · rw [← bytes] at opened ⊢
        exact fnsave_done present image opened
    · have ready : FpuReady s := ⟨present, clear⟩
      rw [← bytes] at read
      refine ⟨_, fldenv_done ready read, loadEnv_fpr _ _ _, ?_, loadEnv_pointers _ s.imageFmt v⟩
      rw [← width]
      exact loadEnv_environment _ _ _
    · have ready : FpuReady s := ⟨present, clear⟩
      rw [← bytes] at read
      have environment := loadEnv_environment s.fpu s.imageFmt v
      have pointers := loadEnv_pointers s.fpu s.imageFmt v
      rw [width] at environment
      refine ⟨_, frstor_done ready read, ?_, ?_, fun j => ?_⟩
      · rw [loadRegs_eq]
        exact environment
      · rw [loadRegs_eq]
        exact pointers
      · rw [loadRegs_st _ _ (le_refl 8) j j.isLt, ← bytes, Nat.pow_add, Nat.div_div_eq_div_mul]

end Sys2Proof.Machine
end

section
/-!
PROOFS. The x87 loads (O51).
-/

namespace Sys2Proof.Machine

open Claims

/-! ### Loads from memory -/

/-- What a load from memory does with the bytes `v` of its operand. -/
def pushLoaded (fmt : LoadFmt) (v : Nat) : M Unit :=
  match fmt with
  | .real f => do
      let p ← getFpu
      if p.empty 7 && decide (extCls (f.decode v).x = .snan) then do
        let go ← invalid
        onlyIf go (fpuPush (quieted (f.decode v).x))
      else do
        denormalIf (p.empty 7 && (f.decode v).den)
        fpuPush (f.decode v).x
  | .ext => fpuPush (BitVec.ofNat 80 v)
  | .int n => fpuPush (intToExt (signedBytes n v))
  | .bcd =>
      match bcdDigits 18 (v % 2 ^ 72) with
      | some n => fpuPush (encodeExt (decide (v / 2 ^ 79 % 2 = 1)) n 0)
      | none => do
          let x ← drawExt
          fpuPush x

theorem exec_fldForm {s : State} {i : Instr} {fmt : LoadFmt} {m : MemOp} (form : FldForm i fmt m) :
    exec i s = runInstr (numericMem m (do
      let v ← readMem m fmt.bytes
      drawCodes
      pushLoaded fmt v)) s := by
  cases form <;> rfl

/-- The coprocessor after the value `x` is loaded from the bytes `v`. -/
def loadedFpu (f : Fpu) (fmt : LoadFmt) (v : Nat) (x : Ext) : Fpu :=
  if f.empty 7 ∧ fmt.isReal ∧ extCls x = .snan then
    (if f.fcw.getLsbD 0 then stacked (raised f true false) (quieted x) else raised f true false)
  else pushOrFault (raised f false (f.empty 7 && fmt.denormal v)) (f.empty 7) x

theorem raised_none (f : Fpu) : raised f false false = f := by
  unfold raised
  rw [Bool.or_false, Bool.or_false]

theorem raised_invalid (f : Fpu) : { f with fsw := { f.fsw with ie := true } } = raised f true false := by
  unfold raised
  rw [Bool.or_true, Bool.or_false]

/-- A value that is neither of single nor of double precision is pushed as it is. -/
theorem loadedFpu_plain {f : Fpu} {fmt : LoadFmt} {v : Nat} {x : Ext} (notReal : fmt.isReal = false)
    (normal : fmt.denormal v = false) : loadedFpu f fmt v x = pushOrFault f (f.empty 7) x := by
  unfold loadedFpu
  rw [if_neg (by simp [notReal]), normal, Bool.and_false, raised_none]

theorem testBit_79 (v : Nat) : decide (v / 2 ^ 79 % 2 = 1) = v.testBit 79 := by
  rw [Nat.testBit_eq_decide_div_mod_eq]

theorem pushLoaded_real (f : Fmt) (v : Nat) (t : State) :
    pushLoaded (.real f) v t = .ok () { t with fpu := loadedFpu t.fpu (.real f) v (f.decode v).x } := by
  unfold pushLoaded loadedFpu
  refine (bind_of_ok (run_getFpu t) _).trans ?_
  by_cases signal : (t.fpu.empty 7 && decide (extCls (f.decode v).x = .snan)) = true
  · obtain ⟨room, snan⟩ : t.fpu.empty 7 = true ∧ extCls (f.decode v).x = .snan := by simpa using signal
    refine (congrFun (if_pos signal) _).trans ((bind_of_ok (run_invalid t) _).trans ?_)
    rw [if_pos ⟨room, rfl, snan⟩, raised_invalid]
    by_cases masked : t.fpu.fcw.getLsbD 0 = true
    · rw [if_pos masked, run_onlyIf_do masked, run_fpuPush]
      have stays : (raised t.fpu true false).empty 7 = true := room
      unfold pushOrFault
      rw [if_pos stays]
    · rw [if_neg masked, run_onlyIf_stay (Bool.eq_false_iff.mpr masked)]
  · have other : ¬(t.fpu.empty 7 = true ∧ LoadFmt.isReal (.real f) = true ∧ extCls (f.decode v).x = .snan) := by
      rintro ⟨room, -, snan⟩
      exact signal (by rw [room, decide_eq_true snan]; rfl)
    refine (congrFun (if_neg signal) _).trans ((bind_of_ok (run_denormalIf _ t) _).trans ((run_fpuPush _ _).trans ?_))
    rw [if_neg other]
    rfl

theorem pushLoaded_ok (fmt : LoadFmt) (v : Nat) (t : State) : ∃ x k, fmt.Loads v x ∧
    pushLoaded fmt v t = .ok () { t with draws := k, fpu := loadedFpu t.fpu fmt v x } := by
  cases fmt with
  | real f => exact ⟨_, t.draws, rfl, pushLoaded_real f v t⟩
  | ext =>
    refine ⟨_, t.draws, rfl, ?_⟩
    rw [loadedFpu_plain rfl rfl]
    exact run_fpuPush _ t
  | int n =>
    refine ⟨_, t.draws, rfl, ?_⟩
    rw [loadedFpu_plain rfl rfl]
    exact run_fpuPush _ t
  | bcd =>
    cases digits : bcdDigits 18 (v % 2 ^ 72) with
    | some n =>
      refine ⟨encodeExt (v.testBit 79) n 0, t.draws, fun n' same => ?_, ?_⟩
      · rw [digits] at same
        rw [Option.some.inj same]
      · rw [loadedFpu_plain rfl rfl, ← testBit_79]
        unfold pushLoaded
        simp only [digits]
        exact run_fpuPush _ t
    | none =>
      refine ⟨Config.freeExt t.draws, t.draws + 1, fun n same => ?_, ?_⟩
      · rw [digits] at same
        exact absurd same (by simp)
      · rw [loadedFpu_plain rfl rfl]
        unfold pushLoaded
        simp only [digits]
        exact (bind_of_ok (rfl : drawExt t = .ok (Config.freeExt t.draws) { t with draws := t.draws + 1 }) _).trans
          (run_fpuPush _ _)

/-! ### Loads of registers and constants -/

theorem exec_constForm {s : State} {i : Instr} {c : Rc → Ext} (form : ConstForm i c) :
    exec i s = runInstr (loadConst c) s := by
  cases form <;> rfl

theorem loadConst_runs {s : State} (ready : FpuReady s) (c : Rc → Ext) : ∃ (fdp : FpuPtr) (c0 c2 c3 : Bool) (k : Nat),
    runInstr (loadConst c) s = .next { past s with
      fpu := pushOrFault (coded (tracked s fdp) c0 false c2 c3) (s.fpu.empty 7) (c (rcOf s.fpu.fcw)), draws := k } :=
  ⟨_, _, _, _, _, runInstr_of_ok (body := loadConst c) ((run_numeric (s := past s) ready _).trans
    ((bind_of_ok (run_drawCodes _) _).trans ((bind_of_ok (run_roundingControl _) _).trans (run_fpuPush _ _))))⟩

/-- A register pushed on the stack, or the underflow of an empty one. -/
def pushOperand (v : Option FVal) : M Unit :=
  match v with
  | none => do
      let go ← stackFault false
      onlyIf go (updFpu fun f => f.pushed indefinite)
  | some v => fpuPush v.x

theorem pushOperand_ok (j : BitVec 3) (t : State) :
    pushOperand (if t.fpu.empty j then none else some (FVal.ofExt (t.fpu.st j))) t = .ok () { t with
        fpu := if t.fpu.empty j then
            (if t.fpu.fcw.getLsbD 0 then stacked (stackFlag t.fpu false) indefinite else stackFlag t.fpu false)
          else pushOrFault t.fpu (t.fpu.empty 7) (t.fpu.st j) } := by
  by_cases empty : t.fpu.empty j = true
  · rw [if_pos empty, if_pos empty]
    refine (bind_of_ok (run_stackFault _ t) _).trans ?_
    by_cases masked : t.fpu.fcw.getLsbD 0 = true
    · rw [if_pos masked, run_onlyIf_do masked, run_updFpu, pushed_eq]
    · rw [if_neg masked, run_onlyIf_stay (Bool.eq_false_iff.mpr masked)]
  · rw [if_neg empty, if_neg empty]
    exact run_fpuPush _ t

theorem loadSt_runs {s : State} (ready : FpuReady s) (j : BitVec 3) : ∃ (fdp : FpuPtr) (c0 c2 c3 : Bool) (k : Nat),
    exec (.fldSt j) s = .next { past s with
      draws := k,
      fpu := if s.fpu.empty j then
          (if s.fpu.fcw.getLsbD 0 then stacked (stackFlag (coded (tracked s fdp) c0 false c2 c3) false) indefinite
            else stackFlag (coded (tracked s fdp) c0 false c2 c3) false)
        else pushOrFault (coded (tracked s fdp) c0 false c2 c3) (s.fpu.empty 7) (s.fpu.st j) } :=
  ⟨_, _, _, _, _, runInstr_of_ok (body := loadSt j) ((run_numeric (s := past s) ready _).trans
    ((bind_of_ok (run_drawCodes _) _).trans ((bind_of_ok (run_stOperand j _) _).trans (pushOperand_ok j _))))⟩

theorem constUpper_eq (lower : Ext) (rc : Rc) :
    constUpper lower rc = if rc = .nearest ∨ rc = .up then lower + 1 else lower := by
  cases rc <;> rfl

theorem constL2T_eq (rc : Rc) :
    constL2T rc = if rc = .up then 0x4000D49A784BCD1B8AFF else 0x4000D49A784BCD1B8AFE := by
  cases rc <;> rfl

/-- Settles O51: the constants, the loads of a constant and of a register, and the loads from memory. -/
theorem fpuLoads : Obligations.FpuLoads := by
  refine ⟨fun rc => ⟨constL2T_eq rc, constUpper_eq _ rc, constUpper_eq _ rc, constUpper_eq _ rc, constUpper_eq _ rc, by decide,
    by decide⟩, fun s i c form ready => ?_, fun s j ready => loadSt_runs ready j, fun s i fmt m v s1 form ready read => ?_⟩
  · rw [exec_constForm form]
    exact loadConst_runs ready c
  · have same : s1.fpu = _ := ((Confined.readMem m _).ok read).fpu
    obtain ⟨x, k, loads, pushes⟩ := pushLoaded_ok fmt v { s1 with
      fpu := coded s1.fpu (Config.freeBit s1.draws) false (Config.freeBit (s1.draws + 1)) (Config.freeBit (s1.draws + 2)),
      draws := s1.draws + 3 }
    refine ⟨x, Config.freeBit s1.draws, Config.freeBit (s1.draws + 1), Config.freeBit (s1.draws + 2), k, loads, ?_⟩
    have empty : s1.fpu.empty 7 = s.fpu.empty 7 := by
      rw [same]
      rfl
    have control : s1.fpu.fcw = s.fpu.fcw := by
      rw [same]
      rfl
    rw [← empty, ← control]
    exact (exec_fldForm form).trans (runInstr_of_ok ((run_numericMem (s := past s) ready m _).trans
      ((bind_of_ok read _).trans ((bind_of_ok (run_drawCodes _) _).trans pushes))))

end Sys2Proof.Machine
end

section
/-!
PROOFS. The x87 stores and FXCH (O52).
-/

namespace Sys2Proof.Machine

open Claims

/-! ### Stores to memory -/

theorem FpuOnly.imageOf (fmt : LoadFmt) (v : Option FVal) : FpuOnly (imageOf fmt v) := by
  cases fmt with
  | real f => exact .realImage f v
  | ext =>
    cases v with
    | none => exact .ifMasked (.stackFault false) _
    | some v => exact .pure _
  | int n => exact .intImage n v
  | bcd => exact .bcdImage v

theorem exec_fstForm {s : State} {i : Instr} {fmt : LoadFmt} {m : MemOp} {pops : Bool} (form : FstForm i fmt m pops) :
    exec i s = runInstr (storeImage fmt.bytes m pops (imageOf fmt)) s := by
  cases form <;> rfl

/-- The image, when there is one, is stored, and ST(0) popped where the instruction says so. -/
def storeDone (as : List Word) (pops : Bool) (r : Option Nat) : M Unit :=
  match r with
  | none => skip
  | some b => do
      storeAt as b
      popIf pops

theorem storeDone_none (as : List Word) (pops : Bool) (t : State) : storeDone as pops none t = .ok () t := rfl

theorem storeDone_some (as : List Word) (pops : Bool) (b : Nat) (t : State) : storeDone as pops (some b) t = .ok () { t with
    mem := Memory.store t.mem as b, fpu := if pops then poppedOff t.fpu else t.fpu } := by
  unfold storeDone
  exact (bind_of_ok rfl _).trans (run_popIf pops _)

/-- A store runs up to its end. -/
theorem storeImage_runs {s s1 : State} {n : Nat} {m : MemOp} {pops : Bool} {image : Option FVal → M (Option Nat)}
    {as : List Word} (ready : FpuReady s) (opened : accessMem m n true (notedMem s m) = .ok as s1)
    (completes : ∀ v, FpuOnly (image v)) : ∃ (c0 c2 c3 : Bool) (k : Nat) (r : Option Nat) (s3 : State),
      image (if s.fpu.empty 0 then none else some (FVal.ofExt (s.fpu.st 0)))
        { s1 with fpu := coded s1.fpu c0 false c2 c3, draws := k } = .ok r s3 ∧
      storeImage n m pops image (past s) = storeDone as pops r s3 := by
  have same : s1.fpu = _ := ((Confined.accessMem m n true).ok opened).fpu
  let coding : State := { s1 with
    fpu := coded s1.fpu (Config.freeBit s1.draws) false (Config.freeBit (s1.draws + 1)) (Config.freeBit (s1.draws + 2)),
    draws := s1.draws + 3 }
  have operand : (if coding.fpu.empty 0 then none else some (FVal.ofExt (coding.fpu.st 0))) =
      if s.fpu.empty 0 then none else some (FVal.ofExt (s.fpu.st 0)) := by
    simp only [coding, same]
    rfl
  obtain ⟨r, s3, imaged, -⟩ := completes (if s.fpu.empty 0 then none else some (FVal.ofExt (s.fpu.st 0))) coding
  refine ⟨Config.freeBit s1.draws, Config.freeBit (s1.draws + 1), Config.freeBit (s1.draws + 2), s1.draws + 3, r, s3, imaged, ?_⟩
  unfold storeImage
  refine (run_numericMem (s := past s) ready m _).trans ((bind_of_ok opened _).trans ?_)
  refine (bind_of_ok (run_drawCodes _) _).trans ((bind_of_ok (run_stOperand 0 coding) _).trans ?_)
  rw [operand]
  exact (bind_of_ok imaged _).trans (by cases r <;> rfl)

/-! ### Stores to a register -/

/-- ST(0) copied to ST(j), value and tag. -/
def copiedTo (f : Fpu) (j : BitVec 3) : Fpu :=
  { f with fpr := f.fpr.set (f.fsw.top + j) (f.fpr.get f.fsw.top),
           tags := f.tags.set (f.fsw.top + j) (f.tags.get f.fsw.top) }

theorem phys_zero (f : Fpu) : f.phys 0 = f.fsw.top := BitVec.add_zero _

theorem copied_eq (f : Fpu) (j : BitVec 3) : { f with
    fpr := f.fpr.set (f.phys j) (f.st 0), tags := f.tags.set (f.phys j) (f.tags.get (f.phys 0)) } = copiedTo f j := by
  unfold Fpu.st copiedTo
  rw [phys_zero]
  rfl

theorem storeSt_runs {s : State} (ready : FpuReady s) (j : BitVec 3) (pops : Bool) :
    ∃ (fdp : FpuPtr) (c0 c2 c3 : Bool) (k : Nat),
      let f := coded (tracked s fdp) c0 false c2 c3
      let copied := if s.fpu.empty 0 then
          (if s.fpu.fcw.getLsbD 0 then (stackFlag f false).setSt j indefinite else stackFlag f false)
        else copiedTo f j
      runInstr (storeSt j pops) s = .next { past s with draws := k, fpu :=
        if pops && (!s.fpu.empty 0 || s.fpu.fcw.getLsbD 0) then poppedOff copied else copied } := by
  refine ⟨.far ((Config.freeWord s.draws).setWidth 16) (Config.freeWord (s.draws + 1)), Config.freeBit (s.draws + 2),
    Config.freeBit (s.draws + 3), Config.freeBit (s.draws + 4), s.draws + 5, ?_⟩
  intro f copied
  let t : State := { past s with fpu := f, draws := s.draws + 5 }
  have start : storeSt j pops (past s) = (if f.empty 0 then do
        let go ← underflowTo j
        popIf (go && pops)
      else do
        updFpu fun f => { f with fpr := f.fpr.set (f.phys j) (f.st 0),
                                 tags := f.tags.set (f.phys j) (f.tags.get (f.phys 0)) }
        popIf pops) t :=
    (run_numeric (s := past s) ready _).trans ((bind_of_ok (run_drawCodes _) _).trans (bind_of_ok (run_getFpu t) _))
  refine runInstr_of_ok (start.trans ?_)
  by_cases empty : s.fpu.empty 0 = true
  · refine (congrFun (if_pos (show f.empty 0 = true from empty)) _).trans ((bind_of_ok (run_underflowTo j t) _).trans ?_)
    rw [run_popIf]
    have result : copied = underflowed f j false := if_pos empty
    rw [empty, result, Bool.not_true, Bool.false_or, Bool.and_comm]
    rfl
  · refine (congrFun (if_neg (show ¬f.empty 0 = true from empty)) _).trans ((bind_of_ok (run_updFpu _ t) _).trans ?_)
    rw [run_popIf]
    have result : copied = copiedTo f j := if_neg empty
    rw [Bool.eq_false_iff.mpr empty, result, Bool.not_false, Bool.true_or, Bool.and_true, ← copied_eq]

/-! ### FXCH -/

theorem exchange_eq (f : Fpu) (j : BitVec 3) : f.exchange j = { f with
    fpr := (f.fpr.set f.fsw.top (f.fpr.get (f.fsw.top + j))).set (f.fsw.top + j) (f.fpr.get f.fsw.top),
    tags := (f.tags.set f.fsw.top (f.tags.get (f.fsw.top + j))).set (f.fsw.top + j) (f.tags.get f.fsw.top) } := by
  unfold Fpu.exchange Fpu.st
  rw [phys_zero]
  rfl

theorem Oct.set_get {α : Type} (o : Oct α) (i : BitVec 3) : o.set i (o.get i) = o := by
  have all : ∀ k : BitVec 3, k = 0 ∨ k = 1 ∨ k = 2 ∨ k = 3 ∨ k = 4 ∨ k = 5 ∨ k = 6 ∨ k = 7 := by decide
  rcases all i with rfl | rfl | rfl | rfl | rfl | rfl | rfl | rfl <;> rfl

theorem exchange_zero (f : Fpu) : f.exchange 0 = f := by
  rw [exchange_eq, show f.fsw.top + 0 = f.fsw.top from BitVec.add_zero _]
  simp only [Oct.set_get]

theorem exchangeRegs_ok {t : State} {j : BitVec 3} (first : t.fpu.empty 0 = false) (second : t.fpu.empty j = false) :
    exchangeRegs j t = .ok () { t with fpu := t.fpu.exchange j } := by
  unfold exchangeRegs
  refine (bind_of_ok (run_getFpu t) _).trans ((congrFun (if_neg ?_) _).trans (run_updFpu _ t))
  rw [first, second]
  exact Bool.false_ne_true

theorem fxch_runs {s : State} (ready : FpuReady s) {j : BitVec 3} (other : j ≠ 0) (first : s.fpu.empty 0 = false)
    (second : s.fpu.empty j = false) : ∃ (fdp : FpuPtr) (c0 c2 c3 : Bool) (k : Nat),
      exec (.fxchSt j) s = .next { past s with draws := k, fpu := (coded (tracked s fdp) c0 false c2 c3).exchange j } := by
  refine ⟨_, _, _, _, _, runInstr_of_ok (body := fxchRegs j) ((congrFun (if_neg other) _).trans
    ((run_numeric (s := past s) ready _).trans ((bind_of_ok (run_drawCodes _) _).trans (exchangeRegs_ok ?_ ?_))))⟩
  · exact first
  · exact second

theorem fxch_same_runs {s : State} (ready : FpuReady s) (present : s.fpu.empty 0 = false) :
    exec (.fxchSt 0) s = .next { past s with
      fpu := coded (tracked s s.fpu.fdp) s.fpu.fsw.c0 false s.fpu.fsw.c2 s.fpu.fsw.c3 } := by
  let t : State := { past s with fpu := coded (tracked s s.fpu.fdp) s.fpu.fsw.c0 false s.fpu.fsw.c2 s.fpu.fsw.c3 }
  have done : exchangeRegs 0 t = .ok () t := by
    have ran := exchangeRegs_ok (t := t) (j := 0) present present
    rw [exchange_zero] at ran
    exact ran
  exact runInstr_of_ok (body := fxchRegs 0) ((congrFun (if_pos rfl) _).trans ((run_waiting (s := past s) ready _).trans
    ((bind_of_ok rfl _).trans ((bind_of_ok (run_setC1 false _) _).trans done))))

/-- Settles O52: stores to memory, stores to a register, and the exchange. -/
theorem fpuStores : Obligations.FpuStores := by
  refine ⟨fun s i fmt m pops as s1 form ready opened => ?_, fun s i j pops form ready => ?_, fun s j ready first second => ?_,
    fun s ready present => fxch_same_runs ready present⟩
  · obtain ⟨c0, c2, c3, k, r, s3, imaged, ends⟩ := storeImage_runs (pops := pops) ready opened (FpuOnly.imageOf fmt)
    refine ⟨c0, c2, c3, k, r, s3, imaged, (exec_fstForm form).trans (runInstr_of_ok (ends.trans ?_))⟩
    cases r with
    | none => exact storeDone_none as pops s3
    | some b => exact storeDone_some as pops b s3
  · have runs := storeSt_runs ready j pops
    cases form with
    | fstSt => exact runs
    | fstpSt => exact runs
  · by_cases same : j = 0
    · subst same
      refine ⟨s.fpu.fdp, s.fpu.fsw.c0, s.fpu.fsw.c2, s.fpu.fsw.c3, s.draws, ?_⟩
      intro f p
      have stays := exchange_zero f
      rw [exchange_eq] at stays
      rw [stays]
      exact fxch_same_runs ready first
    · obtain ⟨fdp, c0, c2, c3, k, ran⟩ := fxch_runs ready same first second
      rw [exchange_eq] at ran
      exact ⟨fdp, c0, c2, c3, k, ran⟩

end Sys2Proof.Machine
end

section
/-!
PROOFS. x87 arithmetic: operands, delivery, pop, and empty operands (O54).
-/

namespace Sys2Proof.Machine

open Claims

theorem run_precision {s : State} {p : Nat} (h : PrecisionIs s.fpu p) : precision s = .ok p s := by
  unfold precision
  refine (bind_of_ok (run_getFpu s) _).trans ?_
  rcases h with ⟨control, rfl⟩ | ⟨control, rfl⟩ | ⟨control, rfl⟩
  · rw [control]
    rfl
  · rw [control]
    rfl
  · rw [control]
    rfl

/-- A delivery, and the pop when the instruction completes. -/
theorem deliverCalc_pops (i : BitVec 3) (p : Nat) (den pops : Bool) (c : Calc) (t : State) : ∃ go u,
    deliverCalc i p den c t = .ok go u ∧ (do
      let go ← deliverCalc i p den c
      popIf (go && pops)) t = .ok () (if go && pops then { u with fpu := poppedOff u.fpu } else u) := by
  obtain ⟨go, u, ran, -⟩ := FpuOnly.deliverCalc i p den c t
  refine ⟨go, u, ran, (bind_of_ok ran _).trans ((run_popIf _ u).trans ?_)⟩
  cases go && pops <;> rfl

theorem deliver0_runs (p : Nat) (den : Bool) (c : Calc) (t : State) : ∃ go u,
    deliverCalc 0 p den c t = .ok go u ∧ deliver0 p den c t = .ok () u := by
  obtain ⟨go, u, ran, -⟩ := FpuOnly.deliverCalc 0 p den c t
  exact ⟨go, u, ran, bind_of_ok ran _⟩

theorem underflowTo_pops (d : BitVec 3) (pops : Bool) (t : State) : (do
      let go ← underflowTo d
      popIf (go && pops)) t = .ok () { t with fpu := underflowed t.fpu d pops } := by
  refine (bind_of_ok (run_underflowTo d t) _).trans ((run_popIf _ _).trans ?_)
  unfold underflowed
  by_cases masked : t.fpu.fcw.getLsbD 0 = true
  · rw [if_pos masked, if_pos masked, masked, Bool.true_and]
    rfl
  · rw [if_neg masked, if_neg masked, Bool.eq_false_iff.mpr masked]
    rfl

/-! ### The four operations -/

/-- What an arithmetic instruction does with its operands. -/
def arithEnds (op : FOp) (i : BitVec 3) (pops : Bool) (d s : Option FVal) : M Unit :=
  match d, s with
  | some d, some s => do
      let p ← precision
      let rc ← roundingControl
      let go ← deliverCalc i p (d.den || s.den) (calcOp op rc d.x s.x)
      popIf (go && pops)
  | _, _ => do
      let go ← underflowTo i
      popIf (go && pops)

theorem arith_eq (op : FOp) (i : BitVec 3) (b : Option FVal) (pops : Bool) : arith op i b pops = (do
      drawCodes
      let d ← stOperand i
      arithEnds op i pops d b) := rfl

theorem arithEnds_some {t : State} {p : Nat} (precise : PrecisionIs t.fpu p) (op : FOp) (i : BitVec 3) (pops : Bool)
    (d b : FVal) :
    ∃ go u, deliverCalc i p (d.den || b.den) (calcOp op (rcOf t.fpu.fcw) d.x b.x) t = .ok go u ∧
      arithEnds op i pops (some d) (some b) t = .ok () (if go && pops then { u with fpu := poppedOff u.fpu } else u) := by
  obtain ⟨go, u, ran, pop⟩ := deliverCalc_pops i p (d.den || b.den) pops (calcOp op (rcOf t.fpu.fcw) d.x b.x) t
  refine ⟨go, u, ran, ?_⟩
  exact (bind_of_ok (run_precision precise) _).trans ((bind_of_ok (run_roundingControl t) _).trans pop)

theorem arithEnds_none (op : FOp) (i : BitVec 3) (pops : Bool) {d b : Option FVal} (empty : d = none ∨ b = none) (t : State) :
    arithEnds op i pops d b t = .ok () { t with fpu := underflowed t.fpu i pops } := by
  rcases empty with rfl | rfl
  · exact underflowTo_pops i pops t
  · cases d <;> exact underflowTo_pops i pops t

theorem exec_arithStForm {s : State} {i : Instr} {op : FOp} {d r : BitVec 3} {pops : Bool} (form : ArithStForm i op d r pops) :
    exec i s = runInstr (arithRegs op d r pops) s := by
  cases form <;> rfl

/-- The operand of a memory form. -/
def memOperand (fmt : LoadFmt) (v : Nat) : FVal :=
  match fmt with
  | .real f => f.decode v
  | .int n => { x := intToExt (signedBytes n v), den := false }
  | .ext => { x := BitVec.ofNat 80 v, den := false }
  | .bcd => { x := 0, den := false }

theorem exec_arithMemForm {s : State} {i : Instr} {op : FOp} {fmt : LoadFmt} {m : MemOp} (form : ArithMemForm i op fmt m) :
    exec i s = runInstr (numericMem m (do
      let v ← readMem m fmt.bytes
      arith op 0 (some (memOperand fmt v)) false)) s := by
  cases form <;> exact runInstr_congr (congrFun (congrArg (numericMem m) (bind_assoc _ _ _)) _)

theorem memOperand_loads {i : Instr} {op : FOp} {fmt : LoadFmt} {m : MemOp} (form : ArithMemForm i op fmt m) (v : Nat) :
    fmt.Loads v (memOperand fmt v).x ∧ (memOperand fmt v).den = fmt.denormal v := by
  cases form <;> exact ⟨rfl, rfl⟩

/-! ### Operations on ST(0) and ST(1) -/

/-- The end of an operation on ST(0) and ST(1). -/
def binaryEnds (f : FVal → FVal → M Unit) (a b : Option FVal) : M Unit :=
  match a, b with
  | some a, some b => f a b
  | _, _ => do
      let _ ← underflowTo 0
      skip

theorem binary0_eq (f : FVal → FVal → M Unit) : binary0 f = numeric (do
      drawCodes
      let a ← stOperand 0
      let b ← stOperand 1
      binaryEnds f a b) := rfl

/-- The end of an operation on ST(0). -/
def unaryEnds (f : FVal → M Unit) (v : Option FVal) : M Unit :=
  match v with
  | none => do
      let _ ← underflowTo 0
      skip
  | some v => f v

theorem unary_eq (f : FVal → M Unit) : unary f = numeric (do
      drawCodes
      let v ← stOperand 0
      unaryEnds f v) := rfl

/-- The state in which the body of a numeric instruction without memory operand runs, its condition codes drawn. -/
def numericState (s : State) : State := { past s with
  fpu := coded (tracked s (.far ((Config.freeWord s.draws).setWidth 16) (Config.freeWord (s.draws + 1))))
    (Config.freeBit (s.draws + 2)) false (Config.freeBit (s.draws + 3)) (Config.freeBit (s.draws + 4)),
  draws := s.draws + 5 }

theorem numeric_drawn {s : State} (ready : FpuReady s) (body : M Unit) : numeric (do
      drawCodes
      body) (past s) = body (numericState s) :=
  (run_numeric (s := past s) ready _).trans (bind_of_ok (run_drawCodes _) _)

theorem unary_some {s : State} (ready : FpuReady s) (f : FVal → M Unit) (present : s.fpu.empty 0 = false) :
    unary f (past s) = f (FVal.ofExt (s.fpu.st 0)) (numericState s) := by
  have operand := run_stOperand 0 (numericState s)
  rw [show (numericState s).fpu.empty 0 = false from present, if_neg Bool.false_ne_true] at operand
  rw [unary_eq]
  exact (numeric_drawn ready _).trans (bind_of_ok operand _)

theorem unary_none {s : State} (ready : FpuReady s) (f : FVal → M Unit) (empty : s.fpu.empty 0 = true) :
    unary f (past s) = .ok () { numericState s with fpu := underflowed (numericState s).fpu 0 false } := by
  have operand := run_stOperand 0 (numericState s)
  rw [show (numericState s).fpu.empty 0 = true from empty, if_pos rfl] at operand
  rw [unary_eq]
  exact (numeric_drawn ready _).trans ((bind_of_ok operand _).trans (bind_of_ok (run_underflowTo 0 _) _))

theorem binary0_some {s : State} (ready : FpuReady s) (f : FVal → FVal → M Unit) (first : s.fpu.empty 0 = false)
    (second : s.fpu.empty 1 = false) :
    binary0 f (past s) = f (FVal.ofExt (s.fpu.st 0)) (FVal.ofExt (s.fpu.st 1)) (numericState s) := by
  have operand0 := run_stOperand 0 (numericState s)
  rw [show (numericState s).fpu.empty 0 = false from first, if_neg Bool.false_ne_true] at operand0
  have operand1 := run_stOperand 1 (numericState s)
  rw [show (numericState s).fpu.empty 1 = false from second, if_neg Bool.false_ne_true] at operand1
  rw [binary0_eq]
  exact (numeric_drawn ready _).trans ((bind_of_ok operand0 _).trans (bind_of_ok operand1 _))

theorem binary0_none {s : State} (ready : FpuReady s) (f : FVal → FVal → M Unit)
    (empty : s.fpu.empty 0 = true ∨ s.fpu.empty 1 = true) :
    binary0 f (past s) = .ok () { numericState s with fpu := underflowed (numericState s).fpu 0 false } := by
  have fault : (do
      let _ ← underflowTo 0
      skip : M Unit) (numericState s) = .ok () { numericState s with fpu := underflowed (numericState s).fpu 0 false } :=
    bind_of_ok (run_underflowTo 0 _) _
  have start := (numeric_drawn ready (do
      let a ← stOperand 0
      let b ← stOperand 1
      binaryEnds f a b)).trans ((bind_of_ok (run_stOperand 0 _) _).trans (bind_of_ok (run_stOperand 1 _) _))
  rw [binary0_eq]
  refine start.trans ?_
  rcases empty with first | second
  · rw [show (numericState s).fpu.empty 0 = true from first]
    exact fault
  · rw [show (numericState s).fpu.empty 1 = true from second]
    cases (numericState s).fpu.empty 0 <;> exact fault

/-- Settles O54: the register forms, the memory forms, FSQRT and FSCALE. -/
theorem fpuArithmetic : Obligations.FpuArithmetic := by
  intro s p ready precise rc den
  have precise' : PrecisionIs (numericState s).fpu p := precise
  refine ⟨fun i op d r pops form => ?_, fun i op fmt m v s1 form read => ?_, ?_, ?_⟩
  · refine ⟨.far ((Config.freeWord s.draws).setWidth 16) (Config.freeWord (s.draws + 1)), Config.freeBit (s.draws + 2),
      Config.freeBit (s.draws + 3), Config.freeBit (s.draws + 4), s.draws + 5, ?_⟩
    intro f
    have start : arithRegs op d r pops (past s) = arithEnds op d pops
        (if s.fpu.empty d then none else some (FVal.ofExt (s.fpu.st d)))
        (if s.fpu.empty r then none else some (FVal.ofExt (s.fpu.st r))) (numericState s) :=
      (run_numeric (s := past s) ready _).trans ((bind_of_ok (run_stOperand r _) _).trans
        ((bind_of_ok (run_drawCodes _) _).trans (bind_of_ok (run_stOperand d _) _)))
    refine ⟨fun first second => ?_, fun empty => ?_⟩
    · obtain ⟨go, t, ran, ends⟩ := arithEnds_some precise' op d pops (FVal.ofExt (s.fpu.st d)) (FVal.ofExt (s.fpu.st r))
      refine ⟨go, t, ran, (exec_arithStForm form).trans (runInstr_of_ok (start.trans ?_))⟩
      rw [first, second]
      exact ends
    · refine (exec_arithStForm form).trans (runInstr_of_ok (start.trans (arithEnds_none op d pops ?_ (numericState s))))
      rcases empty with first | second
      · exact .inl (if_pos first)
      · exact .inr (if_pos second)
  · obtain ⟨loads, denormal⟩ := memOperand_loads form v
    refine ⟨_, Config.freeBit s1.draws, Config.freeBit (s1.draws + 1), Config.freeBit (s1.draws + 2), s1.draws + 3, loads, ?_⟩
    intro f
    have same : s1.fpu = _ := ((Confined.readMem m _).ok read).fpu
    have empty : f.empty 0 = s.fpu.empty 0 := by
      simp only [f, same]
      rfl
    have top : f.st 0 = s.fpu.st 0 := by
      simp only [f, same]
      rfl
    have control : f.fcw = s.fpu.fcw := by
      simp only [f, same]
      rfl
    have start : numericMem m (do
        let v ← readMem m fmt.bytes
        arith op 0 (some (memOperand fmt v)) false) (past s) = arithEnds op 0 false
          (if f.empty 0 then none else some (FVal.ofExt (f.st 0))) (some (memOperand fmt v))
          { s1 with fpu := f, draws := s1.draws + 3 } :=
      (run_numericMem (s := past s) ready m _).trans ((bind_of_ok read _).trans
        ((bind_of_ok (run_drawCodes _) _).trans (bind_of_ok (run_stOperand 0 _) _)))
    rw [empty, top] at start
    refine ⟨fun first => ?_, fun first => ?_⟩
    · have exact1 : PrecisionIs f p := by
        unfold PrecisionIs
        rw [control]
        exact precise
      obtain ⟨go, t, ran, ends⟩ := arithEnds_some (t := { s1 with fpu := f, draws := s1.draws + 3 }) exact1 op 0 false
        (FVal.ofExt (s.fpu.st 0)) (memOperand fmt v)
      rw [denormal, control] at ran
      refine ⟨go, t, ran, (exec_arithMemForm form).trans (runInstr_of_ok (start.trans ?_))⟩
      rw [first]
      rw [Bool.and_false] at ends
      exact ends
    · refine (exec_arithMemForm form).trans (runInstr_of_ok (start.trans ?_))
      exact arithEnds_none op 0 false (.inl (if_pos first)) _
  · refine ⟨.far ((Config.freeWord s.draws).setWidth 16) (Config.freeWord (s.draws + 1)), Config.freeBit (s.draws + 2),
      Config.freeBit (s.draws + 3), Config.freeBit (s.draws + 4), s.draws + 5, ?_⟩
    intro f
    refine ⟨fun present => ?_, fun empty => ?_⟩
    · obtain ⟨go, t, ran, ends⟩ := deliver0_runs p (den (s.fpu.st 0)) (calcSqrt (s.fpu.st 0)) (numericState s)
      refine ⟨go, t, ran, runInstr_of_ok (body := squareRoot) ((unary_some ready _ present).trans ?_)⟩
      exact (bind_of_ok (run_precision precise') _).trans ends
    · exact runInstr_of_ok (body := squareRoot) (unary_none ready _ empty)
  · refine ⟨.far ((Config.freeWord s.draws).setWidth 16) (Config.freeWord (s.draws + 1)), Config.freeBit (s.draws + 2),
      Config.freeBit (s.draws + 3), Config.freeBit (s.draws + 4), s.draws + 5, ?_⟩
    intro f
    refine ⟨fun first second => ?_, fun empty => ?_⟩
    · obtain ⟨go, t, ran, ends⟩ := deliver0_runs 64 (den (s.fpu.st 0) || den (s.fpu.st 1)) (calcScale (s.fpu.st 0) (s.fpu.st 1))
        (numericState s)
      exact ⟨go, t, ran, runInstr_of_ok (body := scale) ((binary0_some ready _ first second).trans ends)⟩
    · exact runInstr_of_ok (body := scale) (binary0_none ready _ empty)

end Sys2Proof.Machine
end

section
/-!
PROOFS. The numbers of the coprocessor as rationals: scaling and order (for O55 to O58).
-/

namespace Sys2Proof.Machine

open Claims

/-! ### Value -/

/-- The sign of a number as a factor. -/
def signOf (neg : Bool) : ℚ := if neg then -1 else 1

theorem value_eq (n : Machine.Num) : value n = signOf n.neg * n.mant * (2 : ℚ) ^ n.exp := rfl

theorem signOf_abs (neg : Bool) : |signOf neg| = 1 := by
  cases neg <;> simp [signOf]

theorem signOf_ne_zero (neg : Bool) : signOf neg ≠ 0 := by
  cases neg <;> simp [signOf]

theorem two_zpow_pos (e : ℤ) : (0 : ℚ) < 2 ^ e := zpow_pos (by norm_num) e

theorem two_zpow_ne_zero (e : ℤ) : (2 : ℚ) ^ e ≠ 0 := (two_zpow_pos e).ne'

theorem two_zpow_split {e f : ℤ} (h : e ≤ f) : (2 : ℚ) ^ f = 2 ^ (f - e).toNat * 2 ^ e := by
  have power : (2 : ℚ) ^ (f - e).toNat = 2 ^ (f - e) := by
    rw [← zpow_natCast, Int.toNat_of_nonneg (by omega)]
  rw [power, ← zpow_add₀ (by norm_num), Int.sub_add_cancel]

/-- The signed significand at a smaller exponent. -/
theorem value_scaledTo {n : Machine.Num} {e : ℤ} (h : e ≤ n.exp) : value n = n.scaledTo e * (2 : ℚ) ^ e := by
  rw [value_eq, two_zpow_split h]
  unfold Num.scaledTo signOf
  cases n.neg with
  | true =>
    push_cast
    simp only [if_true]
    push_cast
    ring
  | false =>
    simp only [Bool.false_eq_true, if_false]
    push_cast
    ring

theorem value_eq_zero_iff (n : Machine.Num) : value n = 0 ↔ n.mant = 0 := by
  rw [value_eq, mul_eq_zero, mul_eq_zero]
  simp [signOf_ne_zero, two_zpow_ne_zero]

theorem abs_value (n : Machine.Num) : |value n| = n.mant * (2 : ℚ) ^ n.exp := by
  rw [value_eq, abs_mul, abs_mul, signOf_abs, one_mul, Nat.abs_cast, abs_of_pos (two_zpow_pos _)]

/-! ### Order -/

theorem compare_scaled (x y : ℤ) (e : ℤ) :
    (compare x y = .lt ↔ (x : ℚ) * 2 ^ e < y * 2 ^ e) ∧ (compare x y = .eq ↔ (x : ℚ) * 2 ^ e = y * 2 ^ e) ∧
      (compare x y = .gt ↔ (y : ℚ) * 2 ^ e < x * 2 ^ e) := by
  have pos := two_zpow_pos e
  refine ⟨?_, ?_, ?_⟩
  · rw [compare_lt_iff_lt, mul_lt_mul_iff_left₀ pos, Int.cast_lt]
  · rw [compare_eq_iff_eq, mul_left_inj' pos.ne', Int.cast_inj]
  · rw [compare_gt_iff_gt, mul_lt_mul_iff_left₀ pos, Int.cast_lt]

theorem cmp_value (a b : Machine.Num) : (a.cmp b = .lt ↔ value a < value b) ∧ (a.cmp b = .eq ↔ value a = value b) ∧
    (a.cmp b = .gt ↔ value b < value a) := by
  rw [value_scaledTo (min_le_left a.exp b.exp), value_scaledTo (min_le_right a.exp b.exp)]
  exact compare_scaled _ _ _

/-- Zero, denormal and normal values. -/
def Finite (x : Ext) : Prop := extCls x = .zero ∨ extCls x = .denormal ∨ extCls x = .normal

theorem extCmp_finite {a b : Ext} (ha : Finite a) (hb : Finite b) : extCmp a b = (numOf a).cmp (numOf b) := by
  unfold extCmp
  rcases ha with ha | ha | ha <;> rcases hb with hb | hb | hb <;> rw [ha, hb]

theorem extCmp_infinity_left {a b : Ext} (ha : extCls a = .infinity) (hb : Finite b) :
    extCmp a b = if extNeg a then .lt else .gt := by
  unfold extCmp
  rcases hb with hb | hb | hb <;> rw [ha, hb]

theorem extCmp_infinity_right {a b : Ext} (ha : Finite a) (hb : extCls b = .infinity) :
    extCmp a b = if extNeg b then .gt else .lt := by
  unfold extCmp
  rcases ha with ha | ha | ha <;> rw [ha, hb]

end Sys2Proof.Machine
end

section
/-!
PROOFS. The x87 comparisons (O58).
-/

namespace Sys2Proof.Machine

open Claims

/-! ### The end of a comparison -/

theorem popTimes_ok (n : Nat) (t : State) : popTimes n t = .ok () { t with fpu := poppedTimes n t.fpu } := by
  induction n generalizing t with
  | zero => rfl
  | succ n ih => exact (bind_of_ok (run_fpuPop t) _).trans (ih _)

/-- Unordered codes, and the pops. -/
theorem unordered_ok {m : M Bool} {pops : Nat} {go : Bool} {t u : State} (raised : m t = .ok go u)
    (clear : u.fpu.fsw.c1 = false) :
    unordered m pops t = .ok () { u with fpu := if go then unorderedOf u.fpu pops else u.fpu } := by
  unfold unordered
  refine (bind_of_ok raised _).trans ?_
  cases go with
  | false => rfl
  | true =>
    refine (bind_of_ok rfl _).trans ((popTimes_ok pops _).trans ?_)
    unfold unorderedOf coded
    rw [← clear]
    rfl

/-! ### Operands -/

/-- A signaling NaN or an unsupported operand. -/
def isBad (x : Ext) : Bool := decide (extCls x = .snan) || decide (extCls x = .unsupported)

theorem isNan_iff (x : Ext) : isNan x = true ↔ extCls x = .qnan ∨ extCls x = .snan := by
  unfold isNan
  simp

/-- What the operands of a comparison are: bad ones, quiet NaNs alone, or neither. -/
theorem badOperands_cases (a b : Ext) :
    ((isBad a || isBad b) = true ∧ ∃ c, badOperands a b = some c ∧ ∀ x, c ≠ .nan x false) ∨
    ((isBad a || isBad b) = false ∧ (extCls a = .qnan ∨ extCls b = .qnan) ∧ ∃ x, badOperands a b = some (.nan x false)) ∨
    ((isBad a || isBad b) = false ∧ extCls a ≠ .qnan ∧ extCls b ≠ .qnan ∧ badOperands a b = none) := by
  unfold badOperands isBad isNan
  cases extCls a <;> cases extCls b <;> simp

/-- The coprocessor with C1 clear. -/
def c1Clear (f : Fpu) : Fpu := { f with fsw := { f.fsw with c1 := false } }

/-- What a comparison does with its operands, C1 cleared. -/
def compareEnds (quiet : Bool) (pops : Nat) (a b : Option FVal) : M Unit :=
  match a, b with
  | some a, some b =>
      match badOperands a.x b.x with
      | some (.nan _ false) => unordered (if quiet then pure true else invalid) pops
      | some _ => unordered invalid pops
      | none => do
          denormalIf (a.den || b.den)
          match extCmp a.x b.x with
          | .gt => setCodes false false false
          | .lt => setCodes false false true
          | .eq => setCodes true false false
          popTimes pops
  | _, _ => unordered (stackFault false) pops

theorem compareWith_eq (quiet : Bool) (b : Option FVal) (pops : Nat) : compareWith quiet b pops = (do
    setC1 false
    let a ← stOperand 0
    compareEnds quiet pops a b) := rfl

section

variable {t : State} {pops : Nat} (clear : t.fpu.fsw.c1 = false)

include clear

theorem c1Clear_self : c1Clear t.fpu = t.fpu := by
  unfold c1Clear
  rw [← clear]

omit clear in
theorem compareEnds_empty (quiet : Bool) {a b : Option FVal} (empty : a = none ∨ b = none) (x y : Ext) (den : Bool) :
    compareEnds quiet pops a b t = .ok () { t with fpu := compared t.fpu quiet true x y den pops } := by
  have fault := unordered_ok (pops := pops) (run_stackFault false t) rfl
  have result : compared t.fpu quiet true x y den pops =
      if t.fpu.fcw.getLsbD 0 then unorderedOf (stackFlag t.fpu false) pops else stackFlag t.fpu false := rfl
  rw [result]
  rcases empty with rfl | rfl
  · exact fault
  · cases a <;> exact fault

theorem compareEnds_bad (quiet : Bool) {a b : FVal} (bad : (isBad a.x || isBad b.x) = true) (den : Bool) :
    compareEnds quiet pops (some a) (some b) t =
      .ok () { t with fpu := compared t.fpu quiet false a.x b.x den pops } := by
  have invalidEnds : unordered invalid pops t = .ok () { t with
      fpu := (if t.fpu.fcw.getLsbD 0 then unorderedOf (raised t.fpu true false) pops else raised t.fpu true false) } := by
    have ran := unordered_ok (pops := pops) (run_invalid t) clear
    rw [raised_invalid] at ran
    exact ran
  have result : compared t.fpu quiet false a.x b.x den pops =
      if t.fpu.fcw.getLsbD 0 then unorderedOf (raised t.fpu true false) pops else raised t.fpu true false := by
    have same := c1Clear_self clear
    unfold c1Clear at same
    unfold compared
    simp only [same]
    exact (if_neg Bool.false_ne_true).trans (if_pos (by rw [Bool.or_eq_true]; exact .inl bad))
  rw [result]
  rcases badOperands_cases a.x b.x with ⟨-, c, found, notQuiet⟩ | ⟨good, -⟩ | ⟨good, -⟩
  · unfold compareEnds
    simp only [found]
    cases c with
    | nan x ia =>
      cases ia with
      | true => exact invalidEnds
      | false => exact absurd rfl (notQuiet x)
    | ia => exact invalidEnds
    | zdiv neg => exact invalidEnds
    | special x => exact invalidEnds
    | num n => exact invalidEnds
  · exact absurd (good.symm.trans bad) Bool.false_ne_true
  · exact absurd (good.symm.trans bad) Bool.false_ne_true

theorem compareEnds_quietNan (quiet : Bool) {a b : FVal} (good : (isBad a.x || isBad b.x) = false)
    (nan : extCls a.x = .qnan ∨ extCls b.x = .qnan) (den : Bool) :
    compareEnds quiet pops (some a) (some b) t =
      .ok () { t with fpu := compared t.fpu quiet false a.x b.x den pops } := by
  have same := c1Clear_self clear
  unfold c1Clear at same
  have someNan : (decide (extCls a.x = .qnan) || decide (extCls b.x = .qnan)) = true := by simpa using nan
  have found : ∃ x, badOperands a.x b.x = some (.nan x false) := by
    rcases badOperands_cases a.x b.x with ⟨bad, -⟩ | ⟨-, -, found⟩ | ⟨-, left, right, -⟩
    · exact absurd (good.symm.trans bad) Bool.false_ne_true
    · exact found
    · exact absurd nan (by simp [left, right])
  obtain ⟨x, found⟩ := found
  unfold compareEnds
  simp only [found]
  have unfoldBad : isBad a.x = false ∧ isBad b.x = false := by simpa using good
  unfold isBad at unfoldBad
  cases quiet with
  | true =>
    have result : compared t.fpu true false a.x b.x den pops = unorderedOf t.fpu pops := by
      unfold compared
      simp only [same, unfoldBad.1, unfoldBad.2, someNan]
      rfl
    rw [result]
    exact unordered_ok (m := pure true) rfl clear
  | false =>
    have result : compared t.fpu false false a.x b.x den pops =
        if t.fpu.fcw.getLsbD 0 then unorderedOf (raised t.fpu true false) pops else raised t.fpu true false := by
      unfold compared
      simp only [same, unfoldBad.1, unfoldBad.2, someNan]
      rfl
    have ran := unordered_ok (pops := pops) (run_invalid t) clear
    rw [raised_invalid] at ran
    rw [result]
    exact ran

theorem compareEnds_ordered (quiet : Bool) {a b : FVal} (good : (isBad a.x || isBad b.x) = false)
    (left : extCls a.x ≠ .qnan) (right : extCls b.x ≠ .qnan) :
    compareEnds quiet pops (some a) (some b) t =
      .ok () { t with fpu := compared t.fpu quiet false a.x b.x (a.den || b.den) pops } := by
  have same := c1Clear_self clear
  unfold c1Clear at same
  have found : badOperands a.x b.x = none := by
    rcases badOperands_cases a.x b.x with ⟨bad, -⟩ | ⟨-, nan, -⟩ | ⟨-, -, -, found⟩
    · exact absurd (good.symm.trans bad) Bool.false_ne_true
    · exact absurd nan (by simp [left, right])
    · exact found
  have unfoldBad : isBad a.x = false ∧ isBad b.x = false := by simpa using good
  unfold isBad at unfoldBad
  have codes : ∀ c3 c2 c0 : Bool, setCodes c3 c2 c0 { t with fpu := raised t.fpu false (a.den || b.den) } =
      .ok () { t with fpu := coded (raised t.fpu false (a.den || b.den)) c0 false c2 c3 } := fun c3 c2 c0 => by
    unfold coded
    rw [← clear]
    rfl
  unfold compareEnds compared
  simp only [found, same, unfoldBad.1, unfoldBad.2, decide_eq_false left, decide_eq_false right]
  refine (bind_of_ok (run_denormalIf _ t) _).trans ?_
  cases extCmp a.x b.x with
  | lt => exact (bind_of_ok (codes false false true) _).trans ((popTimes_ok pops _).trans (by simp))
  | eq => exact (bind_of_ok (codes true false false) _).trans ((popTimes_ok pops _).trans (by simp))
  | gt => exact (bind_of_ok (codes false false false) _).trans ((popTimes_ok pops _).trans (by simp))

theorem compareEnds_some (quiet : Bool) (a b : FVal) : compareEnds quiet pops (some a) (some b) t =
    .ok () { t with fpu := compared t.fpu quiet false a.x b.x (a.den || b.den) pops } := by
  rcases badOperands_cases a.x b.x with ⟨bad, -⟩ | ⟨good, nan, -⟩ | ⟨good, left, right, -⟩
  · exact compareEnds_bad clear quiet bad _
  · exact compareEnds_quietNan clear quiet good nan _
  · exact compareEnds_ordered clear quiet good left right

end

/-- A comparison of ST(0) with an operand, of which `empty` says that it is missing. -/
theorem compareWith_ok (quiet : Bool) (pops : Nat) (empty : Bool) (b : FVal) (t : State) :
    compareWith quiet (if empty then none else some b) pops t = .ok () { t with
      fpu := compared t.fpu quiet (t.fpu.empty 0 || empty) (t.fpu.st 0) b.x
        (decide (extCls (t.fpu.st 0) = .denormal) || b.den) pops } := by
  let u : State := { t with fpu := c1Clear t.fpu }
  have start : compareWith quiet (if empty then none else some b) pops t = compareEnds quiet pops
      (if t.fpu.empty 0 then none else some (FVal.ofExt (t.fpu.st 0))) (if empty then none else some b) u := by
    rw [compareWith_eq]
    exact (bind_of_ok (run_setC1 false t) _).trans (bind_of_ok (run_stOperand 0 u) _)
  have same : ∀ e x y den, compared u.fpu quiet e x y den pops = compared t.fpu quiet e x y den pops := fun _ _ _ _ => rfl
  rw [start, ← same]
  by_cases first : t.fpu.empty 0 = true
  · rw [if_pos first, first, Bool.true_or]
    exact compareEnds_empty (t := u) quiet (.inl rfl) _ _ _
  · rw [if_neg first, Bool.eq_false_iff.mpr first, Bool.false_or]
    cases empty with
    | true => exact compareEnds_empty (t := u) quiet (.inr rfl) _ _ _
    | false => exact compareEnds_some (t := u) rfl quiet (FVal.ofExt (t.fpu.st 0)) b

/-! ### The instructions -/

theorem exec_compareStForm {s : State} {i : Instr} {quiet : Bool} {j : BitVec 3} {pops : Nat}
    (form : CompareStForm i quiet j pops) : exec i s = runInstr (compareSt quiet j pops) s := by
  cases form <;> rfl

theorem exec_compareMemForm {s : State} {i : Instr} {fmt : LoadFmt} {m : MemOp} {pops : Nat}
    (form : CompareMemForm i fmt m pops) : exec i s = runInstr (numericMem m (do
      let v ← readMem m fmt.bytes
      compareWith false (some (memOperand fmt v)) pops)) s := by
  cases form <;> exact runInstr_congr (congrFun (congrArg (numericMem m) (bind_assoc _ _ _)) _)

theorem compareOperand_loads {i : Instr} {fmt : LoadFmt} {m : MemOp} {pops : Nat} (form : CompareMemForm i fmt m pops)
    (v : Nat) : fmt.Loads v (memOperand fmt v).x ∧ (memOperand fmt v).den = fmt.denormal v := by
  cases form <;> exact ⟨rfl, rfl⟩

/-- Settles O58: the comparisons, FTST and FXAM, and the order they tell. -/
theorem fpuCompare : Obligations.FpuCompare := by
  refine ⟨fun s i quiet j pops form ready => ?_, fun s i fmt m pops v s1 form ready read => ?_, fun s ready => ?_,
    fun s ready => ?_, fun a b => ⟨fun ha hb => ?_, fun ha hb => ⟨?_, ?_⟩, fun ha hb => ?_⟩⟩
  · refine ⟨_, _, (exec_compareStForm form).trans (runInstr_of_ok ((run_numeric (s := past s) ready _).trans
      ((bind_of_ok (run_stOperand j _) _).trans (compareWith_ok quiet pops _ _ _))))⟩
  · obtain ⟨loads, denormal⟩ := compareOperand_loads form v
    have same : s1.fpu = _ := ((Confined.readMem m _).ok read).fpu
    have empty : s1.fpu.empty 0 = s.fpu.empty 0 := by
      rw [same]
      rfl
    have top : s1.fpu.st 0 = s.fpu.st 0 := by
      rw [same]
      rfl
    have ran := compareWith_ok false pops false (memOperand fmt v) s1
    rw [empty, top, denormal, Bool.or_false] at ran
    exact ⟨_, loads, (exec_compareMemForm form).trans (runInstr_of_ok ((run_numericMem (s := past s) ready m _).trans
      ((bind_of_ok read _).trans ran)))⟩
  · have ran := fun t => compareWith_ok false 0 false { x := extZero false, den := false } t
    simp only [Bool.or_false] at ran
    exact ⟨_, _, runInstr_of_ok (body := testZero) ((run_numeric (s := past s) ready _).trans (ran _))⟩
  · refine ⟨_, _, (classCodes (s.fpu.empty 0) (s.fpu.st 0)).1, (classCodes (s.fpu.empty 0) (s.fpu.st 0)).2.1,
      (classCodes (s.fpu.empty 0) (s.fpu.st 0)).2.2, runInstr_of_ok (body := examine)
        ((run_numeric (s := past s) ready _).trans rfl), fun empty => ?_, fun present => ?_⟩
    · rw [empty]
      rfl
    · rw [present]
      unfold classCodes
      cases extCls (s.fpu.st 0) <;> rfl
  · rw [extCmp_finite ha hb]
    exact cmp_value _ _
  · exact extCmp_infinity_left ha hb
  · exact extCmp_infinity_right hb ha
  · unfold extCmp
    rw [ha, hb]

end Sys2Proof.Machine
end

section
/-!
PROOFS. The fields of register values, and what an encoded number stands for (for O53, O55 to O57, O59).
-/

namespace Sys2Proof.Machine

open Claims

/-! ### Fields -/

theorem extSig_eq (x : Ext) : extSig x = x.toNat % 2 ^ 64 := by
  simp [extSig]

theorem extExp_eq (x : Ext) : extExp x = x.toNat / 2 ^ 64 % 2 ^ 15 := by
  simp [extExp, Nat.shiftRight_eq_div_pow]

theorem extNeg_eq (x : Ext) : extNeg x = decide (2 ^ 79 ≤ x.toNat) := by
  have small := x.isLt
  rw [extNeg, BitVec.getLsbD, Nat.testBit_eq_decide_div_mod_eq]
  refine decide_eq_decide.mpr ⟨fun h => ?_, fun h => ?_⟩
  · omega
  · omega

theorem extSig_lt (x : Ext) : extSig x < 2 ^ 64 := (x.extractLsb' 0 64).isLt

theorem extExp_lt (x : Ext) : extExp x < 2 ^ 15 := (x.extractLsb' 64 15).isLt

theorem getLsbD_63 (x : Ext) : x.getLsbD 63 = decide (2 ^ 63 ≤ extSig x) := by
  rw [BitVec.getLsbD, Nat.testBit_eq_decide_div_mod_eq, extSig_eq]
  refine decide_eq_decide.mpr ⟨fun h => ?_, fun h => ?_⟩
  · omega
  · omega

theorem getLsbD_62 (x : Ext) : x.getLsbD 62 = decide (extSig x / 2 ^ 62 % 2 = 1) := by
  rw [BitVec.getLsbD, Nat.testBit_eq_decide_div_mod_eq, extSig_eq]
  refine decide_eq_decide.mpr ⟨fun h => ?_, fun h => ?_⟩
  · omega
  · omega

section

variable {neg : Bool} {e sig : Nat} (he : e < 2 ^ 15) (hs : sig < 2 ^ 64)

include he hs

theorem mkExt_toNat : (mkExt neg e sig).toNat = neg.toNat * 2 ^ 79 + e * 2 ^ 64 + sig := by
  unfold mkExt
  rw [BitVec.toNat_ofNat]
  refine Nat.mod_eq_of_lt ?_
  cases neg with
  | true =>
    rw [Bool.toNat_true]
    omega
  | false =>
    rw [Bool.toNat_false]
    omega

theorem extNeg_mkExt : extNeg (mkExt neg e sig) = neg := by
  rw [extNeg_eq, mkExt_toNat he hs]
  cases neg with
  | true =>
    rw [Bool.toNat_true]
    exact decide_eq_true (by omega)
  | false =>
    rw [Bool.toNat_false]
    exact decide_eq_false (by omega)

theorem extExp_mkExt : extExp (mkExt neg e sig) = e := by
  rw [extExp_eq, mkExt_toNat he hs]
  cases neg with
  | true =>
    rw [Bool.toNat_true]
    omega
  | false =>
    rw [Bool.toNat_false]
    omega

theorem extSig_mkExt : extSig (mkExt neg e sig) = sig := by
  rw [extSig_eq, mkExt_toNat he hs]
  cases neg with
  | true =>
    rw [Bool.toNat_true]
    omega
  | false =>
    rw [Bool.toNat_false]
    omega

theorem numOf_mkExt : numOf (mkExt neg e sig) = { neg := neg, mant := sig, exp := (max e 1 : Nat) - 16446 } := by
  unfold numOf
  rw [extNeg_mkExt he hs, extExp_mkExt he hs, extSig_mkExt he hs]

end

/-! ### Classes -/

/-- The class by the fields. -/
theorem extCls_eq (x : Ext) : extCls x =
    if extExp x = 0 then (if extSig x = 0 then .zero else .denormal)
    else if extSig x < 2 ^ 63 then .unsupported
    else if extExp x = 0x7FFF then
      (if extSig x = 2 ^ 63 then .infinity else if 2 ^ 63 + 2 ^ 62 ≤ extSig x then .qnan else .snan)
    else .normal := by
  have small := extSig_lt x
  unfold extCls
  rw [getLsbD_63, getLsbD_62]
  by_cases high : 2 ^ 63 ≤ extSig x
  · have second : (extSig x / 2 ^ 62 % 2 = 1) = (2 ^ 63 + 2 ^ 62 ≤ extSig x) := propext ⟨fun h => by omega, fun h => by omega⟩
    rw [decide_eq_true high, if_neg (show ¬extSig x < 2 ^ 63 by omega)]
    simp only [Bool.not_true, Bool.false_eq_true, if_false, decide_eq_true_eq, second]
  · rw [decide_eq_false high, if_pos (show extSig x < 2 ^ 63 by omega)]
    rfl

theorem extCls_zero_iff (x : Ext) : extCls x = .zero ↔ extExp x = 0 ∧ extSig x = 0 := by
  rw [extCls_eq]
  split_ifs <;> simp only [true_iff, false_iff] <;> omega

theorem extCls_denormal_iff (x : Ext) : extCls x = .denormal ↔ extExp x = 0 ∧ extSig x ≠ 0 := by
  rw [extCls_eq]
  split_ifs <;> simp only [true_iff, false_iff] <;> omega

theorem extCls_normal_iff (x : Ext) : extCls x = .normal ↔ extExp x ≠ 0 ∧ extExp x ≠ 0x7FFF ∧ 2 ^ 63 ≤ extSig x := by
  rw [extCls_eq]
  split_ifs <;> simp only [true_iff, false_iff] <;> omega

theorem extCls_infinity_iff (x : Ext) : extCls x = .infinity ↔ extExp x = 0x7FFF ∧ extSig x = 2 ^ 63 := by
  rw [extCls_eq]
  split_ifs <;> simp only [true_iff, false_iff] <;> omega

theorem extCls_qnan_iff (x : Ext) : extCls x = .qnan ↔ extExp x = 0x7FFF ∧ 2 ^ 63 + 2 ^ 62 ≤ extSig x := by
  rw [extCls_eq]
  split_ifs <;> simp only [true_iff, false_iff] <;> omega

theorem extCls_snan_iff (x : Ext) :
    extCls x = .snan ↔ extExp x = 0x7FFF ∧ 2 ^ 63 < extSig x ∧ extSig x < 2 ^ 63 + 2 ^ 62 := by
  rw [extCls_eq]
  split_ifs <;> simp only [true_iff, false_iff] <;> omega

theorem isNan_eq (x : Ext) : isNan x = true ↔ extExp x = 0x7FFF ∧ 2 ^ 63 < extSig x := by
  rw [isNan_iff, extCls_qnan_iff, extCls_snan_iff]
  omega

/-! ### Encoding a number -/

section

variable {mant : Nat} (positive : mant ≠ 0)

include positive

/-- A significand of 64 bits has its leading bit at the top. -/
theorem normalised_range {p : Nat} (bits : 0 < p) : 2 ^ (p - 1) ≤ normalised p mant ∧ normalised p mant < 2 ^ p := by
  have low := Nat.log2_self_le positive
  have high := Nat.lt_log2_self (n := mant)
  unfold normalised
  split_ifs with short
  · have power : 2 ^ (p - 1) = 2 ^ mant.log2 * 2 ^ (p - 1 - mant.log2) := by
      rw [← Nat.pow_add]
      congr 1
      omega
    have whole : 2 ^ p = 2 ^ (mant.log2 + 1) * 2 ^ (p - 1 - mant.log2) := by
      rw [← Nat.pow_add]
      congr 1
      omega
    have pos : 0 < 2 ^ (p - 1 - mant.log2) := Nat.two_pow_pos _
    rw [power, whole]
    exact ⟨Nat.mul_le_mul_right _ low, Nat.mul_lt_mul_of_pos_right high pos⟩
  · have power : 2 ^ mant.log2 = 2 ^ (p - 1) * 2 ^ (mant.log2 + 1 - p) := by
      rw [← Nat.pow_add]
      congr 1
      omega
    have whole : 2 ^ (mant.log2 + 1) = 2 ^ p * 2 ^ (mant.log2 + 1 - p) := by
      rw [← Nat.pow_add]
      congr 1
      omega
    have pos : 0 < 2 ^ (mant.log2 + 1 - p) := Nat.two_pow_pos _
    rw [Nat.le_div_iff_mul_le pos, Nat.div_lt_iff_lt_mul pos, ← power, ← whole]
    exact ⟨low, high⟩

/-- The normalised significand stands for the same value, its last bits lost being zero. -/
theorem normalised_value {p : Nat} (bits : 0 < p) (kept : 2 ^ (mant.log2 + 1 - p) ∣ mant) (e : ℤ) :
    (normalised p mant : ℚ) * 2 ^ (topExp mant e - (p - 1 : Nat)) = mant * 2 ^ e := by
  unfold normalised topExp
  split_ifs with short
  · have split : (e + mant.log2 - (p - 1 : Nat) : ℤ) = e - (p - 1 - mant.log2 : Nat) := by omega
    rw [split, zpow_sub₀ (by norm_num), zpow_natCast]
    push_cast
    field_simp
  · have split : (e + mant.log2 - (p - 1 : Nat) : ℤ) = e + (mant.log2 + 1 - p : Nat) := by omega
    obtain ⟨k, whole⟩ := kept
    have pos : 0 < 2 ^ (mant.log2 + 1 - p) := Nat.two_pow_pos _
    have quotient : mant / 2 ^ (mant.log2 + 1 - p) = k := Nat.div_eq_of_eq_mul_right pos whole
    have exactly : (mant : ℚ) = 2 ^ (mant.log2 + 1 - p) * k := by
      exact_mod_cast whole
    rw [split, zpow_add₀ (by norm_num), zpow_natCast, quotient]
    conv_rhs => rw [exactly]
    ring

end

/-- A number that the register format holds as a normal value. -/
theorem encodeExt_normal {neg : Bool} {mant : Nat} {e : ℤ} (positive : mant ≠ 0) (low : -16382 ≤ topExp mant e)
    (high : topExp mant e ≤ 16383) (kept : 2 ^ (mant.log2 + 1 - 64) ∣ mant) :
    extCls (encodeExt neg mant e) = .normal ∧ extNeg (encodeExt neg mant e) = neg ∧
      value (numOf (encodeExt neg mant e)) = value ({ neg := neg, mant := mant, exp := e } : Machine.Num) := by
  obtain ⟨sigLow, sigHigh⟩ := normalised_range positive (p := 64) (by decide)
  have exponent : (topExp mant e + 16383).toNat < 2 ^ 15 := by omega
  have same := normalised_value positive (p := 64) (by decide) kept e
  have code : encodeExt neg mant e = mkExt neg (topExp mant e + 16383).toNat (normalised 64 mant) := by
    unfold encodeExt
    rw [if_neg positive, if_neg (by omega)]
  rw [code]
  refine ⟨?_, extNeg_mkExt exponent sigHigh, ?_⟩
  · rw [extCls_normal_iff, extExp_mkExt exponent sigHigh, extSig_mkExt exponent sigHigh]
    refine ⟨by omega, by omega, sigLow⟩
  · rw [numOf_mkExt exponent sigHigh, value_eq, value_eq, mul_assoc, mul_assoc, ← same]
    congr 3
    push_cast
    omega

/-- A number below the normal values. -/
theorem encodeExt_denormal {neg : Bool} {mant : Nat} {e : ℤ} (positive : mant ≠ 0) (low : topExp mant e < -16382)
    (multiple : -16445 ≤ e) :
    extCls (encodeExt neg mant e) = .denormal ∧ extNeg (encodeExt neg mant e) = neg ∧
      value (numOf (encodeExt neg mant e)) = value ({ neg := neg, mant := mant, exp := e } : Machine.Num) := by
  have bound : mant * 2 ^ (e + 16445).toNat < 2 ^ 63 := by
    have high := Nat.lt_log2_self (n := mant)
    have power : 2 ^ (mant.log2 + 1) * 2 ^ (e + 16445).toNat ≤ 2 ^ 63 := by
      rw [← Nat.pow_add]
      unfold topExp at low
      exact Nat.pow_le_pow_right (by decide) (by omega)
    exact lt_of_lt_of_le (Nat.mul_lt_mul_of_pos_right high (Nat.two_pow_pos _)) power
  have sigHigh : mant * 2 ^ (e + 16445).toNat < 2 ^ 64 := by omega
  have code : encodeExt neg mant e = mkExt neg 0 (mant * 2 ^ (e + 16445).toNat) := by
    unfold encodeExt
    rw [if_neg positive, if_pos low]
  rw [code]
  refine ⟨?_, extNeg_mkExt (by decide) sigHigh, ?_⟩
  · rw [extCls_denormal_iff, extExp_mkExt (by decide) sigHigh, extSig_mkExt (by decide) sigHigh]
    exact ⟨rfl, Nat.mul_ne_zero positive (Nat.two_pow_pos _).ne'⟩
  · rw [numOf_mkExt (by decide) sigHigh, value_eq, value_eq]
    have split := two_zpow_split (e := -16445) (f := e) multiple
    rw [show e - -16445 = e + 16445 by ring] at split
    rw [split, show ((max 0 1 : Nat) : ℤ) - 16446 = -16445 by norm_num, Nat.cast_mul, Nat.cast_pow, Nat.cast_ofNat]
    generalize (2 : ℚ) ^ (-16445 : ℤ) = unit
    ring

theorem extZero_value (neg : Bool) : value (numOf (extZero neg)) = 0 := by
  unfold extZero
  rw [value_eq_zero_iff, numOf_mkExt (by decide) (by decide)]

theorem encodeExt_zero (neg : Bool) (e : ℤ) : encodeExt neg 0 e = extZero neg := if_pos rfl

end Sys2Proof.Machine
end

section
/-!
PROOFS. Rounding to a multiple of 2^q, and the exact conversions (O56).
-/

namespace Sys2Proof.Machine

open Claims

/-! ### Rounding -/

/-- A rounded magnitude as a number of the sign. -/
def Rounded.num (r : Rounded) (neg : Bool) : Machine.Num := { neg := neg, mant := r.mant, exp := r.exp }

theorem roundAt_exact {rc : Rc} {n : Machine.Num} {q : ℤ} (h : q ≤ n.exp) :
    roundAt rc n q = { mant := n.mant, exp := n.exp, inexact := false, up := false } := if_pos h

/-- The number and its rounding in units of 2^q: the magnitude is `Q + ρ`, the result `Q` or the next. -/
theorem roundAt_units {rc : Rc} {n : Machine.Num} {q : ℤ} (h : n.exp < q) : ∃ (Q R D : ℕ) (up : Bool),
    R < D ∧ up = roundsUp rc n.neg Q R (q - n.exp).toNat ∧ D = 2 ^ (q - n.exp).toNat ∧
    (n.mant : ℚ) * 2 ^ n.exp = (Q + (R : ℚ) / D) * 2 ^ q ∧
    roundAt rc n q = { mant := Q + up.toNat, exp := q, inexact := decide (R ≠ 0), up := up } := by
  have pos : 0 < 2 ^ (q - n.exp).toNat := Nat.two_pow_pos _
  refine ⟨n.mant / 2 ^ (q - n.exp).toNat, n.mant % 2 ^ (q - n.exp).toNat, 2 ^ (q - n.exp).toNat, _, Nat.mod_lt _ pos, rfl, rfl,
    ?_, if_neg (not_le.mpr h)⟩
  have whole : (n.mant : ℚ) = (n.mant / 2 ^ (q - n.exp).toNat : ℕ) * (2 ^ (q - n.exp).toNat : ℕ) +
      (n.mant % 2 ^ (q - n.exp).toNat : ℕ) := by
    exact_mod_cast (Nat.div_add_mod' _ _).symm
  have ne : ((2 ^ (q - n.exp).toNat : ℕ) : ℚ) ≠ 0 := by exact_mod_cast pos.ne'
  rw [two_zpow_split h.le]
  conv_lhs => rw [whole]
  have power : ((2 ^ (q - n.exp).toNat : ℕ) : ℚ) = 2 ^ (q - n.exp).toNat := by push_cast; rfl
  rw [← power]
  field_simp

/-- The fraction below the unit that is rounded away. -/
theorem fraction_range {R D : ℕ} (h : R < D) : (0 : ℚ) ≤ R / D ∧ (R : ℚ) / D < 1 := by
  have pos : (0 : ℚ) < D := by exact_mod_cast (Nat.zero_le R).trans_lt h
  refine ⟨div_nonneg (by positivity) pos.le, ?_⟩
  rw [div_lt_one pos]
  exact_mod_cast h

theorem fraction_zero {R D : ℕ} (h : R < D) : (R : ℚ) / D = 0 ↔ R = 0 := by
  have pos : (D : ℚ) ≠ 0 := by
    have : D ≠ 0 := by omega
    exact_mod_cast this
  rw [div_eq_zero_iff]
  simp [pos]

theorem fraction_half {R D : ℕ} (h : R < D) : ((R : ℚ) / D = 1 / 2 ↔ D = 2 * R) ∧ ((R : ℚ) / D < 1 / 2 ↔ 2 * R < D) := by
  have pos : (0 : ℚ) < D := by exact_mod_cast (Nat.zero_le R).trans_lt h
  refine ⟨?_, ?_⟩
  · rw [div_eq_div_iff pos.ne' (by norm_num)]
    refine ⟨fun same => ?_, fun same => ?_⟩
    · have whole : R * 2 = 1 * D := by exact_mod_cast same
      omega
    · have whole : R * 2 = 1 * D := by omega
      exact_mod_cast whole
  · rw [div_lt_div_iff₀ pos (by norm_num)]
    refine ⟨fun less => ?_, fun less => ?_⟩
    · have whole : R * 2 < 1 * D := by exact_mod_cast less
      omega
    · have whole : R * 2 < 1 * D := by omega
      exact_mod_cast whole

theorem roundsUp_exact (rc : Rc) (neg : Bool) (Q k : ℕ) : roundsUp rc neg Q 0 k = false := rfl

/-- To nearest: up beyond the half, and at the half from an odd multiple. -/
theorem roundsUp_nearest {neg : Bool} {Q R k : ℕ} : roundsUp .nearest neg Q R k = true ↔
    R ≠ 0 ∧ (2 ^ k < 2 * R ∨ (2 ^ k = 2 * R ∧ Q % 2 = 1)) := by
  unfold roundsUp
  simp

theorem roundsUp_directed {rc : Rc} {neg : Bool} {Q R k : ℕ} :
    (rc = .down → (roundsUp rc neg Q R k = true ↔ R ≠ 0 ∧ neg = true)) ∧
    (rc = .up → (roundsUp rc neg Q R k = true ↔ R ≠ 0 ∧ neg = false)) ∧ (rc = .zero → roundsUp rc neg Q R k = false) := by
  refine ⟨?_, ?_, ?_⟩ <;> rintro rfl <;> simp [roundsUp]

/-- What rounding says of two magnitudes in units: the number's `Q + ρ`, and the result's `Q` or `Q + 1`. -/
structure RoundsTo (rc : Rc) (neg : Bool) (Q : ℕ) (ρ : ℚ) (rises : Bool) : Prop where
  range : 0 ≤ ρ ∧ ρ < 1
  inexact : rises = true → ρ ≠ 0
  nearest : rc = .nearest → |ρ - rises.toNat| ≤ 1 / 2 ∧ (|ρ - rises.toNat| = 1 / 2 → (Q + rises.toNat) % 2 = 0)
  down : rc = .down → (neg = true → ρ ≠ 0 → rises = true) ∧ (neg = false → rises = false)
  upward : rc = .up → (neg = false → ρ ≠ 0 → rises = true) ∧ (neg = true → rises = false)
  zero : rc = .zero → rises = false

theorem roundsTo_of {rc : Rc} {neg : Bool} {Q R D k : ℕ} (small : R < D) (unit : D = 2 ^ k) :
    RoundsTo rc neg Q ((R : ℚ) / D) (roundsUp rc neg Q R k) := by
  have range := fraction_range small
  have zero := fraction_zero small
  obtain ⟨half, below⟩ := fraction_half small
  obtain ⟨down, up, toZero⟩ := roundsUp_directed (rc := rc) (neg := neg) (Q := Q) (R := R) (k := k)
  refine ⟨range, fun rises same => ?_, fun mode => ?_, fun mode => ⟨fun minus part => ?_, fun plus => ?_⟩,
    fun mode => ⟨fun plus part => ?_, fun minus => ?_⟩, toZero⟩
  · rw [zero.mp same, roundsUp_exact] at rises
    exact Bool.false_ne_true rises
  · subst mode
    by_cases rises : roundsUp .nearest neg Q R k = true
    · have more := roundsUp_nearest.mp rises
      rw [← unit] at more
      have above : 1 / 2 ≤ (R : ℚ) / D := by
        rw [← not_lt, below]
        omega
      rw [rises, Bool.toNat_true, abs_of_nonpos (by push_cast; linarith [range.2])]
      refine ⟨by push_cast; linarith, fun tie => ?_⟩
      have middle : (R : ℚ) / D = 1 / 2 := by
        push_cast at tie
        linarith
      have odd := half.mp middle
      omega
    · have fewer := fun h => rises (roundsUp_nearest.mpr h)
      rw [← unit] at fewer
      have atMost : (R : ℚ) / D ≤ 1 / 2 := by
        rcases Nat.lt_or_ge (2 * R) D with less | more
        · exact (below.mpr less).le
        · refine (half.mpr ?_).le
          by_contra other
          exact fewer ⟨by omega, .inl (by omega)⟩
      rw [Bool.eq_false_iff.mpr rises, Bool.toNat_false, Nat.cast_zero, sub_zero, abs_of_nonneg range.1]
      refine ⟨atMost, fun tie => ?_⟩
      have middle := half.mp tie
      by_contra odd
      exact fewer ⟨by omega, .inr ⟨middle, by omega⟩⟩
  · exact (down mode).mpr ⟨fun none => part (zero.mpr none), minus⟩
  · refine Bool.eq_false_iff.mpr fun rises => ?_
    have minus := ((down mode).mp rises).2
    rw [plus] at minus
    exact Bool.false_ne_true minus
  · exact (up mode).mpr ⟨fun none => part (zero.mpr none), plus⟩
  · refine Bool.eq_false_iff.mpr fun rises => ?_
    have plus := ((up mode).mp rises).2
    rw [minus] at plus
    exact Bool.false_ne_true plus.symm

/-- The conclusions about the number `x` and its rounding `y`, both of one sign, in units `u`. -/
def Rounding (rc : Rc) (x y u : ℚ) (inexact up : Bool) : Prop :=
  (∃ z : ℤ, y = z * u) ∧ (inexact = false ↔ x = y) ∧ (up = true ↔ |x| < |y|) ∧
    (rc = .nearest → |x - y| ≤ u / 2 ∧ (|x - y| = u / 2 → ∃ z : ℤ, y = 2 * z * u)) ∧
    (rc = .down → y ≤ x ∧ x < y + u) ∧ (rc = .up → x ≤ y ∧ y < x + u) ∧ (rc = .zero → |y| ≤ |x| ∧ |x| < |y| + u)

theorem signOf_int (neg : Bool) : ∃ z : ℤ, signOf neg = z := by
  cases neg with
  | true => exact ⟨-1, by simp [signOf]⟩
  | false => exact ⟨1, by simp [signOf]⟩

theorem abs_signed (neg : Bool) {v u : ℚ} (hv : 0 ≤ v) (hu : 0 < u) : |signOf neg * v * u| = v * u := by
  rw [abs_mul, abs_mul, signOf_abs, one_mul, abs_of_nonneg hv, abs_of_pos hu]

theorem rounding_of_units {rc : Rc} {neg : Bool} {Q : ℕ} {ρ u : ℚ} {up inexact : Bool} (h : RoundsTo rc neg Q ρ up)
    (exactly : inexact = false ↔ ρ = 0) (unit : 0 < u) :
    Rounding rc (signOf neg * (Q + ρ) * u) (signOf neg * ((Q + up.toNat : ℕ) : ℚ) * u) u inexact up := by
  obtain ⟨⟨low, high⟩, rises, near, down, upward, toZero⟩ := h
  have sign := signOf_ne_zero neg
  have hQ : (0 : ℚ) ≤ Q := Nat.cast_nonneg Q
  have absX : |signOf neg * (Q + ρ) * u| = (Q + ρ) * u := abs_signed neg (by linarith) unit
  have absY : |signOf neg * ((Q + up.toNat : ℕ) : ℚ) * u| = (Q + up.toNat : ℕ) * u := abs_signed neg (Nat.cast_nonneg _) unit
  have diff : signOf neg * (Q + ρ) * u - signOf neg * ((Q + up.toNat : ℕ) : ℚ) * u = signOf neg * (ρ - up.toNat) * u := by
    push_cast
    ring
  have absD : |signOf neg * (Q + ρ) * u - signOf neg * ((Q + up.toNat : ℕ) : ℚ) * u| = |ρ - up.toNat| * u := by
    rw [diff, abs_mul, abs_mul, signOf_abs, one_mul, abs_of_pos unit]
  have upFalse : ρ = 0 → up = false := fun none => Bool.eq_false_iff.mpr fun rising => rises rising none
  refine ⟨?_, ?_, ?_, fun mode => ?_, fun mode => ?_, fun mode => ?_, fun mode => ?_⟩
  · obtain ⟨z, hz⟩ := signOf_int neg
    exact ⟨z * (Q + up.toNat : ℕ), by rw [hz]; push_cast; ring⟩
  · rw [exactly, ← sub_eq_zero (a := signOf neg * (Q + ρ) * u), diff, mul_eq_zero, mul_eq_zero]
    simp only [sign, unit.ne', false_or, or_false]
    refine ⟨fun none => ?_, fun same => ?_⟩
    · rw [none, upFalse none]
      simp
    · cases up with
      | false => simpa using same
      | true =>
        rw [Bool.toNat_true] at same
        push_cast at same
        linarith
  · rw [absX, absY, mul_lt_mul_iff_left₀ unit]
    cases up with
    | false =>
      rw [Bool.toNat_false, Nat.add_zero]
      exact iff_of_false Bool.false_ne_true (not_lt.mpr (by linarith))
    | true =>
      rw [Bool.toNat_true]
      push_cast
      exact iff_of_true rfl (by linarith)
  · obtain ⟨close, tie⟩ := near mode
    rw [absD]
    refine ⟨by nlinarith, fun half => ?_⟩
    have middle : |ρ - up.toNat| = 1 / 2 := by
      have same : |ρ - up.toNat| * u = 1 / 2 * u := by linarith
      exact mul_right_cancel₀ unit.ne' same
    obtain ⟨k, even⟩ := Nat.dvd_of_mod_eq_zero (tie middle)
    obtain ⟨z, hz⟩ := signOf_int neg
    exact ⟨z * k, by rw [hz, even]; push_cast; ring⟩
  · obtain ⟨minus, plus⟩ := down mode
    cases neg with
    | true =>
      have s : signOf true = -1 := rfl
      rw [s]
      by_cases none : ρ = 0
      · rw [none, upFalse none]
        constructor <;> push_cast [Bool.toNat_false] <;> nlinarith
      · rw [minus rfl none]
        have strict : 0 < ρ := lt_of_le_of_ne low (Ne.symm none)
        constructor <;> push_cast [Bool.toNat_true] <;> nlinarith
    | false =>
      have s : signOf false = 1 := rfl
      rw [s, plus rfl]
      constructor <;> push_cast [Bool.toNat_false] <;> nlinarith
  · obtain ⟨plus, minus⟩ := upward mode
    cases neg with
    | true =>
      have s : signOf true = -1 := rfl
      rw [s, minus rfl]
      constructor <;> push_cast [Bool.toNat_false] <;> nlinarith
    | false =>
      have s : signOf false = 1 := rfl
      rw [s]
      by_cases none : ρ = 0
      · rw [none, upFalse none]
        constructor <;> push_cast [Bool.toNat_false] <;> nlinarith
      · rw [plus rfl none]
        have strict : 0 < ρ := lt_of_le_of_ne low (Ne.symm none)
        constructor <;> push_cast [Bool.toNat_true] <;> nlinarith
  · rw [absX, absY, toZero mode]
    constructor <;> push_cast [Bool.toNat_false] <;> nlinarith

theorem rounding_self (rc : Rc) {x u : ℚ} (unit : 0 < u) (multiple : ∃ z : ℤ, x = z * u) : Rounding rc x x u false false := by
  refine ⟨multiple, by simp, by simp, fun _ => ?_, fun _ => ⟨le_refl x, by linarith⟩, fun _ => ⟨le_refl x, by linarith⟩,
    fun _ => ⟨le_refl _, by linarith⟩⟩
  rw [sub_self, abs_zero]
  exact ⟨by linarith, fun half => by linarith⟩

/-- Rounding keeps the sign and rounds the magnitude. -/
theorem roundAt_rounding (rc : Rc) (n : Machine.Num) (q : ℤ) :
    Rounding rc (value n) (value ((roundAt rc n q).num n.neg)) ((2 : ℚ) ^ q) (roundAt rc n q).inexact (roundAt rc n q).up := by
  have unit := two_zpow_pos q
  by_cases coarse : q ≤ n.exp
  · rw [roundAt_exact coarse]
    exact rounding_self rc unit ⟨_, value_scaledTo coarse⟩
  · obtain ⟨Q, R, D, up, small, rises, power, magnitude, result⟩ := roundAt_units (rc := rc) (not_le.mp coarse)
    have rounds := roundsTo_of (rc := rc) (neg := n.neg) (Q := Q) small power
    rw [← rises] at rounds
    have x : value n = signOf n.neg * (Q + (R : ℚ) / D) * 2 ^ q := by
      rw [value_eq, mul_assoc, magnitude, mul_assoc]
    have y : value (Rounded.num { mant := Q + up.toNat, exp := q, inexact := decide (R ≠ 0), up := up } n.neg) =
        signOf n.neg * ((Q + up.toNat : ℕ) : ℚ) * 2 ^ q := value_eq _
    rw [result, x, y]
    refine rounding_of_units rounds ?_ unit
    rw [fraction_zero small, decide_eq_false_iff_not, not_not]

end Sys2Proof.Machine
end

section
/-!
PROOFS. The memory formats and integers are converted exactly; the theorem of O56.
-/

namespace Sys2Proof.Machine

open Claims

/-! ### Exact encoding -/

theorem two_pow_dvd_of_lt {mant p : ℕ} (h : mant < 2 ^ p) : 2 ^ (mant.log2 + 1 - p) ∣ mant := by
  rcases Nat.eq_zero_or_pos mant with rfl | positive
  · exact Nat.dvd_zero _
  · have short : mant.log2 < p := (Nat.log2_lt positive.ne').mpr h
    rw [Nat.sub_eq_zero_of_le short, Nat.pow_zero]
    exact Nat.one_dvd _

/-- The register format holds a number exactly whose last bit and leading bit lie within it. -/
theorem encodeExt_value {neg : Bool} {mant : ℕ} {e : ℤ} (last : -16445 ≤ e) (high : mant ≠ 0 → topExp mant e ≤ 16383)
    (kept : 2 ^ (mant.log2 + 1 - 64) ∣ mant) :
    value (numOf (encodeExt neg mant e)) = value ({ neg := neg, mant := mant, exp := e } : Machine.Num) := by
  by_cases none : mant = 0
  · rw [none, encodeExt_zero, extZero_value]
    exact ((value_eq_zero_iff _).mpr rfl).symm
  · rcases lt_or_ge (topExp mant e) (-16382) with low | normal
    · exact (encodeExt_denormal none low last).2.2
    · exact (encodeExt_normal none normal (high none) kept).2.2

theorem topExp_le_of_lt {mant p : ℕ} {e : ℤ} (positive : mant ≠ 0) (h : mant < 2 ^ p) : topExp mant e ≤ e + p - 1 := by
  have short : mant.log2 < p := (Nat.log2_lt positive).mpr h
  unfold topExp
  omega

/-- A number of at most 64 bits, well within the exponents. -/
theorem encodeExt_short {neg : Bool} {mant : ℕ} {e : ℤ} (last : -16445 ≤ e) (high : e ≤ 16320) (short : mant < 2 ^ 64) :
    value (numOf (encodeExt neg mant e)) = value ({ neg := neg, mant := mant, exp := e } : Machine.Num) := by
  refine encodeExt_value last (fun positive => ?_) (two_pow_dvd_of_lt short)
  have top := topExp_le_of_lt (e := e) positive short
  omega

/-- Integers (R619). -/
theorem intToExt_value {z : ℤ} (h : z.natAbs < 2 ^ 64) : value (numOf (intToExt z)) = z := by
  unfold intToExt
  rw [encodeExt_short (by norm_num) (by norm_num) h, value_eq]
  have size : (z.natAbs : ℚ) = |(z : ℚ)| := by
    rw [← Int.cast_abs, Nat.cast_natAbs]
  rw [size, zpow_zero, mul_one]
  rcases lt_or_ge z 0 with minus | plus
  · have real : (z : ℚ) < 0 := by exact_mod_cast minus
    rw [decide_eq_true minus, abs_of_neg real]
    simp [signOf]
  · have real : (0 : ℚ) ≤ z := by exact_mod_cast plus
    rw [decide_eq_false (not_lt.mpr plus), abs_of_nonneg real]
    simp [signOf]

/-! ### Single and double precision -/

/-- What single and double precision have in common. -/
structure Fmt.Short (f : Fmt) : Prop where
  prec : 24 ≤ f.prec ∧ f.prec ≤ 53
  emax : 127 ≤ f.emax ∧ f.emax ≤ 1023
  exponents : ((2 ^ (8 * f.bytes - f.prec) : ℕ) : ℤ) = 2 * f.emax + 2
  bytes : f.prec < 8 * f.bytes

theorem fmt_short {f : Fmt} (h : f = fmtSingle ∨ f = fmtDouble) : f.Short := by
  rcases h with rfl | rfl
  · exact ⟨by decide, by decide, by decide, by decide⟩
  · exact ⟨by decide, by decide, by decide, by decide⟩

theorem signOf_top {bits v : ℕ} (h : v < 2 ^ (bits + 1)) :
    decide (v / 2 ^ bits % 2 = 1) = decide (2 ^ bits ≤ v) := by
  have pos : 0 < 2 ^ bits := Nat.two_pow_pos _
  have few : v / 2 ^ bits < 2 := by
    rw [Nat.div_lt_iff_lt_mul pos, ← Nat.pow_succ']
    exact h
  rw [decide_eq_decide, ← Nat.one_le_div_iff pos]
  generalize v / 2 ^ bits = quotient at few ⊢
  omega

section

variable {f : Fmt} (short : f.Short) (v : ℕ)

include short

/-- Zero and the denormals. -/
theorem decode_denormal (none : v / 2 ^ (f.prec - 1) % 2 ^ (8 * f.bytes - f.prec) = 0) :
    value (numOf (f.decode v).x) =
      signOf (decide (v / 2 ^ (8 * f.bytes - 1) % 2 = 1)) * (v % 2 ^ (f.prec - 1) : ℕ) * 2 ^ f.quantum := by
  obtain ⟨⟨low, high⟩, ⟨least, most⟩, _, _⟩ := short
  have small : v % 2 ^ (f.prec - 1) < 2 ^ 64 :=
    (Nat.mod_lt _ (Nat.two_pow_pos _)).trans_le (Nat.pow_le_pow_right (by decide) (by omega))
  unfold Fmt.decode
  simp only [if_pos none]
  rw [encodeExt_short (by unfold Fmt.quantum Fmt.emin; omega) (by unfold Fmt.quantum Fmt.emin; omega) small, value_eq]

theorem decode_normal (some : v / 2 ^ (f.prec - 1) % 2 ^ (8 * f.bytes - f.prec) ≠ 0)
    (notLast : v / 2 ^ (f.prec - 1) % 2 ^ (8 * f.bytes - f.prec) + 1 ≠ 2 ^ (8 * f.bytes - f.prec)) :
    value (numOf (f.decode v).x) = signOf (decide (v / 2 ^ (8 * f.bytes - 1) % 2 = 1)) *
      (2 ^ (f.prec - 1) + (v % 2 ^ (f.prec - 1) : ℕ)) *
      2 ^ ((v / 2 ^ (f.prec - 1) % 2 ^ (8 * f.bytes - f.prec) : ℕ) - 1 + f.quantum) := by
  obtain ⟨⟨low, high⟩, ⟨least, most⟩, exponents, _⟩ := short
  have range : v / 2 ^ (f.prec - 1) % 2 ^ (8 * f.bytes - f.prec) < 2 ^ (8 * f.bytes - f.prec) :=
    Nat.mod_lt _ (Nat.two_pow_pos _)
  have small : 2 ^ (f.prec - 1) + v % 2 ^ (f.prec - 1) < 2 ^ 64 := by
    have part : v % 2 ^ (f.prec - 1) < 2 ^ (f.prec - 1) := Nat.mod_lt _ (Nat.two_pow_pos _)
    have power : 2 ^ (f.prec - 1) ≤ 2 ^ 52 := Nat.pow_le_pow_right (by decide) (by omega)
    omega
  unfold Fmt.decode
  simp only [if_neg some, if_neg notLast]
  generalize v / 2 ^ (f.prec - 1) % 2 ^ (8 * f.bytes - f.prec) = e at *
  generalize 2 ^ (8 * f.bytes - f.prec) = count at *
  rw [encodeExt_short (by omega) (by omega) small, value_eq]
  have exponent : (e : ℤ) - f.emax - f.prec + 1 = e - 1 + f.quantum := by
    unfold Fmt.quantum Fmt.emin
    ring
  rw [exponent]
  push_cast
  rfl

/-- Infinities and NaNs. -/
theorem decode_special (last : v / 2 ^ (f.prec - 1) % 2 ^ (8 * f.bytes - f.prec) + 1 = 2 ^ (8 * f.bytes - f.prec)) :
    (f.decode v).x = mkExt (decide (v / 2 ^ (8 * f.bytes - 1) % 2 = 1)) 0x7FFF
      (2 ^ 63 + v % 2 ^ (f.prec - 1) * 2 ^ (64 - f.prec)) ∧
    v % 2 ^ (f.prec - 1) * 2 ^ (64 - f.prec) < 2 ^ 63 := by
  obtain ⟨⟨low, high⟩, ⟨least, most⟩, exponents, _⟩ := short
  have some : v / 2 ^ (f.prec - 1) % 2 ^ (8 * f.bytes - f.prec) ≠ 0 := by
    generalize v / 2 ^ (f.prec - 1) % 2 ^ (8 * f.bytes - f.prec) = e at *
    generalize 2 ^ (8 * f.bytes - f.prec) = count at *
    omega
  have part : v % 2 ^ (f.prec - 1) < 2 ^ (f.prec - 1) := Nat.mod_lt _ (Nat.two_pow_pos _)
  refine ⟨?_, ?_⟩
  · unfold Fmt.decode
    simp only [if_neg some, if_pos last]
  · calc v % 2 ^ (f.prec - 1) * 2 ^ (64 - f.prec) < 2 ^ (f.prec - 1) * 2 ^ (64 - f.prec) :=
          Nat.mul_lt_mul_of_pos_right part (Nat.two_pow_pos _)
      _ = 2 ^ 63 := by
          rw [← Nat.pow_add]
          congr 1
          omega

theorem decode_special_class (last : v / 2 ^ (f.prec - 1) % 2 ^ (8 * f.bytes - f.prec) + 1 = 2 ^ (8 * f.bytes - f.prec)) :
    (v % 2 ^ (f.prec - 1) = 0 ↔ extCls (f.decode v).x = .infinity) ∧
      (v % 2 ^ (f.prec - 1) ≠ 0 ↔ isNan (f.decode v).x = true) := by
  obtain ⟨code, small⟩ := decode_special short v last
  have bound : 2 ^ 63 + v % 2 ^ (f.prec - 1) * 2 ^ (64 - f.prec) < 2 ^ 64 := by omega
  have same : v % 2 ^ (f.prec - 1) * 2 ^ (64 - f.prec) = 0 ↔ v % 2 ^ (f.prec - 1) = 0 := by
    rw [Nat.mul_eq_zero, or_iff_left (Nat.two_pow_pos _).ne']
  rw [code, extCls_infinity_iff, isNan_eq, extExp_mkExt (by decide) bound, extSig_mkExt (by decide) bound, ← same]
  refine ⟨?_, ?_⟩ <;> omega

end

/-- Settles O56: the rounding by `roundAt_rounding`, the formats by the classes of the exponent field. -/
theorem roundingAndFormats : Obligations.RoundingAndFormats := by
  unfold Obligations.RoundingAndFormats
  refine ⟨fun rc n q => roundAt_rounding rc n q, fun f v format inside => ?_, fun z small => intToExt_value small⟩
  have short := fmt_short format
  have bits : 8 * f.bytes = (8 * f.bytes - 1) + 1 := by
    have := short.bytes
    omega
  rw [bits] at inside
  have sign := signOf_top inside
  have factor : (if 2 ^ (8 * f.bytes - 1) ≤ v then (-1 : ℚ) else 1) =
      signOf (decide (v / 2 ^ (8 * f.bytes - 1) % 2 = 1)) := by
    rw [sign, signOf]
    simp only [decide_eq_true_eq]
  simp only [factor]
  exact ⟨decode_denormal short v, decode_normal short v, decode_special_class short v⟩

end Sys2Proof.Machine
end

section
/-!
PROOFS. Rounded magnitudes, and the delivery of a number under each masked response (for O55, O57, O59).
-/

namespace Sys2Proof.Machine

open Claims

/-! ### The bits of a rounded magnitude -/

theorem roundAt_coarse {rc : Rc} {n : Machine.Num} {q : ℤ} (h : n.exp < q) : ∃ up : Bool,
    (roundAt rc n q).mant = n.mant / 2 ^ (q - n.exp).toNat + up.toNat ∧ (roundAt rc n q).exp = q := by
  unfold roundAt
  rw [if_neg (not_le.mpr h)]
  exact ⟨_, rfl, rfl⟩

theorem toNat_le_one (b : Bool) : b.toNat ≤ 1 := by cases b <;> decide

/-- Rounding to a unit cuts the bits below it: at most the next power of two remains. -/
theorem roundAt_le {rc : Rc} {n : Machine.Num} {q : ℤ} {bits : ℕ} (h : n.exp < q) (top : n.mant ≠ 0 → n.top + 1 ≤ q + bits) :
    (roundAt rc n q).mant ≤ 2 ^ bits := by
  obtain ⟨up, mant, -⟩ := roundAt_coarse (rc := rc) h
  have one := toNat_le_one up
  have few : n.mant < 2 ^ (q - n.exp).toNat * 2 ^ bits := by
    by_cases none : n.mant = 0
    · rw [none]
      exact Nat.mul_pos (Nat.two_pow_pos _) (Nat.two_pow_pos _)
    · have room := top none
      unfold Num.top topExp at room
      rw [← Nat.pow_add]
      exact Nat.lt_log2_self.trans_le (Nat.pow_le_pow_right (by decide) (by omega))
  have quotient := Nat.div_lt_of_lt_mul few
  omega

/-- A significand rounded to `p` bits is positive, and `2^p` at most. -/
theorem roundPrec_range {rc : Rc} {n : Machine.Num} {p : ℕ} (positive : n.mant ≠ 0) (bits : 0 < p) :
    (roundPrec p rc n).mant ≠ 0 ∧ (roundPrec p rc n).mant ≤ 2 ^ p ∧
      n.top ≤ topExp (roundPrec p rc n).mant (roundPrec p rc n).exp := by
  unfold roundPrec
  have low := Nat.log2_self_le positive
  have top : n.top = n.exp + n.mant.log2 := rfl
  by_cases coarse : n.top + 1 - p ≤ n.exp
  · rw [roundAt_exact coarse]
    refine ⟨positive, ?_, le_refl _⟩
    dsimp only
    exact Nat.lt_log2_self.le.trans (Nat.pow_le_pow_right (by decide) (by omega))
  · obtain ⟨up, mant, exp⟩ := roundAt_coarse (rc := rc) (not_le.mp coarse)
    have most := roundAt_le (rc := rc) (bits := p) (not_le.mp coarse) (fun _ => by omega)
    have least : 2 ^ (p - 1) ≤ n.mant / 2 ^ (n.top + 1 - p - n.exp).toNat := by
      rw [Nat.le_div_iff_mul_le (Nat.two_pow_pos _), ← Nat.pow_add]
      exact (Nat.pow_le_pow_right (by decide) (by omega)).trans low
    have pos : 0 < 2 ^ (p - 1) := Nat.two_pow_pos _
    have least' : 2 ^ (p - 1) ≤ (roundAt rc n (n.top + 1 - p)).mant := by
      rw [mant]
      exact Nat.le_add_right_of_le least
    refine ⟨by omega, most, ?_⟩
    have log : p - 1 ≤ (roundAt rc n (n.top + 1 - p)).mant.log2 := (Nat.le_log2 (by omega)).mpr least'
    unfold topExp
    rw [exp]
    omega

theorem two_pow_dvd_of_le {mant p : ℕ} (bits : 0 < p) (h : mant ≤ 2 ^ p) : 2 ^ (mant.log2 + 1 - p) ∣ mant := by
  rcases Nat.lt_or_eq_of_le h with less | rfl
  · exact two_pow_dvd_of_lt less
  · rw [Nat.log2_two_pow]
    exact Nat.pow_dvd_pow 2 (by omega)

theorem two_pow_dvd_of_le_64 {mant p : ℕ} (h : mant ≤ 2 ^ p) (bits : p ≤ 64) : 2 ^ (mant.log2 + 1 - 64) ∣ mant :=
  two_pow_dvd_of_le (by decide) (h.trans (Nat.pow_le_pow_right (by decide) bits))

/-- A number rounded to a precision fills the register format exactly, when its exponent lies within it. -/
theorem encodeExt_roundPrec {rc : Rc} {n : Machine.Num} {p : ℕ} (positive : n.mant ≠ 0) (bits : 0 < p ∧ p ≤ 64)
    (low : -16382 ≤ topExp (roundPrec p rc n).mant (roundPrec p rc n).exp)
    (high : topExp (roundPrec p rc n).mant (roundPrec p rc n).exp ≤ 16383) (neg : Bool) :
    value (numOf (encodeExt neg (roundPrec p rc n).mant (roundPrec p rc n).exp)) = value ((roundPrec p rc n).num neg) ∧
      extCls (encodeExt neg (roundPrec p rc n).mant (roundPrec p rc n).exp) = .normal := by
  obtain ⟨some, most, -⟩ := roundPrec_range (rc := rc) positive bits.1
  obtain ⟨normal, -, same⟩ := encodeExt_normal (neg := neg) some low high (two_pow_dvd_of_le_64 most bits.2)
  exact ⟨same, normal⟩

/-- A number below the normal values, rounded at the last place of the precision there. -/
theorem encodeExt_tiny {rc : Rc} {n : Machine.Num} {p : ℕ} (bits : 0 < p ∧ p ≤ 64) (tiny : n.mant ≠ 0 → n.top < -16382)
    (neg : Bool) :
    value (numOf (encodeExt neg (roundAt rc n (-16382 - p + 1)).mant (roundAt rc n (-16382 - p + 1)).exp)) =
      value ((roundAt rc n (-16382 - p + 1)).num neg) := by
  by_cases coarse : -16382 - (p : ℤ) + 1 ≤ n.exp
  · rw [roundAt_exact coarse]
    dsimp only
    refine encodeExt_value (by omega) (fun some => ?_) ?_
    · have top : topExp n.mant n.exp = n.top := rfl
      have := tiny some
      omega
    · by_cases none : n.mant = 0
      · rw [none]
        exact Nat.dvd_zero _
      · have top : n.top = n.exp + n.mant.log2 := rfl
        have := tiny none
        exact two_pow_dvd_of_lt ((Nat.log2_lt none).mp (by omega))
  · obtain ⟨-, -, exp⟩ := roundAt_coarse (rc := rc) (not_le.mp coarse)
    have most := roundAt_le (rc := rc) (bits := p - 1) (not_le.mp coarse) (fun some => by have := tiny some; omega)
    have less : (roundAt rc n (-16382 - p + 1)).mant < 2 ^ p := most.trans_lt (Nat.pow_lt_pow_right (by decide) (by omega))
    refine encodeExt_value (by omega) (fun some => ?_) (two_pow_dvd_of_le_64 less.le bits.2)
    have top := topExp_le_of_lt (e := (roundAt rc n (-16382 - p + 1)).exp) some less
    omega

/-- The largest number of a precision. -/
theorem encodeExt_largest {p : ℕ} (bits : 0 < p ∧ p ≤ 64) (neg : Bool) :
    value (numOf (encodeExt neg (2 ^ p - 1) (16384 - p))) =
      value ({ neg := neg, mant := 2 ^ p - 1, exp := 16384 - p } : Machine.Num) := by
  have pos : 0 < 2 ^ p := Nat.two_pow_pos _
  have less : 2 ^ p - 1 < 2 ^ p := by omega
  refine encodeExt_value (by omega) (fun some => ?_) (two_pow_dvd_of_le_64 less.le bits.2)
  have top := topExp_le_of_lt (e := 16384 - p) some less
  omega

/-! ### Delivery -/

section

variable {i : BitVec 3} {f : Fmt} {neg : Bool} {r d : Rounded} {s : State}

theorem inexactIf_rounded (r : Rounded) (s : State) : inexactIf r.inexact r.up s = .ok () { s with fpu := rounded s.fpu r } :=
  run_inexactIf _ _ s

theorem deliverRounded_normal (small : topExp r.mant r.exp ≤ f.emax) (large : f.emin ≤ topExp r.mant r.exp) :
    deliverRounded i f neg r d s = .ok () { s with fpu := (rounded s.fpu r).setSt i (encodeExt neg r.mant r.exp) } := by
  have within : f.overflows r = false := decide_eq_false (by omega)
  have notTiny : f.tiny r = false := decide_eq_false (by omega)
  unfold deliverRounded
  refine (bind_of_ok (run_roundingControl s) _).trans ?_
  rw [within, notTiny, if_neg Bool.false_ne_true, if_neg Bool.false_ne_true]
  exact (bind_of_ok (inexactIf_rounded r s) _).trans (run_setSt _ _ _)

theorem deliverRounded_overflow (large : f.emax < topExp r.mant r.exp) (masks : s.fpu.fcw.getLsbD 3 = true) :
    deliverRounded i f neg r d s = .ok () { s with
      fpu := (overflowFlag s.fpu (overflowToInf (rcOf s.fpu.fcw) neg)).setSt i
        (if overflowToInf (rcOf s.fpu.fcw) neg then extInf neg else encodeExt neg f.largest.1 f.largest.2) } := by
  have exceeds : f.overflows r = true := decide_eq_true large
  unfold deliverRounded
  refine (bind_of_ok (run_roundingControl s) _).trans ?_
  rw [exceeds, if_pos rfl]
  refine (bind_of_ok (run_masked 3 s) _).trans ((bind_of_ok (run_updFsw _ s) _).trans ?_)
  rw [masks, if_pos rfl]
  exact (bind_of_ok (run_inexactIf _ _ _) _).trans (run_setSt _ _ _)

theorem deliverRounded_underflow (within : f.emin ≤ f.emax) (small : topExp r.mant r.exp < f.emin)
    (masks : s.fpu.fcw.getLsbD 4 = true) :
    deliverRounded i f neg r d s = .ok () { s with
      fpu := (underflowFlag (rounded s.fpu d) d.inexact).setSt i (encodeExt neg d.mant d.exp) } := by
  have notOver : f.overflows r = false := decide_eq_false (by omega)
  have tiny : f.tiny r = true := decide_eq_true small
  unfold deliverRounded
  refine (bind_of_ok (run_roundingControl s) _).trans ?_
  rw [notOver, tiny, if_neg Bool.false_ne_true, if_pos rfl]
  refine (bind_of_ok (run_masked 4 s) _).trans ?_
  rw [masks, if_pos rfl]
  unfold underflowFlag rounded
  cases exact : d.inexact with
  | false =>
    rw [Bool.or_false, if_neg Bool.false_ne_true]
    refine (bind_of_ok (run_onlyIf_stay rfl) _).trans ?_
    exact (bind_of_ok (run_inexactIf _ _ _) _).trans (run_setSt _ _ _)
  | true =>
    rw [Bool.or_true, if_pos rfl]
    refine (bind_of_ok ((run_onlyIf_do rfl).trans (run_updFsw _ s)) _).trans ?_
    exact (bind_of_ok (run_inexactIf _ _ _) _).trans (run_setSt _ _ _)

theorem deliverNum_eq (i : BitVec 3) (p : ℕ) (n : Machine.Num) (s : State) :
    deliverNum i p n s = deliverRounded i (fmtExt p) n.neg (roundPrec p (rcOf s.fpu.fcw) n)
      (roundAt (rcOf s.fpu.fcw) n (-16382 - p + 1)) s := rfl

/-- A number that is not zero is rounded and delivered. -/
theorem deliverCalc_num {n : Machine.Num} {p : ℕ} {den : Bool} {t : State} (positive : n.mant ≠ 0)
    (h : deliverNum i p n { s with fpu := raised s.fpu false den } = .ok () t) :
    deliverCalc i p den (.num n) s = .ok true t := by
  unfold deliverCalc
  refine (bind_of_ok (run_denormalIf den s) _).trans ?_
  rw [if_neg positive]
  exact bind_of_ok h _

theorem deliverCalc_zero {n : Machine.Num} {p : ℕ} {den : Bool} (none : n.mant = 0) :
    deliverCalc i p den (.num n) s = .ok true { s with fpu := (raised s.fpu false den).setSt i (extZero n.neg) } := by
  unfold deliverCalc
  refine (bind_of_ok (run_denormalIf den s) _).trans ?_
  rw [if_pos none]
  rfl

theorem deliverCalc_special (p : ℕ) (den : Bool) (x : Ext) :
    deliverCalc i p den (.special x) s = .ok true { s with fpu := (raised s.fpu false den).setSt i x } := by
  unfold deliverCalc
  exact bind_of_ok (run_denormalIf den s) _

theorem deliverCalc_nan (p : ℕ) (den : Bool) (x : Ext) (ia : Bool) :
    deliverCalc i p den (.nan x ia) s = if ia = true ∧ s.fpu.fcw.getLsbD 0 = false
      then .ok false { s with fpu := raised s.fpu true false }
      else .ok true { s with fpu := (raised s.fpu ia false).setSt i x } := by
  unfold deliverCalc
  cases ia with
  | false =>
    rw [if_neg (by simp), raised_none]
    rfl
  | true =>
    rw [← raised_invalid]
    refine (bind_of_ok (run_invalid s) _).trans ?_
    cases s.fpu.fcw.getLsbD 0 <;> rfl

theorem deliverCalc_ia (p : ℕ) (den : Bool) :
    deliverCalc i p den .ia s = if s.fpu.fcw.getLsbD 0
      then .ok true { s with fpu := (raised s.fpu true false).setSt i indefinite }
      else .ok false { s with fpu := raised s.fpu true false } := by
  unfold deliverCalc
  rw [← raised_invalid]
  refine (bind_of_ok (run_invalid s) _).trans ?_
  cases s.fpu.fcw.getLsbD 0 <;> rfl

theorem deliverCalc_zdiv (p : ℕ) (den neg : Bool) :
    deliverCalc i p den (.zdiv neg) s = if s.fpu.fcw.getLsbD 2
      then .ok true { s with fpu := (raised (zeroFlag s.fpu) false den).setSt i (extInf neg) }
      else .ok false { s with fpu := zeroFlag s.fpu } := by
  unfold deliverCalc
  refine (bind_of_ok (run_zeroDivide s) _).trans ?_
  cases s.fpu.fcw.getLsbD 2 with
  | false => rfl
  | true =>
    rw [if_pos rfl]
    exact bind_of_ok ((run_onlyIf_do rfl).trans ((bind_of_ok (run_denormalIf den _) _).trans (run_setSt i (extInf neg) _))) _

end

/-- A number that the register format holds is delivered as it is, where underflow is masked. -/
theorem deliverCalc_exact {i : BitVec 3} {n : Machine.Num} {den : Bool} {s : State} (last : -16445 ≤ n.exp)
    (high : n.mant ≠ 0 → n.top ≤ 16383) (short : n.mant < 2 ^ 64) (masks : s.fpu.fcw.getLsbD 4 = true) :
    ∃ x, deliverCalc i 64 den (.num n) s = .ok true { s with fpu := (raised s.fpu false den).setSt i x } ∧
      value (numOf x) = value n := by
  by_cases none : n.mant = 0
  · refine ⟨_, deliverCalc_zero none, ?_⟩
    rw [extZero_value, (value_eq_zero_iff n).mpr none]
  · refine ⟨encodeExt n.neg n.mant n.exp, deliverCalc_num none ?_, encodeExt_value last high (two_pow_dvd_of_lt short)⟩
    have bits := topExp_le_of_lt (e := n.exp) none short
    have top : n.top = topExp n.mant n.exp := rfl
    have precise : ∀ rc, roundPrec 64 rc n = { mant := n.mant, exp := n.exp, inexact := false, up := false } :=
      fun rc => roundAt_exact (by push_cast; omega)
    have denormal : ∀ rc, roundAt rc n (-16382 - (64 : ℕ) + 1) =
        { mant := n.mant, exp := n.exp, inexact := false, up := false } :=
      fun rc => roundAt_exact (by push_cast; omega)
    rw [deliverNum_eq, precise, denormal]
    rcases lt_or_ge (topExp n.mant n.exp) (-16382) with tiny | normal
    · refine (deliverRounded_underflow (f := fmtExt 64) (s := { s with fpu := raised s.fpu false den })
        (r := ⟨n.mant, n.exp, false, false⟩) (by decide) tiny masks).trans ?_
      unfold underflowFlag rounded
      rw [if_neg Bool.false_ne_true, Bool.or_false]
    · exact deliverRounded_normal (f := fmtExt 64) (r := ⟨n.mant, n.exp, false, false⟩) (high none) normal

end Sys2Proof.Machine
end

section
/-!
PROOFS. The exact values of sums, products, quotients and square roots (for O55).
-/

namespace Sys2Proof.Machine

open Claims

/-! ### Operands that are no NaN and not unsupported -/

/-- A finite value or an infinity. -/
def Ordinary (x : Ext) : Prop := Finite x ∨ extCls x = .infinity

theorem badOperands_none {a b : Ext} (ha : Ordinary a) (hb : Ordinary b) : badOperands a b = none := by
  have good : ∀ x, Ordinary x → extCls x ≠ .qnan ∧ isBad x = false := by
    unfold Ordinary Finite isBad
    rintro x ((h | h | h) | h) <;> simp [h]
  obtain ⟨notA, goodA⟩ := good a ha
  obtain ⟨notB, goodB⟩ := good b hb
  rcases badOperands_cases a b with ⟨bad, -⟩ | ⟨-, nan, -⟩ | ⟨-, -, -, none⟩
  · rw [goodA, goodB] at bad
    exact absurd bad Bool.false_ne_true
  · exact absurd nan (by simp [notA, notB])
  · exact none

/-- Only the zeros have the value zero. -/
theorem value_numOf_eq_zero {x : Ext} (h : Finite x) : value (numOf x) = 0 ↔ extCls x = .zero := by
  have mant : (numOf x).mant = extSig x := rfl
  rw [value_eq_zero_iff, mant]
  rcases h with h | h | h
  · exact iff_of_true ((extCls_zero_iff x).mp h).2 h
  · exact iff_of_false ((extCls_denormal_iff x).mp h).2 (by simp [h])
  · have := ((extCls_normal_iff x).mp h).2.2
    exact iff_of_false (by omega) (by simp [h])

theorem finite_some {x : Ext} (h : Finite x) (some : value (numOf x) ≠ 0) : extCls x = .denormal ∨ extCls x = .normal :=
  h.resolve_left fun none => some ((value_numOf_eq_zero h).mpr none)

theorem mant_pos {x : Ext} (some : value (numOf x) ≠ 0) : 0 < (numOf x).mant := by
  rw [Ne, value_eq_zero_iff] at some
  omega

theorem mant_lt (x : Ext) : (numOf x).mant < 2 ^ 64 := extSig_lt x

/-! ### Sum -/

theorem natAbs_signed (z : ℤ) : signOf (decide (z < 0)) * (z.natAbs : ℚ) = z := by
  have size : (z.natAbs : ℚ) = |(z : ℚ)| := by rw [← Int.cast_abs, Nat.cast_natAbs]
  rw [size]
  rcases lt_or_ge z 0 with minus | plus
  · have real : (z : ℚ) < 0 := by exact_mod_cast minus
    rw [decide_eq_true minus, abs_of_neg real]
    simp [signOf]
  · have real : (0 : ℚ) ≤ z := by exact_mod_cast plus
    rw [decide_eq_false (not_lt.mpr plus), abs_of_nonneg real]
    simp [signOf]

/-- The sum at the smaller exponent. -/
theorem add_scaled (a b : Machine.Num) : ∃ e : ℤ,
    value a + value b = (a.scaledTo e + b.scaledTo e : ℤ) * (2 : ℚ) ^ e ∧ a.add b =
      if a.scaledTo e + b.scaledTo e = 0 then none else some ⟨decide (a.scaledTo e + b.scaledTo e < 0),
        (a.scaledTo e + b.scaledTo e).natAbs, e⟩ := by
  refine ⟨min a.exp b.exp, ?_, rfl⟩
  rw [value_scaledTo (min_le_left a.exp b.exp), value_scaledTo (min_le_right a.exp b.exp), ← add_mul]
  push_cast
  rfl

theorem add_none {a b : Machine.Num} (zero : value a + value b = 0) : a.add b = none := by
  obtain ⟨e, same, sum⟩ := add_scaled a b
  rw [same, mul_eq_zero, or_iff_left (two_zpow_ne_zero e)] at zero
  rw [sum, if_pos (by exact_mod_cast zero)]

theorem add_some {a b : Machine.Num} (some : value a + value b ≠ 0) : ∃ n, a.add b = .some n ∧ value n = value a + value b := by
  obtain ⟨e, same, sum⟩ := add_scaled a b
  rw [same, Ne, mul_eq_zero, or_iff_left (two_zpow_ne_zero e)] at some
  refine ⟨_, sum.trans (if_neg (by exact_mod_cast some)), ?_⟩
  rw [same, value_eq, natAbs_signed]

/-- A number with its sign changed. -/
theorem value_flip (x : Ext) (flip : Bool) :
    value { numOf x with neg := extNeg x ^^ flip } = signOf flip * value (numOf x) := by
  have neg : (numOf x).neg = extNeg x := rfl
  rw [value_eq, value_eq, neg]
  cases extNeg x <;> cases flip <;> simp [signOf]

section

variable {a b : Ext} (ha : Finite a) (hb : Finite b) (rc : Rc) (flip : Bool)

include ha hb

theorem calcAdd_some {n : Machine.Num} (sum : (numOf a).add { numOf b with neg := extNeg b ^^ flip } = some n) :
    calcAdd rc a b flip = .num n := by
  unfold calcAdd
  rcases ha with ha | ha | ha <;> rcases hb with hb | hb | hb <;> simp only [ha, hb, sum]

theorem calcAdd_none (sum : (numOf a).add { numOf b with neg := extNeg b ^^ flip } = none) (notZero : extCls a ≠ .zero) :
    calcAdd rc a b flip = .special (extZero (decide (rc = .down))) := by
  unfold calcAdd
  rcases ha.resolve_left notZero with ha | ha <;> rcases hb with hb | hb | hb <;> simp [ha, hb, sum]

theorem calcAdd_value (some : value (numOf a) + signOf flip * value (numOf b) ≠ 0) :
    ∃ n, calcAdd rc a b flip = .num n ∧ value n = value (numOf a) + signOf flip * value (numOf b) := by
  rw [← value_flip] at some ⊢
  obtain ⟨n, sum, same⟩ := add_some some
  exact ⟨n, calcAdd_some ha hb rc flip sum, same⟩

theorem calcAdd_cancels (some : value (numOf a) ≠ 0) (none : value (numOf a) + signOf flip * value (numOf b) = 0) :
    calcAdd rc a b flip = .special (extZero (decide (rc = .down))) := by
  rw [← value_flip] at none
  exact calcAdd_none ha hb rc flip (add_none none) fun zero => some ((value_numOf_eq_zero ha).mpr zero)

/-! ### Product and quotient -/

omit ha hb in
theorem mul_value (x y : Machine.Num) : value (x.mul y) = value x * value y := by
  have neg : (x.mul y).neg = (x.neg ^^ y.neg) := rfl
  have mant : ((x.mul y).mant : ℚ) = x.mant * y.mant := Nat.cast_mul _ _
  have exp : (x.mul y).exp = x.exp + y.exp := rfl
  rw [value_eq, value_eq, value_eq, neg, mant, exp, zpow_add₀ (by norm_num)]
  cases x.neg <;> cases y.neg <;> simp [signOf] <;> ring

theorem calcMul_finite : calcMul a b = .num ((numOf a).mul (numOf b)) := by
  unfold calcMul
  rcases ha with ha | ha | ha <;> rcases hb with hb | hb | hb <;> simp only [ha, hb]

theorem calcDiv_finite (someA : value (numOf a) ≠ 0) (someB : value (numOf b) ≠ 0) :
    calcDiv a b = .num ((numOf a).div (numOf b)) := by
  unfold calcDiv
  rcases finite_some ha someA with ha | ha <;> rcases finite_some hb someB with hb | hb <;> simp only [ha, hb]

end

theorem calcDiv_zero {a b : Ext} (ha : Finite a) (some : value (numOf a) ≠ 0) (hb : extCls b = .zero) :
    calcDiv a b = .zdiv (extNeg a ^^ extNeg b) := by
  unfold calcDiv
  rcases finite_some ha some with ha | ha <;> simp only [ha, hb]

/-- What a sticky bit stands for: the value in units of the last bit, exact or strictly around an odd significand. -/
theorem sticky_brackets {q : ℕ} {ρ : ℚ} {inexact : Bool} (range : 0 ≤ ρ ∧ ρ < 1) (exactly : inexact = false ↔ ρ = 0) :
    ((sticky q inexact : ℕ) : ℚ) = 2 * (q + ρ) ∨
      (sticky q inexact % 2 = 1 ∧ |((sticky q inexact : ℕ) : ℚ) - 2 * (q + ρ)| < 1) := by
  unfold sticky
  cases inexact with
  | false =>
    left
    rw [exactly.mp rfl]
    push_cast [Bool.toNat_false]
    ring
  | true =>
    right
    have some : 0 < ρ := lt_of_le_of_ne range.1 fun none => Bool.false_ne_true (exactly.mpr none.symm).symm
    refine ⟨by rw [Bool.toNat_true]; omega, ?_⟩
    push_cast [Bool.toNat_true]
    rw [abs_lt]
    constructor <;> linarith [range.2]

theorem div_brackets {x y : Machine.Num} (hx : 0 < x.mant) (hy : 0 < y.mant) (small : y.mant < 2 ^ 64) :
    2 ^ 64 ≤ (x.div y).mant ∧ Brackets (x.div y) (value x / value y) := by
  have mant : (x.div y).mant = sticky (x.mant * 2 ^ 130 / y.mant) (decide (x.mant * 2 ^ 130 % y.mant ≠ 0)) := rfl
  have exp : (x.div y).exp = x.exp - y.exp - 131 := rfl
  have neg : (x.div y).neg = (x.neg ^^ y.neg) := rfl
  have quotient : 2 ^ 66 ≤ x.mant * 2 ^ 130 / y.mant := by
    rw [Nat.le_div_iff_mul_le hy]
    calc 2 ^ 66 * y.mant ≤ 2 ^ 66 * 2 ^ 64 := Nat.mul_le_mul_left _ small.le
      _ ≤ 1 * 2 ^ 130 := by norm_num
      _ ≤ x.mant * 2 ^ 130 := Nat.mul_le_mul_right _ hx
  have below := Nat.mod_lt (x.mant * 2 ^ 130) hy
  have range := fraction_range below
  have zero := fraction_zero below
  have whole : (x.mant : ℚ) * 2 ^ 130 =
      ((x.mant * 2 ^ 130 / y.mant : ℕ) + (x.mant * 2 ^ 130 % y.mant : ℕ) / (y.mant : ℚ)) * y.mant := by
    have parts : (x.mant : ℚ) * 2 ^ 130 = (x.mant * 2 ^ 130 / y.mant : ℕ) * y.mant + (x.mant * 2 ^ 130 % y.mant : ℕ) := by
      exact_mod_cast (Nat.div_add_mod' (x.mant * 2 ^ 130) y.mant).symm
    have ne : (y.mant : ℚ) ≠ 0 := by exact_mod_cast hy.ne'
    rw [parts]
    field_simp
  refine ⟨?_, ?_⟩
  · rw [mant, sticky]
    omega
  · generalize x.mant * 2 ^ 130 / y.mant = q at *
    generalize x.mant * 2 ^ 130 % y.mant = r at *
    have close := sticky_brackets (q := q) (inexact := decide (r ≠ 0)) range (by rw [zero, decide_eq_false_iff_not, not_not])
    rw [← mant] at close
    have unit := two_zpow_pos (x.div y).exp
    have ratio : value x / value y = signOf (x.div y).neg * (2 * (q + r / (y.mant : ℚ))) * 2 ^ (x.div y).exp := by
      have split : (2 : ℚ) ^ x.exp = 2 ^ (x.div y).exp * 2 ^ (131 : ℕ) * 2 ^ y.exp := by
        rw [exp, ← zpow_natCast, ← zpow_add₀ (by norm_num), ← zpow_add₀ (by norm_num)]
        congr 1
        push_cast
        ring
      have sign : signOf x.neg = signOf (x.div y).neg * signOf y.neg := by
        rw [neg]
        cases x.neg <;> cases y.neg <;> simp [signOf]
      have yUnit := two_zpow_ne_zero y.exp
      have ySign := signOf_ne_zero y.neg
      have yMant : (y.mant : ℚ) ≠ 0 := by exact_mod_cast hy.ne'
      rw [value_eq, value_eq, div_eq_iff (mul_ne_zero (mul_ne_zero ySign yMant) yUnit), split, sign]
      have doubled : (x.mant : ℚ) * 2 ^ 131 = 2 * (q + r / (y.mant : ℚ)) * y.mant := by
        rw [mul_assoc, ← whole]
        ring
      linear_combination (signOf (x.div y).neg * signOf y.neg * 2 ^ (x.div y).exp * 2 ^ y.exp) * doubled
    rcases close with exact | ⟨odd, near⟩
    · left
      rw [ratio, value_eq, exact]
    · right
      refine ⟨odd, ?_⟩
      rw [ratio, value_eq, ← sub_mul, ← mul_sub, abs_mul, abs_mul, signOf_abs, one_mul, abs_of_pos unit]
      nlinarith

/-! ### Square root -/

/-- The bits of the root are found from the top: the root stays below, and one more in the last place above. -/
theorem isqrt_spec (n : ℕ) (k r : ℕ) (low : r * r ≤ n) (high : n < (r + 2 ^ k) * (r + 2 ^ k)) :
    isqrt n k r * isqrt n k r ≤ n ∧ n < (isqrt n k r + 1) * (isqrt n k r + 1) := by
  induction k generalizing r with
  | zero => exact ⟨low, high⟩
  | succ k ih =>
    have double : 2 ^ (k + 1) = 2 ^ k + 2 ^ k := by ring
    unfold isqrt
    by_cases fits : (r + 2 ^ k) * (r + 2 ^ k) ≤ n
    · rw [if_pos fits]
      exact ih _ fits (by rw [Nat.add_assoc, ← double]; exact high)
    · rw [if_neg fits]
      exact ih _ low (not_le.mp fits)

/-- The shift that makes the exponent even. -/
def sqrtShift (e : ℤ) : ℕ := if e % 2 ≠ 0 then 141 else 140

theorem sqrt_eq (x : Machine.Num) : x.sqrt = ⟨false, sticky (isqrt (x.mant * 2 ^ sqrtShift x.exp) 104 0)
      (decide (isqrt (x.mant * 2 ^ sqrtShift x.exp) 104 0 * isqrt (x.mant * 2 ^ sqrtShift x.exp) 104 0 ≠
        x.mant * 2 ^ sqrtShift x.exp)), (x.exp - sqrtShift x.exp) / 2 - 1⟩ := by
  unfold Num.sqrt sqrtShift
  by_cases odd : x.exp % 2 ≠ 0
  · rw [if_pos odd, decide_eq_true odd]
    rfl
  · rw [if_neg odd, decide_eq_false odd]
    rfl

theorem sqrt_brackets {x : Machine.Num} (hx : 0 < x.mant) (small : x.mant < 2 ^ 64) (plus : x.neg = false) :
    2 ^ 64 ≤ x.sqrt.mant ∧ BracketsRoot x.sqrt (value x) := by
  have shift : sqrtShift x.exp = 140 ∨ sqrtShift x.exp = 141 := by
    unfold sqrtShift
    split_ifs <;> omega
  have even : x.exp - sqrtShift x.exp = 2 * (x.sqrt.exp + 1) := by
    rw [sqrt_eq]
    dsimp only
    unfold sqrtShift
    split_ifs <;> push_cast <;> omega
  have bound : x.mant * 2 ^ sqrtShift x.exp < 2 ^ 104 * 2 ^ 104 := by
    calc x.mant * 2 ^ sqrtShift x.exp ≤ x.mant * 2 ^ 141 :=
          Nat.mul_le_mul_left _ (Nat.pow_le_pow_right (by decide) (by omega))
      _ < 2 ^ 64 * 2 ^ 141 := Nat.mul_lt_mul_of_pos_right small (by decide)
      _ ≤ 2 ^ 104 * 2 ^ 104 := by norm_num
  have enough : 2 ^ 70 * 2 ^ 70 ≤ x.mant * 2 ^ sqrtShift x.exp := by
    calc 2 ^ 70 * 2 ^ 70 = 1 * 2 ^ 140 := by norm_num
      _ ≤ x.mant * 2 ^ sqrtShift x.exp := Nat.mul_le_mul hx (Nat.pow_le_pow_right (by decide) (by omega))
  obtain ⟨low, high⟩ := isqrt_spec (x.mant * 2 ^ sqrtShift x.exp) 104 0 (Nat.zero_le _) (by simpa using bound)
  have mant : x.sqrt.mant = sticky (isqrt (x.mant * 2 ^ sqrtShift x.exp) 104 0)
      (decide (isqrt (x.mant * 2 ^ sqrtShift x.exp) 104 0 * isqrt (x.mant * 2 ^ sqrtShift x.exp) 104 0 ≠
        x.mant * 2 ^ sqrtShift x.exp)) := by rw [sqrt_eq]
  have neg : x.sqrt.neg = false := by rw [sqrt_eq]
  have square : value x = ((x.mant * 2 ^ sqrtShift x.exp : ℕ) : ℚ) * 4 * (2 ^ x.sqrt.exp) ^ 2 := by
    have split : (2 : ℚ) ^ x.exp = 2 ^ sqrtShift x.exp * 4 * (2 ^ x.sqrt.exp) ^ 2 := by
      have sum : x.exp = sqrtShift x.exp + 2 + x.sqrt.exp + x.sqrt.exp := by omega
      conv_lhs => rw [sum]
      rw [zpow_add₀ (by norm_num), zpow_add₀ (by norm_num), zpow_add₀ (by norm_num), zpow_natCast]
      norm_num
      ring
    rw [value_eq, plus, split]
    push_cast
    unfold signOf
    rw [if_neg Bool.false_ne_true]
    ring
  generalize x.mant * 2 ^ sqrtShift x.exp = n at *
  generalize isqrt n 104 0 = r at *
  have unit := two_zpow_pos x.sqrt.exp
  have root : 2 ^ 70 ≤ r := by
    by_contra less
    have : (r + 1) * (r + 1) ≤ 2 ^ 70 * 2 ^ 70 := Nat.mul_le_mul (by omega) (by omega)
    omega
  refine ⟨by rw [mant, sticky]; omega, ?_⟩
  have asValue : value x.sqrt = (x.sqrt.mant : ℚ) * 2 ^ x.sqrt.exp := by
    rw [value_eq, neg]
    unfold signOf
    rw [if_neg Bool.false_ne_true, one_mul]
  have pos : (0 : ℚ) < (2 ^ x.sqrt.exp) ^ 2 := by positivity
  unfold BracketsRoot
  rw [asValue, square]
  by_cases perfect : r * r = n
  · left
    rw [mant, decide_eq_false (not_not.mpr perfect), sticky, ← perfect]
    push_cast [Bool.toNat_false]
    ring
  · right
    rw [mant, decide_eq_true perfect, sticky]
    have strict : ((r * r : ℕ) : ℚ) < n := by exact_mod_cast lt_of_le_of_ne low perfect
    have above : (n : ℚ) < ((r + 1) * (r + 1) : ℕ) := by exact_mod_cast high
    refine ⟨by rw [Bool.toNat_true]; omega, ?_, ?_⟩
    · have factor : (((2 * r + true.toNat : ℕ) : ℚ) * 2 ^ x.sqrt.exp - 2 ^ x.sqrt.exp) ^ 2 =
          ((r * r : ℕ) : ℚ) * 4 * (2 ^ x.sqrt.exp) ^ 2 := by
        push_cast [Bool.toNat_true]
        ring
      rw [factor]
      nlinarith
    · have factor : (((2 * r + true.toNat : ℕ) : ℚ) * 2 ^ x.sqrt.exp + 2 ^ x.sqrt.exp) ^ 2 =
          (((r + 1) * (r + 1) : ℕ) : ℚ) * 4 * (2 ^ x.sqrt.exp) ^ 2 := by
        push_cast [Bool.toNat_true]
        ring
      rw [factor]
      nlinarith

end Sys2Proof.Machine
end

section
/-!
PROOFS. Scaling by a power of two, NaN operands, and the theorem of O55.
-/

namespace Sys2Proof.Machine

open Claims

/-! ### Integral values -/

theorem le_roundAt_exp (rc : Rc) (n : Machine.Num) (q : ℤ) : q ≤ (roundAt rc n q).exp := by
  by_cases coarse : q ≤ n.exp
  · rw [roundAt_exact coarse]
    exact coarse
  · obtain ⟨-, -, exp⟩ := roundAt_coarse (rc := rc) (not_le.mp coarse)
    exact exp.ge

/-- The magnitude of the integral value. -/
theorem toIntegral_abs (rc : Rc) (n : Machine.Num) (neg : Bool) :
    ((toIntegral rc n).1 : ℚ) = |value ((roundAt rc n 0).num neg)| := by
  have whole := le_roundAt_exp rc n 0
  have magnitude : (toIntegral rc n).1 = (roundAt rc n 0).mant * 2 ^ (roundAt rc n 0).exp.toNat := rfl
  rw [abs_value, magnitude]
  have power : (2 : ℚ) ^ (roundAt rc n 0).exp = 2 ^ (roundAt rc n 0).exp.toNat := by
    conv_lhs => rw [← Int.toNat_of_nonneg whole]
    exact zpow_natCast _ _
  unfold Rounded.num
  rw [power]
  push_cast
  rfl

/-- Rounding toward zero cuts the fraction. -/
theorem toIntegral_zero (n : Machine.Num) :
    ((toIntegral .zero n).1 : ℚ) ≤ |value n| ∧ |value n| < (toIntegral .zero n).1 + 1 := by
  obtain ⟨-, -, -, -, -, -, cut⟩ := roundAt_rounding .zero n 0
  rw [toIntegral_abs .zero n n.neg]
  have bounds := cut rfl
  rwa [zpow_zero] at bounds

/-- The leading bit tells the size. -/
theorem top_bounds {n : Machine.Num} (positive : n.mant ≠ 0) : (2 : ℚ) ^ n.top ≤ |value n| ∧ |value n| < 2 ^ (n.top + 1) := by
  have low : ((2 ^ n.mant.log2 : ℕ) : ℚ) ≤ n.mant := by exact_mod_cast Nat.log2_self_le positive
  have high : (n.mant : ℚ) < ((2 ^ (n.mant.log2 + 1) : ℕ) : ℚ) := by exact_mod_cast Nat.lt_log2_self
  have unit := two_zpow_pos n.exp
  have top : n.top = n.mant.log2 + n.exp := add_comm _ _
  have next : n.top + 1 = ((n.mant.log2 + 1 : ℕ) : ℤ) + n.exp := by
    rw [top]
    push_cast
    ring
  rw [abs_value, next, top, zpow_add₀ (by norm_num), zpow_add₀ (by norm_num), zpow_natCast, zpow_natCast]
  push_cast at low high
  exact ⟨mul_le_mul_of_nonneg_right low unit.le, mul_lt_mul_of_pos_right high unit⟩

theorem value_plus (n : Machine.Num) : value { n with neg := false } = |value n| := by
  rw [abs_value, value_eq]
  unfold signOf
  rw [if_neg Bool.false_ne_true, one_mul]

theorem value_signed (n : Machine.Num) : value n = if n.neg then -|value n| else |value n| := by
  rw [abs_value, value_eq]
  unfold signOf
  split_ifs <;> ring

/-- The magnitude of the count of FSCALE. -/
def scaleMagnitude (n : Machine.Num) : ℕ :=
  if 20 < n.top then 70000 else min 70000 (toIntegral .zero { n with neg := false }).1

theorem scaleCount_eq (n : Machine.Num) : scaleCount n = if n.neg then -(scaleMagnitude n : ℤ) else scaleMagnitude n := rfl

section

variable {n : Machine.Num} (zeroSmall : n.mant = 0 → n.top ≤ 20)

include zeroSmall

theorem scaleMagnitude_small (small : |value n| < 70001) : (scaleMagnitude n : ℤ) = ⌊|value n|⌋ := by
  have notHuge : ¬20 < n.top := fun huge => by
    have some : n.mant ≠ 0 := fun none => absurd (zeroSmall none) (not_le.mpr huge)
    have least := (top_bounds some).1
    have power : (2 : ℚ) ^ (21 : ℤ) ≤ 2 ^ n.top := zpow_le_zpow_right₀ (by norm_num) (by omega)
    norm_num at power
    linarith
  obtain ⟨low, high⟩ := toIntegral_zero { n with neg := false }
  rw [value_plus, abs_abs] at low high
  have few : (toIntegral .zero { n with neg := false }).1 ≤ 70000 := by
    have : ((toIntegral .zero { n with neg := false }).1 : ℚ) < 70001 := low.trans_lt small
    have : (toIntegral .zero { n with neg := false }).1 < 70001 := by exact_mod_cast this
    omega
  unfold scaleMagnitude
  rw [if_neg notHuge, min_eq_right few, eq_comm, Int.floor_eq_iff]
  exact ⟨by exact_mod_cast low, by exact_mod_cast high⟩

omit zeroSmall in
theorem scaleMagnitude_large (large : 70001 ≤ |value n|) : scaleMagnitude n = 70000 := by
  unfold scaleMagnitude
  split_ifs with huge
  · rfl
  · obtain ⟨-, high⟩ := toIntegral_zero { n with neg := false }
    rw [value_plus, abs_abs] at high
    have : (70001 : ℚ) < (toIntegral .zero { n with neg := false }).1 + 1 := large.trans_lt high
    have : 70001 < (toIntegral .zero { n with neg := false }).1 + 1 := by exact_mod_cast this
    exact min_eq_left (by omega)

/-- The count of FSCALE is the integer part. -/
theorem scaleCount_small (small : |value n| < 70001) :
    scaleCount n = if value n < 0 then ⌈value n⌉ else ⌊value n⌋ := by
  rw [scaleCount_eq, scaleMagnitude_small zeroSmall small]
  have signed := value_signed n
  have nonneg := abs_nonneg (value n)
  cases neg : n.neg with
  | false =>
    rw [neg, if_neg Bool.false_ne_true] at signed
    rw [if_neg Bool.false_ne_true, if_neg (by linarith), ← signed]
  | true =>
    rw [neg, if_pos rfl] at signed
    rw [if_pos rfl]
    split_ifs with minus
    · conv_rhs => rw [signed]
      exact Int.ceil_neg.symm
    · have zero : value n = 0 := by linarith
      simp [zero]

end

theorem numOf_top_of_zero {x : Ext} (h : Finite x) (none : (numOf x).mant = 0) : (numOf x).top ≤ 20 := by
  have zero := (extCls_zero_iff x).mp ((value_numOf_eq_zero h).mp ((value_eq_zero_iff _).mpr none))
  have top : (numOf x).top = ((max (extExp x) 1 : ℕ) - 16446 : ℤ) + (extSig x).log2 := rfl
  rw [top, zero.1, zero.2]
  decide

theorem numOf_exp (x : Ext) : (numOf x).exp = (max (extExp x) 1 : ℕ) - 16446 := rfl

theorem finite_exp {x : Ext} (h : Finite x) : -16445 ≤ (numOf x).exp ∧ (numOf x).exp ≤ 16320 := by
  rw [numOf_exp]
  have most : extExp x ≤ 0x7FFE := by
    have := extExp_lt x
    rcases h with h | h | h
    · have := (extCls_zero_iff x).mp h
      omega
    · have := (extCls_denormal_iff x).mp h
      omega
    · have := (extCls_normal_iff x).mp h
      omega
  omega

/-- The least and the largest magnitude of the register format. -/
theorem finite_abs {x : Ext} (h : Finite x) (some : value (numOf x) ≠ 0) :
    (2 : ℚ) ^ (-16445 : ℤ) ≤ |value (numOf x)| ∧ |value (numOf x)| < 2 ^ (16384 : ℤ) := by
  obtain ⟨low, high⟩ := finite_exp h
  have positive := mant_pos some
  obtain ⟨least, most⟩ := top_bounds positive.ne'
  have top := topExp_le_of_lt (e := (numOf x).exp) positive.ne' (mant_lt x)
  have same : (numOf x).top = topExp (numOf x).mant (numOf x).exp := rfl
  have above : (numOf x).exp ≤ (numOf x).top := by
    rw [same]
    unfold topExp
    omega
  exact ⟨(zpow_le_zpow_right₀ (by norm_num) (by omega)).trans least,
    most.trans_le (zpow_le_zpow_right₀ (by norm_num) (by push_cast at top; omega))⟩

section

variable {a b : Ext}

theorem calcScale_finite (ha : Finite a) (hb : Finite b) (some : value (numOf a) ≠ 0) :
    calcScale a b = if scaleCount (numOf b) = 0 then .special a
      else .num { numOf a with exp := (numOf a).exp + scaleCount (numOf b) } := by
  unfold calcScale
  simp only [badOperands_none (.inl ha) (.inl hb)]
  rcases finite_some ha some with ha | ha <;> rcases hb with hb | hb | hb <;> simp only [ha, hb]

theorem calcScale_fixed (hb : Finite b) (ha : extCls a = .infinity ∨ extCls a = .zero) : calcScale a b = .special a := by
  have ordinary : Ordinary a := ha.elim .inr fun zero => .inl (.inl zero)
  unfold calcScale
  simp only [badOperands_none ordinary (.inl hb)]
  rcases ha with ha | ha <;> rcases hb with hb | hb | hb <;> simp only [ha, hb]

theorem calcScale_up (hb : extCls b = .infinity) (plus : extNeg b = false) (ha : Ordinary a) :
    calcScale a b = if extCls a = .zero then .ia else .special (extInf (extNeg a)) := by
  unfold calcScale
  simp only [badOperands_none ha (.inr hb), hb, plus]
  rcases ha with (ha | ha | ha) | ha <;> simp [ha]

theorem calcScale_down (hb : extCls b = .infinity) (minus : extNeg b = true) (ha : Ordinary a) :
    calcScale a b = if extCls a = .infinity then .ia else .special (extZero (extNeg a)) := by
  unfold calcScale
  simp only [badOperands_none ha (.inr hb), hb, minus]
  rcases ha with (ha | ha | ha) | ha <;> simp [ha]

end

theorem value_scaled (n : Machine.Num) (k : ℤ) : value { n with exp := n.exp + k } = value n * 2 ^ k := by
  rw [value_eq, value_eq, zpow_add₀ (by norm_num)]
  ring

theorem scaled_large {v : ℚ} {low k m : ℤ} (h : 2 ^ low ≤ v) (room : m ≤ low + k) : (2 : ℚ) ^ m ≤ v * 2 ^ k := by
  calc (2 : ℚ) ^ m ≤ 2 ^ (low + k) := zpow_le_zpow_right₀ (by norm_num) room
    _ = 2 ^ low * 2 ^ k := zpow_add₀ (by norm_num) _ _
    _ ≤ v * 2 ^ k := mul_le_mul_of_nonneg_right h (two_zpow_pos k).le

theorem scaled_small {v : ℚ} {high k m : ℤ} (h : v < 2 ^ high) (room : high + k + m ≤ 0) : v * 2 ^ k * (2 : ℚ) ^ m ≤ 1 := by
  calc v * 2 ^ k * (2 : ℚ) ^ m ≤ 2 ^ high * 2 ^ k * 2 ^ m :=
        mul_le_mul_of_nonneg_right (mul_le_mul_of_nonneg_right h.le (two_zpow_pos k).le) (two_zpow_pos m).le
    _ = 2 ^ (high + k + m) := by rw [zpow_add₀ (by norm_num), zpow_add₀ (by norm_num)]
    _ ≤ 2 ^ (0 : ℤ) := zpow_le_zpow_right₀ (by norm_num) room
    _ = 1 := zpow_zero _

/-- A scaling beyond every exponent. -/
theorem calcScale_beyond {a b : Ext} (ha : Finite a) (hb : Finite b) (some : value (numOf a) ≠ 0)
    (large : 70001 ≤ |value (numOf b)|) : ∃ n, calcScale a b = .num n ∧ n.neg = extNeg a ∧
      (0 < value (numOf b) → (2 : ℚ) ^ 50000 ≤ |value n|) ∧
      (value (numOf b) < 0 → 0 < |value n| ∧ |value n| * (2 : ℚ) ^ 50000 ≤ 1) := by
  have magnitude := scaleMagnitude_large large
  have count := scaleCount_eq (numOf b)
  rw [magnitude] at count
  have signed := value_signed (numOf b)
  obtain ⟨least, most⟩ := finite_abs ha some
  have nonzero : scaleCount (numOf b) ≠ 0 := by
    rw [count]
    split_ifs <;> omega
  refine ⟨_, (calcScale_finite ha hb some).trans (if_neg nonzero), rfl, fun plus => ?_, fun minus => ?_⟩
  · have notNeg : ¬(numOf b).neg = true := fun neg => by
      rw [if_pos neg] at signed
      linarith
    rw [if_neg notNeg] at count
    rw [value_scaled, abs_mul, abs_of_pos (two_zpow_pos _), count, ← zpow_natCast (2 : ℚ) 50000]
    exact scaled_large least (by norm_num)
  · have neg : (numOf b).neg = true := by
      by_contra notNeg
      rw [if_neg notNeg] at signed
      linarith
    rw [if_pos neg] at count
    rw [value_scaled, abs_mul, abs_of_pos (two_zpow_pos _), count, ← zpow_natCast (2 : ℚ) 50000]
    exact ⟨mul_pos (abs_pos.mpr some) (two_zpow_pos _), scaled_small most (by norm_num)⟩

/-! ### NaN operands -/

theorem quieted_bit (x : Ext) (j : ℕ) : (quieted x).getLsbD j = (x.getLsbD j || decide (j = 62)) := by
  unfold quieted
  rw [BitVec.getLsbD_or, BitVec.getLsbD_twoPow]
  by_cases same : j = 62
  · subst same
    rfl
  · rw [decide_eq_false same, decide_eq_false (Ne.symm same), Bool.and_false]

theorem quieted_exp (x : Ext) : extExp (quieted x) = extExp x := by
  unfold extExp
  congr 1
  refine BitVec.eq_of_getLsbD_eq fun j hj => ?_
  rw [BitVec.getLsbD_extractLsb', BitVec.getLsbD_extractLsb', quieted_bit, decide_eq_false (p := 64 + j = 62) (by omega),
    Bool.or_false]

theorem quieted_low (x : Ext) : (quieted x).toNat % 2 ^ 62 = x.toNat % 2 ^ 62 := by
  refine Nat.eq_of_testBit_eq fun j => ?_
  have bit := quieted_bit x j
  unfold BitVec.getLsbD at bit
  rw [Nat.testBit_mod_two_pow, Nat.testBit_mod_two_pow, bit]
  by_cases small : j < 62
  · rw [decide_eq_false (p := j = 62) (by omega), Bool.or_false]
  · rw [decide_eq_false small, Bool.false_and, Bool.false_and]

/-- A NaN made quiet keeps its sign and the rest of its fraction. -/
theorem quieted_nan {x : Ext} (nan : isNan x = true) :
    extCls (quieted x) = .qnan ∧ extNeg (quieted x) = extNeg x ∧ (quieted x).toNat % 2 ^ 62 = x.toNat % 2 ^ 62 := by
  obtain ⟨exponent, high⟩ := (isNan_eq x).mp nan
  refine ⟨(extCls_qnan_iff _).mpr ⟨(quieted_exp x).trans exponent, ?_⟩, ?_, quieted_low x⟩
  · have integer : (quieted x).getLsbD 63 = true := by
      rw [quieted_bit, getLsbD_63, decide_eq_true high.le]
      rfl
    have quiet : (quieted x).getLsbD 62 = true := by
      rw [quieted_bit, decide_eq_true rfl, Bool.or_true]
    rw [getLsbD_63, decide_eq_true_eq] at integer
    rw [getLsbD_62, decide_eq_true_eq] at quiet
    have bound := extSig_lt (quieted x)
    omega
  · unfold extNeg
    rw [quieted_bit, decide_eq_false (by decide), Bool.or_false]

/-- Whether #IA goes with the result of NaN operands. -/
def nanInvalid (a b : Ext) : Bool :=
  decide (extCls a = .snan) || decide (extCls b = .snan) || decide (extCls a = .unsupported) || decide (extCls b = .unsupported)

theorem badOperands_nan {a b : Ext} (nan : (isNan a || isNan b) = true) :
    badOperands a b = some (.nan (nanOf a b) (nanInvalid a b)) := by
  unfold badOperands
  have same : (decide (extCls a = .unsupported) || decide (extCls b = .unsupported) ||
      (decide (extCls a = .snan) || decide (extCls b = .snan))) = nanInvalid a b := by
    unfold nanInvalid
    rw [Bool.or_comm, Bool.or_assoc (decide (extCls a = .snan) || decide (extCls b = .snan))]
  simp only [nan, if_true, same]

/-- The operations give the NaN that is chosen. -/
theorem nan_result {a b x : Ext} (nan : (isNan a || isNan b) = true) (chosen : nanOf a b = quieted x) (rc : Rc) :
    calcScale a b = .nan (quieted x) (nanInvalid a b) ∧ ∀ op, calcOp op rc a b = .nan (quieted x) (nanInvalid a b) := by
  have found := badOperands_nan nan
  rw [chosen] at found
  refine ⟨?_, fun op => ?_⟩
  · unfold calcScale
    simp only [found]
  · unfold calcOp
    simp only [found]

section

variable {a b : Ext}

theorem nanOf_left (ha : isNan a = true) (hb : isNan b = false) : nanOf a b = quieted a := by
  unfold nanOf
  rw [ha, hb]
  rfl

theorem nanOf_right (ha : isNan a = false) (hb : isNan b = true) : nanOf a b = quieted b := by
  unfold nanOf
  rw [ha, hb]
  rfl

theorem nanOf_both (ha : isNan a = true) (hb : isNan b = true) : nanOf a b =
    if extSig a = extSig b then quieted (if extNeg a then b else a) else quieted (if extSig b < extSig a then a else b) := by
  unfold nanOf
  rw [ha, hb]
  rfl

/-- The reversed operations exchange the roles, but for the NaN that is chosen. -/
theorem calcOp_reversed {op rev : FOp} {rc : Rc} (plain : badOperands a b = none → badOperands b a = none →
    calcOp rev rc a b = calcOp op rc b a) : calcOp rev rc a b = calcOp op rc b a ∨ isNan a = true ∨ isNan b = true := by
  by_cases nanA : isNan a = true
  · exact .inr (.inl nanA)
  · by_cases nanB : isNan b = true
    · exact .inr (.inr nanB)
    · left
      have left : badOperands a b =
          if decide (extCls a = .unsupported) || decide (extCls b = .unsupported) then some .ia else none := by
        unfold badOperands
        simp [nanA, nanB]
      have right : badOperands b a =
          if decide (extCls a = .unsupported) || decide (extCls b = .unsupported) then some .ia else none := by
        unfold badOperands
        simp [nanA, nanB, Bool.or_comm]
      by_cases bad : (decide (extCls a = .unsupported) || decide (extCls b = .unsupported)) = true
      · rw [if_pos bad] at left right
        unfold calcOp
        simp only [left, right]
      · rw [if_neg bad] at left right
        exact plain left right

end

section

variable {a b : Ext} {rc : Rc}

/-- An operation on operands that are no NaN and not unsupported. -/
theorem calcOp_plain (none : badOperands a b = none) :
    calcOp .add rc a b = calcAdd rc a b false ∧ calcOp .sub rc a b = calcAdd rc a b true ∧
      calcOp .subr rc a b = calcAdd rc b a true ∧ calcOp .mul rc a b = calcMul a b ∧ calcOp .div rc a b = calcDiv a b ∧
      calcOp .divr rc a b = calcDiv b a := by
  unfold calcOp
  simp only [none, and_self]

end

/-! ### The values -/

/-- The sums, products and quotients of O55. -/
theorem arithmetic_values (rc : Rc) (a b : Ext) (ha : Finite a) :
    (Finite b → value (numOf a) + value (numOf b) ≠ 0 →
      ∃ n, calcOp .add rc a b = .num n ∧ value n = value (numOf a) + value (numOf b)) ∧
    (Finite b → value (numOf a) - value (numOf b) ≠ 0 →
      ∃ n, calcOp .sub rc a b = .num n ∧ value n = value (numOf a) - value (numOf b)) ∧
    (Finite b → value (numOf a) ≠ 0 → value (numOf a) - value (numOf b) = 0 →
      calcOp .sub rc a b = .special (extZero (decide (rc = .down)))) ∧
    (Finite b → ∃ n, calcOp .mul rc a b = .num n ∧ value n = value (numOf a) * value (numOf b)) ∧
    (Finite b → value (numOf a) ≠ 0 → value (numOf b) ≠ 0 → ∃ n, calcOp .div rc a b = .num n ∧
      n.neg = (extNeg a ^^ extNeg b) ∧ 2 ^ 64 ≤ n.mant ∧ Brackets n (value (numOf a) / value (numOf b))) := by
  have plus : ∀ v : ℚ, signOf false * v = v := fun v => one_mul v
  have minus : ∀ u v : ℚ, u + signOf true * v = u - v := fun u v => by
    have sign : signOf true = -1 := rfl
    rw [sign]
    ring
  refine ⟨fun hb some => ?_, fun hb some => ?_, fun hb some zero => ?_, fun hb => ?_, fun hb someA someB => ?_⟩
  all_goals obtain ⟨opAdd, opSub, -, opMul, opDiv, -⟩ := calcOp_plain (rc := rc) (badOperands_none (.inl ha) (.inl hb))
  · have sum := calcAdd_value ha hb rc false
    rw [plus] at sum
    rw [opAdd]
    exact sum some
  · have difference := calcAdd_value ha hb rc true
    rw [minus] at difference
    rw [opSub]
    exact difference some
  · rw [opSub]
    exact calcAdd_cancels ha hb rc true some (by rw [minus]; exact zero)
  · exact ⟨_, opMul.trans (calcMul_finite ha hb), mul_value _ _⟩
  · obtain ⟨bits, near⟩ := div_brackets (mant_pos someA) (mant_pos someB) (mant_lt b)
    exact ⟨_, opDiv.trans (calcDiv_finite ha hb someA someB), rfl, bits, near⟩

theorem value_neg {n : Machine.Num} : value n < 0 ↔ n.neg = true ∧ n.mant ≠ 0 := by
  have signed := value_signed n
  have zero := value_eq_zero_iff n
  have nonneg := abs_nonneg (value n)
  cases neg : n.neg with
  | false =>
    rw [neg, if_neg Bool.false_ne_true] at signed
    exact iff_of_false (by linarith) (by simp)
  | true =>
    rw [neg, if_pos rfl] at signed
    refine ⟨fun minus => ⟨rfl, fun none => ?_⟩, fun some => ?_⟩
    · rw [zero.mpr none] at minus
      exact lt_irrefl _ minus
    · have pos : 0 < |value n| := abs_pos.mpr fun none => some.2 (zero.mp none)
      linarith

/-- The square root of a finite value that is not zero. -/
theorem sqrt_values {a : Ext} (ha : Finite a) :
    (value (numOf a) > 0 → ∃ n, calcSqrt a = .num n ∧ n.neg = false ∧ 2 ^ 64 ≤ n.mant ∧ BracketsRoot n (value (numOf a))) ∧
    (value (numOf a) < 0 → calcSqrt a = .ia) := by
  have none : badOperand a = none := badOperands_none (.inl ha) (.inl ha)
  have sign : (numOf a).neg = extNeg a := rfl
  refine ⟨fun plus => ?_, fun minus => ?_⟩
  · have positive := mant_pos plus.ne'
    have notNeg : extNeg a = false := by
      rw [← sign, ← Bool.not_eq_true]
      exact fun neg => absurd (value_neg.mpr ⟨neg, positive.ne'⟩) (not_lt.mpr plus.le)
    obtain ⟨bits, near⟩ := sqrt_brackets positive (mant_lt a) notNeg
    refine ⟨(numOf a).sqrt, ?_, rfl, bits, near⟩
    unfold calcSqrt
    simp only [none]
    rcases finite_some ha plus.ne' with ha | ha <;> simp only [ha, notNeg]
  · have neg : extNeg a = true := (value_neg.mp minus).1
    unfold calcSqrt
    simp only [none]
    rcases finite_some ha minus.ne with ha | ha <;> simp only [ha, neg]

/-- FSCALE of O55. -/
theorem scale_values (a b : Ext) :
    (Finite a → value (numOf a) ≠ 0 → Finite b → |value (numOf b)| < 70001 →
      ((if value (numOf b) < 0 then ⌈value (numOf b)⌉ else ⌊value (numOf b)⌋) = 0 → calcScale a b = .special a) ∧
      ((if value (numOf b) < 0 then ⌈value (numOf b)⌉ else ⌊value (numOf b)⌋) ≠ 0 → ∃ n, calcScale a b = .num n ∧
        value n = value (numOf a) *
          (2 : ℚ) ^ (if value (numOf b) < 0 then ⌈value (numOf b)⌉ else ⌊value (numOf b)⌋))) := by
  intro ha some hb small
  rw [← scaleCount_small (numOf_top_of_zero hb) small]
  exact ⟨fun none => (calcScale_finite ha hb some).trans (if_pos none),
    fun count => ⟨_, (calcScale_finite ha hb some).trans (if_neg count), value_scaled _ _⟩⟩

/-- NaN operands of O55. -/
theorem nan_values (rc : Rc) (a b : Ext) :
    let both := fun x : Ext => calcScale a b = .nan (quieted x) (nanInvalid a b) ∧
      ∀ op, calcOp op rc a b = .nan (quieted x) (nanInvalid a b)
    (isNan a = true → isNan b = false → both a) ∧ (isNan b = true → isNan a = false → both b) ∧
      (isNan a = true → isNan b = true → (extSig b < extSig a → both a) ∧ (extSig a < extSig b → both b) ∧
        (extSig a = extSig b → both (if extNeg a then b else a))) := by
  refine ⟨fun ha hb => ?_, fun hb ha => ?_, fun ha hb => ⟨fun less => ?_, fun less => ?_, fun same => ?_⟩⟩
  · exact nan_result (by rw [ha]; rfl) (nanOf_left ha hb) rc
  · exact nan_result (by rw [hb, Bool.or_true]) (nanOf_right ha hb) rc
  · refine nan_result (by rw [ha]; rfl) ?_ rc
    rw [nanOf_both ha hb, if_neg (by omega), if_pos less]
  · refine nan_result (by rw [ha]; rfl) ?_ rc
    rw [nanOf_both ha hb, if_neg (by omega), if_neg (by omega)]
  · refine nan_result (by rw [ha]; rfl) ?_ rc
    rw [nanOf_both ha hb, if_pos same]

/-- The delivery of a number, of O55. -/
theorem delivery_values (s : State) (i : BitVec 3) (p : ℕ) (den : Bool) (bits : 0 < p ∧ p ≤ 64) {n : Machine.Num}
    (some : n.mant ≠ 0) :
    let f0 := raised s.fpu false den
    let rc := rcOf s.fpu.fcw
    let r := roundPrec p rc n
    (-16382 ≤ topExp r.mant r.exp → topExp r.mant r.exp ≤ 16383 →
      ∃ x, deliverCalc i p den (.num n) s = .ok true { s with fpu := (rounded f0 r).setSt i x } ∧
        value (numOf x) = value (r.num n.neg) ∧ extCls x = .normal) ∧
    (topExp r.mant r.exp < -16382 → s.fpu.fcw.getLsbD 4 = true →
      let t := roundAt rc n (-16382 - p + 1)
      ∃ x, deliverCalc i p den (.num n) s = .ok true { s with fpu := (underflowFlag (rounded f0 t) t.inexact).setSt i x } ∧
        value (numOf x) = value (t.num n.neg)) ∧
    (16383 < topExp r.mant r.exp → s.fpu.fcw.getLsbD 3 = true →
      ∃ x, deliverCalc i p den (.num n) s = .ok true { s with fpu := (overflowFlag f0 (overflowToInf rc n.neg)).setSt i x } ∧
        (if overflowToInf rc n.neg then x = extInf n.neg
         else value (numOf x) = value ({ neg := n.neg, mant := 2 ^ p - 1, exp := 16384 - p } : Machine.Num))) := by
  intro f0 rc r
  obtain ⟨-, -, larger⟩ := roundPrec_range (rc := rc) some bits.1
  refine ⟨fun low high => ?_, fun tiny masks => ?_, fun large masks => ?_⟩
  · obtain ⟨same, normal⟩ := encodeExt_roundPrec some bits low high n.neg
    exact ⟨_, deliverCalc_num some (deliverRounded_normal (f := fmtExt p) (r := r) high low), same, normal⟩
  · intro t
    refine ⟨encodeExt n.neg t.mant t.exp, deliverCalc_num some ?_,
      encodeExt_tiny bits (fun _ => larger.trans_lt tiny) n.neg⟩
    exact deliverRounded_underflow (f := fmtExt p) (s := { s with fpu := f0 }) (r := r) (d := t)
      (show (1 : ℤ) - 16383 ≤ 16383 by decide) tiny masks
  · refine ⟨if overflowToInf rc n.neg then extInf n.neg else encodeExt n.neg (fmtExt p).largest.1 (fmtExt p).largest.2,
      deliverCalc_num some (deliverRounded_overflow (f := fmtExt p) (s := { s with fpu := f0 }) (r := r) large masks), ?_⟩
    have largest : (fmtExt p).largest = (2 ^ p - 1, (16384 : ℤ) - p) := by
      unfold Fmt.largest fmtExt
      simp only [Prod.mk.injEq, true_and]
      ring
    by_cases infinite : overflowToInf rc n.neg = true
    · rw [if_pos infinite, if_pos infinite]
    · rw [if_neg infinite, if_neg infinite, largest]
      exact encodeExt_largest bits n.neg

/-- Settles O55: the values of the operations, then their delivery. -/
theorem fpuValuesDelivered : Obligations.FpuValuesDelivered := by
  refine ⟨fun rc a b => ?_, fun s i p den precise => ?_⟩
  · intro finite va vb
    refine ⟨fun ha => (arithmetic_values rc a b ha).1, fun ha => (arithmetic_values rc a b ha).2.1,
      fun ha => (arithmetic_values rc a b ha).2.2.1, fun ha => (arithmetic_values rc a b ha).2.2.2.1,
      fun ha => (arithmetic_values rc a b ha).2.2.2.2, fun ha some hb => ?_, fun ha hb => ?_, fun ha hb => ?_, fun ha hb => ?_,
      fun ha => (sqrt_values ha).1, fun ha => (sqrt_values ha).2, calcOp_reversed fun left right => ?_,
      calcOp_reversed fun left right => ?_, ?_, ?_⟩
    · exact (calcOp_plain (badOperands_none (.inl ha) (.inl (.inl hb)))).2.2.2.2.1.trans (calcDiv_zero ha some hb)
    · rw [(calcOp_plain (badOperands_none (.inl (.inl ha)) (.inl (.inl hb)))).2.2.2.2.1]
      unfold calcDiv
      simp only [ha, hb]
    · rw [(calcOp_plain (badOperands_none (.inr ha) (.inr hb))).1]
      unfold calcAdd
      simp only [ha, hb, Bool.xor_false]
    · rw [(calcOp_plain (badOperands_none (.inr ha) (.inl (.inl hb)))).2.2.2.1]
      unfold calcMul
      simp only [ha, hb]
    · rw [(calcOp_plain left).2.2.1, (calcOp_plain right).2.1]
    · rw [(calcOp_plain left).2.2.2.2.2, (calcOp_plain right).2.2.2.2.1]
    · exact ⟨scale_values a b, fun ha some hb large => calcScale_beyond ha hb some large,
        fun hb ha => calcScale_fixed hb ha, fun hb plus ha => calcScale_up hb plus ha,
        fun hb minus ha => calcScale_down hb minus ha⟩
    · obtain ⟨left, right, both⟩ := nan_values rc a b
      exact ⟨left, right, both, quieted_nan⟩
  · have bits : 0 < p ∧ p ≤ 64 := by omega
    exact ⟨fun n some => delivery_values s i p den bits some, fun x => deliverCalc_special p den x,
      fun x ia => deliverCalc_nan p den x ia, deliverCalc_ia p den,
      fun neg mask => (deliverCalc_zdiv p den neg).trans (if_neg (by rw [mask]; exact Bool.false_ne_true)),
      fun neg mask => (deliverCalc_zdiv p den neg).trans (if_pos mask)⟩

end Sys2Proof.Machine
end

section
/-!
PROOFS. FABS, FCHS, FRNDINT, FXTRACT, FPREM and FPREM1 (O57).
-/

namespace Sys2Proof.Machine

open Claims

/-! ### Registers after a write of ST(0) and after a push -/

/-- Control word, registers and TOP are the same. -/
structure SameRegs (f g : Fpu) : Prop where
  fcw : g.fcw = f.fcw
  fpr : g.fpr = f.fpr
  tags : g.tags = f.tags
  top : g.fsw.top = f.fsw.top

section

variable {f g : Fpu} (h : SameRegs f g)

include h

theorem SameRegs.st (i : BitVec 3) : g.st i = f.st i := by
  unfold Fpu.st Fpu.phys
  rw [h.fpr, h.top]

theorem SameRegs.setSt (x : Ext) :
    KeepsOthers f (g.setSt 0 x) [f.fsw.top] ∧ (g.setSt 0 x).st 0 = x ∧ (g.setSt 0 x).fsw = g.fsw := by
  have place : g.phys 0 = f.fsw.top := by
    rw [phys_zero, h.top]
  refine ⟨⟨h.fcw, fun j other => ?_⟩, ?_, rfl⟩
  · have ne : ¬j = f.fsw.top := fun same => other (List.mem_singleton.mpr same)
    have registers : (g.setSt 0 x).fpr = g.fpr.set f.fsw.top x := by rw [← place]; rfl
    have tags : (g.setSt 0 x).tags = g.tags.set f.fsw.top (tagOf x) := by rw [← place]; rfl
    rw [registers, tags, Oct.get_set, Oct.get_set, if_neg ne, if_neg ne, h.fpr, h.tags]
    exact ⟨rfl, rfl⟩
  · have read : (g.setSt 0 x).st 0 = (g.fpr.set (g.phys 0) x).get (g.phys 0) := rfl
    rw [read, Oct.get_set, if_pos rfl]

theorem SameRegs.push (x y : Ext) :
    KeepsOthers f (stacked (g.setSt 0 x) y) [f.fsw.top, f.fsw.top - 1] ∧ (stacked (g.setSt 0 x) y).st 1 = x ∧
      (stacked (g.setSt 0 x) y).st 0 = y ∧ (stacked (g.setSt 0 x) y).fsw = { g.fsw with top := f.fsw.top - 1 } := by
  have place : g.phys 0 = f.fsw.top := by
    rw [phys_zero, h.top]
  have registers : (stacked (g.setSt 0 x) y).fpr = (g.fpr.set f.fsw.top x).set (f.fsw.top - 1) y := by
    have written : (stacked (g.setSt 0 x) y).fpr = (g.fpr.set (g.phys 0) x).set (g.fsw.top - 1) y := rfl
    rw [written, place, h.top]
  have tags : (stacked (g.setSt 0 x) y).tags = (g.tags.set f.fsw.top (tagOf x)).set (f.fsw.top - 1) (tagOf y) := by
    have written : (stacked (g.setSt 0 x) y).tags = (g.tags.set (g.phys 0) (tagOf x)).set (g.fsw.top - 1) (tagOf y) := rfl
    rw [written, place, h.top]
  have word : (stacked (g.setSt 0 x) y).fsw = { g.fsw with top := f.fsw.top - 1 } := by
    rw [← h.top]
    rfl
  have below : ¬f.fsw.top = f.fsw.top - 1 := by bv_omega
  have back : f.fsw.top - 1 + 1 = f.fsw.top := by bv_omega
  refine ⟨⟨h.fcw, fun j other => ?_⟩, ?_, ?_, word⟩
  · rw [List.mem_cons, List.mem_singleton, not_or] at other
    rw [registers, tags, Oct.get_set, Oct.get_set, Oct.get_set, Oct.get_set, if_neg other.2, if_neg other.2, if_neg other.1,
      if_neg other.1, h.fpr, h.tags]
    exact ⟨rfl, rfl⟩
  · unfold Fpu.st Fpu.phys
    rw [registers, word, back, Oct.get_set, if_neg below, Oct.get_set, if_pos rfl]
  · have top : (stacked (g.setSt 0 x) y).fsw.top = f.fsw.top - 1 := by rw [word]
    unfold Fpu.st
    rw [phys_zero, registers, top, Oct.get_set, if_pos rfl]

theorem SameRegs.raised (ie de : Bool) : SameRegs f (raised g ie de) := ⟨h.fcw, h.fpr, h.tags, h.top⟩

theorem SameRegs.rounded (r : Rounded) : SameRegs f (rounded g r) := by
  unfold Claims.rounded
  split_ifs
  · exact ⟨h.fcw, h.fpr, h.tags, h.top⟩
  · exact h

end

theorem sameRegs_numeric (s : State) : SameRegs s.fpu (numericState s).fpu := ⟨rfl, rfl, rfl, rfl⟩

/-! ### Sign -/

theorem absolute_eq (x : Ext) : absolute x = BitVec.ofNat 80 (x.toNat % 2 ^ 79) := by
  unfold absolute
  refine BitVec.eq_of_getLsbD_eq fun j hj => ?_
  rw [BitVec.getLsbD_and, BitVec.getLsbD_not, BitVec.getLsbD_twoPow, BitVec.getLsbD_ofNat, Nat.testBit_mod_two_pow,
    decide_eq_true hj, Bool.true_and, Bool.true_and]
  have bit : x.toNat.testBit j = x.getLsbD j := rfl
  rw [bit]
  by_cases low : j < 79
  · rw [decide_eq_true low, decide_eq_false (p := 79 = j) (by omega)]
    simp
  · rw [decide_eq_false low, decide_eq_true (p := 79 = j) (by omega)]
    simp

theorem sign_runs {s : State} (ready : FpuReady s) (present : s.fpu.empty 0 = false) {i : Instr} (h : i = .fabs ∨ i = .fchs) :
    exec i s = .next { numericState s with
      fpu := (numericState s).fpu.setSt 0 (if i = .fabs then BitVec.ofNat 80 ((s.fpu.st 0).toNat % 2 ^ 79)
        else s.fpu.st 0 ^^^ BitVec.twoPow 80 79) } := by
  rcases h with rfl | rfl
  · rw [if_pos rfl, ← absolute_eq]
    exact runInstr_of_ok (body := onSign absolute) (unary_some ready _ present)
  · rw [if_neg nofun]
    exact runInstr_of_ok (body := onSign negated) (unary_some ready _ present)

/-! ### FRNDINT -/

/-- An integral value fills the register format exactly. -/
theorem encodeExt_integral {x : Ext} (normal : extCls x = .normal) (rc : Rc) (neg : Bool) :
    value (numOf (encodeExt neg (toIntegral rc (numOf x)).1 0)) = value ((roundAt rc (numOf x) 0).num neg) := by
  have finite : Finite x := .inr (.inr normal)
  have whole := le_roundAt_exp rc (numOf x) 0
  have magnitude : (toIntegral rc (numOf x)).1 = (roundAt rc (numOf x) 0).mant * 2 ^ (roundAt rc (numOf x) 0).exp.toNat := rfl
  have same : value ({ neg := neg, mant := (toIntegral rc (numOf x)).1, exp := 0 } : Machine.Num) =
      value ((roundAt rc (numOf x) 0).num neg) := by
    rw [value_signed, abs_value, zpow_zero, mul_one, toIntegral_abs rc _ neg]
    exact (value_signed ((roundAt rc (numOf x) 0).num neg)).symm
  rw [← same]
  have bits := mant_lt x
  have exponent := finite_exp finite
  by_cases coarse : 0 ≤ (numOf x).exp
  · rw [roundAt_exact coarse] at magnitude
    dsimp only at magnitude
    refine encodeExt_value (by norm_num) (fun positive => ?_) ?_
    · have some : (numOf x).mant ≠ 0 := fun none => positive (by rw [magnitude, none, Nat.zero_mul])
      have less : (toIntegral rc (numOf x)).1 < 2 ^ (64 + (numOf x).exp.toNat) := by
        rw [magnitude, Nat.pow_add]
        exact Nat.mul_lt_mul_of_pos_right bits (Nat.two_pow_pos _)
      have top := topExp_le_of_lt (e := 0) positive less
      omega
    · rw [magnitude]
      by_cases none : (numOf x).mant = 0
      · rw [none, Nat.zero_mul]
        exact Nat.dvd_zero _
      · have log : ((numOf x).mant * 2 ^ (numOf x).exp.toNat).log2 + 1 ≤ 64 + (numOf x).exp.toNat := by
          have less : (numOf x).mant * 2 ^ (numOf x).exp.toNat < 2 ^ (64 + (numOf x).exp.toNat) := by
            rw [Nat.pow_add]
            exact Nat.mul_lt_mul_of_pos_right bits (Nat.two_pow_pos _)
          exact (Nat.log2_lt (Nat.mul_ne_zero none (Nat.two_pow_pos _).ne')).mpr less
        exact (Nat.pow_dvd_pow 2 (by omega)).trans (Nat.dvd_mul_left _ _)
  · obtain ⟨-, -, exp⟩ := roundAt_coarse (rc := rc) (not_le.mp coarse)
    have most : (roundAt rc (numOf x) 0).mant ≤ 2 ^ 64 := by
      refine roundAt_le (not_le.mp coarse) fun some => ?_
      have top := topExp_le_of_lt (e := (numOf x).exp) some bits
      have def_ : (numOf x).top = topExp (numOf x).mant (numOf x).exp := rfl
      push_cast at top ⊢
      omega
    rw [exp, Int.toNat_zero, Nat.pow_zero, Nat.mul_one] at magnitude
    rw [← magnitude] at most
    refine encodeExt_value (by norm_num) (fun positive => ?_) (two_pow_dvd_of_le_64 most (le_refl _))
    have top := topExp_le_of_lt (p := 65) (e := 0) positive (by omega)
    omega

theorem frndint_runs {s : State} (ready : FpuReady s) (present : s.fpu.empty 0 = false) (normal : extCls (s.fpu.st 0) = .normal) :
    exec .frndint s = .next { numericState s with
      fpu := (rounded (numericState s).fpu (roundAt (rcOf s.fpu.fcw) (numOf (s.fpu.st 0)) 0)).setSt 0
        (encodeExt (extNeg (s.fpu.st 0)) (toIntegral (rcOf s.fpu.fcw) (numOf (s.fpu.st 0))).1 0) } := by
  have ordinary : Ordinary (s.fpu.st 0) := .inl (.inr (.inr normal))
  have plain : badOperand (s.fpu.st 0) = none := badOperands_none ordinary ordinary
  refine runInstr_of_ok (body := roundToInt) ((unary_some ready _ present).trans
    ((bind_of_ok (run_roundingControl _) _).trans ?_))
  have den : (FVal.ofExt (s.fpu.st 0)).den = false := by
    unfold FVal.ofExt
    rw [normal]
    rfl
  have operand : (FVal.ofExt (s.fpu.st 0)).x = s.fpu.st 0 := rfl
  simp only [operand, plain, normal, den]
  refine (bind_of_ok (run_denormalIf _ _) _).trans ?_
  rw [raised_none]
  exact bind_of_ok (inexactIf_rounded (roundAt (rcOf s.fpu.fcw) (numOf (s.fpu.st 0)) 0) _) _

/-! ### FXTRACT -/

theorem fxtract_runs {s : State} (ready : FpuReady s) (present : s.fpu.empty 0 = false) (room : s.fpu.empty 7 = true)
    (normal : extCls (s.fpu.st 0) = .normal) : exec .fxtract s = .next { numericState s with
      fpu := stacked ((numericState s).fpu.setSt 0 (intToExt (numOf (s.fpu.st 0)).top))
        (encodeExt (extNeg (s.fpu.st 0)) (numOf (s.fpu.st 0)).mant (-((numOf (s.fpu.st 0)).mant.log2 : Int))) } := by
  have ordinary : Ordinary (s.fpu.st 0) := .inl (.inr (.inr normal))
  have plain : badOperand (s.fpu.st 0) = none := badOperands_none ordinary ordinary
  have operand := run_stOperand 0 (numericState s)
  rw [show (numericState s).fpu.empty 0 = false from present, if_neg Bool.false_ne_true] at operand
  refine runInstr_of_ok (body := extract) ((numeric_drawn ready _).trans ?_)
  unfold extracting
  refine (bind_of_ok (run_getFpu _) _).trans ((bind_of_ok operand _).trans ((congrFun (if_pos room) _).trans ?_))
  have den : (FVal.ofExt (s.fpu.st 0)).den = false := by
    unfold FVal.ofExt
    rw [normal]
    rfl
  have operandX : (FVal.ofExt ((numericState s).fpu.st 0)) = FVal.ofExt (s.fpu.st 0) := rfl
  have operand' : (FVal.ofExt (s.fpu.st 0)).x = s.fpu.st 0 := rfl
  simp only [operandX, operand', plain, normal, den]
  refine (bind_of_ok (run_denormalIf _ _) _).trans ?_
  rw [raised_none]
  unfold replaceAndPush
  refine (bind_of_ok (run_setSt _ _ _) _).trans ((run_updFpu _ _).trans ?_)
  rw [pushed_eq]
  rfl

/-- The significand and the exponent of a normal number. -/
theorem extract_values {x : Ext} (normal : extCls x = .normal) :
    value (numOf (intToExt (numOf x).top)) = (numOf x).top ∧
      value (numOf x) = value (numOf (encodeExt (extNeg x) (numOf x).mant (-((numOf x).mant.log2 : Int)))) * 2 ^ (numOf x).top ∧
      1 ≤ |value (numOf (encodeExt (extNeg x) (numOf x).mant (-((numOf x).mant.log2 : Int))))| ∧
      |value (numOf (encodeExt (extNeg x) (numOf x).mant (-((numOf x).mant.log2 : Int))))| < 2 := by
  have finite : Finite x := .inr (.inr normal)
  have bits := mant_lt x
  have exponent := finite_exp finite
  have some : (numOf x).mant ≠ 0 := by
    have high := ((extCls_normal_iff x).mp normal).2.2
    have mant : (numOf x).mant = extSig x := rfl
    omega
  have log : (numOf x).mant.log2 < 64 := (Nat.log2_lt some).mpr bits
  have top : (numOf x).top = (numOf x).exp + (numOf x).mant.log2 := rfl
  have zero : ({ neg := extNeg x, mant := (numOf x).mant, exp := -((numOf x).mant.log2 : Int) } : Machine.Num).top = 0 :=
    neg_add_cancel _
  have same := encodeExt_short (neg := extNeg x) (mant := (numOf x).mant) (e := -((numOf x).mant.log2 : Int)) (by omega)
    (by omega) bits
  obtain ⟨low, high⟩ := top_bounds
    (n := { neg := extNeg x, mant := (numOf x).mant, exp := -((numOf x).mant.log2 : Int) }) some
  rw [zero] at low high
  norm_num at low high
  rw [same]
  refine ⟨intToExt_value (by omega), ?_, low, high⟩
  have sum : (numOf x).exp = -((numOf x).mant.log2 : ℤ) + (numOf x).top := by
    rw [top]
    ring
  rw [value_eq, value_eq, mul_assoc _ ((2 : ℚ) ^ _), ← zpow_add₀ (by norm_num), ← sum]
  rfl

/-! ### FPREM and FPREM1 -/

/-- What FPREM and FPREM1 compute: the remainder `m` by the quotient `Q`. -/
structure RemainderOf (nearest : Bool) (a b m : Machine.Num) (Q : ℕ) : Prop where
  exact : value m = value a - (if a.neg = b.neg then 1 else -1) * Q * value b
  exp : m.exp = min a.exp b.exp
  short : m.mant < 2 ^ 64
  truncated : nearest = false → |value m| < |value b| ∧ 0 ≤ value m * value a
  closest : nearest = true → |value m| ≤ |value b| / 2

theorem value_sign (n : Machine.Num) : value n = signOf n.neg * |value n| := by
  rw [abs_value, value_eq, mul_assoc]

theorem signOf_product (a b : Bool) : (if a = b then (1 : ℚ) else -1) = signOf a * signOf b := by
  cases a <;> cases b <;> simp [signOf]

/-- Significands at a common exponent, with quotient and remainder. -/
theorem remParts_spec {a b : Machine.Num} (hb : b.mant ≠ 0) (shortA : a.mant < 2 ^ 64) (shortB : b.mant < 2 ^ 64) :
    ∃ q r n e, remParts a b = (q, r, e) ∧ n = b.mant * 2 ^ (b.exp - e).toNat ∧ e = min a.exp b.exp ∧ r < n ∧ r < 2 ^ 64 ∧
      |value a| = (q * n + r) * 2 ^ e ∧ |value b| = n * 2 ^ e := by
  have pos : 0 < b.mant * 2 ^ (b.exp - min a.exp b.exp).toNat := Nat.mul_pos (Nat.pos_of_ne_zero hb) (Nat.two_pow_pos _)
  have scaled : ∀ c : Machine.Num, min a.exp b.exp ≤ c.exp →
      |value c| = (c.mant * 2 ^ (c.exp - min a.exp b.exp).toNat : ℕ) * 2 ^ min a.exp b.exp := fun c least => by
    rw [abs_value, two_zpow_split least]
    push_cast
    ring
  refine ⟨_, _, _, _, rfl, rfl, rfl, Nat.mod_lt _ pos, ?_, ?_, scaled b (min_le_right _ _)⟩
  · rcases le_total a.exp b.exp with h | h
    · rw [min_eq_left h, Int.sub_self, Int.toNat_zero, Nat.pow_zero, Nat.mul_one]
      exact (Nat.mod_le _ _).trans_lt shortA
    · have below := Nat.mod_lt (a.mant * 2 ^ (a.exp - min a.exp b.exp).toNat) pos
      rw [min_eq_right h, Int.sub_self, Int.toNat_zero, Nat.pow_zero, Nat.mul_one] at below ⊢
      exact below.trans shortB
  · rw [scaled a (min_le_left _ _)]
    congr 1
    exact_mod_cast (Nat.div_add_mod' (a.mant * 2 ^ (a.exp - min a.exp b.exp).toNat)
      (b.mant * 2 ^ (b.exp - min a.exp b.exp).toNat)).symm

theorem remainder_spec (nearest : Bool) {a b : Machine.Num} (hb : b.mant ≠ 0) (shortA : a.mant < 2 ^ 64)
    (shortB : b.mant < 2 ^ 64) : RemainderOf nearest a b (remainder nearest a b).1 (remainder nearest a b).2 := by
  obtain ⟨q, r, n, e, parts, divisor, exp, below, short, whole, size⟩ := remParts_spec hb shortA shortB
  have unit := two_zpow_pos e
  have square : signOf b.neg * signOf b.neg = 1 := by cases b.neg <;> simp [signOf]
  have squareA : signOf a.neg * signOf a.neg = 1 := by cases a.neg <;> simp [signOf]
  have less : (r : ℚ) < n := by exact_mod_cast below
  have nonneg : (0 : ℚ) ≤ r := Nat.cast_nonneg r
  have result : remainder nearest a b =
      if nearest && (decide (n < 2 * r) || (decide (n = 2 * r) && decide (q % 2 = 1))) then (⟨!a.neg, n - r, e⟩, q + 1)
      else (⟨a.neg, r, e⟩, q) := by
    unfold remainder
    rw [parts, divisor]
  have valueA : value a = signOf a.neg * ((q * n + r) * 2 ^ e) := by rw [value_sign a, whole]
  have valueB : value b = signOf b.neg * (n * 2 ^ e) := by rw [value_sign b, size]
  rw [result]
  split_ifs with up
  · rw [Bool.and_eq_true] at up
    obtain ⟨mode, far⟩ := up
    have half : n ≤ 2 * r := by
      simp only [Bool.or_eq_true, Bool.and_eq_true, decide_eq_true_eq] at far
      omega
    have cast : ((n - r : ℕ) : ℚ) = n - r := Nat.cast_sub below.le
    have flipped : signOf (!a.neg) = -signOf a.neg := by cases a.neg <;> simp [signOf]
    have atMost : (n : ℚ) ≤ 2 * r := by exact_mod_cast half
    refine ⟨?_, exp, show n - r < 2 ^ 64 by omega, fun trunc => ?_, fun _ => ?_⟩
    · rw [value_eq, signOf_product, valueA, valueB, flipped, cast]
      push_cast
      linear_combination (signOf a.neg * (q + 1) * n * 2 ^ e) * square
    · exact absurd (mode.symm.trans trunc) (by decide)
    · rw [abs_value, size, cast]
      nlinarith
  · refine ⟨?_, exp, short, fun _ => ⟨?_, ?_⟩, fun mode => ?_⟩
    · rw [value_eq, signOf_product, valueA, valueB]
      linear_combination (signOf a.neg * q * n * 2 ^ e) * square
    · rw [abs_value, size]
      exact mul_lt_mul_of_pos_right less unit
    · rw [value_eq, valueA]
      have product : signOf a.neg * r * 2 ^ e * (signOf a.neg * ((q * n + r) * 2 ^ e)) = r * 2 ^ e * ((q * n + r) * 2 ^ e) := by
        linear_combination (r * 2 ^ e * ((q * n + r) * 2 ^ e)) * squareA
      rw [product]
      positivity
    · have near : 2 * r ≤ n := by
        rw [mode, Bool.true_and] at up
        simp only [Bool.or_eq_true, Bool.and_eq_true, decide_eq_true_eq, not_or] at up
        omega
      have atMost : 2 * (r : ℚ) ≤ n := by exact_mod_cast near
      rw [abs_value, size]
      nlinarith

/-- A remainder of zero takes the sign of the dividend. -/
def signedRemainder (neg : Bool) (n : Machine.Num) : Machine.Num := if n.mant = 0 then { n with neg := neg } else n

theorem signedRemainder_spec (m : Machine.Num) (neg : Bool) :
    value (signedRemainder neg m) = value m ∧ (signedRemainder neg m).exp = m.exp ∧ (signedRemainder neg m).mant = m.mant := by
  unfold signedRemainder
  split_ifs with zero
  · refine ⟨?_, rfl, rfl⟩
    rw [(value_eq_zero_iff m).mpr zero, value_eq_zero_iff]
    exact zero
  · exact ⟨rfl, rfl, rfl⟩

/-- The quotient's bits in the codes. -/
def quotientCodes (f : Fpu) (q : ℕ) : Fpu :=
  { f with fsw := { f.fsw with c0 := q.testBit 2, c3 := q.testBit 1, c1 := q.testBit 0, c2 := false } }

theorem partialRem_runs {s : State} (ready : FpuReady s) (first : s.fpu.empty 0 = false) (second : s.fpu.empty 1 = false)
    (nearest : Bool) (normalX : extCls (s.fpu.st 0) = .normal) (normalY : extCls (s.fpu.st 1) = .normal)
    (masks : AllMasked s.fpu) (close : (numOf (s.fpu.st 0)).top - (numOf (s.fpu.st 1)).top < 64) :
    ∃ x, partialRem nearest (past s) = .ok () { numericState s with
        fpu := quotientCodes ((numericState s).fpu.setSt 0 x)
          (remainder nearest (numOf (s.fpu.st 0)) (numOf (s.fpu.st 1))).2 } ∧
      value (numOf x) = value (remainder nearest (numOf (s.fpu.st 0)) (numOf (s.fpu.st 1))).1 := by
  have finiteX : Finite (s.fpu.st 0) := .inr (.inr normalX)
  have finiteY : Finite (s.fpu.st 1) := .inr (.inr normalY)
  have plain := badOperands_none (.inl finiteX) (.inl finiteY)
  have someY : (numOf (s.fpu.st 1)).mant ≠ 0 := by
    have high := ((extCls_normal_iff _).mp normalY).2.2
    have mant : (numOf (s.fpu.st 1)).mant = extSig (s.fpu.st 1) := rfl
    omega
  have spec := remainder_spec nearest someY (mant_lt (s.fpu.st 0)) (mant_lt (s.fpu.st 1))
  obtain ⟨same, exp, mant⟩ := signedRemainder_spec (remainder nearest (numOf (s.fpu.st 0)) (numOf (s.fpu.st 1))).1
    (extNeg (s.fpu.st 0))
  have lowX := finite_exp finiteX
  have lowY := finite_exp finiteY
  have exponent := exp.trans spec.exp
  have short := mant.trans_lt spec.short
  obtain ⟨x, delivers, result⟩ := deliverCalc_exact (i := 0) (den := false) (s := numericState s)
    (n := signedRemainder (extNeg (s.fpu.st 0)) (remainder nearest (numOf (s.fpu.st 0)) (numOf (s.fpu.st 1))).1)
    (by omega) (fun some => by
      have top := topExp_le_of_lt (e := min (numOf (s.fpu.st 0)).exp (numOf (s.fpu.st 1)).exp) some short
      unfold Num.top
      rw [exponent]
      omega) short (masks 4 (by decide))
  rw [raised_none] at delivers
  refine ⟨x, (binary0_some ready _ first second).trans ?_, result.trans same⟩
  have denX : (FVal.ofExt (s.fpu.st 0)).den = false := by
    unfold FVal.ofExt
    rw [normalX]
    rfl
  have denY : (FVal.ofExt (s.fpu.st 1)).den = false := by
    unfold FVal.ofExt
    rw [normalY]
    rfl
  have operandX : (FVal.ofExt (s.fpu.st 0)).x = s.fpu.st 0 := rfl
  have operandY : (FVal.ofExt (s.fpu.st 1)).x = s.fpu.st 1 := rfl
  simp only [operandX, operandY, plain, normalX, normalY, denX, denY, close, if_true, Bool.or_false]
  have delivered := bind_of_ok delivers fun _ => skip
  exact bind_of_ok delivered _

/-! ### The theorem -/

theorem exec_unaryOp {s : State} (ready : FpuReady s) {i : Instr} (h : i = .frndint ∨ i = .fxtract ∨ i = .fprem ∨ i = .fprem1) :
    ∃ t, exec i s = .next t ∧ OnlyFpu (past s) t := by
  rcases h with rfl | rfl | rfl | rfl
  · exact NumericOnly.roundToInt.exec ready
  · exact NumericOnly.extract.exec ready
  · exact (NumericOnly.partialRem false).exec ready
  · exact (NumericOnly.partialRem true).exec ready

theorem exec_partialRem {i : Instr} (h : i = .fprem ∨ i = .fprem1) :
    ∃ nearest, (∀ s, exec i s = runInstr (partialRem nearest) s) ∧
    (i = .fprem → nearest = false) ∧ (i = .fprem1 → nearest = true) := by
  rcases h with rfl | rfl
  · exact ⟨false, fun _ => rfl, fun _ => rfl, nofun⟩
  · exact ⟨true, fun _ => rfl, nofun, fun _ => rfl⟩

/-- Settles O57: the signs, completion, then each instruction on normal operands. -/
theorem fpuUnary : Obligations.FpuUnary := by
  intro s ready present x y v w p
  have regs := sameRegs_numeric s
  refine ⟨fun i form => ⟨_, _, _, _, _, sign_runs ready present form⟩, fun i form => exec_unaryOp ready form, fun normal => ?_,
    fun normal room => ?_, fun normalX normalY second masks close i form => ?_⟩
  · refine ⟨_, frndint_runs ready present normal, rfl, ?_⟩
    obtain ⟨others, read, word⟩ := (regs.rounded (roundAt (rcOf s.fpu.fcw) (numOf x) 0)).setSt
      (encodeExt (extNeg x) (toIntegral (rcOf s.fpu.fcw) (numOf x)).1 0)
    have top := (regs.rounded (roundAt (rcOf s.fpu.fcw) (numOf x) 0)).top
    dsimp only
    refine ⟨?_, ?_, others, ?_⟩
    · rw [read]
      exact encodeExt_integral normal _ _
    · rw [word]
      unfold rounded
      cases (roundAt (rcOf s.fpu.fcw) (numOf x) 0).inexact with
      | false => exact (Bool.or_false _).symm
      | true => exact (Bool.or_true _).symm
    · rw [word]
      exact top
  · obtain ⟨others, second, first, word⟩ := regs.push (intToExt (numOf x).top)
      (encodeExt (extNeg x) (numOf x).mant (-((numOf x).mant.log2 : Int)))
    obtain ⟨exponent, product, low, high⟩ := extract_values normal
    refine ⟨_, fxtract_runs ready present room normal, rfl, ?_, others, (numOf x).top, ?_⟩
    · dsimp only
      rw [word]
    · dsimp only
      rw [second, first]
      exact ⟨exponent, product, low, high⟩
  · obtain ⟨nearest, run, truncates, rounds⟩ := exec_partialRem form
    obtain ⟨r, runs, result⟩ := partialRem_runs ready present second nearest normalX normalY masks close
    have someY : (numOf y).mant ≠ 0 := by
      have high := ((extCls_normal_iff _).mp normalY).2.2
      have mant : (numOf y).mant = extSig y := rfl
      omega
    have spec := remainder_spec nearest someY (mant_lt x) (mant_lt y)
    obtain ⟨others, read, word⟩ := regs.setSt r
    refine ⟨_, (remainder nearest (numOf x) (numOf y)).2, (run s).trans (runInstr_of_ok runs), rfl, others, ?_, rfl, rfl,
      rfl, rfl, ?_⟩
    · exact regs.top
    · have final : (quotientCodes ((numericState s).fpu.setSt 0 r) (remainder nearest (numOf x) (numOf y)).2).st 0 = r := read
      dsimp only
      rw [final, result]
      exact ⟨spec.exact, fun is => spec.truncated (truncates is), fun is => spec.closest (rounds is)⟩

end Sys2Proof.Machine
end

section
/-!
PROOFS. Single and double precision images decode to what was encoded (for O53).
-/

namespace Sys2Proof.Machine

open Claims

/-! ### Fields of an image -/

/-- A word of a sign bit, a field of `w` bits and one of `k` bits. -/
theorem fields_of_sum {neg : Bool} {w k E F : ℕ} (hE : E < 2 ^ w) (hF : F < 2 ^ k) :
    (neg.toNat * 2 ^ (w + k) + E * 2 ^ k + F) / 2 ^ k % 2 ^ w = E ∧ (neg.toNat * 2 ^ (w + k) + E * 2 ^ k + F) % 2 ^ k = F ∧
      (neg.toNat * 2 ^ (w + k) + E * 2 ^ k + F) / 2 ^ (w + k) = neg.toNat ∧
      neg.toNat * 2 ^ (w + k) + E * 2 ^ k + F < 2 ^ (w + k + 1) := by
  have small : E * 2 ^ k + F < 2 ^ (w + k) := by
    calc E * 2 ^ k + F < E * 2 ^ k + 2 ^ k := Nat.add_lt_add_left hF _
      _ = (E + 1) * 2 ^ k := by ring
      _ ≤ 2 ^ w * 2 ^ k := Nat.mul_le_mul_right _ hE
      _ = 2 ^ (w + k) := (Nat.pow_add _ _ _).symm
  have split : neg.toNat * 2 ^ (w + k) + E * 2 ^ k + F = F + (E + neg.toNat * 2 ^ w) * 2 ^ k := by
    rw [Nat.pow_add]
    ring
  refine ⟨?_, ?_, ?_, ?_⟩
  · rw [split, Nat.add_mul_div_right _ _ (Nat.two_pow_pos k), Nat.div_eq_of_lt hF, Nat.zero_add, Nat.add_mul_mod_self_right,
      Nat.mod_eq_of_lt hE]
  · rw [split, Nat.add_mul_mod_self_right, Nat.mod_eq_of_lt hF]
  · rw [Nat.add_assoc, Nat.add_comm, Nat.add_mul_div_right _ _ (Nat.two_pow_pos _), Nat.div_eq_of_lt small, Nat.zero_add]
  · have one := Nat.mul_le_mul_right (2 ^ (w + k)) (toNat_le_one neg)
    rw [Nat.pow_succ]
    omega

/-- An image of its fields. -/
def Fmt.image (f : Fmt) (neg : Bool) (E F : ℕ) : ℕ := neg.toNat * 2 ^ (8 * f.bytes - 1) + E * 2 ^ (f.prec - 1) + F

section

variable {f : Fmt} (short : f.Short) {neg : Bool} {E F : ℕ} (hE : E < 2 ^ (8 * f.bytes - f.prec)) (hF : F < 2 ^ (f.prec - 1))

include short hE hF

theorem image_fields : f.image neg E F / 2 ^ (f.prec - 1) % 2 ^ (8 * f.bytes - f.prec) = E ∧
    f.image neg E F % 2 ^ (f.prec - 1) = F ∧ f.image neg E F / 2 ^ (8 * f.bytes - 1) = neg.toNat ∧
    f.image neg E F < 2 ^ (8 * f.bytes) := by
  obtain ⟨⟨low, high⟩, -, -, bytes⟩ := short
  have top : 8 * f.bytes - 1 = (8 * f.bytes - f.prec) + (f.prec - 1) := by omega
  have all : 8 * f.bytes = (8 * f.bytes - f.prec) + (f.prec - 1) + 1 := by omega
  have fields := fields_of_sum (neg := neg) hE hF
  rw [← all, ← top] at fields
  exact fields

theorem image_sign : decide (f.image neg E F / 2 ^ (8 * f.bytes - 1) % 2 = 1) = neg := by
  rw [(image_fields short hE hF).2.2.1]
  cases neg <;> rfl

end

section

variable {f : Fmt} (short : f.Short) {neg : Bool}

include short

theorem value_image_denormal {F : ℕ} (hF : F < 2 ^ (f.prec - 1)) :
    value (numOf (f.decode (f.image neg 0 F)).x) = signOf neg * F * 2 ^ f.quantum := by
  obtain ⟨exponent, fraction, -, -⟩ := image_fields short (neg := neg) (E := 0) (Nat.two_pow_pos _) hF
  rw [decode_denormal short _ exponent, fraction, image_sign short (Nat.two_pow_pos _) hF]

theorem value_image_normal {E F : ℕ} (some : E ≠ 0) (hE : E + 1 < 2 ^ (8 * f.bytes - f.prec)) (hF : F < 2 ^ (f.prec - 1)) :
    value (numOf (f.decode (f.image neg E F)).x) = signOf neg * (2 ^ (f.prec - 1) + F) * 2 ^ ((E : ℤ) - 1 + f.quantum) := by
  have less : E < 2 ^ (8 * f.bytes - f.prec) := by omega
  obtain ⟨exponent, fraction, -, -⟩ := image_fields short (neg := neg) less hF
  rw [decode_normal short _ (by rw [exponent]; exact some) (by rw [exponent]; omega), exponent, fraction,
    image_sign short less hF]

theorem decode_image_special {F : ℕ} (hF : F < 2 ^ (f.prec - 1)) :
    (f.decode (f.image neg (2 ^ (8 * f.bytes - f.prec) - 1) F)).x = mkExt neg 0x7FFF (2 ^ 63 + F * 2 ^ (64 - f.prec)) ∧
      F * 2 ^ (64 - f.prec) < 2 ^ 63 := by
  have pos : 0 < 2 ^ (8 * f.bytes - f.prec) := Nat.two_pow_pos _
  have less : 2 ^ (8 * f.bytes - f.prec) - 1 < 2 ^ (8 * f.bytes - f.prec) := by omega
  obtain ⟨exponent, fraction, -, -⟩ := image_fields short (neg := neg) less hF
  have special := decode_special short (f.image neg (2 ^ (8 * f.bytes - f.prec) - 1) F) (by rw [exponent]; omega)
  rw [fraction, image_sign short less hF] at special
  exact special

/-- A fraction with its first bit set is that of a quiet NaN. -/
theorem decode_quiet {F : ℕ} (hF : F < 2 ^ (f.prec - 1)) (quiet : 2 ^ (f.prec - 2) ≤ F) :
    extCls (f.decode (f.image neg (2 ^ (8 * f.bytes - f.prec) - 1) F)).x = .qnan ∧
      extNeg (f.decode (f.image neg (2 ^ (8 * f.bytes - f.prec) - 1) F)).x = neg := by
  obtain ⟨code, small⟩ := decode_image_special short (neg := neg) hF
  have bound : 2 ^ 63 + F * 2 ^ (64 - f.prec) < 2 ^ 64 := by omega
  have high : 2 ^ 62 ≤ F * 2 ^ (64 - f.prec) := by
    obtain ⟨⟨low, most⟩, -, -, -⟩ := short
    calc 2 ^ 62 = 2 ^ (f.prec - 2) * 2 ^ (64 - f.prec) := by
          rw [← Nat.pow_add]
          congr 1
          omega
      _ ≤ F * 2 ^ (64 - f.prec) := Nat.mul_le_mul_right _ quiet
  rw [code]
  refine ⟨(extCls_qnan_iff _).mpr ?_, extNeg_mkExt (by decide) bound⟩
  rw [extExp_mkExt (by decide) bound, extSig_mkExt (by decide) bound]
  exact ⟨rfl, by omega⟩

/-! ### Encoding -/

omit short in
theorem encode_cases (mant : ℕ) (e : ℤ) : f.encode neg mant e =
    if mant = 0 then f.image neg 0 0
    else if topExp mant e < f.emin then f.image neg 0 (mant * 2 ^ (e - f.quantum).toNat)
    else f.image neg (topExp mant e + f.emax).toNat (normalised f.prec mant - 2 ^ (f.prec - 1)) := by
  unfold Fmt.encode Fmt.image
  simp only [Nat.zero_mul, Nat.add_zero]

theorem special_eq (F : ℕ) : f.special neg F = f.image neg (2 ^ (8 * f.bytes - f.prec) - 1) F := by
  have exponents := short.exponents
  unfold Fmt.special Fmt.image
  have count : (2 * f.emax + 1).toNat = 2 ^ (8 * f.bytes - f.prec) - 1 := by
    generalize 2 ^ (8 * f.bytes - f.prec) = count at *
    omega
  rw [count]

/-- What a format holds is decoded to the same value. -/
theorem decode_encode_value {mant : ℕ} {e : ℤ} (last : f.quantum ≤ e ∨ f.emin ≤ topExp mant e)
    (high : mant ≠ 0 → topExp mant e ≤ f.emax) (kept : 2 ^ (mant.log2 + 1 - f.prec) ∣ mant) :
    value (numOf (f.decode (f.encode neg mant e)).x) = value ({ neg := neg, mant := mant, exp := e } : Machine.Num) ∧
      f.encode neg mant e / 2 ^ (8 * f.bytes - 1) = neg.toNat ∧ f.encode neg mant e < 2 ^ (8 * f.bytes) := by
  obtain ⟨low, most⟩ := short.prec
  obtain ⟨least, -⟩ := short.emax
  have exponents := short.exponents
  have quantum : f.quantum = f.emin - f.prec + 1 := rfl
  have emin : f.emin = 1 - f.emax := rfl
  rw [encode_cases]
  by_cases none : mant = 0
  · rw [if_pos none, none, value_image_denormal short (Nat.two_pow_pos _)]
    obtain ⟨-, -, sign, bound⟩ := image_fields short (neg := neg) (E := 0) (F := 0) (Nat.two_pow_pos _) (Nat.two_pow_pos _)
    refine ⟨?_, sign, bound⟩
    rw [(value_eq_zero_iff _).mpr rfl, Nat.cast_zero, mul_zero, zero_mul]
  · rw [if_neg none]
    have top : topExp mant e = e + mant.log2 := rfl
    by_cases tiny : topExp mant e < f.emin
    · have place : f.quantum ≤ e := last.resolve_right (by omega)
      have fraction : mant * 2 ^ (e - f.quantum).toNat < 2 ^ (f.prec - 1) := by
        calc mant * 2 ^ (e - f.quantum).toNat < 2 ^ (mant.log2 + 1) * 2 ^ (e - f.quantum).toNat :=
              Nat.mul_lt_mul_of_pos_right Nat.lt_log2_self (Nat.two_pow_pos _)
          _ = 2 ^ (mant.log2 + 1 + (e - f.quantum).toNat) := (Nat.pow_add _ _ _).symm
          _ ≤ 2 ^ (f.prec - 1) := Nat.pow_le_pow_right (by decide) (by omega)
      obtain ⟨-, -, sign, bound⟩ := image_fields short (neg := neg) (E := 0) (Nat.two_pow_pos _) fraction
      rw [if_pos tiny, value_image_denormal short fraction]
      refine ⟨?_, sign, bound⟩
      rw [value_eq, two_zpow_split place]
      push_cast
      ring
    · rw [if_neg tiny]
      obtain ⟨sigLow, sigHigh⟩ := normalised_range none (p := f.prec) (by omega)
      have same := normalised_value none (p := f.prec) (by omega) kept e
      have power : 2 ^ f.prec = 2 * 2 ^ (f.prec - 1) := by
        rw [← Nat.pow_succ']
        congr 1
        omega
      have fraction : normalised f.prec mant - 2 ^ (f.prec - 1) < 2 ^ (f.prec - 1) := by omega
      have below := high none
      have exponent : (topExp mant e + f.emax).toNat + 1 < 2 ^ (8 * f.bytes - f.prec) := by
        generalize 2 ^ (8 * f.bytes - f.prec) = count at *
        omega
      obtain ⟨-, -, sign, bound⟩ := image_fields short (neg := neg) (by omega : (topExp mant e + f.emax).toNat < _) fraction
      rw [value_image_normal short (by omega) exponent fraction]
      refine ⟨?_, sign, bound⟩
      have sum : (2 : ℚ) ^ (f.prec - 1) + ((normalised f.prec mant - 2 ^ (f.prec - 1) : ℕ) : ℚ) = normalised f.prec mant := by
        rw [Nat.cast_sub sigLow]
        push_cast
        ring
      have place : (((topExp mant e + f.emax).toNat : ℕ) : ℤ) - 1 + f.quantum = topExp mant e - (f.prec - 1 : ℕ) := by omega
      rw [value_eq, mul_assoc, mul_assoc, ← same, sum, place]

end

end Sys2Proof.Machine
end

section
/-!
PROOFS. The images of x87 stores (O53).
-/

namespace Sys2Proof.Machine

open Claims

/-! ### Stores that an exception stands against -/

theorem ifMasked_invalid (b : ℕ) (s : State) :
    ifMasked invalid b s = imageIf (s.fpu.fcw.getLsbD 0) b { s with fpu := raised s.fpu true false } := by
  rw [← raised_invalid]
  exact bind_of_ok (run_invalid s) _

theorem ifMasked_empty (b : ℕ) (s : State) :
    ifMasked (stackFault false) b s = imageIf (s.fpu.fcw.getLsbD 0) b { s with fpu := stackFlag s.fpu false } :=
  bind_of_ok (run_stackFault false s) _

theorem finite_iff (x : Ext) :
    Finite x ↔ ¬(extCls x = .infinity ∨ extCls x = .qnan ∨ extCls x = .snan ∨ extCls x = .unsupported) := by
  unfold Finite
  cases extCls x <;> simp

/-! ### Integers -/

/-- The rounded integer with its sign. -/
def signedInteger (neg : Bool) (mag : ℕ) : ℤ := if neg then -mag else mag

/-- An image of `b` bytes reaches from -2^(8b-1) to 2^(8b-1) - 1. -/
theorem signedInteger_fits (neg : Bool) (mag : ℕ) {half : ℕ} (pos : 0 < half) :
    (-(half : ℤ) ≤ signedInteger neg mag ∧ signedInteger neg mag < half) ↔
      ¬(if neg then half < mag else half ≤ mag) := by
  unfold signedInteger
  cases neg with
  | true =>
    simp only [if_true]
    omega
  | false =>
    simp only [Bool.false_eq_true, if_false]
    omega

theorem signedInteger_image {neg : Bool} {mag bits : ℕ} (fits : mag ≤ 2 ^ bits) :
    (if neg then (2 ^ (bits + 1) - mag) % 2 ^ (bits + 1) else mag) = (signedInteger neg mag % 2 ^ (bits + 1)).toNat := by
  have pos : 0 < 2 ^ bits := Nat.two_pow_pos _
  have less : mag < 2 ^ (bits + 1) := by
    rw [Nat.pow_succ]
    omega
  have cast : ((2 : ℤ) ^ (bits + 1)) = ((2 ^ (bits + 1) : ℕ) : ℤ) := by push_cast; rfl
  unfold signedInteger
  rw [cast]
  cases neg with
  | true =>
    have shifted : -(mag : ℤ) % ((2 ^ (bits + 1) : ℕ) : ℤ) = (((2 ^ (bits + 1) - mag) % 2 ^ (bits + 1) : ℕ) : ℤ) := by
      have sum : ((2 ^ (bits + 1) - mag : ℕ) : ℤ) = -(mag : ℤ) + ((2 ^ (bits + 1) : ℕ) : ℤ) * 1 := by
        rw [Nat.cast_sub less.le]
        ring
      rw [Int.natCast_mod, sum, Int.add_mul_emod_self_left]
    simp only [if_true]
    rw [shifted, Int.toNat_natCast]
  | false =>
    simp only [Bool.false_eq_true, if_false]
    rw [← Int.natCast_mod, Int.toNat_natCast, Nat.mod_eq_of_lt less]

/-- The image of ST(0) in `n` bytes: nothing but a finite value has one. -/
theorem intImage_special (n : ℕ) {x : Ext} (h : ¬Finite x) (s : State) :
    imageOf (.int n) (some (FVal.ofExt x)) s = ifMasked invalid (2 ^ (8 * n - 1)) s := by
  rw [finite_iff, not_not] at h
  exact (bind_of_ok (run_roundingControl s) _).trans (congrFun (if_pos h) s)

theorem intImage_finite (n : ℕ) {x : Ext} (h : Finite x) (s : State) : imageOf (.int n) (some (FVal.ofExt x)) s =
    if (if extNeg x then 2 ^ (8 * n - 1) < (toIntegral (rcOf s.fpu.fcw) (numOf x)).1
      else 2 ^ (8 * n - 1) ≤ (toIntegral (rcOf s.fpu.fcw) (numOf x)).1) then ifMasked invalid (2 ^ (8 * n - 1)) s
    else .ok (some (if extNeg x then (2 ^ (8 * n) - (toIntegral (rcOf s.fpu.fcw) (numOf x)).1) % 2 ^ (8 * n)
      else (toIntegral (rcOf s.fpu.fcw) (numOf x)).1))
      { s with fpu := rounded s.fpu (roundAt (rcOf s.fpu.fcw) (numOf x) 0) } := by
  refine (bind_of_ok (run_roundingControl s) _).trans ((congrFun (if_neg ((finite_iff x).mp h)) s).trans ?_)
  by_cases large : if extNeg x then 2 ^ (8 * n - 1) < (toIntegral (rcOf s.fpu.fcw) (numOf x)).1
      else 2 ^ (8 * n - 1) ≤ (toIntegral (rcOf s.fpu.fcw) (numOf x)).1
  · rw [if_pos large]
    exact congrFun (if_pos large) s
  · rw [if_neg large]
    exact (congrFun (if_neg large) s).trans (bind_of_ok (inexactIf_rounded (roundAt (rcOf s.fpu.fcw) (numOf x) 0) s) _)

theorem intImage_fits {n : ℕ} (bytes : 0 < n) {x : Ext} {s : State} (finite : Finite x)
    (fits : -((2 ^ (8 * n - 1) : ℕ) : ℤ) ≤ signedInteger (extNeg x) (toIntegral (rcOf s.fpu.fcw) (numOf x)).1 ∧
      signedInteger (extNeg x) (toIntegral (rcOf s.fpu.fcw) (numOf x)).1 < ((2 ^ (8 * n - 1) : ℕ) : ℤ)) :
    imageOf (.int n) (some (FVal.ofExt x)) s =
      .ok (some (signedInteger (extNeg x) (toIntegral (rcOf s.fpu.fcw) (numOf x)).1 % 2 ^ (8 * n)).toNat)
        { s with fpu := rounded s.fpu (roundAt (rcOf s.fpu.fcw) (numOf x) 0) } := by
  have small := (signedInteger_fits _ _ (Nat.two_pow_pos _)).mp fits
  have most : (toIntegral (rcOf s.fpu.fcw) (numOf x)).1 ≤ 2 ^ (8 * n - 1) := by
    unfold signedInteger at fits
    split_ifs at fits <;> omega
  have image := signedInteger_image (neg := extNeg x) most
  rw [show 8 * n - 1 + 1 = 8 * n by omega] at image
  rw [intImage_finite n finite, if_neg small, image]

theorem intImage_invalid {n : ℕ} {x : Ext} {s : State}
    (h : ¬(Finite x ∧ -((2 ^ (8 * n - 1) : ℕ) : ℤ) ≤ signedInteger (extNeg x) (toIntegral (rcOf s.fpu.fcw) (numOf x)).1 ∧
      signedInteger (extNeg x) (toIntegral (rcOf s.fpu.fcw) (numOf x)).1 < ((2 ^ (8 * n - 1) : ℕ) : ℤ))) :
    imageOf (.int n) (some (FVal.ofExt x)) s =
      imageIf (s.fpu.fcw.getLsbD 0) (2 ^ (8 * n - 1)) { s with fpu := raised s.fpu true false } := by
  rw [← ifMasked_invalid]
  by_cases finite : Finite x
  · have large := fun fits => h ⟨finite, fits⟩
    rw [signedInteger_fits _ _ (Nat.two_pow_pos _)] at large
    rw [intImage_finite n finite, if_pos (not_not.mp large)]
  · exact intImage_special n finite s

/-! ### BCD -/

theorem toBcd_lt (k m : ℕ) : toBcd k m < 16 ^ k := by
  induction k generalizing m with
  | zero => exact Nat.one_pos
  | succ k ih =>
    have := ih (m / 10)
    unfold toBcd
    rw [Nat.pow_succ]
    omega

/-- The digits of a BCD image are those of the number. -/
theorem bcdDigits_toBcd (k m : ℕ) : bcdDigits k (toBcd k m) = some (m % 10 ^ k) := by
  induction k generalizing m with
  | zero => rw [Nat.pow_zero, Nat.mod_one]; rfl
  | succ k ih =>
    have step : toBcd (k + 1) m = m % 10 + 16 * toBcd k (m / 10) := rfl
    have low : toBcd (k + 1) m % 16 = m % 10 := by omega
    have rest : toBcd (k + 1) m / 16 = toBcd k (m / 10) := by omega
    have digit : m % 10 < 10 := Nat.mod_lt _ (by decide)
    unfold bcdDigits
    rw [low, rest, if_pos digit, ih, Option.map_some, Nat.pow_succ, Nat.mul_comm (10 ^ k), Nat.mod_mul]

theorem bcdImage_good {x : Ext} {s : State} (finite : Finite x) (small : (toIntegral (rcOf s.fpu.fcw) (numOf x)).1 < 10 ^ 18) :
    imageOf .bcd (some (FVal.ofExt x)) s =
      .ok (some ((extNeg x).toNat * 2 ^ 79 + toBcd 18 (toIntegral (rcOf s.fpu.fcw) (numOf x)).1))
        { s with fpu := rounded s.fpu (roundAt (rcOf s.fpu.fcw) (numOf x) 0) } := by
  refine (bind_of_ok (run_roundingControl s) _).trans ((congrFun (if_neg ?_) s).trans
    (bind_of_ok (inexactIf_rounded (roundAt (rcOf s.fpu.fcw) (numOf x) 0) s) _))
  have plain := (finite_iff x).mp finite
  rintro (h | h | h | h | h)
  · exact plain (.inl h)
  · exact plain (.inr (.inl h))
  · exact plain (.inr (.inr (.inl h)))
  · exact plain (.inr (.inr (.inr h)))
  · exact absurd small (not_lt.mpr h)

theorem bcdImage_bad {x : Ext} {s : State} (h : ¬(Finite x ∧ (toIntegral (rcOf s.fpu.fcw) (numOf x)).1 < 10 ^ 18)) :
    imageOf .bcd (some (FVal.ofExt x)) s =
      imageIf (s.fpu.fcw.getLsbD 0) indefinite.toNat { s with fpu := raised s.fpu true false } := by
  rw [← ifMasked_invalid]
  refine (bind_of_ok (run_roundingControl s) _).trans (congrFun (if_pos ?_) s)
  by_cases finite : Finite x
  · exact .inr (.inr (.inr (.inr (not_lt.mp fun small => h ⟨finite, small⟩))))
  · rw [finite_iff, not_not] at finite
    rcases finite with h | h | h | h
    · exact .inl h
    · exact .inr (.inl h)
    · exact .inr (.inr (.inl h))
    · exact .inr (.inr (.inr (.inl h)))

theorem bcdImage_fields {neg : Bool} {m : ℕ} (small : m < 10 ^ 18) :
    bcdDigits 18 ((neg.toNat * 2 ^ 79 + toBcd 18 m) % 2 ^ 72) = some m ∧
      (neg.toNat * 2 ^ 79 + toBcd 18 m) / 2 ^ 72 = if neg then 128 else 0 := by
  have digits := toBcd_lt 18 m
  have size : 16 ^ 18 = 2 ^ 72 := by norm_num
  rw [size] at digits
  have cut : (neg.toNat * 2 ^ 79 + toBcd 18 m) % 2 ^ 72 = toBcd 18 m := by
    cases neg <;> simp only [Bool.toNat_true, Bool.toNat_false] <;> omega
  refine ⟨?_, ?_⟩
  · rw [cut, bcdDigits_toBcd, Nat.mod_eq_of_lt small]
  · cases neg <;> simp only [Bool.toNat_true, Bool.toNat_false, if_true, Bool.false_eq_true, if_false] <;> omega

/-! ### Single and double precision -/

section

variable {f : Fmt} {n : Machine.Num} {s : State} {r : Rounded} (rounding : roundPrec f.prec (rcOf s.fpu.fcw) n = r)

include rounding

theorem numImage_normal (small : topExp r.mant r.exp ≤ f.emax) (large : f.emin ≤ topExp r.mant r.exp) :
    numImage f n s = .ok (some (f.encode n.neg r.mant r.exp)) { s with fpu := rounded s.fpu r } := by
  have within : f.overflows r = false := decide_eq_false (by omega)
  have notTiny : f.tiny r = false := decide_eq_false (by omega)
  unfold numImage
  refine (bind_of_ok (run_roundingControl s) _).trans ?_
  simp only [rounding, within, notTiny, Bool.false_eq_true, if_false]
  exact bind_of_ok (inexactIf_rounded _ s) _

/-- What is stored for a number too large. -/
def overflowImage (f : Fmt) (rc : Rc) (neg : Bool) : ℕ :=
  if overflowToInf rc neg then f.special neg 0 else f.encode neg f.largest.1 f.largest.2

theorem numImage_overflow (large : f.emax < topExp r.mant r.exp) :
    (s.fpu.fcw.getLsbD 3 = true → numImage f n s = .ok (some (overflowImage f (rcOf s.fpu.fcw) n.neg))
      { s with fpu := overflowFlag s.fpu (overflowToInf (rcOf s.fpu.fcw) n.neg) }) ∧
    (s.fpu.fcw.getLsbD 3 = false → numImage f n s =
      .ok none { s with fpu := { s.fpu with fsw := { s.fpu.fsw with oe := true } } }) := by
  have exceeds : f.overflows r = true := decide_eq_true large
  have start : numImage f n s = (do
      onlyIf (s.fpu.fcw.getLsbD 3) (inexactIf true (overflowToInf (rcOf s.fpu.fcw) n.neg))
      pure (if !(s.fpu.fcw.getLsbD 3) then none else some (overflowImage f (rcOf s.fpu.fcw) n.neg)) : M (Option Nat))
        { s with fpu := { s.fpu with fsw := { s.fpu.fsw with oe := true } } } := by
    unfold numImage overflowImage
    refine (bind_of_ok (run_roundingControl s) _).trans ?_
    simp only [rounding, exceeds, if_true]
    exact (bind_of_ok (run_masked 3 s) _).trans (bind_of_ok (run_updFsw _ s) _)
  refine ⟨fun mask => ?_, fun mask => ?_⟩
  · rw [start, mask]
    exact bind_of_ok ((run_onlyIf_do rfl).trans (run_inexactIf true _ _)) _
  · rw [start, mask]
    exact bind_of_ok (run_onlyIf_stay rfl) _

theorem numImage_tiny {d : Rounded} (denormal : roundAt (rcOf s.fpu.fcw) n f.quantum = d) (range : f.emin ≤ f.emax)
    (small : topExp r.mant r.exp < f.emin) :
    (s.fpu.fcw.getLsbD 4 = true → numImage f n s =
      .ok (some (f.encode n.neg d.mant d.exp)) { s with fpu := underflowFlag (rounded s.fpu d) d.inexact }) ∧
    (s.fpu.fcw.getLsbD 4 = false → numImage f n s = .ok none { s with fpu := underflowFlag s.fpu true }) := by
  have notOver : f.overflows r = false := decide_eq_false (by omega)
  have tiny : f.tiny r = true := decide_eq_true small
  have start : numImage f n s = (do
      onlyIf (!(s.fpu.fcw.getLsbD 4) || d.inexact) (updFsw fun w => { w with ue := true })
      onlyIf (s.fpu.fcw.getLsbD 4) (inexactIf d.inexact d.up)
      pure (if s.fpu.fcw.getLsbD 4 then some (f.encode n.neg d.mant d.exp) else none) : M (Option Nat)) s := by
    unfold numImage
    refine (bind_of_ok (run_roundingControl s) _).trans ?_
    simp only [rounding, denormal, notOver, tiny, if_true, Bool.false_eq_true, if_false]
    exact bind_of_ok (run_masked 4 s) _
  refine ⟨fun mask => ?_, fun mask => ?_⟩
  · rw [start, mask, Bool.not_true, Bool.false_or]
    have report : (do
        onlyIf d.inexact (updFsw fun w => { w with ue := true })
        onlyIf true (inexactIf d.inexact d.up) : M Unit) s =
          .ok () { s with fpu := underflowFlag (rounded s.fpu d) d.inexact } := by
      unfold underflowFlag rounded
      cases exact : d.inexact with
      | false =>
        rw [Bool.or_false, if_neg Bool.false_ne_true]
        exact (bind_of_ok (run_onlyIf_stay rfl) _).trans ((run_onlyIf_do rfl).trans (run_inexactIf false _ _))
      | true =>
        rw [Bool.or_true, if_pos rfl]
        exact (bind_of_ok ((run_onlyIf_do rfl).trans (run_updFsw _ s)) _).trans
          ((run_onlyIf_do rfl).trans (run_inexactIf true _ _))
    rw [← bind_assoc]
    exact bind_of_ok report _
  · rw [start, mask, Bool.not_false, Bool.true_or]
    refine (bind_of_ok ((run_onlyIf_do rfl).trans (run_updFsw _ s)) _).trans ((bind_of_ok (run_onlyIf_stay rfl) _).trans ?_)
    unfold underflowFlag
    rw [Bool.or_true]
    rfl

end

/-- Rounding at a unit leaves no more than what the bits above it hold. -/
theorem roundAt_within {rc : Rc} {n : Machine.Num} {q : ℤ} {bits : ℕ} (top : n.mant ≠ 0 → n.top + 1 ≤ q + bits) :
    (roundAt rc n q).mant ≤ 2 ^ bits ∧
      ((roundAt rc n q).mant ≠ 0 → topExp (roundAt rc n q).mant (roundAt rc n q).exp ≤ q + bits) := by
  by_cases coarse : q ≤ n.exp
  · rw [roundAt_exact coarse]
    dsimp only
    have same : n.top = topExp n.mant n.exp := rfl
    refine ⟨?_, fun some => by have := top some; omega⟩
    by_cases none : n.mant = 0
    · exact none.le.trans (Nat.zero_le _)
    · have room := top none
      unfold Num.top topExp at room
      exact Nat.lt_log2_self.le.trans (Nat.pow_le_pow_right (by decide) (by omega))
  · have most := roundAt_le (rc := rc) (not_le.mp coarse) top
    obtain ⟨-, -, exp⟩ := roundAt_coarse (rc := rc) (not_le.mp coarse)
    refine ⟨most, fun some => ?_⟩
    have less : (roundAt rc n q).mant < 2 ^ (bits + 1) := most.trans_lt (Nat.pow_lt_pow_right (by decide) (by omega))
    have bound := topExp_le_of_lt (e := (roundAt rc n q).exp) some less
    rw [exp] at bound ⊢
    push_cast at bound
    omega

section

variable {f : Fmt} (short : f.Short) {n : Machine.Num} (some : n.mant ≠ 0) (rc : Rc) (neg : Bool)

include short

theorem decode_overflowImage :
    if overflowToInf rc neg then overflowImage f rc neg = f.image neg (2 ^ (8 * f.bytes - f.prec) - 1) 0
    else value (numOf (f.decode (overflowImage f rc neg)).x) =
      value ({ neg := neg, mant := 2 ^ f.prec - 1, exp := f.emax - f.prec + 1 } : Machine.Num) := by
  unfold overflowImage
  have pos : 0 < 2 ^ f.prec := Nat.two_pow_pos _
  have less : 2 ^ f.prec - 1 < 2 ^ f.prec := by omega
  have quantum : f.quantum = 1 - f.emax - f.prec + 1 := rfl
  have emax := short.emax
  split_ifs with infinite
  · exact special_eq short 0
  · refine (decode_encode_value short (.inl ?_) (fun positive => ?_) (two_pow_dvd_of_lt less)).1
    · show f.quantum ≤ f.emax - f.prec + 1
      omega
    · have top := topExp_le_of_lt (e := f.emax - f.prec + 1) positive less
      show topExp (2 ^ f.prec - 1) (f.emax - f.prec + 1) ≤ f.emax
      omega

include some

theorem decode_normalImage (low : f.emin ≤ topExp (roundPrec f.prec rc n).mant (roundPrec f.prec rc n).exp)
    (high : topExp (roundPrec f.prec rc n).mant (roundPrec f.prec rc n).exp ≤ f.emax) :
    f.encode neg (roundPrec f.prec rc n).mant (roundPrec f.prec rc n).exp < 2 ^ (8 * f.bytes) ∧
      value (numOf (f.decode (f.encode neg (roundPrec f.prec rc n).mant (roundPrec f.prec rc n).exp)).x) =
        value ((roundPrec f.prec rc n).num neg) := by
  have bits : 0 < f.prec := by have := short.prec; omega
  obtain ⟨-, most, -⟩ := roundPrec_range (rc := rc) some bits
  obtain ⟨same, -, bound⟩ := decode_encode_value short (neg := neg) (.inr low) (fun _ => high) (two_pow_dvd_of_le bits most)
  exact ⟨bound, same⟩

theorem decode_tinyImage (small : topExp (roundPrec f.prec rc n).mant (roundPrec f.prec rc n).exp < f.emin) :
    f.encode neg (roundAt rc n f.quantum).mant (roundAt rc n f.quantum).exp / 2 ^ (8 * f.bytes - 1) = neg.toNat ∧
      value (numOf (f.decode (f.encode neg (roundAt rc n f.quantum).mant (roundAt rc n f.quantum).exp)).x) =
        value ((roundAt rc n f.quantum).num neg) := by
  have bits : 0 < f.prec - 1 := by have := short.prec; omega
  have emax := short.emax
  have emin : f.emin = 1 - f.emax := rfl
  have quantum : f.quantum = f.emin - f.prec + 1 := rfl
  obtain ⟨-, -, larger⟩ := roundPrec_range (rc := rc) some (by omega : 0 < f.prec)
  obtain ⟨most, top⟩ := roundAt_within (rc := rc) (n := n) (q := f.quantum) (bits := f.prec - 1) (fun _ => by omega)
  obtain ⟨same, sign, -⟩ := decode_encode_value short (neg := neg) (.inl (le_roundAt_exp rc n f.quantum))
    (fun positive => by have := top positive; omega)
    (two_pow_dvd_of_le (by omega) (most.trans (Nat.pow_le_pow_right (by decide) (by omega : f.prec - 1 ≤ f.prec))))
  exact ⟨sign, same⟩

end

/-! ### NaNs -/

theorem nanFrac_eq (f : Fmt) (x : Ext) : f.nanFrac x = x.toNat % 2 ^ 63 / 2 ^ (64 - f.prec) := by
  unfold Fmt.nanFrac
  rw [extSig_eq, Nat.mod_mod_of_dvd _ (by norm_num)]

section

variable {f : Fmt} (short : f.Short) (x : Ext)

include short

theorem nanFrac_lt : x.toNat % 2 ^ 63 / 2 ^ (64 - f.prec) < 2 ^ (f.prec - 1) := by
  obtain ⟨low, high⟩ := short.prec
  refine Nat.div_lt_of_lt_mul ?_
  rw [← Nat.pow_add, show 64 - f.prec + (f.prec - 1) = 63 by omega]
  exact Nat.mod_lt _ (Nat.two_pow_pos _)

theorem nanFrac_quiet (quiet : extCls x = .qnan) : 2 ^ (f.prec - 2) ≤ x.toNat % 2 ^ 63 / 2 ^ (64 - f.prec) := by
  obtain ⟨low, high⟩ := short.prec
  have sig := ((extCls_qnan_iff x).mp quiet).2
  rw [extSig_eq] at sig
  rw [Nat.le_div_iff_mul_le (Nat.two_pow_pos _), ← Nat.pow_add, show f.prec - 2 + (64 - f.prec) = 62 by omega]
  omega

/-- A signaling NaN made quiet sets the first bit of the fraction. -/
theorem nanFrac_quieted : f.nanFrac (quieted x) = x.toNat % 2 ^ 63 / 2 ^ (64 - f.prec) ||| 2 ^ (f.prec - 2) := by
  obtain ⟨low, high⟩ := short.prec
  rw [nanFrac_eq]
  refine Nat.eq_of_testBit_eq fun j => ?_
  have bit := quieted_bit x (64 - f.prec + j)
  unfold BitVec.getLsbD at bit
  rw [Nat.testBit_or, Nat.testBit_div_two_pow, Nat.testBit_div_two_pow, Nat.testBit_mod_two_pow, Nat.testBit_mod_two_pow,
    Nat.testBit_two_pow, Nat.add_comm j, bit]
  by_cases here : j = f.prec - 2
  · rw [decide_eq_true (p := 64 - f.prec + j < 63) (by omega), decide_eq_true (p := 64 - f.prec + j = 62) (by omega),
      decide_eq_true (p := f.prec - 2 = j) (by omega)]
    simp
  · rw [decide_eq_false (p := 64 - f.prec + j = 62) (by omega), decide_eq_false (p := f.prec - 2 = j) (by omega)]
    simp

theorem quietFrac_range : x.toNat % 2 ^ 63 / 2 ^ (64 - f.prec) ||| 2 ^ (f.prec - 2) < 2 ^ (f.prec - 1) ∧
    2 ^ (f.prec - 2) ≤ x.toNat % 2 ^ 63 / 2 ^ (64 - f.prec) ||| 2 ^ (f.prec - 2) := by
  obtain ⟨low, high⟩ := short.prec
  exact ⟨Nat.or_lt_two_pow (nanFrac_lt short x) (Nat.pow_lt_pow_right (by decide) (by omega)), Nat.right_le_or⟩

end

end Sys2Proof.Machine
end

section
/-!
PROOFS. The image of each class in single and double precision; the theorem of O53.
-/

namespace Sys2Proof.Machine

open Claims

section

variable {f : Fmt} {x : Ext} {s : State}

theorem realImage_zero (h : extCls x = .zero) :
    imageOf (.real f) (some (FVal.ofExt x)) s = .ok (some (f.encode (extNeg x) 0 0)) s := by
  have operand : (FVal.ofExt x).x = x := rfl
  unfold imageOf realImage
  simp only [operand, h]
  rfl

theorem realImage_finite (h : extCls x = .normal ∨ extCls x = .denormal) :
    imageOf (.real f) (some (FVal.ofExt x)) s = numImage f (numOf x) s := by
  have operand : (FVal.ofExt x).x = x := rfl
  unfold imageOf realImage
  rcases h with h | h <;> simp only [operand, h]

theorem realImage_infinity (h : extCls x = .infinity) :
    imageOf (.real f) (some (FVal.ofExt x)) s = .ok (some (f.special (extNeg x) 0)) s := by
  have operand : (FVal.ofExt x).x = x := rfl
  unfold imageOf realImage
  simp only [operand, h]
  rfl

theorem realImage_qnan (h : extCls x = .qnan) :
    imageOf (.real f) (some (FVal.ofExt x)) s = .ok (some (f.special (extNeg x) (f.nanFrac x))) s := by
  have operand : (FVal.ofExt x).x = x := rfl
  unfold imageOf realImage
  simp only [operand, h]
  rfl

theorem realImage_snan (h : extCls x = .snan) : imageOf (.real f) (some (FVal.ofExt x)) s =
    imageIf (s.fpu.fcw.getLsbD 0) (f.special (extNeg x) (f.nanFrac (quieted x))) { s with fpu := raised s.fpu true false } := by
  have operand : (FVal.ofExt x).x = x := rfl
  rw [← ifMasked_invalid]
  unfold imageOf realImage
  simp only [operand, h]

theorem realImage_unsupported (h : extCls x = .unsupported) : imageOf (.real f) (some (FVal.ofExt x)) s =
    imageIf (s.fpu.fcw.getLsbD 0) f.indefinite { s with fpu := raised s.fpu true false } := by
  have operand : (FVal.ofExt x).x = x := rfl
  rw [← ifMasked_invalid]
  unfold imageOf realImage
  simp only [operand, h]

end

theorem indefinite_eq {f : Fmt} (h : f = fmtSingle ∨ f = fmtDouble) :
    f.indefinite = if f = fmtSingle then 0xFFC00000 else 0xFFF8000000000000 := by
  rcases h with rfl | rfl
  · rw [if_pos rfl]
    decide
  · rw [if_neg (by decide)]
    decide

theorem image_ones (f : Fmt) (neg : Bool) (F : ℕ) : f.image neg (2 ^ (8 * f.bytes - f.prec) - 1) F =
    (if neg then 2 ^ (8 * f.bytes - 1) else 0) + (2 ^ (8 * f.bytes - f.prec) - 1) * 2 ^ (f.prec - 1) + F := by
  unfold Fmt.image
  cases neg with
  | true => rw [Bool.toNat_true, if_pos rfl, Nat.one_mul]
  | false => rw [Bool.toNat_false, if_neg Bool.false_ne_true, Nat.zero_mul]

section

variable {f : Fmt} (short : f.Short) (x : Ext) (s : State)

include short

/-- A finite value that is not zero. -/
theorem realImage_values (h : extCls x = .normal ∨ extCls x = .denormal) :
    let r := roundPrec f.prec (rcOf s.fpu.fcw) (numOf x)
    let t := roundAt (rcOf s.fpu.fcw) (numOf x) (f.emin - f.prec + 1)
    let inf := overflowToInf (rcOf s.fpu.fcw) (numOf x).neg
    (f.emin ≤ topExp r.mant r.exp → topExp r.mant r.exp ≤ f.emax →
      ∃ b, imageOf (.real f) (some (FVal.ofExt x)) s = .ok (some b) { s with fpu := rounded s.fpu r } ∧
        b < 2 ^ (8 * f.bytes) ∧ value (numOf (f.decode b).x) = value (r.num (numOf x).neg)) ∧
    (f.emax < topExp r.mant r.exp → s.fpu.fcw.getLsbD 3 = true →
      ∃ b, imageOf (.real f) (some (FVal.ofExt x)) s = .ok (some b) { s with fpu := overflowFlag s.fpu inf } ∧
        (if inf then b = f.image (numOf x).neg (2 ^ (8 * f.bytes - f.prec) - 1) 0
         else value (numOf (f.decode b).x) =
          value ({ neg := (numOf x).neg, mant := 2 ^ f.prec - 1, exp := f.emax - f.prec + 1 } : Machine.Num))) ∧
    (f.emax < topExp r.mant r.exp → s.fpu.fcw.getLsbD 3 = false →
      imageOf (.real f) (some (FVal.ofExt x)) s =
        .ok none { s with fpu := { s.fpu with fsw := { s.fpu.fsw with oe := true } } }) ∧
    (topExp r.mant r.exp < f.emin → s.fpu.fcw.getLsbD 4 = true →
      ∃ b, imageOf (.real f) (some (FVal.ofExt x)) s =
          .ok (some b) { s with fpu := underflowFlag (rounded s.fpu t) t.inexact } ∧
        b / 2 ^ (8 * f.bytes - 1) = (numOf x).neg.toNat ∧ value (numOf (f.decode b).x) = value (t.num (numOf x).neg)) ∧
    (topExp r.mant r.exp < f.emin → s.fpu.fcw.getLsbD 4 = false →
      imageOf (.real f) (some (FVal.ofExt x)) s = .ok none { s with fpu := underflowFlag s.fpu true }) := by
  intro r t inf
  rw [realImage_finite h]
  have finite : Finite x := by
    rcases h with h | h
    · exact .inr (.inr h)
    · exact .inr (.inl h)
  have some : (numOf x).mant ≠ 0 := by
    rw [Ne, ← value_eq_zero_iff, value_numOf_eq_zero finite]
    rcases h with h | h <;> simp [h]
  have range : f.emin ≤ f.emax := by
    have emax := short.emax
    unfold Fmt.emin
    omega
  refine ⟨fun low high => ?_, fun large mask => ?_, fun large mask => (numImage_overflow rfl large).2 mask, fun tiny mask => ?_,
    fun tiny mask => (numImage_tiny rfl rfl range tiny).2 mask⟩
  · exact ⟨_, numImage_normal rfl high low, decode_normalImage short some _ _ low high⟩
  · exact ⟨_, (numImage_overflow rfl large).1 mask, decode_overflowImage short _ _⟩
  · exact ⟨_, (numImage_tiny rfl rfl range tiny).1 mask, decode_tinyImage short some _ _ tiny⟩

/-- Infinities and NaNs. -/
theorem realImage_specials :
    let ones := f.image (extNeg x) (2 ^ (8 * f.bytes - f.prec) - 1)
    let upper := x.toNat % 2 ^ 63 / 2 ^ (64 - f.prec)
    (extCls x = .infinity → imageOf (.real f) (some (FVal.ofExt x)) s = .ok (some (ones 0)) s) ∧
    (extCls x = .qnan → imageOf (.real f) (some (FVal.ofExt x)) s = .ok (some (ones upper)) s ∧
      extCls (f.decode (ones upper)).x = .qnan ∧ extNeg (f.decode (ones upper)).x = extNeg x) ∧
    (extCls x = .snan → imageOf (.real f) (some (FVal.ofExt x)) s =
        imageIf (s.fpu.fcw.getLsbD 0) (ones (upper ||| 2 ^ (f.prec - 2))) { s with fpu := raised s.fpu true false } ∧
      extCls (f.decode (ones (upper ||| 2 ^ (f.prec - 2)))).x = .qnan) := by
  intro ones upper
  refine ⟨fun h => ?_, fun h => ⟨?_, decode_quiet short (nanFrac_lt short x) (nanFrac_quiet short x h)⟩, fun h => ⟨?_, ?_⟩⟩
  · rw [realImage_infinity h, special_eq short]
  · rw [realImage_qnan h, special_eq short, nanFrac_eq]
  · rw [realImage_snan h, special_eq short, nanFrac_quieted short]
  · obtain ⟨less, quiet⟩ := quietFrac_range short x
    exact (decode_quiet short less quiet).1

end

/-- The images of one value in an integer format. -/
theorem intImage_values (x : Ext) (s : State) {b : ℕ} (bytes : b = 2 ∨ b = 4 ∨ b = 8) :
    let r := roundAt (rcOf s.fpu.fcw) (numOf x) 0
    let z : Int := if (numOf x).neg then -(r.mant * 2 ^ r.exp.toNat) else r.mant * 2 ^ r.exp.toNat
    (Finite x → -(2 ^ (8 * b - 1)) ≤ z → z < 2 ^ (8 * b - 1) → imageOf (.int b) (some (FVal.ofExt x)) s =
      .ok (some (z % 2 ^ (8 * b)).toNat) { s with fpu := rounded s.fpu r }) ∧
    (¬(Finite x ∧ -(2 ^ (8 * b - 1)) ≤ z ∧ z < 2 ^ (8 * b - 1)) → imageOf (.int b) (some (FVal.ofExt x)) s =
      imageIf (s.fpu.fcw.getLsbD 0) (2 ^ (8 * b - 1)) { s with fpu := raised s.fpu true false }) := by
  intro r z
  have integer : z = signedInteger (extNeg x) (toIntegral (rcOf s.fpu.fcw) (numOf x)).1 := by
    have mag : ((toIntegral (rcOf s.fpu.fcw) (numOf x)).1 : ℤ) = r.mant * 2 ^ r.exp.toNat := by
      have magnitude : (toIntegral (rcOf s.fpu.fcw) (numOf x)).1 = r.mant * 2 ^ r.exp.toNat := rfl
      rw [magnitude]
      push_cast
      rfl
    unfold signedInteger
    rw [mag]
    rfl
  have half : ((2 : ℤ) ^ (8 * b - 1)) = ((2 ^ (8 * b - 1) : ℕ) : ℤ) := by push_cast; rfl
  rw [integer, half]
  exact ⟨fun finite low high => intImage_fits (by omega) finite ⟨low, high⟩, intImage_invalid⟩

/-- Settles O53: integers and BCD, then single and double precision by the class; at last the empty register. -/
theorem fpuImages : Obligations.FpuImages := by
  refine ⟨fun s x => ?_, fun s => ?_⟩
  · intro v n rc finite invalid
    refine ⟨rfl, fun b bytes => intImage_values x s bytes, ⟨fun finite small => ?_, bcdImage_bad⟩, fun f format => ?_⟩
    · exact ⟨_, bcdImage_good finite small, bcdImage_fields small⟩
    · have short := fmt_short format
      have values := realImage_values short x s
      have specials := realImage_specials short x s
      have ones := image_ones f (extNeg x)
      have sign : (numOf x).neg = extNeg x := rfl
      rw [sign] at values
      simp only [ones, Nat.add_zero] at values specials
      obtain ⟨infinite, quiet, signaling⟩ := specials
      refine ⟨fun h => (realImage_zero h).trans ?_, values, infinite, quiet, signaling, fun h => ?_⟩
      · have image : f.encode (extNeg x) 0 0 = if extNeg x then 2 ^ (8 * f.bytes - 1) else 0 := by
          cases extNeg x with
          | true => exact Nat.one_mul _
          | false => exact Nat.zero_mul _
        rw [image]
        rfl
      · rw [realImage_unsupported h, indefinite_eq format]
  · exact ⟨ifMasked_empty _ s, ifMasked_empty _ s, ifMasked_empty _ s, ifMasked_empty _ s, fun b _ => ifMasked_empty _ s⟩

end Sys2Proof.Machine
end

section
/-!
PROOFS. Operations on the coprocessor that change one register: the frame of the transcendental instructions (for O59).
-/

namespace Sys2Proof.Machine

open Claims

/-! ### The frame -/

/-- Only the coprocessor changed, of its registers only ST(i), and TOP and C2 stay. -/
structure StFrame (i : BitVec 3) (s t : State) : Prop where
  only : OnlyFpu s t
  top : t.fpu.fsw.top = s.fpu.fsw.top
  c2 : t.fpu.fsw.c2 = s.fpu.fsw.c2
  others : KeepsOthers s.fpu t.fpu [s.fpu.fsw.top + i]

theorem keepsOthers_trans {f g h : Fpu} {l : List (BitVec 3)} (first : KeepsOthers f g l) (second : KeepsOthers g h l) :
    KeepsOthers f h l := by
  refine ⟨second.1.trans first.1, fun j other => ?_⟩
  obtain ⟨register, tag⟩ := first.2 j other
  obtain ⟨register', tag'⟩ := second.2 j other
  exact ⟨register'.trans register, tag'.trans tag⟩

theorem keepsOthers_mono {f g : Fpu} {l m : List (BitVec 3)} (h : KeepsOthers f g l) (more : ∀ j, j ∈ l → j ∈ m) :
    KeepsOthers f g m :=
  ⟨h.1, fun j other => h.2 j fun listed => other (more j listed)⟩

theorem onlyFpu_trans {s t u : State} (first : OnlyFpu s t) (second : OnlyFpu t u) : OnlyFpu s u := by
  unfold OnlyFpu at *
  rw [second, first]

theorem StFrame.trans {i : BitVec 3} {s t u : State} (first : StFrame i s t) (second : StFrame i t u) : StFrame i s u := by
  refine ⟨onlyFpu_trans first.only second.only, second.top.trans first.top, second.c2.trans first.c2,
    keepsOthers_trans first.others ?_⟩
  rw [← first.top]
  exact second.others

theorem keepsOthers_setSt (f : Fpu) (i : BitVec 3) (x : Ext) : KeepsOthers f (f.setSt i x) [f.fsw.top + i] := by
  refine ⟨rfl, fun j other => ?_⟩
  have ne : ¬j = f.fsw.top + i := fun same => other (List.mem_singleton.mpr same)
  have registers : (f.setSt i x).fpr = f.fpr.set (f.fsw.top + i) x := rfl
  have tags : (f.setSt i x).tags = f.tags.set (f.fsw.top + i) (tagOf x) := rfl
  rw [registers, tags, Oct.get_set, Oct.get_set, if_neg ne, if_neg ne]
  exact ⟨rfl, rfl⟩

theorem st_setSt (f : Fpu) (i : BitVec 3) (x : Ext) : (f.setSt i x).st i = x := by
  have read : (f.setSt i x).st i = (f.fpr.set (f.phys i) x).get (f.phys i) := rfl
  rw [read, Oct.get_set, if_pos rfl]

/-! ### Operations within the frame -/

/-- The operation answers and keeps the frame. -/
def Keeps {α : Type} (i : BitVec 3) (x : M α) : Prop := ∀ s, ∃ a t, x s = .ok a t ∧ StFrame i s t

section

variable {α β : Type} {i : BitVec 3}

theorem Keeps.bind {x : M α} {f : α → M β} (hx : Keeps i x) (hf : ∀ a, Keeps i (f a)) : Keeps i (x >>= f) := by
  intro s
  obtain ⟨a, t, ran, frame⟩ := hx s
  obtain ⟨b, u, ran', frame'⟩ := hf a t
  exact ⟨b, u, (bind_of_ok ran f).trans ran', frame.trans frame'⟩

/-- An operation that leaves the state. -/
theorem Keeps.read {x : M α} (h : ∀ s, ∃ a, x s = .ok a s) : Keeps i x := fun s => by
  obtain ⟨a, ran⟩ := h s
  exact ⟨a, s, ran, rfl, rfl, rfl, rfl, fun _ _ => ⟨rfl, rfl⟩⟩

theorem Keeps.pure (a : α) : Keeps i (pure a : M α) := .read fun _ => ⟨_, rfl⟩
theorem Keeps.skip : Keeps i skip := .read fun _ => ⟨_, rfl⟩
theorem Keeps.masked (j : Nat) : Keeps i (masked j) := .read fun _ => ⟨_, rfl⟩
theorem Keeps.roundingControl : Keeps i roundingControl := .read fun _ => ⟨_, rfl⟩
theorem Keeps.x87Given : Keeps i x87Given := .read fun _ => ⟨_, rfl⟩

theorem Keeps.setSt (x : Ext) : Keeps i (setSt i x) :=
  fun s => ⟨(), _, rfl, rfl, rfl, rfl, keepsOthers_setSt s.fpu i x⟩

theorem Keeps.updFsw {f : Fsw → Fsw} (top : ∀ w, (f w).top = w.top) (c2 : ∀ w, (f w).c2 = w.c2) : Keeps i (updFsw f) :=
  fun _ => ⟨(), _, rfl, rfl, top _, c2 _, rfl, fun _ _ => ⟨rfl, rfl⟩⟩

theorem Keeps.drawBit : Keeps i drawBit := fun _ => ⟨_, _, rfl, rfl, rfl, rfl, rfl, fun _ _ => ⟨rfl, rfl⟩⟩
theorem Keeps.drawExt : Keeps i drawExt := fun _ => ⟨_, _, rfl, rfl, rfl, rfl, rfl, fun _ _ => ⟨rfl, rfl⟩⟩
theorem Keeps.invalid : Keeps i invalid := fun _ => ⟨_, _, rfl, rfl, rfl, rfl, rfl, fun _ _ => ⟨rfl, rfl⟩⟩
theorem Keeps.zeroDivide : Keeps i zeroDivide := fun _ => ⟨_, _, rfl, rfl, rfl, rfl, rfl, fun _ _ => ⟨rfl, rfl⟩⟩

theorem Keeps.onlyIf (c : Bool) {x : M Unit} (h : Keeps i x) : Keeps i (onlyIf c x) := by
  cases c
  · exact .skip
  · exact h

theorem Keeps.denormalIf (c : Bool) : Keeps i (denormalIf c) := .onlyIf c (.updFsw (fun _ => rfl) fun _ => rfl)
theorem Keeps.inexactIf (c up : Bool) : Keeps i (inexactIf c up) := .onlyIf c (.updFsw (fun _ => rfl) fun _ => rfl)

theorem Keeps.adjusted (neg : Bool) (m : Nat) (e : Int) : Keeps i (adjusted neg m e) := by
  unfold Machine.adjusted
  split
  · exact .pure _
  · exact .drawExt

theorem Keeps.deliverRounded (f : Fmt) (neg : Bool) (r d : Rounded) : Keeps i (deliverRounded i f neg r d) := by
  refine .bind .roundingControl fun rc => ?_
  split
  · refine .bind (.masked _) fun m => .bind (.updFsw (fun _ => rfl) fun _ => rfl) fun _ => ?_
    split
    · exact .bind (.inexactIf _ _) fun _ => .setSt _
    · exact .bind (.inexactIf _ _) fun _ => .bind (.adjusted _ _ _) fun _ => .setSt _
  · split
    · refine .bind (.masked _) fun m => ?_
      split
      · exact .bind (.onlyIf _ (.updFsw (fun _ => rfl) fun _ => rfl)) fun _ => .bind (.inexactIf _ _) fun _ => .setSt _
      · exact .bind (.updFsw (fun _ => rfl) fun _ => rfl) fun _ => .bind (.inexactIf _ _) fun _ =>
          .bind (.adjusted _ _ _) fun _ => .setSt _
    · exact .bind (.inexactIf _ _) fun _ => .setSt _

theorem Keeps.deliverNum (p : Nat) (n : Machine.Num) : Keeps i (deliverNum i p n) :=
  .bind .roundingControl fun _ => .deliverRounded _ _ _ _

theorem Keeps.deliverApprox (a : Approx) : Keeps i (deliverApprox i a) :=
  .bind .roundingControl fun _ => .deliverRounded _ _ _ _

theorem Keeps.deliverCalc (p : Nat) (den : Bool) (c : Calc) : Keeps i (deliverCalc i p den c) := by
  cases c with
  | nan x ia =>
    cases ia
    · exact .bind (.pure true) fun m => .bind (.onlyIf _ (.setSt _)) fun _ => .pure _
    · exact .bind .invalid fun m => .bind (.onlyIf _ (.setSt _)) fun _ => .pure _
  | ia => exact .bind .invalid fun m => .bind (.onlyIf _ (.setSt _)) fun _ => .pure _
  | zdiv neg =>
    exact .bind .zeroDivide fun m => .bind (.onlyIf _ (.bind (.denormalIf _) fun _ => .setSt _)) fun _ => .pure _
  | special x => exact .bind (.denormalIf _) fun _ => .bind (.setSt _) fun _ => .pure _
  | num n =>
    refine .bind (.denormalIf _) fun _ => ?_
    dsimp only
    split
    · exact .bind (.setSt _) fun _ => .pure _
    · exact .bind (.deliverNum _ _) fun _ => .pure _

theorem Keeps.undefinedResult : Keeps i (undefinedResult i) :=
  .bind .drawExt fun _ => .bind (.setSt _) fun _ => .bind .drawBit fun _ => .bind .drawBit fun _ => .bind .drawBit fun _ =>
    .bind .drawBit fun _ => .bind .drawBit fun _ => .bind .drawBit fun _ => .bind .drawBit fun _ => .bind .drawBit fun _ =>
    .updFsw (fun _ => rfl) fun _ => rfl

end

theorem Keeps.deliver0 (p : Nat) (den : Bool) (c : Calc) : Keeps 0 (deliver0 p den c) :=
  .bind (.deliverCalc _ _ _) fun _ => .skip

/-! ### Operations that complete where every exception is masked -/

/-- Where every exception is masked the operation completes and keeps the frame. -/
def Completes (i : BitVec 3) (x : M Bool) : Prop := ∀ s, AllMasked s.fpu → ∃ t, x s = .ok true t ∧ StFrame i s t

section

variable {α : Type} {i : BitVec 3}

theorem Completes.bind {x : M α} {f : α → M Bool} (hx : Keeps i x) (hf : ∀ a, Completes i (f a)) : Completes i (x >>= f) := by
  intro s masks
  obtain ⟨a, t, ran, frame⟩ := hx s
  have masks' : AllMasked t.fpu := fun j hj => by
    rw [frame.others.1]
    exact masks j hj
  obtain ⟨u, ran', frame'⟩ := hf a t masks'
  exact ⟨u, (bind_of_ok ran f).trans ran', frame.trans frame'⟩

theorem Completes.pure : Completes i (pure true) := fun s _ => by
  obtain ⟨a, t, ran, frame⟩ := Keeps.pure (i := i) true s
  cases ran
  exact ⟨s, rfl, frame⟩

theorem deliverCalc_go {p : Nat} {den go : Bool} {c : Calc} {s t : State} (masks : AllMasked s.fpu)
    (ran : deliverCalc i p den c s = .ok go t) : go = true := by
  have mask0 := masks 0 (by decide)
  have mask2 := masks 2 (by decide)
  cases c with
  | nan x ia =>
    rw [deliverCalc_nan, mask0, if_neg (by simp)] at ran
    cases ran
    rfl
  | ia =>
    rw [deliverCalc_ia, mask0, if_pos rfl] at ran
    cases ran
    rfl
  | zdiv neg =>
    rw [deliverCalc_zdiv, mask2, if_pos rfl] at ran
    cases ran
    rfl
  | special x =>
    rw [deliverCalc_special] at ran
    cases ran
    rfl
  | num n =>
    by_cases none : n.mant = 0
    · rw [deliverCalc_zero none] at ran
      cases ran
      rfl
    · obtain ⟨⟨⟩, u, delivered, -⟩ := FpuOnly.deliverNum i p n { s with fpu := raised s.fpu false den }
      rw [deliverCalc_num none delivered] at ran
      cases ran
      rfl

theorem Completes.deliverCalc (p : Nat) (den : Bool) (c : Calc) : Completes i (deliverCalc i p den c) := by
  intro s masks
  obtain ⟨go, t, ran, frame⟩ := Keeps.deliverCalc (i := i) p den c s
  rw [deliverCalc_go masks ran] at ran
  exact ⟨t, ran, frame⟩

end

/-! ### Operations that push -/

/-- Where every exception is masked the operation replaces ST(0) and pushes. -/
def Pushes (x : M Unit) : Prop := ∀ s, AllMasked s.fpu → ∃ t, x s = .ok () t ∧ OnlyFpu s t ∧
  t.fpu.fsw.top = s.fpu.fsw.top - 1 ∧ t.fpu.fsw.c2 = s.fpu.fsw.c2 ∧
  KeepsOthers s.fpu t.fpu [s.fpu.fsw.top, s.fpu.fsw.top - 1]

theorem Pushes.bind {α : Type} {x : M α} {f : α → M Unit} (hx : Keeps 0 x) (hf : ∀ a, Pushes (f a)) : Pushes (x >>= f) := by
  intro s masks
  obtain ⟨a, t, ran, frame⟩ := hx s
  have masks' : AllMasked t.fpu := fun j hj => by
    rw [frame.others.1]
    exact masks j hj
  obtain ⟨u, ran', only, top, c2, others⟩ := hf a t masks'
  rw [frame.top] at top others
  refine ⟨u, (bind_of_ok ran f).trans ran', onlyFpu_trans frame.only only, top, c2.trans frame.c2, ?_⟩
  refine keepsOthers_trans (keepsOthers_mono frame.others fun j listed => ?_) others
  rw [List.mem_singleton.mp listed, show s.fpu.fsw.top + 0 = s.fpu.fsw.top from BitVec.add_zero _]
  exact List.mem_cons_self

/-- A push, and what is done to the new ST(0) afterwards. -/
theorem Pushes.push {x : M Unit} (v : Ext) (hx : Keeps 0 x) : Pushes (do
    updFpu fun f => f.pushed v
    x) := by
  intro s _
  obtain ⟨⟨⟩, t, ran, frame⟩ := hx { s with fpu := stacked s.fpu v }
  have below : s.fpu.fsw.top - 1 + 0 = s.fpu.fsw.top - 1 := BitVec.add_zero _
  have others := frame.others
  have pushes : KeepsOthers s.fpu (stacked s.fpu v) [s.fpu.fsw.top - 1] := by
    refine ⟨rfl, fun j other => ?_⟩
    have ne : ¬j = s.fpu.fsw.top - 1 := fun same => other (List.mem_singleton.mpr same)
    unfold stacked
    rw [Oct.get_set, Oct.get_set, if_neg ne, if_neg ne]
    exact ⟨rfl, rfl⟩
  refine ⟨t, ?_, frame.only, frame.top, frame.c2, ?_⟩
  · refine (bind_of_ok (run_updFpu _ s) _).trans ?_
    rw [pushed_eq]
    exact ran
  · have same : (stacked s.fpu v).fsw.top + 0 = s.fpu.fsw.top - 1 := below
    rw [same] at others
    exact keepsOthers_mono (keepsOthers_trans pushes others) fun j listed => List.mem_cons_of_mem _ listed

theorem Pushes.push_only (v : Ext) : Pushes (updFpu fun f => f.pushed v) := fun s masks => by
  obtain ⟨t, ran, frame⟩ := Pushes.push v Keeps.skip s masks
  exact ⟨t, ran, frame⟩

theorem Pushes.replaceAndPush (x y : Ext) : Pushes (replaceAndPush x y) := .bind (.setSt x) fun _ => .push_only y

theorem Pushes.invalidPair (ia : Bool) (x y : Ext) : Pushes (invalidPair ia x y) := by
  intro s masks
  obtain ⟨t, ran, frame⟩ := Pushes.replaceAndPush x y (if ia then { s with fpu := raised s.fpu true false } else s) (by
    cases ia <;> exact masks)
  refine ⟨t, ?_, ?_⟩
  · unfold Machine.invalidPair
    cases ia with
    | false => exact ran
    | true =>
      refine (bind_of_ok (run_invalid s) _).trans ?_
      rw [masks 0 (by decide), raised_invalid]
      exact ran
  · cases ia <;> exact frame

end Sys2Proof.Machine
end

section
/-!
PROOFS. The transcendental instructions: completion, stack, range and zeros (for O59).
-/

namespace Sys2Proof.Machine

open Claims

/-! ### Operations on ST(0) -/

/-- The start of a numeric instruction, C2 written. -/
def c2State (s : State) (c2 : Bool) : State :=
  { numericState s with fpu := { (numericState s).fpu with fsw := { (numericState s).fpu.fsw with c2 := c2 } } }

/-- What the frame of the body says of the instruction. -/
theorem StFrame.from_start {s t : State} {c2 : Bool} (h : StFrame 0 (c2State s c2) t) :
    OnlyFpu (past s) t ∧ t.fpu.fsw.top = s.fpu.fsw.top ∧ t.fpu.fsw.c2 = c2 ∧ KeepsOthers s.fpu t.fpu [s.fpu.fsw.top] := by
  have only : OnlyFpu (past s) (c2State s c2) := rfl
  have others := h.others
  have place : (c2State s c2).fpu.fsw.top + 0 = s.fpu.fsw.top := BitVec.add_zero _
  rw [place] at others
  exact ⟨onlyFpu_trans only h.only, h.top, h.c2, others⟩

theorem c2State_self (s : State) : c2State s (numericState s).fpu.fsw.c2 = numericState s := rfl

theorem unary_keeps {s : State} (ready : FpuReady s) (present : s.fpu.empty 0 = false) {f : FVal → M Unit}
    (h : ∀ v, Keeps 0 (f v)) : ∃ t, runInstr (unary f) s = .next t ∧ OnlyFpu (past s) t ∧
      t.fpu.fsw.top = s.fpu.fsw.top ∧ KeepsOthers s.fpu t.fpu [s.fpu.fsw.top] := by
  obtain ⟨⟨⟩, t, ran, frame⟩ := h (FVal.ofExt (s.fpu.st 0)) (numericState s)
  rw [← c2State_self] at frame
  obtain ⟨only, top, -, others⟩ := frame.from_start
  exact ⟨t, runInstr_of_ok ((unary_some ready f present).trans ran), only, top, others⟩

/-- F2XM1 for an operand that is no NaN and not unsupported. -/
def exp2m1Ends (given : X87Answers) (v : FVal) : M Unit :=
  if extCls v.x = .zero then deliver0 64 false (.special v.x)
  else if extMag extOne < extMag v.x then undefinedResult 0
  else if extMag v.x = extMag extOne then
    deliver0 64 false (.special (if extNeg v.x then magExt true (extMag extHalf) else extOne))
  else do
    denormalIf v.den
    deliverApprox 0 ((given.f2xm1.withSign (extNeg v.x)).within (extZero false) (if extNeg v.x then extHalf else extOne))

/-- F2XM1 on its operand. -/
def exp2m1On (v : FVal) : M Unit := do
  let given ← x87Given
  match badOperand v.x with
  | some c => deliver0 64 false c
  | none => exp2m1Ends given v

theorem exp2m1_eq : exp2m1 = unary exp2m1On := rfl

theorem Keeps.exp2m1On (v : FVal) : Keeps 0 (exp2m1On v) := by
  refine .bind .x87Given fun given => ?_
  cases badOperand v.x with
  | some c => exact .deliver0 _ _ _
  | none =>
    show Keeps 0 (exp2m1Ends given v)
    unfold exp2m1Ends
    split_ifs
    · exact .deliver0 _ _ _
    · exact .undefinedResult
    · exact .deliver0 _ _ _
    · exact .deliver0 _ _ _
    · exact .bind (.denormalIf _) fun _ => .deliverApprox _
    · exact .bind (.denormalIf _) fun _ => .deliverApprox _

/-! ### FSIN and FCOS -/

/-- FSIN and FCOS within their range: `a` is the approximation, `z` the value of a zero. -/
def trigEnds (a : Approx) (z : Ext) (v : FVal) : M Unit :=
  match badOperand v.x with
  | some c => deliver0 64 false c
  | none =>
      match extCls v.x with
      | .infinity => deliver0 64 false .ia
      | .zero => deliver0 64 false (.special z)
      | _ => do
          denormalIf v.den
          deliverApprox 0 a

/-- FSIN and FCOS on their operand. -/
def trigOn (f : X87Answers → FVal → Approx) (atZero : Ext → Ext) (v : FVal) : M Unit := do
  let given ← x87Given
  if outOfRange v.x then do
    let c1 ← drawBit
    setC1 c1
    setC2 true
  else do
    setC2 false
    trigEnds (f given v) (atZero v.x) v

theorem trig_eq (f : X87Answers → FVal → Approx) (atZero : Ext → Ext) : trig f atZero = unary (trigOn f atZero) := rfl

theorem Keeps.trigEnds (a : Approx) (z : Ext) (v : FVal) : Keeps 0 (trigEnds a z v) := by
  unfold Machine.trigEnds
  cases badOperand v.x with
  | some c => exact .deliver0 _ _ _
  | none =>
    cases extCls v.x with
    | infinity => exact .deliver0 _ _ _
    | zero => exact .deliver0 _ _ _
    | denormal => exact .bind (.denormalIf _) fun _ => .deliverApprox _
    | normal => exact .bind (.denormalIf _) fun _ => .deliverApprox _
    | qnan => exact .bind (.denormalIf _) fun _ => .deliverApprox _
    | snan => exact .bind (.denormalIf _) fun _ => .deliverApprox _
    | unsupported => exact .bind (.denormalIf _) fun _ => .deliverApprox _

section

variable {s : State} (ready : FpuReady s) (present : s.fpu.empty 0 = false)

include ready present

theorem trig_inRange (f : X87Answers → FVal → Approx) (atZero : Ext → Ext) (within : outOfRange (s.fpu.st 0) = false) :
    trig f atZero (past s) = trigEnds (f s.ins.x87 (FVal.ofExt (s.fpu.st 0))) (atZero (s.fpu.st 0)) (FVal.ofExt (s.fpu.st 0))
      (c2State s false) := by
  have stays : ¬outOfRange (FVal.ofExt (s.fpu.st 0)).x = true := by
    rw [show (FVal.ofExt (s.fpu.st 0)).x = s.fpu.st 0 from rfl, within]
    exact Bool.false_ne_true
  rw [trig_eq]
  refine (unary_some ready _ present).trans ?_
  exact (bind_of_ok (rfl : x87Given (numericState s) = .ok s.ins.x87 (numericState s)) _).trans
    ((congrFun (if_neg stays) _).trans (bind_of_ok (run_updFsw _ _) _))

/-- Out of range C1 is a free value, C2 is set and nothing else happens. -/
theorem trig_outOfRange (f : X87Answers → FVal → Approx) (atZero : Ext → Ext) (large : outOfRange (s.fpu.st 0) = true) :
    ∃ c1 k, trig f atZero (past s) = .ok () { numericState s with
      draws := k,
      fpu := { (numericState s).fpu with fsw := { (numericState s).fpu.fsw with c1 := c1, c2 := true } } } := by
  rw [trig_eq]
  refine ⟨Config.freeBit (numericState s).draws, (numericState s).draws + 1, (unary_some ready _ present).trans ?_⟩
  exact (bind_of_ok (rfl : x87Given (numericState s) = .ok s.ins.x87 (numericState s)) _).trans
    ((congrFun (if_pos large) _).trans ((bind_of_ok rfl _).trans ((bind_of_ok (run_setC1 _ _) _).trans (run_updFsw _ _))))

theorem trig_keeps (f : X87Answers → FVal → Approx) (atZero : Ext → Ext) : ∃ t, runInstr (trig f atZero) s = .next t ∧
    OnlyFpu (past s) t ∧ t.fpu.fsw.top = s.fpu.fsw.top ∧ KeepsOthers s.fpu t.fpu [s.fpu.fsw.top] := by
  cases range : outOfRange (s.fpu.st 0) with
  | true =>
    obtain ⟨c1, k, ran⟩ := trig_outOfRange ready present f atZero range
    exact ⟨_, runInstr_of_ok ran, rfl, rfl, rfl, fun _ _ => ⟨rfl, rfl⟩⟩
  | false =>
    obtain ⟨⟨⟩, t, ran, frame⟩ := Keeps.trigEnds (f s.ins.x87 (FVal.ofExt (s.fpu.st 0))) (atZero (s.fpu.st 0))
      (FVal.ofExt (s.fpu.st 0)) (c2State s false)
    obtain ⟨only, top, -, others⟩ := frame.from_start
    exact ⟨t, runInstr_of_ok ((trig_inRange ready present f atZero range).trans ran), only, top, others⟩

/-- The value of a zero. -/
theorem trig_zero (f : X87Answers → FVal → Approx) (atZero : Ext → Ext) (zero : extCls (s.fpu.st 0) = .zero) :
    ∃ t, runInstr (trig f atZero) s = .next t ∧ t.fpu.st 0 = atZero (s.fpu.st 0) := by
  have within : outOfRange (s.fpu.st 0) = false := by
    unfold outOfRange
    rw [zero]
    rfl
  have ordinary : Ordinary (s.fpu.st 0) := .inl (.inl zero)
  have plain : badOperand (FVal.ofExt (s.fpu.st 0)).x = none := badOperands_none ordinary ordinary
  have class_ : extCls (FVal.ofExt (s.fpu.st 0)).x = .zero := zero
  have ends : trigEnds (f s.ins.x87 (FVal.ofExt (s.fpu.st 0))) (atZero (s.fpu.st 0)) (FVal.ofExt (s.fpu.st 0)) =
      deliver0 64 false (.special (atZero (s.fpu.st 0))) := by
    unfold trigEnds
    simp only [plain, class_]
  refine ⟨{ c2State s false with fpu := (raised (c2State s false).fpu false false).setSt 0 (atZero (s.fpu.st 0)) },
    runInstr_of_ok ((trig_inRange ready present f atZero within).trans ?_), st_setSt _ 0 _⟩
  rw [ends]
  exact bind_of_ok (deliverCalc_special 64 false _) _

/-! ### FPTAN and FSINCOS -/

theorem trigPush_outOfRange (f : FVal → M Unit) (large : outOfRange (s.fpu.st 0) = true) :
    trigPush f (past s) = .ok () (c2State s true) := by
  have operand := run_stOperand 0 (numericState s)
  rw [show (numericState s).fpu.empty 0 = false from present, if_neg Bool.false_ne_true] at operand
  refine (numeric_drawn ready _).trans ((bind_of_ok operand _).trans ((congrFun (if_pos ?_) _).trans (run_updFsw _ _)))
  exact large

theorem trigPush_inRange (f : FVal → M Unit) (within : outOfRange (s.fpu.st 0) = false) (room : s.fpu.empty 7 = true) :
    trigPush f (past s) = f (FVal.ofExt (s.fpu.st 0)) (c2State s false) := by
  have operand := run_stOperand 0 (numericState s)
  rw [show (numericState s).fpu.empty 0 = false from present, if_neg Bool.false_ne_true] at operand
  have operand' := run_stOperand 0 (c2State s false)
  rw [show (c2State s false).fpu.empty 0 = false from present, if_neg Bool.false_ne_true] at operand'
  have stays : ¬((some (FVal.ofExt ((numericState s).fpu.st 0))).any fun v => outOfRange v.x) = true := by
    have same : ((some (FVal.ofExt ((numericState s).fpu.st 0))).any fun v => outOfRange v.x) = outOfRange (s.fpu.st 0) := rfl
    rw [same, within]
    exact Bool.false_ne_true
  refine (numeric_drawn ready _).trans ((bind_of_ok operand _).trans ((congrFun (if_neg stays) _).trans
    ((bind_of_ok (run_updFsw _ _) _).trans ?_)))
  unfold extracting
  exact (bind_of_ok (run_getFpu _) _).trans ((bind_of_ok operand' _).trans (congrFun (if_pos room) _))

theorem trigPush_pushes {f : FVal → M Unit} (h : ∀ v, Pushes (f v)) (within : outOfRange (s.fpu.st 0) = false)
    (room : s.fpu.empty 7 = true) (masks : AllMasked s.fpu) : ∃ t, f (FVal.ofExt (s.fpu.st 0)) (c2State s false) = .ok () t ∧
      runInstr (trigPush f) s = .next t ∧ OnlyFpu (past s) t ∧ t.fpu.fsw.top = s.fpu.fsw.top - 1 ∧ t.fpu.fsw.c2 = false ∧
      KeepsOthers s.fpu t.fpu [s.fpu.fsw.top, s.fpu.fsw.top - 1] := by
  obtain ⟨t, ran, only, top, c2, others⟩ := h (FVal.ofExt (s.fpu.st 0)) (c2State s false) masks
  have start : OnlyFpu (past s) (c2State s false) := rfl
  exact ⟨t, ran, runInstr_of_ok ((trigPush_inRange ready present f within room).trans ran), onlyFpu_trans start only, top, c2,
    others⟩

end

/-- FPTAN on its operand. -/
def tangentOn (v : FVal) : M Unit := do
  let given ← x87Given
  match badOperand v.x with
  | some (.nan x ia) => invalidPair ia x extOne
  | some _ => invalidPair true indefinite extOne
  | none =>
      match extCls v.x with
      | .infinity => invalidPair true indefinite extOne
      | .zero => replaceAndPush v.x extOne
      | _ => do
          denormalIf v.den
          deliverApprox 0 (given.ftan.within (extZero false) extMax)
          updFpu fun f => f.pushed extOne

theorem tangent_eq : tangent = trigPush tangentOn := rfl

theorem tangentOn_finite {v : FVal} (ordinary : badOperand v.x = none) (class_ : extCls v.x = .denormal ∨ extCls v.x = .normal) :
    tangentOn v = (do
      let given ← x87Given
      denormalIf v.den
      deliverApprox 0 (given.ftan.within (extZero false) extMax)
      updFpu fun f => f.pushed extOne) := by
  unfold tangentOn
  rcases class_ with h | h <;> simp only [ordinary, h]

theorem Pushes.tangentOn (v : FVal) : Pushes (tangentOn v) := by
  refine .bind .x87Given fun given => ?_
  cases badOperand v.x with
  | some c => cases c <;> exact .invalidPair _ _ _
  | none =>
    cases extCls v.x with
    | infinity => exact .invalidPair _ _ _
    | zero => exact .replaceAndPush _ _
    | denormal => exact .bind (.denormalIf _) fun _ => .bind (.deliverApprox _) fun _ => .push_only _
    | normal => exact .bind (.denormalIf _) fun _ => .bind (.deliverApprox _) fun _ => .push_only _
    | qnan => exact .bind (.denormalIf _) fun _ => .bind (.deliverApprox _) fun _ => .push_only _
    | snan => exact .bind (.denormalIf _) fun _ => .bind (.deliverApprox _) fun _ => .push_only _
    | unsupported => exact .bind (.denormalIf _) fun _ => .bind (.deliverApprox _) fun _ => .push_only _

/-- FSINCOS on its operand. -/
def sineCosineOn (v : FVal) : M Unit := do
  let given ← x87Given
  match badOperand v.x with
  | some (.nan x ia) => invalidPair ia x x
  | some _ => invalidPair true indefinite indefinite
  | none =>
      match extCls v.x with
      | .infinity => invalidPair true indefinite indefinite
      | .zero => replaceAndPush v.x extOne
      | _ => do
          denormalIf v.den
          deliverApprox 0 (sineOf given v)
          updFpu fun f => f.pushed extOne
          setC1 false
          deliverApprox 0 (cosineOf given v)

theorem sineCosine_eq : sineCosine = trigPush sineCosineOn := rfl

theorem Pushes.sineCosineOn (v : FVal) : Pushes (sineCosineOn v) := by
  refine .bind .x87Given fun given => ?_
  have both : Pushes (do
      denormalIf v.den
      deliverApprox 0 (sineOf given v)
      updFpu fun f => f.pushed extOne
      setC1 false
      deliverApprox 0 (cosineOf given v)) :=
    .bind (.denormalIf _) fun _ => .bind (.deliverApprox _) fun _ =>
      .push _ (.bind (.updFsw (fun _ => rfl) fun _ => rfl) fun _ => .deliverApprox _)
  cases badOperand v.x with
  | some c => cases c <;> exact .invalidPair _ _ _
  | none =>
    cases extCls v.x with
    | infinity => exact .invalidPair _ _ _
    | zero => exact .replaceAndPush _ _
    | denormal => exact both
    | normal => exact both
    | qnan => exact both
    | snan => exact both
    | unsupported => exact both

/-! ### FYL2X, FYL2XP1 and FPATAN -/

theorem binaryPop_pops {s : State} (ready : FpuReady s) (first : s.fpu.empty 0 = false) (second : s.fpu.empty 1 = false)
    (masks : AllMasked s.fpu) {f : FVal → FVal → M Bool} (h : ∀ a b, Completes 1 (f a b)) :
    ∃ t, runInstr (binaryPop f) s = .next t ∧ OnlyFpu (past s) t ∧ t.fpu.fsw.top = s.fpu.fsw.top + 1 ∧
      t.fpu.tags.get s.fpu.fsw.top = .empty ∧ KeepsOthers s.fpu t.fpu [s.fpu.fsw.top, s.fpu.fsw.top + 1] := by
  have operand0 := run_stOperand 0 (numericState s)
  rw [show (numericState s).fpu.empty 0 = false from first, if_neg Bool.false_ne_true] at operand0
  have operand1 := run_stOperand 1 (numericState s)
  rw [show (numericState s).fpu.empty 1 = false from second, if_neg Bool.false_ne_true] at operand1
  obtain ⟨t, ran, frame⟩ := h (FVal.ofExt (s.fpu.st 0)) (FVal.ofExt (s.fpu.st 1)) (numericState s) masks
  have start : OnlyFpu (past s) (numericState s) := rfl
  have top : t.fpu.fsw.top = s.fpu.fsw.top := frame.top
  have others : KeepsOthers s.fpu t.fpu [s.fpu.fsw.top + 1] := frame.others
  refine ⟨{ t with fpu := poppedOff t.fpu }, runInstr_of_ok ?_, ?_, ?_, ?_, ?_⟩
  · exact (numeric_drawn ready _).trans ((bind_of_ok operand0 _).trans ((bind_of_ok operand1 _).trans
      ((bind_of_ok ran _).trans (run_popIf true t))))
  · exact onlyFpu_trans (onlyFpu_trans start frame.only) rfl
  · show t.fpu.fsw.top + 1 = _
    rw [top]
  · show (t.fpu.tags.set t.fpu.fsw.top .empty).get _ = _
    rw [top, Oct.get_set, if_pos rfl]
  · refine keepsOthers_trans (keepsOthers_mono others fun j listed => List.mem_cons_of_mem _ listed)
      ⟨rfl, fun j other => ⟨rfl, ?_⟩⟩
    have ne : ¬j = s.fpu.fsw.top := fun same => other (same ▸ List.mem_cons_self)
    show (t.fpu.tags.set t.fpu.fsw.top .empty).get j = _
    rw [top, Oct.get_set, if_neg ne]

theorem exec_popping {s : State} (ready : FpuReady s) (first : s.fpu.empty 0 = false) (second : s.fpu.empty 1 = false)
    (masks : AllMasked s.fpu) {i : Instr} (h : i = .fyl2x ∨ i = .fyl2xp1 ∨ i = .fpatan) :
    ∃ t, exec i s = .next t ∧ OnlyFpu (past s) t ∧ t.fpu.fsw.top = s.fpu.fsw.top + 1 ∧
      t.fpu.tags.get s.fpu.fsw.top = .empty ∧ KeepsOthers s.fpu t.fpu [s.fpu.fsw.top, s.fpu.fsw.top + 1] := by
  rcases h with rfl | rfl | rfl
  · refine binaryPop_pops ready first second masks fun x y => ?_
    refine .bind .x87Given fun given => ?_
    cases specialLog x.x y.x with
    | some c => exact .deliverCalc _ _ _
    | none => exact .bind (.denormalIf _) fun _ => .bind (.deliverApprox _) fun _ => .pure
  · refine binaryPop_pops ready first second masks fun x y => ?_
    refine .bind .x87Given fun given => ?_
    cases badOperands x.x y.x with
    | some c => exact .deliverCalc _ _ _
    | none =>
      dsimp only
      split_ifs
      · exact .bind .undefinedResult fun _ => .pure
      · cases specialLog1 x.x y.x with
        | some c => exact .deliverCalc _ _ _
        | none => exact .bind (.denormalIf _) fun _ => .bind (.deliverApprox _) fun _ => .pure
  · refine binaryPop_pops ready first second masks fun x y => ?_
    refine .bind .roundingControl fun rc => .bind .x87Given fun given => ?_
    cases specialAngle rc x.x y.x with
    | some c => exact .deliverCalc _ _ _
    | none => exact .bind (.denormalIf _) fun _ => .bind (.deliverApprox _) fun _ => .pure

/-! ### The range -/

theorem outOfRange_iff (x : Ext) : outOfRange x = true ↔ Finite x ∧ (2 : ℚ) ^ 63 ≤ |value (numOf x)| := by
  have power : (2 : ℚ) ^ 63 = 2 ^ (63 : ℤ) := by norm_num
  unfold outOfRange
  rw [Bool.and_eq_true, Bool.or_eq_true, decide_eq_true_eq, decide_eq_true_eq, decide_eq_true_eq, power]
  have compare : (numOf x).mant ≠ 0 → (63 ≤ (numOf x).top ↔ (2 : ℚ) ^ (63 : ℤ) ≤ |value (numOf x)|) := fun some => by
    obtain ⟨low, high⟩ := top_bounds some
    refine ⟨fun large => (zpow_le_zpow_right₀ (by norm_num) large).trans low, fun large => ?_⟩
    have less := (zpow_lt_zpow_iff_right₀ (by norm_num : (1 : ℚ) < 2)).mp (large.trans_lt high)
    omega
  refine ⟨fun ⟨class_, large⟩ => ?_, fun ⟨finite, large⟩ => ?_⟩
  · have finite : Finite x := class_.elim (fun h => .inr (.inr h)) fun h => .inr (.inl h)
    have some : (numOf x).mant ≠ 0 := by
      rw [Ne, ← value_eq_zero_iff, value_numOf_eq_zero finite]
      rcases class_ with h | h <;> simp [h]
    exact ⟨finite, (compare some).mp large⟩
  · have some : value (numOf x) ≠ 0 := fun none => by
      rw [none, abs_zero] at large
      exact absurd large (not_le.mpr (two_zpow_pos _))
    exact ⟨(finite_some finite some).symm, (compare (mant_pos some).ne').mpr large⟩

end Sys2Proof.Machine
end

section
/-!
PROOFS. How near an approximation stays to the exact result through its range and its delivery (for O59).
-/

namespace Sys2Proof.Machine

open Claims

/-! ### Real values -/

theorem real_eq (n : Machine.Num) : n.real = ((value n : ℚ) : ℝ) := by
  unfold Num.real
  rw [value_eq]
  cases n.neg <;> simp [signOf]

/-- The sign as a real factor. -/
noncomputable def realSign (neg : Bool) : ℝ := if neg then -1 else 1

theorem realSign_abs (neg : Bool) : |realSign neg| = 1 := by
  cases neg <;> simp [realSign]

/-- The magnitude of an approximation. -/
noncomputable def Approx.size (a : Approx) : ℝ := a.sig.toNat * (2 : ℝ) ^ a.exp

theorem Approx.size_nonneg (a : Approx) : 0 ≤ a.size := by
  unfold Approx.size
  positivity

theorem Approx.real_eq_size (a : Approx) : a.num.real = realSign a.neg * a.size := rfl

theorem ulp_pos (e : ℝ) : 0 < ulp e := zpow_pos (by norm_num) _

/-- A unit in the last place is small beside the number. -/
theorem ulp_lt_half {e : ℝ} (some : e ≠ 0) : ulp e < |e| / 2 := by
  have low : (2 : ℝ) ^ Int.log 2 |e| ≤ |e| := by
    exact_mod_cast Int.zpow_log_le_self (b := 2) (by norm_num) (abs_pos.mpr some)
  have pos : (0 : ℝ) < 2 ^ Int.log 2 |e| := zpow_pos (by norm_num) _
  have tiny : (2 : ℝ) ^ (-63 : ℤ) < 1 / 2 := by norm_num
  unfold ulp
  rw [sub_eq_add_neg, zpow_add₀ (by norm_num)]
  calc (2 : ℝ) ^ Int.log 2 |e| * 2 ^ (-63 : ℤ) < 2 ^ Int.log 2 |e| * (1 / 2) := mul_lt_mul_of_pos_left tiny pos
    _ ≤ |e| * (1 / 2) := mul_le_mul_of_nonneg_right low (by norm_num)
    _ = |e| / 2 := by ring

section

variable {a : Approx} {e : ℝ}

/-- An approximation within a unit of the exact result has its sign, and its magnitude is as near. -/
theorem size_close (some : e ≠ 0) (h : |a.num.real - e| ≤ ulp e) : e = realSign a.neg * |e| ∧ abs (a.size - |e|) ≤ ulp e := by
  have small := ulp_lt_half some
  have pos := abs_pos.mpr some
  have nonneg := a.size_nonneg
  rw [a.real_eq_size] at h
  have reverse := abs_le.mp h
  cases neg : a.neg with
  | true =>
    have sign : realSign true = -1 := rfl
    rw [neg, sign] at h reverse
    have minus : e < 0 := by
      by_contra plus
      rw [abs_of_nonneg (not_lt.mp plus)] at small pos
      linarith [reverse.1]
    rw [sign, abs_of_neg minus]
    refine ⟨by ring, ?_⟩
    rw [← abs_neg]
    convert h using 2
    ring
  | false =>
    have sign : realSign false = 1 := rfl
    rw [neg, sign, one_mul] at h reverse
    have plus : 0 ≤ e := by
      by_contra minus
      rw [abs_of_neg (not_le.mp minus)] at small pos
      linarith [reverse.2]
    rw [sign, one_mul, abs_of_nonneg plus]
    exact ⟨rfl, h⟩

theorem close_of_size (sign : e = realSign a.neg * |e|) (h : abs (a.size - |e|) ≤ ulp e) : |a.num.real - e| ≤ ulp e := by
  rw [a.real_eq_size]
  have factor : realSign a.neg * a.size - e = realSign a.neg * (a.size - |e|) := by
    rw [mul_sub, ← sign]
  rwa [factor, abs_mul, realSign_abs, one_mul]

/-! ### The range that the spec states -/

theorem size_withMag {x : Ext} (plus : extNeg x = false) : (a.withMag x).size = ((value (numOf x) : ℚ) : ℝ) := by
  have sig : (a.withMag x).sig.toNat = (numOf x).mant := by
    have bound := mant_lt x
    have read : (a.withMag x).sig = BitVec.ofNat 64 (extSig x) := rfl
    rw [read, BitVec.toNat_ofNat]
    exact Nat.mod_eq_of_lt bound
  have exp : (a.withMag x).exp = (numOf x).exp := rfl
  have neg : (numOf x).neg = false := plus
  unfold Approx.size
  rw [sig, exp, ← real_eq]
  unfold Num.real
  rw [neg, if_neg Bool.false_ne_true, one_mul]

theorem mag_value (a : Approx) : ((value a.mag : ℚ) : ℝ) = a.size := by
  rw [← real_eq]
  unfold Num.real Approx.size
  exact (congrArg (· * _) (if_neg Bool.false_ne_true)).trans (one_mul _)

theorem within_neg (lo hi : Ext) : (a.within lo hi).neg = a.neg := by
  unfold Approx.within
  split_ifs <;> rfl

/-- Holding a magnitude within a range that the exact one lies in brings it no further away. -/
theorem within_close {lo hi : Ext} {m : ℝ} (plusLo : extNeg lo = false) (plusHi : extNeg hi = false)
    (above : ((value (numOf lo) : ℚ) : ℝ) ≤ m) (below : m ≤ ((value (numOf hi) : ℚ) : ℝ)) :
    |(a.within lo hi).size - m| ≤ |a.size - m| := by
  unfold Approx.within
  split_ifs with low high
  · have less : ((value a.mag : ℚ) : ℝ) < ((value (numOf lo) : ℚ) : ℝ) := by
      exact_mod_cast (cmp_value a.mag (numOf lo)).1.mp low
    rw [mag_value] at less
    rw [size_withMag plusLo, abs_of_nonpos (by linarith), abs_of_nonpos (by linarith)]
    linarith
  · have more : ((value (numOf hi) : ℚ) : ℝ) < ((value a.mag : ℚ) : ℝ) := by
      exact_mod_cast (cmp_value a.mag (numOf hi)).2.2.mp high
    rw [mag_value] at more
    rw [size_withMag plusHi, abs_of_nonneg (by linarith), abs_of_nonneg (by linarith)]
    linarith
  · exact le_refl _

/-! ### Delivery -/

/-- An approximation of a result between 2^-100 and 1 is delivered as it is. -/
theorem deliverApprox_close (h : |a.num.real - e| ≤ ulp e) (large : (2 : ℝ) ^ (-100 : ℤ) ≤ |e|) (small : |e| ≤ 1) (s : State) :
    ∃ t, deliverApprox 0 a s = .ok () t ∧ |((value (numOf (t.fpu.st 0)) : ℚ) : ℝ) - e| ≤ ulp e := by
  have nonzero : e ≠ 0 := fun none => by
    rw [none, abs_zero] at large
    exact absurd large (not_le.mpr (by positivity))
  have unit := ulp_lt_half nonzero
  have most : |a.num.real| < 2 := by
    have := abs_sub_abs_le_abs_sub a.num.real e
    linarith
  have least : (2 : ℝ) ^ (-101 : ℤ) < |a.num.real| := by
    have := abs_sub_abs_le_abs_sub e a.num.real
    rw [abs_sub_comm] at this
    have half : (2 : ℝ) ^ (-101 : ℤ) = 2 ^ (-100 : ℤ) / 2 := by norm_num
    rw [half]
    generalize (2 : ℝ) ^ (-100 : ℤ) = bound at large ⊢
    linarith
  rw [real_eq] at h most least
  have power : (((2 : ℚ) ^ (-101 : ℤ) : ℚ) : ℝ) = 2 ^ (-101 : ℤ) := by rw [Rat.cast_zpow, Rat.cast_ofNat]
  have least' : (2 : ℚ) ^ (-101 : ℤ) < |value a.num| := by
    rw [← power, ← Rat.cast_abs] at least
    exact Rat.cast_lt.mp least
  have most' : |value a.num| < (2 : ℚ) ^ (1 : ℤ) := by
    rw [zpow_one]
    exact_mod_cast most
  have some : a.num.mant ≠ 0 := fun none => by
    rw [(value_eq_zero_iff _).mpr none, abs_zero] at least'
    exact absurd least' (not_lt.mpr (two_zpow_pos _).le)
  obtain ⟨low, high⟩ := top_bounds some
  have above := (zpow_lt_zpow_iff_right₀ (by norm_num : (1 : ℚ) < 2)).mp (least'.trans high)
  have below := (zpow_lt_zpow_iff_right₀ (by norm_num : (1 : ℚ) < 2)).mp (low.trans_lt most')
  have short : a.sig.toNat < 2 ^ 64 := a.sig.isLt
  have top : a.num.top = topExp a.sig.toNat a.exp := rfl
  have bits := topExp_le_of_lt (mant := a.sig.toNat) (e := a.exp) some short
  rw [top] at above below
  have same := encodeExt_value (neg := a.neg) (e := a.exp) (by omega) (fun _ => by omega) (two_pow_dvd_of_lt short)
  refine ⟨{ s with fpu := (rounded s.fpu a.rounded).setSt 0 (encodeExt a.neg a.sig.toNat a.exp) }, ?_, ?_⟩
  · refine (bind_of_ok (run_roundingControl s) _).trans ?_
    refine deliverRounded_normal (f := fmtExt 64) (r := a.rounded) ?_ ?_
    · show topExp a.sig.toNat a.exp ≤ 16383
      omega
    · show (1 : ℤ) - 16383 ≤ topExp a.sig.toNat a.exp
      omega
  · dsimp only
    rw [st_setSt, same]
    exact h

end

/-! ### The family (R672) -/

theorem x87Fn_close (fn : X87Fn) (x y : Ext) (rc : Rc) :
    |(x87Fn fn x y rc).num.real - exactFn fn (numOf x).real (numOf y).real| ≤ ulp (exactFn fn (numOf x).real (numOf y).real) :=
  (@Config.x87 x87Model_exists).good.close fn x y rc

/-! ### The values of the constants -/

theorem value_one : value (numOf extOne) = 1 := by
  have fields : numOf extOne = { neg := false, mant := 2 ^ 63, exp := -63 } := by decide
  rw [fields, value_eq]
  norm_num [signOf]

theorem value_half : value (numOf extHalf) = 1 / 2 := by
  have fields : numOf extHalf = { neg := false, mant := 2 ^ 63, exp := -64 } := by decide
  rw [fields, value_eq]
  norm_num [signOf]

theorem value_minusHalf : value (numOf (magExt true (extMag extHalf))) = -1 / 2 := by
  have fields : numOf (magExt true (extMag extHalf)) = { neg := true, mant := 2 ^ 63, exp := -64 } := by decide
  rw [fields, value_eq]
  norm_num [signOf]

theorem value_minNormal : value (numOf extMinNormal) ≤ 2 ^ (-100 : ℤ) := by
  have fields : numOf extMinNormal = { neg := false, mant := 2 ^ 63, exp := -16445 } := by decide
  have power : ((2 ^ 63 : ℕ) : ℚ) = 2 ^ (63 : ℤ) := by norm_num
  have sign : signOf false = 1 := rfl
  rw [fields, value_eq, sign, one_mul, power, ← zpow_add₀ (by norm_num)]
  exact zpow_le_zpow_right₀ (by norm_num) (by norm_num)

/-! ### The exact functions between 2^-64 and 1 -/

section

variable {r : ℝ} (least : (2 : ℝ) ^ (-64 : ℤ) ≤ |r|) (most : |r| ≤ 1)

include least most

theorem sin_range : (2 : ℝ) ^ (-100 : ℤ) ≤ |Real.sin r| ∧ |Real.sin r| ≤ 1 := by
  refine ⟨?_, Real.abs_sin_le_one r⟩
  have pos : 0 < |r| := lt_of_lt_of_le (by positivity) least
  have cubic := Real.sin_gt_sub_cube pos
  have cube : |r| ^ 3 ≤ |r| := by
    calc |r| ^ 3 = |r| * (|r| * |r|) := by ring
      _ ≤ |r| * (1 * 1) := by gcongr
      _ = |r| := by ring
  have size : |Real.sin r| = Real.sin |r| := by
    rcases le_total 0 r with plus | minus
    · rw [abs_of_nonneg plus, abs_of_nonneg (Real.sin_nonneg_of_nonneg_of_le_pi plus (by
        rw [abs_of_nonneg plus] at most
        linarith [Real.pi_gt_three]))]
    · rw [abs_of_nonpos minus, Real.sin_neg, abs_of_nonpos (Real.sin_nonpos_of_nonpos_of_neg_pi_le minus (by
        rw [abs_of_nonpos minus] at most
        linarith [Real.pi_gt_three]))]
  have power : (2 : ℝ) ^ (-100 : ℤ) ≤ 2 ^ (-64 : ℤ) / 2 := by norm_num
  rw [size]
  generalize (2 : ℝ) ^ (-100 : ℤ) = bound at power ⊢
  generalize (2 : ℝ) ^ (-64 : ℤ) = unit at least power
  linarith

omit least in
theorem cos_range : (2 : ℝ) ^ (-100 : ℤ) ≤ |Real.cos r| ∧ |Real.cos r| ≤ 1 := by
  refine ⟨?_, Real.abs_cos_le_one r⟩
  have quadratic := Real.one_sub_sq_div_two_le_cos (x := r)
  have square : r ^ 2 ≤ 1 := by
    rw [← sq_abs]
    exact pow_le_one₀ (abs_nonneg r) most
  have power : (2 : ℝ) ^ (-100 : ℤ) ≤ 1 / 2 := by norm_num
  refine power.trans (le_trans ?_ (le_abs_self _))
  linarith

omit least most in
/-- Above 1 the power of two rises by half the exponent at least. -/
theorem half_le_two_rpow {t : ℝ} (h : 0 ≤ t) : 1 + t / 2 ≤ (2 : ℝ) ^ t := by
  have log := Real.log_two_gt_d9
  have tangent := Real.add_one_le_exp (Real.log 2 * t)
  rw [Real.rpow_def_of_pos (by norm_num)]
  nlinarith

theorem exp2m1_range : ((2 : ℝ) ^ (-100 : ℤ) ≤ |(2 : ℝ) ^ r - 1| ∧ |(2 : ℝ) ^ r - 1| ≤ 1) ∧
    (0 ≤ r → 0 ≤ (2 : ℝ) ^ r - 1) ∧ (r ≤ 0 → (2 : ℝ) ^ r - 1 ≤ 0 ∧ |(2 : ℝ) ^ r - 1| ≤ 1 / 2) := by
  have power : (2 : ℝ) ^ (-100 : ℤ) ≤ 2 ^ (-64 : ℤ) / 3 := by norm_num
  have some : (0 : ℝ) < 2 ^ (-64 : ℤ) := by positivity
  generalize (2 : ℝ) ^ (-100 : ℤ) = bound at power ⊢
  generalize (2 : ℝ) ^ (-64 : ℤ) = unit at least power some
  rcases le_total 0 r with plus | minus
  · rw [abs_of_nonneg plus] at least most
    have low := half_le_two_rpow plus
    have high : (2 : ℝ) ^ r ≤ 2 ^ (1 : ℝ) := Real.rpow_le_rpow_of_exponent_le (by norm_num) most
    rw [Real.rpow_one] at high
    have nonneg : 0 ≤ (2 : ℝ) ^ r - 1 := by linarith
    rw [abs_of_nonneg nonneg]
    refine ⟨⟨by linarith, by linarith⟩, fun _ => nonneg, fun minus => ?_⟩
    have zero : r = 0 := le_antisymm minus plus
    rw [zero] at least
    exact absurd least (not_le.mpr some)
  · rw [abs_of_nonpos minus] at least most
    have low : (2 : ℝ) ^ (-1 : ℝ) ≤ 2 ^ r := Real.rpow_le_rpow_of_exponent_le (by norm_num) (by linarith)
    rw [Real.rpow_neg_one] at low
    have rises := half_le_two_rpow (t := -r) (by linarith)
    have inverse : (2 : ℝ) ^ r * 2 ^ (-r) = 1 := by
      rw [← Real.rpow_add (by norm_num), add_neg_cancel, Real.rpow_zero]
    have pos : (0 : ℝ) < 2 ^ r := Real.rpow_pos_of_pos (by norm_num) r
    have high : (2 : ℝ) ^ r ≤ 1 + r / 3 := by nlinarith
    have nonpos : (2 : ℝ) ^ r - 1 ≤ 0 := by linarith
    rw [abs_of_nonpos nonpos]
    refine ⟨⟨by linarith, by linarith⟩, fun plus => ?_, fun _ => ⟨nonpos, by linarith⟩⟩
    have zero : r = 0 := le_antisymm minus plus
    rw [zero, neg_zero] at least
    exact absurd least (not_le.mpr some)

end

end Sys2Proof.Machine
end

section
/-!
PROOFS. The accuracy of F2XM1, FSIN and FCOS, and the theorem of O59.
-/

namespace Sys2Proof.Machine

open Claims

/-! ### Magnitudes around 1 -/

/-- The bits of a normal magnitude of 1 at most are those of 1 at most. -/
theorem extMag_le_one {x : Ext} (normal : extCls x = .normal) (most : |value (numOf x)| ≤ 1) :
    ¬extMag extOne < extMag x ∧ (extMag x = extMag extOne → |value (numOf x)| = 1) := by
  obtain ⟨low, high, integer⟩ := (extCls_normal_iff x).mp normal
  have sig := extSig_lt x
  have one : extMag extOne = 0x3FFF * 2 ^ 64 + 2 ^ 63 := by decide
  have mag : extMag x = extExp x * 2 ^ 64 + extSig x := rfl
  have exp := numOf_exp x
  have mant : (numOf x).mant = extSig x := rfl
  have atOne : extExp x = 0x3FFF → |value (numOf x)| = extSig x * 2 ^ (-63 : ℤ) := fun same => by
    rw [same] at exp
    rw [abs_value, exp, mant]
    rfl
  rw [one, mag]
  refine ⟨fun more => ?_, fun same => ?_⟩
  · rcases Nat.lt_or_ge 0x3FFF (extExp x) with large | atMost
    · have some : (numOf x).mant ≠ 0 := by omega
      have top : (numOf x).top = (numOf x).exp + (numOf x).mant.log2 := rfl
      have log : 63 ≤ (numOf x).mant.log2 := (Nat.le_log2 some).mpr (by rw [mant]; exact integer)
      have above := (top_bounds some).1
      have two : (2 : ℚ) ^ (1 : ℤ) ≤ 2 ^ (numOf x).top := zpow_le_zpow_right₀ (by norm_num) (by omega)
      rw [zpow_one] at two
      linarith
    · have exponent : extExp x = 0x3FFF := by omega
      have beyond : 2 ^ 63 < extSig x := by omega
      have beyond' : (2 : ℚ) ^ 63 < extSig x := by exact_mod_cast beyond
      rw [atOne exponent] at most
      have unit : (2 : ℚ) ^ (-63 : ℤ) = 1 / 2 ^ 63 := by norm_num
      rw [unit, mul_one_div, div_le_one (by norm_num)] at most
      linarith
  · have exponent : extExp x = 0x3FFF := by omega
    have exactly : extSig x = 2 ^ 63 := by omega
    rw [atOne exponent, exactly]
    norm_num

/-! ### The operands of the accuracy statement -/

/-- A normal operand between 2^-64 and 1 in magnitude, for which the step has supplied X87_FN (log 20). -/
structure Answered (s : State) : Prop where
  ready : FpuReady s
  present : s.fpu.empty 0 = false
  given : s.ins.x87 = x87Answers s.fpu
  normal : extCls (s.fpu.st 0) = .normal
  least : 1 ≤ |value (numOf (s.fpu.st 0))| * 2 ^ 64
  most : |value (numOf (s.fpu.st 0))| ≤ 1

/-- ST(0) as a real number. -/
noncomputable def operandReal (s : State) : ℝ := ((value (numOf (s.fpu.st 0)) : ℚ) : ℝ)

section

variable {s : State} (h : Answered s)

include h

theorem Answered.real_range : (2 : ℝ) ^ (-64 : ℤ) ≤ |operandReal s| ∧ |operandReal s| ≤ 1 := by
  have least : (1 : ℝ) ≤ |operandReal s| * 2 ^ 64 := by
    unfold operandReal
    exact_mod_cast h.least
  have most : |operandReal s| ≤ 1 := by
    unfold operandReal
    exact_mod_cast h.most
  have unit : (2 : ℝ) ^ (-64 : ℤ) = 1 / 2 ^ 64 := by norm_num
  refine ⟨?_, most⟩
  rw [unit, div_le_iff₀ (by norm_num)]
  exact least

theorem Answered.plain : badOperand (FVal.ofExt (s.fpu.st 0)).x = none :=
  badOperands_none (.inl (.inr (.inr h.normal))) (.inl (.inr (.inr h.normal)))

theorem Answered.den : (FVal.ofExt (s.fpu.st 0)).den = false := by
  unfold FVal.ofExt
  rw [h.normal]
  rfl

omit h in
theorem operand_close (fn : X87Fn) : |(x87Fn fn (s.fpu.st 0) (s.fpu.st 1) (rcOf s.fpu.fcw)).num.real -
    exactFn fn (operandReal s) (numOf (s.fpu.st 1)).real| ≤ ulp (exactFn fn (operandReal s) (numOf (s.fpu.st 1)).real) := by
  have close := x87Fn_close fn (s.fpu.st 0) (s.fpu.st 1) (rcOf s.fpu.fcw)
  rw [real_eq (numOf (s.fpu.st 0))] at close
  exact close

/-- An approximation held within 2^-16382 and 1, as FSIN and FCOS deliver it. -/
theorem trig_close {f : X87Answers → FVal → Approx} {atZero : Ext → Ext} {a : Approx} {e : ℝ}
    (delivers : f s.ins.x87 (FVal.ofExt (s.fpu.st 0)) = a.within extMinNormal extOne) (close : |a.num.real - e| ≤ ulp e)
    (range : (2 : ℝ) ^ (-100 : ℤ) ≤ |e| ∧ |e| ≤ 1) :
    ∃ t, runInstr (trig f atZero) s = .next t ∧ |((value (numOf (t.fpu.st 0)) : ℚ) : ℝ) - e| ≤ ulp e := by
  have some : e ≠ 0 := fun none => by
    rw [none, abs_zero] at range
    exact absurd range.1 (not_le.mpr (by positivity))
  obtain ⟨sign, size⟩ := size_close some close
  have low : ((value (numOf extMinNormal) : ℚ) : ℝ) ≤ |e| := by
    have real : ((value (numOf extMinNormal) : ℚ) : ℝ) ≤ (((2 : ℚ) ^ (-100 : ℤ) : ℚ) : ℝ) := Rat.cast_le.mpr value_minNormal
    rw [Rat.cast_zpow, Rat.cast_ofNat] at real
    exact real.trans range.1
  have high : |e| ≤ ((value (numOf extOne) : ℚ) : ℝ) := by
    rw [value_one, Rat.cast_one]
    exact range.2
  have held := within_close (a := a) (lo := extMinNormal) (hi := extOne) (by decide) (by decide) low high
  have closer := close_of_size (a := a.within extMinNormal extOne) (by rw [within_neg]; exact sign) (held.trans size)
  have inRange : outOfRange (s.fpu.st 0) = false := by
    rw [← Bool.not_eq_true, outOfRange_iff]
    rintro ⟨-, large⟩
    have power : (1 : ℚ) < 2 ^ 63 := by norm_num
    linarith [h.most]
  obtain ⟨t, ran, near⟩ := deliverApprox_close closer range.1 range.2 (c2State s false)
  refine ⟨t, runInstr_of_ok ((trig_inRange h.ready h.present f atZero inRange).trans ?_), near⟩
  have class_ : extCls (FVal.ofExt (s.fpu.st 0)).x = .normal := h.normal
  have plain := h.plain
  have den := h.den
  unfold trigEnds
  simp only [plain, class_, den, delivers]
  refine (bind_of_ok (run_denormalIf _ _) _).trans ?_
  rw [raised_none]
  exact ran

theorem fsin_close : ∃ t, exec .fsin s = .next t ∧
    |((value (numOf (t.fpu.st 0)) : ℚ) : ℝ) - Real.sin (operandReal s)| ≤ ulp (Real.sin (operandReal s)) := by
  obtain ⟨least, most⟩ := h.real_range
  refine trig_close h (f := sineOf) (atZero := id) ?_ (operand_close .fsin) (sin_range least most)
  unfold sineOf
  rw [h.den, if_neg Bool.false_ne_true, h.given]
  rfl

theorem fcos_close : ∃ t, exec .fcos s = .next t ∧
    |((value (numOf (t.fpu.st 0)) : ℚ) : ℝ) - Real.cos (operandReal s)| ≤ ulp (Real.cos (operandReal s)) := by
  refine trig_close h (f := cosineOf) (atZero := fun _ => extOne) ?_ (operand_close .fcos) (cos_range h.real_range.2)
  unfold cosineOf
  rw [h.given]
  rfl

/-! ### F2XM1 -/

/-- The sign of 2^x - 1 is that of x, and its magnitude lies within the range that the spec states. -/
theorem exp2m1_signs : (2 : ℝ) ^ operandReal s - 1 =
      realSign (extNeg (s.fpu.st 0)) * |(2 : ℝ) ^ operandReal s - 1| ∧
    |(2 : ℝ) ^ operandReal s - 1| ≤ ((value (numOf (if extNeg (s.fpu.st 0) then extHalf else extOne)) : ℚ) : ℝ) := by
  obtain ⟨least, most⟩ := h.real_range
  obtain ⟨⟨-, high⟩, rises, falls⟩ := exp2m1_range least most
  have signed := value_sign (numOf (s.fpu.st 0))
  have field : (numOf (s.fpu.st 0)).neg = extNeg (s.fpu.st 0) := rfl
  have nonneg := abs_nonneg (value (numOf (s.fpu.st 0)))
  rw [field] at signed
  cases neg : extNeg (s.fpu.st 0) with
  | false =>
    have plus : 0 ≤ operandReal s := by
      rw [neg, show signOf false = 1 from rfl, one_mul] at signed
      unfold operandReal
      rw [signed]
      exact_mod_cast nonneg
    rw [if_neg Bool.false_ne_true, value_one, Rat.cast_one, show realSign false = 1 from rfl, one_mul]
    exact ⟨(abs_of_nonneg (rises plus)).symm, high⟩
  | true =>
    have minus : operandReal s ≤ 0 := by
      rw [neg, show signOf true = -1 from rfl] at signed
      unfold operandReal
      rw [signed]
      have : -1 * |value (numOf (s.fpu.st 0))| ≤ 0 := by linarith
      exact_mod_cast this
    obtain ⟨nonpos, half⟩ := falls minus
    rw [if_pos rfl, value_half, show realSign true = -1 from rfl, abs_of_nonpos nonpos]
    rw [abs_of_nonpos nonpos] at half
    push_cast
    exact ⟨by ring, half⟩

omit h in
/-- At ±1 the result is exact. -/
theorem exp2m1_unit (one : |value (numOf (s.fpu.st 0))| = 1) :
    ((value (numOf (if extNeg (s.fpu.st 0) then magExt true (extMag extHalf) else extOne)) : ℚ) : ℝ) =
      (2 : ℝ) ^ operandReal s - 1 := by
  have signed := value_sign (numOf (s.fpu.st 0))
  have field : (numOf (s.fpu.st 0)).neg = extNeg (s.fpu.st 0) := rfl
  rw [one, mul_one, field] at signed
  unfold operandReal
  rw [signed]
  cases extNeg (s.fpu.st 0) with
  | false =>
    rw [if_neg Bool.false_ne_true, value_one, show signOf false = 1 from rfl, Rat.cast_one, Real.rpow_one]
    norm_num
  | true =>
    rw [if_pos rfl, value_minusHalf, show signOf true = -1 from rfl]
    push_cast
    rw [Real.rpow_neg_one]
    norm_num

theorem f2xm1_close : ∃ t, exec .f2xm1 s = .next t ∧
    |((value (numOf (t.fpu.st 0)) : ℚ) : ℝ) - ((2 : ℝ) ^ operandReal s - 1)| ≤ ulp ((2 : ℝ) ^ operandReal s - 1) := by
  obtain ⟨least, most⟩ := h.real_range
  obtain ⟨⟨low, high⟩, -, -⟩ := exp2m1_range least most
  obtain ⟨notAbove, atOne⟩ := extMag_le_one h.normal h.most
  obtain ⟨sign, bound⟩ := exp2m1_signs h
  have plain := h.plain
  have given : (numericState s).ins.x87 = x87Answers s.fpu := h.given
  have start : exp2m1 (past s) = exp2m1Ends (x87Answers s.fpu) (FVal.ofExt (s.fpu.st 0)) (numericState s) := by
    rw [exp2m1_eq]
    refine (unary_some h.ready _ h.present).trans ?_
    unfold exp2m1On
    simp only [plain]
    refine (bind_of_ok (rfl : x87Given (numericState s) = .ok (numericState s).ins.x87 (numericState s)) _).trans ?_
    rw [given]
  have notZero : ¬extCls (FVal.ofExt (s.fpu.st 0)).x = .zero := by
    rw [show (FVal.ofExt (s.fpu.st 0)).x = s.fpu.st 0 from rfl, h.normal]
    decide
  unfold exp2m1Ends at start
  rw [if_neg notZero, show (FVal.ofExt (s.fpu.st 0)).x = s.fpu.st 0 from rfl, if_neg notAbove, h.den] at start
  by_cases unit : extMag (s.fpu.st 0) = extMag extOne
  · rw [if_pos unit] at start
    refine ⟨_, runInstr_of_ok (body := exp2m1) (start.trans (bind_of_ok (deliverCalc_special 64 false _) _)), ?_⟩
    dsimp only
    rw [st_setSt, exp2m1_unit (atOne unit), sub_self, abs_zero]
    exact (ulp_pos _).le
  · rw [if_neg unit] at start
    have some : (2 : ℝ) ^ operandReal s - 1 ≠ 0 := fun none => by
      rw [none, abs_zero] at low
      exact absurd low (not_le.mpr (by positivity))
    obtain ⟨-, size⟩ := size_close some (operand_close .f2xm1)
    have zero : ((value (numOf (extZero false)) : ℚ) : ℝ) ≤ |(2 : ℝ) ^ operandReal s - 1| := by
      rw [extZero_value, Rat.cast_zero]
      exact abs_nonneg _
    have plus : extNeg (if extNeg (s.fpu.st 0) then extHalf else extOne) = false := by
      cases extNeg (s.fpu.st 0) <;> decide
    have held := within_close (a := (x87Answers s.fpu).f2xm1.withSign (extNeg (s.fpu.st 0))) (lo := extZero false)
      (by decide) plus zero bound
    have closer := close_of_size (a := ((x87Answers s.fpu).f2xm1.withSign (extNeg (s.fpu.st 0))).within (extZero false)
      (if extNeg (s.fpu.st 0) then extHalf else extOne)) (by rw [within_neg]; exact sign) (held.trans size)
    obtain ⟨t, ran, near⟩ := deliverApprox_close closer low high (numericState s)
    refine ⟨t, runInstr_of_ok (body := exp2m1) (start.trans ((bind_of_ok (run_denormalIf _ _) _).trans ?_)), near⟩
    rw [raised_none]
    exact ran

end

/-! ### The theorem -/

theorem exec_trig {s : State} (ready : FpuReady s) (present : s.fpu.empty 0 = false) {i : Instr}
    (h : i = .f2xm1 ∨ i = .fsin ∨ i = .fcos) : ∃ t, exec i s = .next t ∧ OnlyFpu (past s) t ∧
      t.fpu.fsw.top = s.fpu.fsw.top ∧ KeepsOthers s.fpu t.fpu [s.fpu.fsw.top] := by
  rcases h with rfl | rfl | rfl
  · exact unary_keeps ready present Keeps.exp2m1On
  · exact trig_keeps ready present sineOf id
  · exact trig_keeps ready present cosineOf fun _ => extOne

/-- Out of range the registers stay and C2 is set. -/
theorem exec_outOfRange {s : State} (ready : FpuReady s) (present : s.fpu.empty 0 = false) {i : Instr}
    (h : i = .fsin ∨ i = .fcos ∨ i = .fptan ∨ i = .fsincos) (large : outOfRange (s.fpu.st 0) = true) :
    ∃ t, exec i s = .next t ∧ OnlyFpu (past s) t ∧ t.fpu.fpr = s.fpu.fpr ∧ t.fpu.tags = s.fpu.tags ∧
      t.fpu.fsw.top = s.fpu.fsw.top ∧ t.fpu.fsw.c2 = true := by
  rcases h with rfl | rfl | rfl | rfl
  · obtain ⟨c1, k, ran⟩ := trig_outOfRange ready present sineOf id large
    exact ⟨_, runInstr_of_ok (body := trig sineOf id) ran, rfl, rfl, rfl, rfl, rfl⟩
  · obtain ⟨c1, k, ran⟩ := trig_outOfRange ready present cosineOf (fun _ => extOne) large
    exact ⟨_, runInstr_of_ok (body := trig cosineOf fun _ => extOne) ran, rfl, rfl, rfl, rfl, rfl⟩
  · exact ⟨_, runInstr_of_ok (body := tangent) (trigPush_outOfRange ready present tangentOn large), rfl, rfl, rfl, rfl, rfl⟩
  · exact ⟨_, runInstr_of_ok (body := sineCosine) (trigPush_outOfRange ready present sineCosineOn large), rfl, rfl, rfl, rfl, rfl⟩

theorem st_stacked (f : Fpu) (v : Ext) : (stacked f v).st 0 = v := by
  have read : (stacked f v).st 0 = (f.fpr.set (f.fsw.top - 1) v).get (f.fsw.top - 1 + 0) := rfl
  rw [read, show f.fsw.top - 1 + 0 = f.fsw.top - 1 from BitVec.add_zero _, Oct.get_set, if_pos rfl]

/-- FPTAN of a finite operand leaves 1.0 on top. -/
theorem tangentOn_one {v : FVal} (finite : Finite v.x) {s t : State} (ran : tangentOn v s = .ok () t) : t.fpu.st 0 = extOne := by
  have plain : badOperand v.x = none := badOperands_none (.inl finite) (.inl finite)
  rcases finite with zero | class_
  · have code : tangentOn v s = .ok () { s with fpu := stacked (s.fpu.setSt 0 v.x) extOne } := by
      unfold tangentOn
      simp only [plain, zero]
      refine (bind_of_ok (rfl : x87Given s = .ok s.ins.x87 s) _).trans ((bind_of_ok (run_setSt 0 v.x s) _).trans
        ((run_updFpu _ _).trans ?_))
      rw [pushed_eq]
    rw [code] at ran
    cases ran
    exact st_stacked _ _
  · rw [tangentOn_finite plain class_] at ran
    obtain ⟨⟨⟩, u, delivered, -⟩ := Keeps.deliverApprox (i := 0) (s.ins.x87.ftan.within (extZero false) extMax)
      { s with fpu := raised s.fpu false v.den }
    have code := (bind_of_ok (rfl : x87Given s = .ok s.ins.x87 s) fun given => (do
      denormalIf v.den
      deliverApprox 0 (given.ftan.within (extZero false) extMax)
      updFpu fun f => f.pushed extOne : M Unit)).trans ((bind_of_ok (run_denormalIf v.den s) _).trans
        ((bind_of_ok delivered _).trans (run_updFpu _ u)))
    rw [code] at ran
    cases ran
    dsimp only
    rw [pushed_eq]
    exact st_stacked _ _

theorem exec_pushing {s : State} (ready : FpuReady s) (present : s.fpu.empty 0 = false) (room : s.fpu.empty 7 = true)
    (masks : AllMasked s.fpu) (within : outOfRange (s.fpu.st 0) = false) {i : Instr} (h : i = .fptan ∨ i = .fsincos) :
    ∃ t, exec i s = .next t ∧ OnlyFpu (past s) t ∧ t.fpu.fsw.top = s.fpu.fsw.top - 1 ∧ t.fpu.fsw.c2 = false ∧
      KeepsOthers s.fpu t.fpu [s.fpu.fsw.top, s.fpu.fsw.top - 1] ∧
      (i = .fptan → Finite (s.fpu.st 0) → t.fpu.st 0 = extOne) := by
  rcases h with rfl | rfl
  · obtain ⟨t, body, ran, only, top, c2, others⟩ := trigPush_pushes ready present Pushes.tangentOn within room masks
    exact ⟨t, ran, only, top, c2, others, fun _ finite => tangentOn_one (v := FVal.ofExt (s.fpu.st 0)) finite body⟩
  · obtain ⟨t, -, ran, only, top, c2, others⟩ := trigPush_pushes ready present Pushes.sineCosineOn within room masks
    exact ⟨t, ran, only, top, c2, others, nofun⟩

/-- Settles O59: the frames, the range, the zeros, and the accuracy. -/
theorem fpuTranscendental : Obligations.FpuTranscendental := by
  intro s ready present x p finite large
  refine ⟨fun i form => exec_trig ready present form, fun i form second masks => exec_popping ready present second masks form,
    fun i form room masks within => ?_, fun i form beyond => exec_outOfRange ready present form ((outOfRange_iff x).mpr beyond),
    fun zero => ⟨trig_zero ready present sineOf id zero, trig_zero ready present cosineOf (fun _ => extOne) zero⟩,
    fun given normal least most => ?_⟩
  · refine exec_pushing ready present room masks ?_ form
    rw [← Bool.not_eq_true]
    exact fun beyond => within ((outOfRange_iff x).mp beyond)
  · have answered : Answered s := ⟨ready, present, given, normal, least, most⟩
    exact ⟨f2xm1_close answered, fsin_close answered, fcos_close answered⟩

end Sys2Proof.Machine
end
